-- ==== Sys2Proof/Word.lean ====
section
/-!
DEFINITION. The words of the device and the operands its commands carry. Everything here is plain data: what a
command means stands in Sys2Proof/Machine/.
-/

namespace Sys2Proof

/-- A byte of the image, the trim store, a frame or a message (R4). -/
abbrev Byte := BitVec 8

/-- A 16-bit word: a native sample, a queue ID, a halfword of a record (R1, R5). -/
abbrev Halfword := BitVec 16

/-- A 32-bit word: an object word, a supervisor register (R7, R351). -/
abbrev Word := BitVec 32

/-- The number of a supervisor register w0 to w15 (R351). -/
abbrev Reg := Fin 16

/-- A halfword of a record at a write port, with its poison bit (R259). -/
abbrev QWord := BitVec 16 × Bool

/-- The four traffic classes, in the order of their numbers (R254, R284). -/
inductive Cls where
  | rt | ctl | bulk | mgmt
  deriving DecidableEq, Repr

/-- Who makes an access (R411): the supervisor's object window, a service-port message, a fabric message, the test
access port, or the starter image. A message carries its TAG (R407); a fabric message also its arrival port, its
source node and queue and its class, to which the reply goes (R408). -/
inductive Src where
  | supervisor
  | svc (tag : Halfword)
  | fabric (port : Fin 8) (node : Nat) (queue : Halfword) (cls : Cls) (tag : Halfword)
  | jtag
  | image
  deriving DecidableEq, Repr

/-- The supervised rails, in the bit order of BELOW_WARN (R63, R85). -/
inductive Rail where
  | core | ser | a | io | a5
  deriving DecidableEq, Repr

/-- What the SFDP tables of the flash say (R32, R33): its size in bytes, whether it is 4-byte-address-only and whether
the table offers 1-4-4 fast read. -/
structure Sfdp where
  size : Nat
  only4 : Bool
  read144 : Bool
  deriving DecidableEq, Repr

/-- The answers of the flash to the reads of R33: its JEDEC ID and its SFDP tables, absent with their signature. -/
structure FlashProbe where
  jedec : BitVec 24
  sfdp : Option Sfdp
  deriving DecidableEq, Repr

/-- What the checks of TEST found (R72): device-level failures, the converter channels that failed the source 1 and
source 2 checks, the auxiliary channels and the axes that failed theirs, the least load current of each axis in the
excitation open test in units of 0.2 mA, and the duration of the run in units of 10 µs. An axis that `loads` does not
list drew no current. -/
structure TestResult where
  sramFail : Bool
  cmpFail : Bool
  refFail : List (Fin 192)
  shortFail : List (Fin 192)
  auxFail : List (Fin 8)
  tripFail : List (Fin 48)
  loads : List (Nat × Nat)
  time : Nat
  deriving DecidableEq, Repr

/-- What the comparators between copy A and copy B of a lane find (R330). -/
inductive Cmp where
  | agree       -- the copies agree
  | copyDiff    -- the results of copy A and copy B differ
  | parity      -- a delay register fails parity
  | fault       -- the comparator itself disagrees with its check
  deriving DecidableEq, Repr

/-- The RWM objects of the one-time-programmable memory (R46, R401). -/
inductive OtpObj where
  | lock | khash | fkey
  deriving DecidableEq, Repr

/-- The filter-chain objects (R122): the square, sine and current chains of an axis and the auxiliary chains. -/
inductive ChainId where
  | sq (n : Fin 48)
  | sine (n : Fin 48)
  | cur (n : Fin 48)
  | aux (k : Fin 8)
  deriving DecidableEq, Repr

/-- The words of the parameter list of an axis (R185). -/
inductive ParamWord where
  | coef (j : Fin 16)
  | shift (g : Fin 4)
  | lim (j : Fin 18)
  deriving DecidableEq, Repr

/-- The trip sources of an axis whose state comes from outside the device's own logic (R229): the high and low edges
of its two current windows and the eight TRIP inputs. -/
inductive TripSrc where
  | iaHi | iaLo | ibHi | ibLo
  | ext (k : Fin 8)
  deriving DecidableEq, Repr

/-- Why the receiver declares a link lost (R279): no signal, 32 invalid sync headers, or a silent partner. -/
inductive LossWhy where
  | noSignal | lockLost | silent
  deriving DecidableEq, Repr

/-- How a frame ended on the wire (R280, R286): complete, cut short, or closed by an error character. -/
inductive FrameEnd where
  | complete | truncated | aborted
  deriving DecidableEq, Repr

/-- A frame as it arrives on a link: LSEQ, ACK and CLASS of its link prefix (R280), its bytes from header to CRC (R282) and
how it ended. -/
structure Frame where
  lseq : BitVec 12
  ack : BitVec 12
  cls : BitVec 2
  bytes : List Byte
  fate : FrameEnd
  deriving DecidableEq, Repr

/-- The key of a flow table entry (R304). -/
structure FlowKey where
  node : Nat
  srcQ : Nat
  dstQ : Nat
  cls : Nat
  deriving DecidableEq, Repr

/-- The plan hash a peer publishes (R320). -/
structure PeerHash where
  node : Nat
  hash : Nat
  deriving DecidableEq, Repr

/-- A binding record of the PLACEMENT section (R43). -/
structure Binding where
  task : Nat
  template : Nat
  axis : Nat
  kind : Nat
  node : Nat
  paxis : Nat
  deriving DecidableEq, Repr

/-- The settings of an axis that a plan reads (R310). -/
structure AxisInput where
  axis : Nat
  half : Nat
  phase : Nat
  dual : Bool
  lead : Nat
  vdiv : Nat
  pdiv : Nat
  exact : Bool
  failed : Bool
  deriving DecidableEq, Repr

/-- The inputs of a placing node (R310), with the queues at or above 0x1000 that its QUEUES section configures and its quota
sum (R318, R319), and the bytes of its DEV.PLAN_REC where it holds a plan (R321). `role` is 0 none, 1 primary, 2
secondary. -/
structure PeerInput where
  node : Nat
  serial : Nat
  role : Nat
  ssc : Nat
  planNo : Nat
  hash : Nat
  bindings : List Binding
  axes : List AxisInput
  queues : List Nat
  quotaSum : Nat
  planRec : List Byte
  deriving DecidableEq, Repr

/-- The body of a SUBSCRIBE message (R409). -/
structure SubReq where
  queue : Halfword
  cancel : Bool
  svc : Bool
  dstNode : Nat
  dstQueue : Halfword
  rsize : Nat
  deriving DecidableEq, Repr

end Sys2Proof
end

