-- ==== Sys2Proof/Syntax.lean ====
section
/-!
DEFINITION. The commands of the block: one constructor for each row of spec/opcode_table.json, in the table's order,
with the operands the row's rule gives it. Operand types stand in Sys2Proof/Word.lean.
-/

namespace Sys2Proof

/-- The commands (spec/opcode_table.json). Each docstring names the rule of the table's row. -/
inductive Instr where
  /-- PORST_ASSERT (R67). -/
  | porstAssert (lowNs : Nat)
  /-- RAIL_RESET_CROSSING (R64). -/
  | railResetCrossing (rail : Rail)
  /-- RAIL_WARNING_CROSSING (R86). -/
  | railWarningCrossing (rail : Rail)
  /-- WARNING_RELEASE (R63). -/
  | warningRelease (rail : Rail)
  /-- RAIL_IN_RANGE (R65). -/
  | railInRange (rail : Rail)
  /-- INTERNAL_RESET_RELEASE (R67). -/
  | internalResetRelease (twinRole : BitVec 1)
  /-- PLL_LOCK (R78). -/
  | pllLock
  /-- CORE_CLOCK_LOSS (R23). -/
  | coreClockLoss
  /-- REFERENCE_CLOCK_LOSS (R23). -/
  | referenceClockLoss
  /-- PWM_CLOCK_LOSS (R23). -/
  | pwmClockLoss
  /-- CONV_CLOCK_LOSS (R23). -/
  | convClockLoss
  /-- RTC_OSCILLATOR_STOP (R23). -/
  | rtcOscillatorStop
  /-- RTC_OSCILLATOR_RESTART (R395). -/
  | rtcOscillatorRestart
  /-- JTAG_RESET (R78). -/
  | jtagReset
  /-- JTAG_OBJECT_ACCESS (R21). -/
  | jtagObjectAccess (write : Bool) (addr : Word) (val : Nat)
  /-- RESET_REQUEST (R70). -/
  | resetRequest (src : Src) (confirm : BitVec 16)
  /-- MODE_REQUEST (R78). -/
  | modeRequest (src : Src) (target : BitVec 4)
  /-- MODE_TRANSITION (R78). -/
  | modeTransition
  /-- TEST_RUN_DONE (R72). -/
  | testRunDone (r : TestResult)
  /-- DISCOVER_TIMEOUT (R78). -/
  | discoverTimeout
  /-- DRV_SETTLE_EXPIRY (R81). -/
  | drvSettleExpiry
  /-- STOP_LIMIT_EXPIRY (R83). -/
  | stopLimitExpiry
  /-- FLASH_PROBE_DONE (R33). -/
  | flashProbeDone (p : FlashProbe)
  /-- SLOT_ATTEMPT_DONE (R47). -/
  | slotAttemptDone
  /-- IMAGE_WRITE_BEGIN (R53). -/
  | imageWriteBegin (src : Src) (slot : Nat) (len : Nat)
  /-- IMAGE_ERASE_DONE (R53). -/
  | imageEraseDone
  /-- IMAGE_WRITE_DATA (R53). -/
  | imageWriteData (src : Src) (slot : Nat) (off : Nat) (bytes : List Byte)
  /-- IMAGE_DATA_PROGRAMMED (R409). -/
  | imageDataProgrammed
  /-- IMAGE_WRITE_END (R53). -/
  | imageWriteEnd (src : Src) (slot : Nat)
  /-- IMAGE_READBACK_DONE (R53). -/
  | imageReadbackDone
  /-- IMAGE_WRITE_SWITCH (R54). -/
  | imageWriteSwitch (src : Src) (slot : Nat)
  /-- TRIM_WRITE_OPEN (R409). -/
  | trimWriteOpen (src : Src) (kind : Nat)
  /-- TRIM_WRITE_DATA (R409). -/
  | trimWriteData (src : Src) (off : Nat) (bytes : List Byte)
  /-- TRIM_WRITE_COMMIT (R61). -/
  | trimWriteCommit (src : Src) (crc : Word)
  /-- TRIM_PROGRAM_DONE (R61). -/
  | trimProgramDone (ok : Bool)
  /-- TRIM_SWITCH (R61). -/
  | trimSwitch
  /-- TRIM_WRITE_CLOSE (R409). -/
  | trimWriteClose (src : Src)
  /-- OTP_WRITE (R401). -/
  | otpWrite (src : Src) (obj : OtpObj) (val : Nat)
  /-- OTP_PROGRAM_DONE (R401). -/
  | otpProgramDone
  /-- EXC_TIMING_WRITE (R90). -/
  | excTimingWrite (src : Src) (g : Fin 4) (phase : Bool) (val : Word)
  /-- EXC_GROUP_STOP (R90). -/
  | excGroupStop (src : Src) (g : Fin 4)
  /-- EXC_GROUP_START (R90). -/
  | excGroupStart (src : Src) (g : Fin 4)
  /-- EXC_EDGE (R89). -/
  | excEdge (g : Fin 4)
  /-- SINE_DRIVER_UPDATE (R239). -/
  | sineDriverUpdate
  /-- HOLD_STROBE (R13). -/
  | holdStrobe (n : Fin 49)
  /-- CONVERSION_DONE (R57). -/
  | conversionDone (slot : Fin 200) (raw : BitVec 16)
  /-- FILTER_SLOT_READ (R116). -/
  | filterSlotRead (slot : Fin 200) (cmp : Cmp)
  /-- SQ_RETRY (R96). -/
  | sqRetry (src : Src) (n : Fin 48)
  /-- RANGE_CHANGE (R104). -/
  | rangeChange (n : Fin 48) (current : Bool)
  /-- MUX_SOURCE_WRITE (R100). -/
  | muxSourceWrite (src : Src) (n : Fin 48) (current : Bool) (source : BitVec 2)
  /-- MUX_SWITCH (R100). -/
  | muxSwitch (n : Fin 48) (current : Bool)
  /-- CM_FAULT_ONSET (R109). -/
  | cmFaultOnset (slot : Fin 192)
  /-- CM_FAULT_END (R109). -/
  | cmFaultEnd (slot : Fin 192)
  /-- CLAMP_CONDUCTION (R111). -/
  | clampConduction (slot : Fin 200)
  /-- AUX_SOURCE_WRITE (R113). -/
  | auxSourceWrite (src : Src) (k : Fin 8) (source : BitVec 3)
  /-- AUXO_UPDATE (R115). -/
  | auxoUpdate (k : Fin 8)
  /-- FRAME_REALIGN (R16). -/
  | frameRealign
  /-- FILTER_CHAIN_WRITE (R123). -/
  | filterChainWrite (src : Src) (chain : ChainId) (val : Nat)
  /-- FILTER_CHAIN_SWITCH (R123). -/
  | filterChainSwitch (chain : ChainId)
  /-- OBSERVER_STEP (R141). -/
  | observerStep (n : Fin 48)
  /-- POS_SET_WRITE (R153). -/
  | posSetWrite (src : Src) (n : Fin 48) (pos : BitVec 64)
  /-- ENC_FRAME_MARK (R157). -/
  | encFrameMark (k : Fin 16)
  /-- ENC_EDGE (R157). -/
  | encEdge (k : Fin 16)
  /-- ENC_RESYNC (R160). -/
  | encResync (src : Src) (k : Fin 16)
  /-- AXIS_MODE_REQUEST (R163). -/
  | axisModeRequest (src : Src) (n : Fin 48) (req : BitVec 3)
  /-- AXIS_MODE_CHANGE (R164). -/
  | axisModeChange (n : Fin 48)
  /-- PARAM_WRITE (R185). -/
  | paramWrite (src : Src) (n : Fin 48) (word : ParamWord) (val : Word)
  /-- PARAM_LANDING (R185). -/
  | paramLanding (n : Fin 48)
  /-- PAIR_SET_WRITE (R177). -/
  | pairSetWrite (src : Src) (n : Fin 48) (posA : BitVec 64) (posB : BitVec 64)
  /-- GEAR_DATA_LOST (R178). -/
  | gearDataLost (n : Fin 48)
  /-- PRECOMPUTE (R196). -/
  | precompute (n : Fin 48)
  /-- SLOW_PATH_DONE (R206). -/
  | slowPathDone (n : Fin 48) (cmp : Cmp)
  /-- COMPLETION (R213). -/
  | completion (n : Fin 48) (cmp : Cmp)
  /-- LATE_FLAG (R19). -/
  | lateFlag (n : Fin 48)
  /-- TRACE_ARM (R192). -/
  | traceArm (src : Src)
  /-- TRACE_STOP (R192). -/
  | traceStop (src : Src)
  /-- TRACE_SAMPLE (R191). -/
  | traceSample (j : Fin 64)
  /-- SHADOW_LOAD (R224). -/
  | shadowLoad (n : Fin 48) (peak : Bool)
  /-- PWM_TIMING_WRITE (R222). -/
  | pwmTimingWrite (src : Src) (n : Fin 48) (val : Nat)
  /-- SSC_WRITE (R223). -/
  | sscWrite (src : Src) (ssc : BitVec 2)
  /-- SSC_SETTLED (R223). -/
  | sscSettled
  /-- TRIP_SOURCE_ONSET (R229). -/
  | tripSourceOnset (n : Fin 48) (kind : TripSrc)
  /-- SAFE_LOW_SIDE_ON (R232). -/
  | safeLowSideOn (n : Fin 48)
  /-- TRIP_SOURCE_END (R234). -/
  | tripSourceEnd (n : Fin 48) (kind : TripSrc)
  /-- TRIP_REARM (R234). -/
  | tripRearm (src : Src) (n : Fin 48)
  /-- TRIP_CFG_WRITE (R229). -/
  | tripCfgWrite (src : Src) (n : Fin 48) (val : Word)
  /-- DRV_MON_SAMPLE (R236). -/
  | drvMonSample (pins : BitVec 4)
  /-- EXC_DETECTOR_INTERVAL (R245). -/
  | excDetectorInterval (n : Fin 48) (peak : BitVec 16) (limited : Bool)
  /-- EXC_DRV_WRITE (R242). -/
  | excDrvWrite (src : Src) (n : Fin 48) (val : Nat)
  /-- MON_SAMPLE (R248). -/
  | monSample (c : Fin 16)
  /-- MON_SPAN_WRITE (R250). -/
  | monSpanWrite (src : Src) (c : Fin 16) (val : Word)
  /-- MON_SPAN_DONE (R250). -/
  | monSpanDone (c : Fin 16)
  /-- MON_DETECT (R251). -/
  | monDetect (c : Fin 16) (compl : Bool) (onset : Bool)
  /-- QUEUE_PUSH (R259). -/
  | queuePush (port : Fin 8) (q : Halfword) (prio : Byte) (rec : List QWord)
  /-- QUEUE_POP (R263). -/
  | queuePop (port : Fin 4) (q : Halfword)
  /-- QUEUE_PEEK (R264). -/
  | queuePeek (q : Halfword) (k : Nat)
  /-- QUEUE_DISCARD (R264). -/
  | queueDiscard (q : Halfword) (m : Nat)
  /-- QUEUE_RESET_REQUEST (R272). -/
  | queueResetRequest (src : Src) (q : Halfword)
  /-- QUEUE_NOTICE_READ (R270). -/
  | queueNoticeRead (src : Src) (q : Halfword)
  /-- SWEEP_PASS_START (R273). -/
  | sweepPassStart
  /-- SWEEP_PASS_END (R273). -/
  | sweepPassEnd
  /-- FREE_LIST_REBUILD_DONE (R274). -/
  | freeListRebuildDone
  /-- SORTED_POP (R276). -/
  | sortedPop (port : Fin 4) (q : Halfword)
  /-- LINK_TRAIN_START (R288). -/
  | linkTrainStart (p : Fin 8)
  /-- LINK_TRAINING_TIMEOUT (R278). -/
  | linkTrainingTimeout (p : Fin 8)
  /-- LINK_BLOCK_LOCK (R279). -/
  | linkBlockLock (p : Fin 8)
  /-- TRAIN_LOCK_TIMEOUT (R288). -/
  | trainLockTimeout (p : Fin 8)
  /-- HELLO_SEND (R288). -/
  | helloSend (p : Fin 8)
  /-- HELLO_RECEIVE (R289). -/
  | helloReceive (p : Fin 8) (f : Frame)
  /-- JOIN_SEND (R288). -/
  | joinSend (p : Fin 8)
  /-- JOIN_RECEIVE (R289). -/
  | joinReceive (p : Fin 8) (f : Frame)
  /-- JOIN_TIMEOUT (R288). -/
  | joinTimeout (p : Fin 8)
  /-- QUAR_TIMEOUT (R288). -/
  | quarTimeout (p : Fin 8)
  /-- DOWN_TIMEOUT (R288). -/
  | downTimeout (p : Fin 8)
  /-- FAB_UNQUAR (R288). -/
  | fabUnquar (src : Src) (mask : Byte)
  /-- LINK_RECONFIGURE (R288). -/
  | linkReconfigure (src : Src) (p : Fin 8) (val : Word)
  /-- LINK_LOSS (R279). -/
  | linkLoss (p : Fin 8) (why : LossWhy)
  /-- ACK_RECEIVE (R286). -/
  | ackReceive (p : Fin 8) (word : BitVec 24)
  /-- NAK_RECEIVE (R286). -/
  | nakReceive (p : Fin 8) (word : BitVec 24)
  /-- CREDIT_RECEIVE (R285). -/
  | creditReceive (p : Fin 8) (word : BitVec 24)
  /-- DOWN_WORD_RECEIVE (R281). -/
  | downWordReceive (p : Fin 8) (word : BitVec 24)
  /-- CREDIT_SEND_TIMER (R281). -/
  | creditSendTimer (p : Fin 8)
  /-- REPLAY_TIMEOUT (R286). -/
  | replayTimeout (p : Fin 8)
  /-- FRAME_TRANSMIT (R284). -/
  | frameTransmit (p : Fin 8)
  /-- FRAME_RECEIVE (R303). -/
  | frameReceive (p : Fin 8) (f : Frame)
  /-- LSR_SEND (R291). -/
  | lsrSend
  /-- LSR_RECEIVE (R291). -/
  | lsrReceive (p : Fin 8) (f : Frame)
  /-- LSR_EXPIRY (R291). -/
  | lsrExpiry (serial : BitVec 64)
  /-- ROUTE_FAIL_RECEIVE (R296). -/
  | routeFailReceive (p : Fin 8) (f : Frame)
  /-- TSYNC_REQUEST_SEND (R299). -/
  | tsyncRequestSend (p : Fin 8)
  /-- TSYNC_REQUEST_RECEIVE (R299). -/
  | tsyncRequestReceive (p : Fin 8) (f : Frame)
  /-- TSYNC_RESPONSE_RECEIVE (R299). -/
  | tsyncResponseReceive (p : Fin 8) (f : Frame)
  /-- FAB_CMD_SYNC (R302). -/
  | fabCmdSync (src : Src)
  /-- SYNC_PERIOD_EXPIRY (R302). -/
  | syncPeriodExpiry
  /-- SYNC_RECEIVE (R302). -/
  | syncReceive (p : Fin 8) (f : Frame)
  /-- FLOW_ENTRY_EXPIRY (R304). -/
  | flowEntryExpiry (key : FlowKey)
  /-- CONGESTION_ONSET (R306). -/
  | congestionOnset (p : Fin 8) (cls : Cls)
  /-- STALE_DISCARD (R306). -/
  | staleDiscard (p : Fin 8) (cls : Cls)
  /-- PLACE_ATTEMPT_START (R321). -/
  | placeAttemptStart
  /-- PLACE_HASH_COMPARE (R320). -/
  | placeHashCompare (hashes : List PeerHash)
  /-- PLACE_RETRY_TIMER (R321). -/
  | placeRetryTimer
  /-- REPLACEMENT_START (R322). -/
  | replacementStart
  /-- REPLACEMENT_TIMEOUT (R324). -/
  | replacementTimeout
  /-- LANE_RETRY (R334). -/
  | laneRetry (n : Fin 48) (cmp : Cmp)
  /-- LANE_SELF_TEST (R336). -/
  | laneSelfTest (wrong : BitVec 4)
  /-- TWIN_FRAME_SEND (R344). -/
  | twinFrameSend (p : Fin 8)
  /-- TWIN_FRAME_RECEIVE (R342). -/
  | twinFrameReceive (p : Fin 8) (f : Frame)
  /-- TWIN_ABSENCE_TIMEOUT (R343). -/
  | twinAbsenceTimeout (member : Nat)
  /-- RELEASE_RECEIVE (R348). -/
  | releaseReceive (p : Fin 8) (reason : Byte)
  /-- TWIN_OK_IN_LOW (R346). -/
  | twinOkInLow
  /-- HANDOVER_TIMEOUT (R348). -/
  | handoverTimeout
  /-- RESYNC_TIMEOUT (R349). -/
  | resyncTimeout
  /-- RESYNC_RETRY (R349). -/
  | resyncRetry
  /-- ADD (R360). -/
  | add (rd : Reg) (ra : Reg) (rb : Reg)
  /-- SUB (R360). -/
  | sub (rd : Reg) (ra : Reg) (rb : Reg)
  /-- AND (R360). -/
  | and (rd : Reg) (ra : Reg) (rb : Reg)
  /-- OR (R360). -/
  | or (rd : Reg) (ra : Reg) (rb : Reg)
  /-- XOR (R360). -/
  | xor (rd : Reg) (ra : Reg) (rb : Reg)
  /-- SHL (R360). -/
  | shl (rd : Reg) (ra : Reg) (rb : Reg)
  /-- SHR (R360). -/
  | shr (rd : Reg) (ra : Reg) (rb : Reg)
  /-- SRA (R360). -/
  | sra (rd : Reg) (ra : Reg) (rb : Reg)
  /-- SLT (R360). -/
  | slt (rd : Reg) (ra : Reg) (rb : Reg)
  /-- SLTU (R360). -/
  | sltu (rd : Reg) (ra : Reg) (rb : Reg)
  /-- MUL (R360). -/
  | mul (rd : Reg) (ra : Reg) (rb : Reg)
  /-- MULH (R360). -/
  | mulh (rd : Reg) (ra : Reg) (rb : Reg)
  /-- DIV (R361). -/
  | div (rd : Reg) (ra : Reg) (rb : Reg)
  /-- DIVU (R361). -/
  | divu (rd : Reg) (ra : Reg) (rb : Reg)
  /-- REM (R361). -/
  | rem (rd : Reg) (ra : Reg) (rb : Reg)
  /-- ADDI (R360). -/
  | addi (rd : Reg) (ra : Reg) (imm : BitVec 18)
  /-- ANDI (R360). -/
  | andi (rd : Reg) (ra : Reg) (imm : BitVec 18)
  /-- ORI (R360). -/
  | ori (rd : Reg) (ra : Reg) (imm : BitVec 18)
  /-- SHLI (R360). -/
  | shli (rd : Reg) (ra : Reg) (imm : BitVec 18)
  /-- SHRI (R360). -/
  | shri (rd : Reg) (ra : Reg) (imm : BitVec 18)
  /-- SRAI (R360). -/
  | srai (rd : Reg) (ra : Reg) (imm : BitVec 18)
  /-- SLTI (R360). -/
  | slti (rd : Reg) (ra : Reg) (imm : BitVec 18)
  /-- LUI (R360). -/
  | lui (rd : Reg) (imm : BitVec 16)
  /-- LW (R355). -/
  | lw (rd : Reg) (ra : Reg) (imm : BitVec 18)
  /-- LH (R360). -/
  | lh (rd : Reg) (ra : Reg) (imm : BitVec 18)
  /-- LHU (R360). -/
  | lhu (rd : Reg) (ra : Reg) (imm : BitVec 18)
  /-- LB (R360). -/
  | lb (rd : Reg) (ra : Reg) (imm : BitVec 18)
  /-- LBU (R360). -/
  | lbu (rd : Reg) (ra : Reg) (imm : BitVec 18)
  /-- SW (R355). -/
  | sw (rs : Reg) (ra : Reg) (imm : BitVec 18)
  /-- SH (R360). -/
  | sh (rs : Reg) (ra : Reg) (imm : BitVec 18)
  /-- SB (R360). -/
  | sb (rs : Reg) (ra : Reg) (imm : BitVec 18)
  /-- BEQ (R360). -/
  | beq (ra : Reg) (rb : Reg) (imm : BitVec 18)
  /-- BNE (R360). -/
  | bne (ra : Reg) (rb : Reg) (imm : BitVec 18)
  /-- BLT (R360). -/
  | blt (ra : Reg) (rb : Reg) (imm : BitVec 18)
  /-- BGE (R360). -/
  | bge (ra : Reg) (rb : Reg) (imm : BitVec 18)
  /-- BLTU (R360). -/
  | bltu (ra : Reg) (rb : Reg) (imm : BitVec 18)
  /-- BGEU (R360). -/
  | bgeu (ra : Reg) (rb : Reg) (imm : BitVec 18)
  /-- J (R360). -/
  | j (imm : BitVec 26)
  /-- JAL (R360). -/
  | jal (imm : BitVec 26)
  /-- JR (R360). -/
  | jr (ra : Reg)
  /-- JALR (R360). -/
  | jalr (rd : Reg) (ra : Reg) (imm : BitVec 18)
  /-- RETI (R372). -/
  | reti
  /-- TRAP (R360). -/
  | trap (code : BitVec 16)
  /-- WFI (R373). -/
  | wfi
  /-- CSRR (R354). -/
  | csrr (rd : Reg) (csr : BitVec 18)
  /-- CSRW (R354). -/
  | csrw (csr : BitVec 18) (ra : Reg)
  /-- CSRS (R354). -/
  | csrs (csr : BitVec 18) (ra : Reg)
  /-- CSRC (R354). -/
  | csrc (csr : BitVec 18) (ra : Reg)
  /-- QPUSH (R358). -/
  | qpush (rd : Reg) (ra : Reg) (rb : Reg) (k : BitVec 7)
  /-- ILLEGAL_INSTRUCTION (R359). -/
  | illegalInstruction (word : Word)
  /-- WDT_FEED (R376). -/
  | wdtFeed (ra : Reg)
  /-- TIME_LO_READ (R354). -/
  | timeLoRead (rd : Reg)
  /-- TCMP_ARM (R375). -/
  | tcmpArm (ra : Reg)
  /-- INTERRUPT_ENTRY (R370). -/
  | interruptEntry
  /-- TMR_EXPIRY (R375). -/
  | tmrExpiry (t : Fin 2)
  /-- TCMP_MATCH (R375). -/
  | tcmpMatch
  /-- WATCHDOG_EXPIRY (R376). -/
  | watchdogExpiry
  /-- SV_RESTART (R378). -/
  | svRestart (src : Src)
  /-- SV_RELOAD_DONE (R378). -/
  | svReloadDone
  /-- SV_HALT_COMMAND (R378). -/
  | svHaltCommand (src : Src)
  /-- LEDGER_LOAD (R389). -/
  | ledgerLoad
  /-- LEDGER_INTERVAL_EXPIRY (R386). -/
  | ledgerIntervalExpiry
  /-- LEDGER_WRITE_DONE (R387). -/
  | ledgerWriteDone (ok : Bool)
  /-- LEDGER_SNAP (R386). -/
  | ledgerSnap (src : Src)
  /-- LEDGER_CLR_AXIS (R390). -/
  | ledgerClrAxis (src : Src) (n : Fin 48)
  /-- LEDGER_SECOND (R382). -/
  | ledgerSecond
  /-- LEDGER_FOLD (R385). -/
  | ledgerFold
  /-- CALENDAR_SECOND (R392). -/
  | calendarSecond
  /-- CAL_SET (R393). -/
  | calSet (src : Src) (val : Word)
  /-- CAL_SET_APPLY (R393). -/
  | calSetApply
  /-- CALENDAR_FOLLOW (R394). -/
  | calendarFollow (gm : Nat)
  /-- MSG_READ (R409). -/
  | msgRead (src : Src) (addr : Word) (count : Nat)
  /-- MSG_WRITE (R409). -/
  | msgWrite (src : Src) (addr : Word) (val : Nat)
  /-- MSG_SUBSCRIBE (R410). -/
  | msgSubscribe (src : Src) (sub : SubReq)
  /-- MSG_EVENT (R409). -/
  | msgEvent (src : Src) (records : List Byte)
  /-- MSG_PUSH (R409). -/
  | msgPush (src : Src) (q : Halfword) (prio : Byte) (bytes : List Byte)
  /-- MSG_TRACE_READ (R409). -/
  | msgTraceRead (src : Src) (probe : Byte) (count : Halfword) (first : Word)
  /-- SUBSCRIPTION_DELIVERY (R410). -/
  | subscriptionDelivery (q : Halfword)
  /-- EV_RAISE (R403). -/
  | evRaise (src : Src) (val : BitVec 64)
  /-- EV_DUMP (R403). -/
  | evDump (src : Src)
  /-- SVC_SEND (R412). -/
  | svcSend (len : Nat) (msg : List Byte) (crc : Word)
  /-- SVC_RECV (R412). -/
  | svcRecv (clocked : Nat)
  /-- SVC_STAT (R412). -/
  | svcStat
  /-- REGISTER_WRITE (R434). -/
  | registerWrite (src : Src) (addr : Word) (val : Nat)
  /-- VBAT_LOW_CHANGE (R87). -/
  | vbatLowChange (low : Bool)
  /-- SETTLE_QUIET_TIMEOUT (R292). -/
  | settleQuietTimeout
  /-- PLAN_COMPUTED (R321). -/
  | planComputed (peers : List PeerInput)
  /-- PLACE_INPUT_TIMEOUT (R320). -/
  | placeInputTimeout (node : Nat)
  /-- JTAG_EXTEST (R429). -/
  | jtagExtest (cells : Nat)
  deriving DecidableEq, Repr

end Sys2Proof
end

