-- ==== Sys2Proof/Decode.lean ====
section
/-!
DEFINITION. The words of the block's commands. spec/opcode_table.json gives no row any bits, so no word spells a command. The
supervisor core's instruction words (R359, R360) are the spec's one encoding: their decoder tells an illegal word from a legal
one, and the encoder writes a legal one.
-/

namespace Sys2Proof

/-- The command a word spells by the bits of spec/opcode_table.json: the table gives none. -/
def decodeTableWord (_nbits _w : Nat) : Option Instr := none

/-! ## Formats of instruction words (R359) -/

/-- Register field at bit `lo`. -/
def regAt (w lo : Nat) : Reg := Fin.ofNat 16 (w / 2 ^ lo)

/-- Format R. -/
def fmtR (mk : Reg → Reg → Reg → Instr) (w : Nat) : Option Instr :=
  if w % 2 ^ 14 = 0 then some (mk (regAt w 22) (regAt w 18) (regAt w 14)) else none

/-- Formats I, S and B: two registers and 18 bits. -/
def fmtI (mk : Reg → Reg → BitVec 18 → Instr) (w : Nat) : Option Instr :=
  some (mk (regAt w 22) (regAt w 18) (BitVec.ofNat 18 w))

/-- Format I of the shifts: bits [17:5] of the immediate are 0. -/
def fmtShift (mk : Reg → Reg → BitVec 18 → Instr) (w : Nat) : Option Instr := if w % 2 ^ 18 < 32 then fmtI mk w else none

/-- Format U. -/
def fmtU (mk : Reg → BitVec 16 → Instr) (w : Nat) : Option Instr :=
  if w / 2 ^ 16 % 2 ^ 6 = 0 then some (mk (regAt w 22) (BitVec.ofNat 16 w)) else none

/-- CSRR and CSRW: ra is 0. -/
def fmtCsr (mk : Reg → BitVec 18 → Instr) (w : Nat) : Option Instr :=
  if w / 2 ^ 18 % 16 = 0 then some (mk (regAt w 22) (BitVec.ofNat 18 w)) else none

/-- CSRS and CSRC: R360 asks nothing of ra, and the operation does not read it. -/
def fmtCsrBits (mk : BitVec 18 → Reg → Instr) (w : Nat) : Option Instr := some (mk (BitVec.ofNat 18 w) (regAt w 22))

/-- Format Q. -/
def fmtQ (w : Nat) : Option Instr :=
  if w / 2 ^ 7 % 2 ^ 7 = 0 then some (.qpush (regAt w 22) (regAt w 18) (regAt w 14) (BitVec.ofNat 7 w)) else none

/-- The instruction of a supervisor word below 2^32; none where the word is illegal (R359, R360). -/
def svDecode (w : Nat) : Option Instr :=
  match w / 2 ^ 26 with
  | 0x01 => fmtR .add w
  | 0x02 => fmtR .sub w
  | 0x03 => fmtR .and w
  | 0x04 => fmtR .or w
  | 0x05 => fmtR .xor w
  | 0x06 => fmtR .shl w
  | 0x07 => fmtR .shr w
  | 0x08 => fmtR .sra w
  | 0x09 => fmtR .slt w
  | 0x0A => fmtR .sltu w
  | 0x0B => fmtR .mul w
  | 0x0C => fmtR .mulh w
  | 0x0D => fmtR .div w
  | 0x0E => fmtR .divu w
  | 0x0F => fmtR .rem w
  | 0x10 => fmtI .addi w
  | 0x11 => fmtI .andi w
  | 0x12 => fmtI .ori w
  | 0x13 => fmtShift .shli w
  | 0x14 => fmtShift .shri w
  | 0x15 => fmtShift .srai w
  | 0x16 => fmtI .slti w
  | 0x17 => fmtU .lui w
  | 0x18 => fmtI .lw w
  | 0x19 => fmtI .lh w
  | 0x1A => fmtI .lhu w
  | 0x1B => fmtI .lb w
  | 0x1C => fmtI .lbu w
  | 0x1D => fmtI .sw w
  | 0x1E => fmtI .sh w
  | 0x1F => fmtI .sb w
  | 0x20 => fmtI .beq w
  | 0x21 => fmtI .bne w
  | 0x22 => fmtI .blt w
  | 0x23 => fmtI .bge w
  | 0x24 => fmtI .bltu w
  | 0x25 => fmtI .bgeu w
  | 0x26 => some (.j (BitVec.ofNat 26 w))
  | 0x27 => some (.jal (BitVec.ofNat 26 w))
  | 0x28 => if w % 2 ^ 18 = 0 ∧ w / 2 ^ 22 % 16 = 0 then some (.jr (Fin.ofNat 16 (w / 2 ^ 18))) else none
  | 0x29 => fmtI .jalr w
  | 0x2A => if w % 2 ^ 26 = 0 then some .reti else none
  | 0x2B => if w / 2 ^ 16 % 2 ^ 10 = 0 then some (.trap (BitVec.ofNat 16 w)) else none
  | 0x2C => if w % 2 ^ 26 = 0 then some .wfi else none
  | 0x2D => fmtCsr (fun r c => .csrr r c) w
  | 0x2E => fmtCsr (fun r c => .csrw c r) w
  | 0x2F => fmtCsrBits .csrs w
  | 0x30 => fmtCsrBits .csrc w
  | 0x31 => fmtQ w
  | _ => none

/-! ## Encoding (R359, R360) -/

/-- A word of format R. -/
def wordR (op : Nat) (rd ra rb : Reg) : Nat := op * 2 ^ 26 + rd.val * 2 ^ 22 + ra.val * 2 ^ 18 + rb.val * 2 ^ 14

/-- A word of format I, S or B. -/
def wordI (op : Nat) (r ra : Reg) (imm : BitVec 18) : Nat := op * 2 ^ 26 + r.val * 2 ^ 22 + ra.val * 2 ^ 18 + imm.toNat

/-- A word of format U. -/
def wordU (op : Nat) (rd : Reg) (imm : BitVec 16) : Nat := op * 2 ^ 26 + rd.val * 2 ^ 22 + imm.toNat

/-- A word of format Q. -/
def wordQ (rd ra rb : Reg) (k : BitVec 7) : Nat := wordR 0x31 rd ra rb + k.toNat

/-- The word of a supervisor instruction; none for a command that is not one. -/
def svEncode : Instr → Option Nat
  | .add rd ra rb => some (wordR 0x01 rd ra rb)
  | .sub rd ra rb => some (wordR 0x02 rd ra rb)
  | .and rd ra rb => some (wordR 0x03 rd ra rb)
  | .or rd ra rb => some (wordR 0x04 rd ra rb)
  | .xor rd ra rb => some (wordR 0x05 rd ra rb)
  | .shl rd ra rb => some (wordR 0x06 rd ra rb)
  | .shr rd ra rb => some (wordR 0x07 rd ra rb)
  | .sra rd ra rb => some (wordR 0x08 rd ra rb)
  | .slt rd ra rb => some (wordR 0x09 rd ra rb)
  | .sltu rd ra rb => some (wordR 0x0A rd ra rb)
  | .mul rd ra rb => some (wordR 0x0B rd ra rb)
  | .mulh rd ra rb => some (wordR 0x0C rd ra rb)
  | .div rd ra rb => some (wordR 0x0D rd ra rb)
  | .divu rd ra rb => some (wordR 0x0E rd ra rb)
  | .rem rd ra rb => some (wordR 0x0F rd ra rb)
  | .addi rd ra imm => some (wordI 0x10 rd ra imm)
  | .andi rd ra imm => some (wordI 0x11 rd ra imm)
  | .ori rd ra imm => some (wordI 0x12 rd ra imm)
  | .shli rd ra imm => some (wordI 0x13 rd ra imm)
  | .shri rd ra imm => some (wordI 0x14 rd ra imm)
  | .srai rd ra imm => some (wordI 0x15 rd ra imm)
  | .slti rd ra imm => some (wordI 0x16 rd ra imm)
  | .lui rd imm => some (wordU 0x17 rd imm)
  | .lw rd ra imm => some (wordI 0x18 rd ra imm)
  | .lh rd ra imm => some (wordI 0x19 rd ra imm)
  | .lhu rd ra imm => some (wordI 0x1A rd ra imm)
  | .lb rd ra imm => some (wordI 0x1B rd ra imm)
  | .lbu rd ra imm => some (wordI 0x1C rd ra imm)
  | .sw rd ra imm => some (wordI 0x1D rd ra imm)
  | .sh rd ra imm => some (wordI 0x1E rd ra imm)
  | .sb rd ra imm => some (wordI 0x1F rd ra imm)
  | .beq ra rb off => some (wordI 0x20 ra rb off)
  | .bne ra rb off => some (wordI 0x21 ra rb off)
  | .blt ra rb off => some (wordI 0x22 ra rb off)
  | .bge ra rb off => some (wordI 0x23 ra rb off)
  | .bltu ra rb off => some (wordI 0x24 ra rb off)
  | .bgeu ra rb off => some (wordI 0x25 ra rb off)
  | .j off => some (0x26 * 2 ^ 26 + off.toNat)
  | .jal off => some (0x27 * 2 ^ 26 + off.toNat)
  | .jr ra => some (wordR 0x28 0 ra 0)
  | .jalr rd ra imm => some (wordI 0x29 rd ra imm)
  | .reti => some (0x2A * 2 ^ 26)
  | .trap code => some (wordU 0x2B 0 code)
  | .wfi => some (0x2C * 2 ^ 26)
  | .csrr rd csr => some (wordI 0x2D rd 0 csr)
  | .csrw csr rs => some (wordI 0x2E rs 0 csr)
  | .csrs csr rs => some (wordI 0x2F rs 0 csr)
  | .csrc csr rs => some (wordI 0x30 rs 0 csr)
  | .qpush rd ra rb k => some (wordQ rd ra rb k)
  | _ => none

end Sys2Proof
end

