-- ==== Sys2Proof/Config.lean ====
section
/-!
DEFINITION. What the spec leaves open and the model leaves free: constants without a body. Nothing in Lean can evaluate
one or prove a value of it; a meaning applies it to the number of the free value it has drawn (Ctl.freeCnt), or to the
operands the value depends on. Each is named in the assumption log.
-/

namespace Sys2Proof.Config

/-- A free choice between two, numbered. -/
opaque freeBool : Nat → Bool

/-- A free value, numbered. -/
opaque freeNat : Nat → Nat

/-- A free signed value, numbered. -/
opaque freeInt : Nat → Int

/-- A byte whose content an interrupted write leaves undefined (R62), by the number drawn and its place. -/
opaque freeByte : Nat → Nat → Byte

/-- Deviation of a CIC output of length `l` from the exact weighted mean of `sum` (R121, R127): the 24-bit reciprocal's
rounding is not given. -/
opaque cicError (l : Nat) (sum : Int) : Int

/-- Which of the words within 1 LSB of the sine sin15 gives at a phase (R141). -/
opaque sinError (phase : Nat) : Nat

/-- Which of the words within 1 LSB of the cosine cos15 gives at a phase (R141). -/
opaque cosError (phase : Nat) : Nat

/-- A frame that is 100 cycles off the grid of an epoch is lengthened, where it may as well be shortened (R16). -/
opaque frameTie (epoch : Nat) : Bool

/-- Where an observer gain lies between the bounds that R142 leaves: `which` is 1 or 2, then the bandwidth ratio. -/
opaque freeGain (which num den : Nat) : Nat

/-- Period of the partner's motor item in a plan that does not have the partner's inputs, by node and task (R314, R316). -/
opaque absentPeriod (node task : Nat) : Nat

/-- The CRC-32C of a checkpoint set as a function of its state words: the words' addresses, which give their order, are
not given (R331, R343). -/
opaque checkpoint : List Int → Nat

/-- Ed25519 verification (RFC 8032) of a signature over a message under a public key, each as bytes (R45, R46): the spec names
the algorithm and does not print it. -/
opaque ed25519 : List Byte → List Byte → List Byte → Bool

end Sys2Proof.Config
end

