-- ==== Sys2Proof/Machine/ObjMap.lean ====
section
/-!
DEFINITION. The object map of spec/17_object_map.md (R396, R397) with the field maps of every chapter: each
object's block, index, width, fields with their access codes (R7) and reset values (R398). It states the
spec's tables and nothing else; what a write is refused for stands in Machine/Access.lean.
-/

namespace Sys2Proof.Machine

/-- The access codes of R7. -/
inductive Acc where
  | ro | rw | rc | w1c | wo | rwm
  deriving DecidableEq, Repr

/-- One field of a field map (R7): its lowest bit, its width and its access code. Bits no row names are
reserved (R8). -/
structure FieldRow where
  lo : Nat
  w : Nat
  acc : Acc
  deriving DecidableEq, Repr

/-- Where an object stands (R396, R397): instance `i` has its lowest index at `base + i * stride`. An object
held once per axis and index `j` (COEF, SHIFT, LIM) counts `sub` of them side by side. -/
structure ObjRow where
  block : Nat
  base : Nat
  stride : Nat
  count : Nat
  sub : Nat
  bits : Nat
  fields : List FieldRow
  deriving DecidableEq, Repr

/-- Every kind of object the map names (R397). -/
inductive ObjId where
  | axStatus | devId | devMode | devModeReq | devResetCause | devBootStatus
  | devTestResult | devSupply | devTrimCtl | devConvLate | devStatus | devOtpLock
  | devOtpSerial | devOtpKhash | devOtpFkey | devQmStat | devQmCnt | devEvStat
  | devEvCmd | devEvRaise | lkCfg | lkStat | lkNbr | lkCnt
  | lkTot | devFabCfg | devFabRate | devFabStat | devFabTime | devFabEpoch
  | devFabCnt | devFabCmd | devPwmCfg | axExcCtl | axExcChk | devExcGrp
  | devExcPhase | axFeCtl | axFeCm | axFeStat | axFeCnt | devAuxCtl
  | devAuxoCtl | devAuxoPar | axFltSq | axFltSine | axFltCur | axFltStat
  | devFltAux | devFltStat | axTrkCtl | axTrkAmp | axTrkStat | axTrkCnt
  | axMotion | axTrkMeas | axPosSet | axMode | axLoopCfg | axMotor
  | axCoef | axShift | axLim | axGear | axPairSet | axLoopStat
  | axSpecCtl | axSpecWin | axSpecModel | axSpecStat | axSpecCnt | axTelCfg
  | devSpecTot | devTrcCtl | devTrcTrig | devTrcStat | devTrcTime | devTrcProbe
  | axPwmTim | axPwmLead | axPwmCfg | devDrvStat | axExcDrv | axExcDstat
  | monCtl | monVal | monStat | monCnt | devEncCtl | devEncStat
  | devEncCmd | qCfg | qStat | qNotice | qPop | devPlaceStat
  | devPlanHash | devPlanLoad | devPlanRec | axCkStat | devRedCfg | devRedStat
  | devRedCnt | devLaneTest | devSvStat | devSvCmd | axLedgCfg | axLedger
  | devLedgCfg | devCalCfg | devLedgStat | devLedgCmd | devLedger | devCal
  | devCalEdge | devCalSet | lkLedger | axTripCfg | axTripStat | axTripCmd
  | devModeCfg | devSvCtl | devPlaceCfg | devTripIn | devShadow | devTrim
  deriving DecidableEq, Repr

/-- The row of each object kind: R397 for its place, the chapter's field map for its fields. -/
def objRow : ObjId → ObjRow
  | .axStatus => ⟨0x00, 0x0, 64, 48, 1, 32,
      [⟨0, 3, .ro⟩, ⟨3, 1, .ro⟩, ⟨4, 2, .ro⟩, ⟨6, 1, .ro⟩, ⟨7, 1, .ro⟩, ⟨8, 1, .ro⟩, ⟨9, 1, .ro⟩, ⟨10, 1, .ro⟩, ⟨11, 1, .ro⟩, ⟨12, 1, .ro⟩, ⟨13, 1, .ro⟩, ⟨14, 1, .ro⟩, ⟨15, 1, .ro⟩, ⟨16, 1, .ro⟩]⟩
  | .devId => ⟨0x00, 0x1000, 1, 1, 1, 128,
      [⟨0, 16, .ro⟩, ⟨16, 16, .ro⟩, ⟨32, 64, .ro⟩, ⟨96, 8, .ro⟩]⟩
  | .devMode => ⟨0x00, 0x1004, 1, 1, 1, 32,
      [⟨0, 4, .ro⟩, ⟨4, 4, .ro⟩, ⟨8, 4, .ro⟩, ⟨12, 1, .ro⟩, ⟨13, 1, .ro⟩, ⟨14, 1, .ro⟩, ⟨15, 1, .ro⟩, ⟨16, 1, .ro⟩, ⟨17, 1, .ro⟩]⟩
  | .devModeReq => ⟨0x00, 0x1005, 1, 1, 1, 32,
      [⟨0, 4, .wo⟩, ⟨16, 16, .wo⟩]⟩
  | .devResetCause => ⟨0x00, 0x1006, 1, 1, 1, 32,
      [⟨0, 1, .ro⟩, ⟨1, 1, .ro⟩, ⟨2, 5, .ro⟩, ⟨7, 1, .ro⟩, ⟨8, 1, .ro⟩, ⟨9, 1, .ro⟩, ⟨10, 1, .ro⟩, ⟨11, 1, .ro⟩]⟩
  | .devBootStatus => ⟨0x00, 0x1007, 1, 1, 1, 32,
      [⟨0, 4, .ro⟩, ⟨4, 4, .ro⟩, ⟨8, 2, .ro⟩, ⟨10, 1, .ro⟩, ⟨11, 1, .ro⟩, ⟨12, 1, .ro⟩, ⟨13, 1, .ro⟩, ⟨16, 16, .ro⟩]⟩
  | .devTestResult => ⟨0x00, 0x1008, 1, 1, 1, 32,
      [⟨0, 1, .ro⟩, ⟨1, 1, .ro⟩, ⟨2, 1, .ro⟩, ⟨3, 1, .ro⟩, ⟨4, 1, .ro⟩, ⟨5, 1, .ro⟩, ⟨6, 1, .ro⟩, ⟨8, 8, .ro⟩, ⟨16, 16, .ro⟩]⟩
  | .devSupply => ⟨0x00, 0x1009, 1, 1, 1, 32,
      [⟨0, 5, .ro⟩, ⟨8, 5, .w1c⟩, ⟨16, 1, .ro⟩, ⟨17, 1, .ro⟩, ⟨24, 8, .rc⟩]⟩
  | .devTrimCtl => ⟨0x00, 0x100A, 1, 1, 1, 32,
      [⟨0, 1, .rwm⟩, ⟨1, 1, .ro⟩, ⟨2, 1, .ro⟩, ⟨3, 1, .ro⟩, ⟨4, 2, .ro⟩]⟩
  | .devConvLate => ⟨0x00, 0x100B, 1, 1, 1, 32,
      [⟨0, 16, .ro⟩]⟩
  | .devStatus => ⟨0x00, 0x100C, 1, 1, 1, 32,
      [⟨0, 4, .ro⟩, ⟨4, 1, .ro⟩, ⟨5, 1, .ro⟩, ⟨6, 1, .ro⟩, ⟨7, 1, .ro⟩, ⟨8, 1, .ro⟩, ⟨9, 1, .ro⟩, ⟨10, 1, .ro⟩, ⟨11, 1, .ro⟩, ⟨12, 1, .ro⟩, ⟨13, 1, .ro⟩]⟩
  | .devOtpLock => ⟨0x00, 0x1010, 1, 1, 1, 32,
      [⟨0, 1, .rwm⟩, ⟨1, 1, .rwm⟩, ⟨2, 1, .rwm⟩, ⟨3, 1, .rwm⟩]⟩
  | .devOtpSerial => ⟨0x00, 0x1012, 1, 1, 1, 64,
      [⟨0, 64, .ro⟩]⟩
  | .devOtpKhash => ⟨0x00, 0x1014, 1, 1, 1, 256,
      [⟨0, 256, .rwm⟩]⟩
  | .devOtpFkey => ⟨0x00, 0x101C, 1, 1, 1, 128,
      [⟨0, 128, .rwm⟩]⟩
  | .devQmStat => ⟨0x01, 0x1000, 1, 1, 1, 32,
      [⟨0, 16, .ro⟩, ⟨16, 9, .ro⟩, ⟨25, 1, .ro⟩, ⟨26, 1, .ro⟩, ⟨27, 1, .ro⟩, ⟨28, 1, .ro⟩]⟩
  | .devQmCnt => ⟨0x01, 0x1002, 1, 1, 1, 64,
      [⟨0, 16, .rc⟩, ⟨16, 16, .rc⟩, ⟨32, 16, .rc⟩, ⟨48, 16, .rc⟩]⟩
  | .devEvStat => ⟨0x01, 0x1004, 1, 1, 1, 32,
      [⟨0, 13, .ro⟩, ⟨16, 16, .rc⟩]⟩
  | .devEvCmd => ⟨0x01, 0x1005, 1, 1, 1, 32,
      [⟨0, 1, .wo⟩]⟩
  | .devEvRaise => ⟨0x01, 0x1006, 1, 1, 1, 64,
      [⟨0, 16, .wo⟩, ⟨16, 8, .wo⟩, ⟨32, 32, .wo⟩]⟩
  | .lkCfg => ⟨0x02, 0x0, 64, 8, 1, 32,
      [⟨0, 1, .rw⟩, ⟨1, 4, .rw⟩, ⟨8, 8, .rw⟩, ⟨16, 8, .rw⟩, ⟨24, 8, .rw⟩]⟩
  | .lkStat => ⟨0x02, 0x1, 64, 8, 1, 32,
      [⟨0, 3, .ro⟩, ⟨3, 1, .ro⟩, ⟨4, 4, .ro⟩, ⟨8, 6, .ro⟩, ⟨14, 3, .ro⟩, ⟨17, 1, .ro⟩, ⟨18, 1, .ro⟩, ⟨19, 13, .ro⟩]⟩
  | .lkNbr => ⟨0x02, 0x2, 64, 8, 1, 64,
      [⟨0, 64, .ro⟩]⟩
  | .lkCnt => ⟨0x02, 0x4, 64, 8, 1, 160,
      [⟨0, 16, .rc⟩, ⟨16, 16, .rc⟩, ⟨32, 16, .rc⟩, ⟨48, 16, .rc⟩, ⟨64, 16, .rc⟩, ⟨80, 16, .rc⟩, ⟨96, 16, .rc⟩, ⟨112, 16, .rc⟩, ⟨128, 16, .rc⟩]⟩
  | .lkTot => ⟨0x02, 0x9, 64, 8, 1, 64,
      [⟨0, 32, .ro⟩, ⟨32, 32, .ro⟩]⟩
  | .devFabCfg => ⟨0x02, 0x1000, 1, 1, 1, 32,
      [⟨0, 8, .rw⟩, ⟨8, 8, .rw⟩, ⟨16, 16, .rw⟩]⟩
  | .devFabRate => ⟨0x02, 0x1001, 1, 1, 1, 32,
      [⟨0, 16, .rw⟩, ⟨16, 16, .rw⟩]⟩
  | .devFabStat => ⟨0x02, 0x1002, 1, 1, 1, 32,
      [⟨0, 6, .ro⟩, ⟨6, 1, .ro⟩, ⟨7, 1, .ro⟩, ⟨8, 6, .ro⟩, ⟨14, 1, .ro⟩, ⟨15, 1, .ro⟩, ⟨16, 7, .ro⟩, ⟨23, 4, .ro⟩, ⟨27, 1, .ro⟩]⟩
  | .devFabTime => ⟨0x02, 0x1004, 1, 1, 1, 64,
      [⟨0, 64, .ro⟩]⟩
  | .devFabEpoch => ⟨0x02, 0x1006, 1, 1, 1, 64,
      [⟨0, 48, .ro⟩, ⟨48, 16, .ro⟩]⟩
  | .devFabCnt => ⟨0x02, 0x1008, 1, 1, 1, 96,
      [⟨0, 16, .rc⟩, ⟨16, 16, .rc⟩, ⟨32, 16, .rc⟩, ⟨48, 16, .rc⟩, ⟨64, 16, .rc⟩, ⟨80, 16, .rc⟩]⟩
  | .devFabCmd => ⟨0x02, 0x100B, 1, 1, 1, 32,
      [⟨0, 1, .wo⟩, ⟨8, 8, .wo⟩]⟩
  | .devPwmCfg => ⟨0x03, 0x1000, 1, 1, 1, 32,
      [⟨0, 2, .rw⟩]⟩
  | .axExcCtl => ⟨0x04, 0x0, 64, 48, 1, 32,
      [⟨0, 2, .rw⟩, ⟨2, 1, .rw⟩, ⟨3, 1, .rw⟩, ⟨4, 2, .rw⟩, ⟨6, 1, .wo⟩, ⟨8, 8, .rw⟩, ⟨16, 8, .rw⟩, ⟨24, 8, .rw⟩]⟩
  | .axExcChk => ⟨0x04, 0x1, 64, 48, 1, 32,
      [⟨0, 16, .rw⟩, ⟨16, 8, .rw⟩, ⟨24, 8, .rw⟩]⟩
  | .devExcGrp => ⟨0x04, 0x1000, 1, 4, 1, 32,
      [⟨0, 19, .rw⟩, ⟨31, 1, .rw⟩]⟩
  | .devExcPhase => ⟨0x04, 0x1004, 1, 4, 1, 32,
      [⟨0, 20, .rw⟩]⟩
  | .axFeCtl => ⟨0x05, 0x0, 64, 48, 1, 32,
      [⟨0, 2, .rw⟩, ⟨2, 2, .rw⟩, ⟨4, 1, .rw⟩, ⟨5, 2, .rw⟩, ⟨7, 1, .rw⟩, ⟨8, 2, .rw⟩, ⟨10, 1, .rw⟩, ⟨11, 1, .rw⟩, ⟨16, 8, .rw⟩, ⟨24, 8, .rw⟩]⟩
  | .axFeCm => ⟨0x05, 0x1, 64, 48, 1, 32,
      [⟨0, 7, .rw⟩, ⟨8, 7, .rw⟩, ⟨16, 8, .rw⟩, ⟨24, 8, .rw⟩]⟩
  | .axFeStat => ⟨0x05, 0x2, 64, 48, 1, 32,
      [⟨0, 2, .ro⟩, ⟨2, 2, .ro⟩, ⟨4, 4, .ro⟩, ⟨8, 4, .w1c⟩, ⟨12, 1, .ro⟩, ⟨13, 1, .w1c⟩, ⟨14, 1, .ro⟩, ⟨15, 1, .w1c⟩, ⟨16, 8, .rc⟩]⟩
  | .axFeCnt => ⟨0x05, 0x3, 64, 48, 1, 32,
      [⟨0, 16, .rc⟩, ⟨16, 16, .rc⟩]⟩
  | .devAuxCtl => ⟨0x05, 0x1000, 1, 8, 1, 32,
      [⟨0, 3, .rw⟩, ⟨3, 2, .rw⟩, ⟨8, 8, .rw⟩, ⟨16, 1, .w1c⟩]⟩
  | .devAuxoCtl => ⟨0x05, 0x1008, 1, 8, 1, 32,
      [⟨0, 1, .rw⟩, ⟨1, 1, .rw⟩, ⟨2, 2, .rw⟩, ⟨8, 4, .rw⟩, ⟨12, 6, .rw⟩, ⟨18, 5, .rw⟩, ⟨23, 1, .ro⟩]⟩
  | .devAuxoPar => ⟨0x05, 0x1010, 6, 8, 1, 192,
      [⟨0, 32, .rw⟩, ⟨32, 32, .rw⟩, ⟨64, 24, .rw⟩, ⟨96, 24, .rw⟩, ⟨128, 20, .rw⟩, ⟨160, 24, .rw⟩]⟩
  | .axFltSq => ⟨0x06, 0x0, 64, 48, 1, 64,
      [⟨0, 5, .rw⟩, ⟨5, 4, .rw⟩, ⟨9, 7, .rw⟩, ⟨16, 5, .rw⟩, ⟨21, 4, .rw⟩, ⟨25, 7, .rw⟩, ⟨32, 5, .rw⟩, ⟨37, 4, .rw⟩, ⟨41, 7, .rw⟩]⟩
  | .axFltSine => ⟨0x06, 0x2, 64, 48, 1, 64,
      [⟨0, 5, .rw⟩, ⟨5, 4, .rw⟩, ⟨9, 7, .rw⟩, ⟨16, 5, .rw⟩, ⟨21, 4, .rw⟩, ⟨25, 7, .rw⟩, ⟨32, 5, .rw⟩, ⟨37, 4, .rw⟩, ⟨41, 7, .rw⟩]⟩
  | .axFltCur => ⟨0x06, 0x4, 64, 48, 1, 64,
      [⟨0, 5, .rw⟩, ⟨5, 4, .rw⟩, ⟨9, 7, .rw⟩, ⟨16, 5, .rw⟩, ⟨21, 4, .rw⟩, ⟨25, 7, .rw⟩, ⟨32, 5, .rw⟩, ⟨37, 4, .rw⟩, ⟨41, 7, .rw⟩]⟩
  | .axFltStat => ⟨0x06, 0x6, 64, 48, 1, 32,
      [⟨0, 1, .ro⟩, ⟨1, 1, .ro⟩, ⟨2, 1, .ro⟩, ⟨3, 1, .ro⟩, ⟨8, 8, .rc⟩, ⟨16, 16, .rc⟩]⟩
  | .devFltAux => ⟨0x06, 0x1000, 2, 8, 1, 64,
      [⟨0, 5, .rw⟩, ⟨5, 4, .rw⟩, ⟨9, 7, .rw⟩, ⟨16, 5, .rw⟩, ⟨21, 4, .rw⟩, ⟨25, 7, .rw⟩, ⟨32, 5, .rw⟩, ⟨37, 4, .rw⟩, ⟨41, 7, .rw⟩]⟩
  | .devFltStat => ⟨0x06, 0x1010, 1, 1, 1, 32,
      [⟨0, 8, .ro⟩, ⟨8, 8, .w1c⟩, ⟨16, 1, .w1c⟩]⟩
  | .axTrkCtl => ⟨0x07, 0x0, 64, 48, 1, 64,
      [⟨0, 5, .rw⟩, ⟨5, 1, .rw⟩, ⟨8, 10, .rw⟩, ⟨18, 8, .rw⟩, ⟨26, 4, .rw⟩, ⟨32, 8, .rw⟩, ⟨40, 8, .rw⟩, ⟨48, 16, .rw⟩]⟩
  | .axTrkAmp => ⟨0x07, 0x2, 64, 48, 1, 32,
      [⟨0, 16, .rw⟩, ⟨16, 8, .rw⟩, ⟨24, 8, .rw⟩]⟩
  | .axTrkStat => ⟨0x07, 0x3, 64, 48, 1, 32,
      [⟨0, 1, .ro⟩, ⟨1, 1, .ro⟩, ⟨2, 1, .ro⟩, ⟨3, 1, .ro⟩, ⟨4, 1, .ro⟩, ⟨5, 1, .w1c⟩, ⟨6, 1, .w1c⟩, ⟨7, 1, .w1c⟩, ⟨8, 1, .w1c⟩, ⟨9, 1, .w1c⟩, ⟨10, 1, .w1c⟩, ⟨16, 8, .ro⟩, ⟨24, 8, .ro⟩]⟩
  | .axTrkCnt => ⟨0x07, 0x4, 64, 48, 1, 32,
      [⟨0, 16, .rc⟩, ⟨16, 16, .rc⟩]⟩
  | .axMotion => ⟨0x07, 0x5, 64, 48, 1, 160,
      [⟨0, 32, .ro⟩, ⟨32, 32, .ro⟩, ⟨64, 32, .ro⟩, ⟨96, 64, .ro⟩]⟩
  | .axTrkMeas => ⟨0x07, 0xA, 64, 48, 1, 64,
      [⟨0, 32, .ro⟩, ⟨32, 32, .ro⟩]⟩
  | .axPosSet => ⟨0x07, 0xC, 64, 48, 1, 64,
      [⟨0, 64, .wo⟩]⟩
  | .axMode => ⟨0x08, 0x0, 64, 48, 1, 32,
      [⟨0, 3, .ro⟩, ⟨4, 3, .wo⟩, ⟨8, 3, .ro⟩, ⟨12, 4, .ro⟩, ⟨16, 1, .ro⟩, ⟨17, 1, .ro⟩, ⟨18, 1, .ro⟩]⟩
  | .axLoopCfg => ⟨0x08, 0x1, 64, 48, 1, 32,
      [⟨0, 2, .ro⟩, ⟨2, 3, .rw⟩, ⟨5, 6, .rw⟩, ⟨11, 6, .rw⟩, ⟨17, 1, .rw⟩, ⟨18, 1, .rw⟩, ⟨19, 4, .rw⟩, ⟨23, 4, .rw⟩, ⟨27, 1, .rw⟩, ⟨28, 1, .rw⟩, ⟨29, 2, .rw⟩]⟩
  | .axMotor => ⟨0x08, 0x2, 64, 48, 1, 64,
      [⟨0, 5, .rw⟩, ⟨8, 8, .rw⟩, ⟨16, 16, .rw⟩, ⟨32, 4, .rw⟩]⟩
  | .axCoef => ⟨0x08, 0x4, 64, 48, 16, 32,
      [⟨0, 32, .rw⟩]⟩
  | .axShift => ⟨0x08, 0x14, 64, 48, 4, 32,
      [⟨0, 5, .rw⟩, ⟨8, 5, .rw⟩, ⟨16, 5, .rw⟩, ⟨24, 5, .rw⟩]⟩
  | .axLim => ⟨0x08, 0x18, 64, 48, 18, 32,
      [⟨0, 32, .rw⟩]⟩
  | .axGear => ⟨0x08, 0x2A, 64, 48, 1, 64,
      [⟨0, 6, .rw⟩, ⟨6, 6, .rw⟩, ⟨32, 32, .rw⟩]⟩
  | .axPairSet => ⟨0x08, 0x2C, 64, 48, 1, 128,
      [⟨0, 64, .wo⟩, ⟨64, 64, .wo⟩]⟩
  | .axLoopStat => ⟨0x08, 0x30, 64, 48, 1, 32,
      [⟨0, 1, .ro⟩, ⟨1, 1, .ro⟩, ⟨2, 1, .ro⟩, ⟨3, 1, .ro⟩, ⟨4, 1, .w1c⟩, ⟨5, 1, .w1c⟩, ⟨8, 4, .ro⟩, ⟨16, 8, .rc⟩, ⟨24, 8, .rc⟩]⟩
  | .axSpecCtl => ⟨0x08, 0x31, 64, 48, 1, 32,
      [⟨0, 1, .rw⟩, ⟨8, 8, .rw⟩]⟩
  | .axSpecWin => ⟨0x08, 0x32, 64, 48, 1, 32,
      [⟨0, 16, .rw⟩, ⟨16, 13, .rw⟩]⟩
  | .axSpecModel => ⟨0x08, 0x33, 64, 48, 1, 64,
      [⟨0, 16, .rw⟩, ⟨16, 5, .rw⟩, ⟨32, 16, .rw⟩, ⟨48, 5, .rw⟩]⟩
  | .axSpecStat => ⟨0x08, 0x35, 64, 48, 1, 32,
      [⟨0, 1, .ro⟩, ⟨1, 1, .ro⟩, ⟨2, 3, .ro⟩, ⟨5, 3, .ro⟩, ⟨8, 8, .ro⟩, ⟨16, 8, .ro⟩, ⟨24, 1, .w1c⟩]⟩
  | .axSpecCnt => ⟨0x08, 0x36, 64, 48, 1, 64,
      [⟨0, 16, .rc⟩, ⟨16, 16, .rc⟩, ⟨32, 16, .rc⟩, ⟨48, 8, .rc⟩]⟩
  | .axTelCfg => ⟨0x08, 0x38, 64, 48, 1, 32,
      [⟨0, 16, .rw⟩, ⟨16, 1, .rw⟩]⟩
  | .devSpecTot => ⟨0x08, 0x1000, 1, 1, 1, 64,
      [⟨0, 32, .ro⟩, ⟨32, 32, .ro⟩]⟩
  | .devTrcCtl => ⟨0x08, 0x1002, 1, 1, 1, 32,
      [⟨0, 1, .wo⟩, ⟨1, 1, .wo⟩, ⟨2, 1, .rw⟩, ⟨4, 12, .rw⟩, ⟨16, 8, .rw⟩]⟩
  | .devTrcTrig => ⟨0x08, 0x1004, 1, 1, 1, 64,
      [⟨0, 2, .rw⟩, ⟨2, 2, .rw⟩, ⟨4, 6, .rw⟩, ⟨16, 16, .rw⟩, ⟨32, 32, .rw⟩]⟩
  | .devTrcStat => ⟨0x08, 0x1006, 1, 1, 1, 32,
      [⟨0, 2, .ro⟩, ⟨2, 1, .ro⟩]⟩
  | .devTrcTime => ⟨0x08, 0x1008, 1, 1, 1, 64,
      [⟨0, 64, .ro⟩]⟩
  | .devTrcProbe => ⟨0x08, 0x1040, 1, 64, 1, 32,
      [⟨0, 1, .rw⟩, ⟨1, 1, .rw⟩, ⟨2, 3, .rw⟩, ⟨5, 5, .rw⟩, ⟨10, 8, .rw⟩, ⟨18, 14, .rw⟩]⟩
  | .axPwmTim => ⟨0x09, 0x0, 64, 48, 1, 64,
      [⟨0, 17, .rw⟩, ⟨32, 18, .rw⟩]⟩
  | .axPwmLead => ⟨0x09, 0x2, 64, 48, 1, 32,
      [⟨0, 16, .rw⟩]⟩
  | .axPwmCfg => ⟨0x09, 0x3, 64, 48, 1, 32,
      [⟨0, 1, .rw⟩, ⟨1, 2, .rw⟩, ⟨3, 2, .rw⟩, ⟨8, 13, .rw⟩, ⟨21, 11, .rw⟩]⟩
  | .devDrvStat => ⟨0x09, 0x1000, 1, 1, 1, 32,
      [⟨0, 4, .ro⟩, ⟨4, 4, .ro⟩, ⟨8, 4, .w1c⟩, ⟨12, 4, .ro⟩]⟩
  | .axExcDrv => ⟨0x0A, 0x0, 64, 48, 1, 64,
      [⟨0, 3, .rw⟩, ⟨3, 1, .rw⟩, ⟨4, 2, .rw⟩, ⟨6, 2, .rw⟩, ⟨8, 9, .rw⟩, ⟨17, 1, .rw⟩, ⟨24, 8, .rw⟩, ⟨32, 8, .rw⟩, ⟨40, 8, .rw⟩]⟩
  | .axExcDstat => ⟨0x0A, 0x2, 64, 48, 1, 32,
      [⟨0, 1, .ro⟩, ⟨1, 1, .ro⟩, ⟨2, 1, .ro⟩, ⟨3, 1, .ro⟩, ⟨4, 1, .w1c⟩, ⟨5, 1, .w1c⟩, ⟨8, 8, .ro⟩, ⟨16, 8, .ro⟩, ⟨24, 8, .ro⟩]⟩
  | .monCtl => ⟨0x0A, 0x1000, 4, 16, 1, 32,
      [⟨0, 2, .rw⟩, ⟨2, 1, .rw⟩, ⟨4, 10, .rw⟩, ⟨16, 16, .rw⟩]⟩
  | .monVal => ⟨0x0A, 0x1001, 4, 16, 1, 32,
      [⟨0, 16, .rw⟩, ⟨16, 16, .rw⟩]⟩
  | .monStat => ⟨0x0A, 0x1002, 4, 16, 1, 32,
      [⟨0, 16, .ro⟩, ⟨16, 1, .ro⟩, ⟨17, 1, .w1c⟩, ⟨18, 1, .w1c⟩, ⟨19, 1, .ro⟩, ⟨20, 1, .ro⟩, ⟨21, 1, .w1c⟩, ⟨22, 1, .w1c⟩, ⟨23, 3, .ro⟩]⟩
  | .monCnt => ⟨0x0A, 0x1003, 4, 16, 1, 32,
      [⟨0, 16, .rc⟩, ⟨16, 16, .rc⟩]⟩
  | .devEncCtl => ⟨0x0B, 0x1000, 8, 16, 1, 64,
      [⟨0, 1, .rw⟩, ⟨1, 1, .rw⟩, ⟨2, 1, .rw⟩, ⟨8, 6, .rw⟩, ⟨16, 12, .rw⟩, ⟨32, 20, .rw⟩]⟩
  | .devEncStat => ⟨0x0B, 0x1002, 8, 16, 1, 64,
      [⟨0, 1, .ro⟩, ⟨1, 1, .ro⟩, ⟨2, 1, .ro⟩, ⟨3, 1, .ro⟩, ⟨4, 1, .w1c⟩, ⟨16, 16, .rc⟩, ⟨32, 32, .ro⟩]⟩
  | .devEncCmd => ⟨0x0B, 0x1004, 8, 16, 1, 32,
      [⟨0, 1, .wo⟩]⟩
  | .qCfg => ⟨0x0C, 0x0, 4, 65536, 1, 32,
      [⟨0, 13, .rw⟩, ⟨16, 8, .rw⟩, ⟨24, 8, .rw⟩]⟩
  | .qStat => ⟨0x0C, 0x1, 4, 65536, 1, 32,
      [⟨0, 19, .ro⟩, ⟨19, 1, .ro⟩, ⟨20, 1, .ro⟩, ⟨21, 1, .ro⟩]⟩
  | .qNotice => ⟨0x0C, 0x2, 4, 65536, 1, 32,
      [⟨0, 1, .rc⟩, ⟨1, 1, .rc⟩, ⟨2, 1, .rc⟩, ⟨3, 3, .rc⟩, ⟨8, 19, .rc⟩]⟩
  | .qPop => ⟨0x0C, 0x3, 4, 65536, 1, 80,
      [⟨0, 64, .rc⟩, ⟨64, 8, .rc⟩, ⟨72, 1, .wo⟩]⟩
  | .devPlaceStat => ⟨0x0D, 0x1000, 1, 1, 1, 64,
      [⟨0, 3, .ro⟩, ⟨3, 1, .ro⟩, ⟨4, 4, .ro⟩, ⟨8, 4, .ro⟩, ⟨16, 16, .ro⟩, ⟨32, 8, .ro⟩, ⟨40, 8, .ro⟩, ⟨48, 8, .ro⟩]⟩
  | .devPlanHash => ⟨0x0D, 0x1002, 1, 1, 1, 256,
      [⟨0, 256, .ro⟩]⟩
  | .devPlanLoad => ⟨0x0D, 0x100A, 1, 4, 1, 32,
      [⟨0, 16, .ro⟩, ⟨16, 12, .ro⟩]⟩
  | .devPlanRec => ⟨0x0D, 0x20000, 1, 131072, 1, 32,
      [⟨0, 32, .ro⟩]⟩
  | .axCkStat => ⟨0x0E, 0x0, 64, 48, 1, 32,
      [⟨0, 2, .ro⟩, ⟨2, 3, .ro⟩, ⟨8, 8, .rc⟩, ⟨16, 8, .rc⟩, ⟨24, 8, .ro⟩]⟩
  | .devRedCfg => ⟨0x0E, 0x1000, 1, 1, 1, 64,
      [⟨0, 2, .rwm⟩, ⟨2, 2, .rwm⟩, ⟨4, 3, .rwm⟩, ⟨8, 3, .rwm⟩, ⟨11, 1, .rwm⟩, ⟨12, 1, .rwm⟩, ⟨16, 8, .rwm⟩, ⟨32, 16, .rwm⟩, ⟨48, 16, .rwm⟩]⟩
  | .devRedStat => ⟨0x0E, 0x1002, 1, 1, 1, 32,
      [⟨0, 2, .ro⟩, ⟨2, 1, .ro⟩, ⟨3, 1, .ro⟩, ⟨4, 1, .ro⟩, ⟨5, 1, .ro⟩, ⟨6, 1, .ro⟩, ⟨7, 1, .ro⟩, ⟨8, 1, .ro⟩, ⟨9, 1, .ro⟩, ⟨10, 1, .ro⟩, ⟨11, 1, .ro⟩, ⟨16, 6, .ro⟩]⟩
  | .devRedCnt => ⟨0x0E, 0x1004, 1, 1, 1, 64,
      [⟨0, 16, .rc⟩, ⟨16, 16, .rc⟩, ⟨32, 16, .rc⟩, ⟨48, 16, .rc⟩]⟩
  | .devLaneTest => ⟨0x0E, 0x1006, 1, 1, 1, 32,
      [⟨0, 4, .w1c⟩, ⟨16, 16, .ro⟩]⟩
  | .devSvStat => ⟨0x0F, 0x1000, 1, 1, 1, 64,
      [⟨0, 1, .ro⟩, ⟨1, 1, .ro⟩, ⟨2, 3, .ro⟩, ⟨5, 1, .ro⟩, ⟨6, 1, .ro⟩, ⟨8, 8, .rc⟩, ⟨16, 8, .rc⟩, ⟨32, 32, .ro⟩]⟩
  | .devSvCmd => ⟨0x0F, 0x1002, 1, 1, 1, 32,
      [⟨0, 1, .wo⟩, ⟨1, 1, .wo⟩]⟩
  | .axLedgCfg => ⟨0x10, 0x0, 64, 48, 1, 64,
      [⟨0, 16, .rw⟩, ⟨16, 4, .rw⟩, ⟨32, 16, .rw⟩]⟩
  | .axLedger => ⟨0x10, 0x8, 64, 48, 1, 256,
      [⟨0, 64, .ro⟩, ⟨64, 32, .ro⟩, ⟨96, 32, .ro⟩, ⟨128, 32, .ro⟩, ⟨160, 32, .ro⟩, ⟨192, 32, .ro⟩, ⟨224, 6, .ro⟩]⟩
  | .devLedgCfg => ⟨0x10, 0x1000, 1, 1, 1, 32,
      [⟨0, 12, .rw⟩]⟩
  | .devCalCfg => ⟨0x10, 0x1001, 1, 1, 1, 32,
      [⟨0, 9, .rw⟩, ⟨9, 1, .rw⟩]⟩
  | .devLedgStat => ⟨0x10, 0x1002, 1, 1, 1, 64,
      [⟨0, 1, .ro⟩, ⟨1, 1, .ro⟩, ⟨2, 1, .ro⟩, ⟨3, 1, .ro⟩, ⟨4, 1, .ro⟩, ⟨5, 1, .ro⟩, ⟨8, 3, .ro⟩, ⟨16, 8, .rc⟩, ⟨24, 8, .rc⟩, ⟨32, 32, .ro⟩]⟩
  | .devLedgCmd => ⟨0x10, 0x1004, 1, 1, 1, 32,
      [⟨0, 1, .wo⟩, ⟨1, 1, .wo⟩, ⟨2, 6, .wo⟩]⟩
  | .devLedger => ⟨0x10, 0x1008, 1, 1, 1, 256,
      [⟨0, 32, .ro⟩, ⟨32, 32, .ro⟩, ⟨64, 32, .ro⟩, ⟨96, 32, .ro⟩, ⟨128, 64, .ro⟩, ⟨192, 64, .ro⟩]⟩
  | .devCal => ⟨0x10, 0x1010, 1, 1, 1, 64,
      [⟨0, 32, .ro⟩, ⟨32, 1, .ro⟩, ⟨33, 1, .w1c⟩, ⟨34, 1, .w1c⟩]⟩
  | .devCalEdge => ⟨0x10, 0x1012, 1, 1, 1, 64,
      [⟨0, 64, .ro⟩]⟩
  | .devCalSet => ⟨0x10, 0x1014, 1, 1, 1, 32,
      [⟨0, 32, .wo⟩]⟩
  | .lkLedger => ⟨0x10, 0x1020, 2, 8, 1, 64,
      [⟨0, 32, .ro⟩, ⟨32, 32, .ro⟩]⟩
  | .axTripCfg => ⟨0x11, 0x0, 64, 48, 1, 32,
      [⟨0, 12, .rw⟩, ⟨12, 12, .rw⟩, ⟨24, 1, .rw⟩, ⟨25, 2, .rw⟩]⟩
  | .axTripStat => ⟨0x11, 0x1, 64, 48, 1, 32,
      [⟨0, 1, .ro⟩, ⟨1, 1, .ro⟩, ⟨2, 1, .ro⟩, ⟨3, 4, .ro⟩, ⟨8, 1, .ro⟩, ⟨9, 1, .ro⟩, ⟨10, 1, .ro⟩, ⟨11, 1, .ro⟩, ⟨12, 1, .ro⟩, ⟨13, 1, .ro⟩, ⟨14, 1, .ro⟩, ⟨15, 1, .ro⟩, ⟨16, 1, .ro⟩, ⟨17, 3, .ro⟩, ⟨24, 8, .rc⟩]⟩
  | .axTripCmd => ⟨0x11, 0x2, 64, 48, 1, 32,
      [⟨0, 1, .wo⟩]⟩
  | .devModeCfg => ⟨0x11, 0x1000, 1, 1, 1, 32,
      [⟨0, 1, .rw⟩, ⟨2, 10, .rw⟩, ⟨12, 16, .rw⟩]⟩
  | .devSvCtl => ⟨0x11, 0x1001, 1, 1, 1, 32,
      [⟨0, 16, .rw⟩, ⟨16, 2, .rw⟩]⟩
  | .devPlaceCfg => ⟨0x11, 0x1002, 1, 1, 1, 32,
      [⟨0, 1, .rw⟩]⟩
  | .devTripIn => ⟨0x11, 0x1010, 2, 8, 1, 64,
      [⟨0, 48, .rw⟩, ⟨48, 1, .rw⟩, ⟨49, 1, .rw⟩, ⟨50, 2, .rw⟩, ⟨63, 1, .ro⟩]⟩
  | .devShadow => ⟨0x12, 0x0, 1, 131072, 1, 32,
      [⟨0, 32, .ro⟩]⟩
  | .devTrim => ⟨0x13, 0x0, 1, 4096, 1, 32,
      [⟨0, 32, .ro⟩]⟩

/-- The value every field of an object takes at reset (R398), per-instance values of the field maps apart
(those of PWM_TIM, AUX_CTL are added in `objReset`; those of the queues stand in Machine/Ops.lean). -/
def objResetBase : ObjId → Nat
  | .devId => 0xB04896
  | .devQmStat => 0xC000
  | .lkCfg => 0x100A2001
  | .devFabCfg => 0xA14
  | .devFabRate => 0x100040
  | .axExcCtl => 0x10046000
  | .axExcChk => 0x96320000
  | .devExcGrp => 0x493E
  | .axFeCtl => 0x18780C90
  | .axFeCm => 0x814461E
  | .devAuxCtl => 0x7800
  | .devAuxoCtl => 0x4
  | .devAuxoPar => 0xB71B000010000000000000000000000000000
  | .axFltSq => 0x1E001E0007
  | .axFltSine => 0x1E001E000C
  | .axFltCur => 0x1E001E0010
  | .devFltAux => 0x1E001E001B
  | .axTrkCtl => 0x38E10040C206401
  | .axTrkAmp => 0xA0190000
  | .axLoopCfg => 0x11162084
  | .axMotor => 0x600000801
  | .axSpecCtl => 0x400
  | .axSpecWin => 0x401000
  | .axTelCfg => 0x1
  | .devTrcCtl => 0x800100
  | .axPwmTim => 0xEA6
  | .axPwmLead => 0x8B
  | .axPwmCfg => 0x12C25810
  | .axExcDrv => 0x4040A0064D3
  | .monCtl => 0x10003E80
  | .monStat => 0x10000
  | .devEncCtl => 0x3FF004B0000
  | .devRedCfg => 0x800080000320670
  | .axLedgCfg => 0x7FFF000F0010
  | .devLedgCfg => 0x3C
  | .axTripCfg => 0x18007FF
  | .devModeCfg => 0x640C8
  | .devSvCtl => 0x20000
  | .devPlaceCfg => 0x1
  | _ => 0

/-- The reset value of instance `i` (R398): `PWM_TIM.PHASE` is 165 + 2n (R220) and `AUX_CTL[7]` selects source 3 at
range 1 (R113). -/
def objReset (o : ObjId) (i : Nat) : Nat :=
  match o with
  | .axPwmTim => objResetBase .axPwmTim + (165 + 2 * i) * 2 ^ 32
  | .devAuxCtl => if i = 7 then objResetBase .devAuxCtl + 3 + 1 * 2 ^ 3 else objResetBase .devAuxCtl
  | o => objResetBase o

/-- The kinds of object of a block, in the order of R397. -/
def objsOfBlock : Nat → List ObjId
  | 0 => [.axStatus, .devId, .devMode, .devModeReq, .devResetCause, .devBootStatus, .devTestResult, .devSupply, .devTrimCtl, .devConvLate, .devStatus, .devOtpLock, .devOtpSerial, .devOtpKhash, .devOtpFkey]
  | 1 => [.devQmStat, .devQmCnt, .devEvStat, .devEvCmd, .devEvRaise]
  | 2 => [.lkCfg, .lkStat, .lkNbr, .lkCnt, .lkTot, .devFabCfg, .devFabRate, .devFabStat, .devFabTime, .devFabEpoch, .devFabCnt, .devFabCmd]
  | 3 => [.devPwmCfg]
  | 4 => [.axExcCtl, .axExcChk, .devExcGrp, .devExcPhase]
  | 5 => [.axFeCtl, .axFeCm, .axFeStat, .axFeCnt, .devAuxCtl, .devAuxoCtl, .devAuxoPar]
  | 6 => [.axFltSq, .axFltSine, .axFltCur, .axFltStat, .devFltAux, .devFltStat]
  | 7 => [.axTrkCtl, .axTrkAmp, .axTrkStat, .axTrkCnt, .axMotion, .axTrkMeas, .axPosSet]
  | 8 => [.axMode, .axLoopCfg, .axMotor, .axCoef, .axShift, .axLim, .axGear, .axPairSet, .axLoopStat, .axSpecCtl, .axSpecWin, .axSpecModel, .axSpecStat, .axSpecCnt, .axTelCfg, .devSpecTot, .devTrcCtl, .devTrcTrig, .devTrcStat, .devTrcTime, .devTrcProbe]
  | 9 => [.axPwmTim, .axPwmLead, .axPwmCfg, .devDrvStat]
  | 10 => [.axExcDrv, .axExcDstat, .monCtl, .monVal, .monStat, .monCnt]
  | 11 => [.devEncCtl, .devEncStat, .devEncCmd]
  | 12 => [.qCfg, .qStat, .qNotice, .qPop]
  | 13 => [.devPlaceStat, .devPlanHash, .devPlanLoad, .devPlanRec]
  | 14 => [.axCkStat, .devRedCfg, .devRedStat, .devRedCnt, .devLaneTest]
  | 15 => [.devSvStat, .devSvCmd]
  | 16 => [.axLedgCfg, .axLedger, .devLedgCfg, .devCalCfg, .devLedgStat, .devLedgCmd, .devLedger, .devCal, .devCalEdge, .devCalSet, .lkLedger]
  | 17 => [.axTripCfg, .axTripStat, .axTripCmd, .devModeCfg, .devSvCtl, .devPlaceCfg, .devTripIn]
  | 18 => [.devShadow]
  | 19 => [.devTrim]
  | _ => []

/-- A field named by its object kind, its lowest bit and its width. -/
structure Fld where
  obj : ObjId
  lo : Nat
  w : Nat
  deriving DecidableEq, Repr

namespace F

/- AX[n].STATUS (R400) -/
abbrev axStatus_MODE : Fld := ⟨.axStatus, 0, 3⟩
abbrev axStatus_BOUND : Fld := ⟨.axStatus, 3, 1⟩
abbrev axStatus_TEMPLATE : Fld := ⟨.axStatus, 4, 2⟩
abbrev axStatus_TEST_FAIL : Fld := ⟨.axStatus, 6, 1⟩
abbrev axStatus_TRK_VALID : Fld := ⟨.axStatus, 7, 1⟩
abbrev axStatus_REF : Fld := ⟨.axStatus, 8, 1⟩
abbrev axStatus_TRIP : Fld := ⟨.axStatus, 9, 1⟩
abbrev axStatus_HELD : Fld := ⟨.axStatus, 10, 1⟩
abbrev axStatus_STOPPING : Fld := ⟨.axStatus, 11, 1⟩
abbrev axStatus_LAST_MISS : Fld := ⟨.axStatus, 12, 1⟩
abbrev axStatus_EXC_SINE : Fld := ⟨.axStatus, 13, 1⟩
abbrev axStatus_CM : Fld := ⟨.axStatus, 14, 1⟩
abbrev axStatus_EXC_FAULT : Fld := ⟨.axStatus, 15, 1⟩
abbrev axStatus_UNPLACED : Fld := ⟨.axStatus, 16, 1⟩
/- DEV.ID (R399) -/
abbrev devId_PRODUCT : Fld := ⟨.devId, 0, 16⟩
abbrev devId_REVISION : Fld := ⟨.devId, 16, 16⟩
abbrev devId_SERIAL : Fld := ⟨.devId, 32, 64⟩
abbrev devId_GRADE : Fld := ⟨.devId, 96, 8⟩
/- DEV.MODE (R75) -/
abbrev devMode_MODE : Fld := ⟨.devMode, 0, 4⟩
abbrev devMode_PREV : Fld := ⟨.devMode, 4, 4⟩
abbrev devMode_CAUSE : Fld := ⟨.devMode, 8, 4⟩
abbrev devMode_STANDALONE : Fld := ⟨.devMode, 12, 1⟩
abbrev devMode_FROM_LATCH : Fld := ⟨.devMode, 13, 1⟩
abbrev devMode_BLK_TRIM : Fld := ⟨.devMode, 14, 1⟩
abbrev devMode_BLK_SUPPLY : Fld := ⟨.devMode, 15, 1⟩
abbrev devMode_BLK_PLACE : Fld := ⟨.devMode, 16, 1⟩
abbrev devMode_BLK_ILOCK : Fld := ⟨.devMode, 17, 1⟩
/- DEV.MODE_REQ (R76) -/
abbrev devModeReq_TARGET : Fld := ⟨.devModeReq, 0, 4⟩
abbrev devModeReq_CONFIRM : Fld := ⟨.devModeReq, 16, 16⟩
/- DEV.RESET_CAUSE (R69) -/
abbrev devResetCause_POWER_ON : Fld := ⟨.devResetCause, 0, 1⟩
abbrev devResetCause_SUPPLY : Fld := ⟨.devResetCause, 1, 1⟩
abbrev devResetCause_RAILS : Fld := ⟨.devResetCause, 2, 5⟩
abbrev devResetCause_PORST : Fld := ⟨.devResetCause, 7, 1⟩
abbrev devResetCause_REQUEST : Fld := ⟨.devResetCause, 8, 1⟩
abbrev devResetCause_WATCHDOG : Fld := ⟨.devResetCause, 9, 1⟩
abbrev devResetCause_JTAG : Fld := ⟨.devResetCause, 10, 1⟩
abbrev devResetCause_CLOCK : Fld := ⟨.devResetCause, 11, 1⟩
/- DEV.BOOT_STATUS (R49) -/
abbrev devBootStatus_A_RESULT : Fld := ⟨.devBootStatus, 0, 4⟩
abbrev devBootStatus_B_RESULT : Fld := ⟨.devBootStatus, 4, 4⟩
abbrev devBootStatus_BOOTED : Fld := ⟨.devBootStatus, 8, 2⟩
abbrev devBootStatus_HDR_COPY : Fld := ⟨.devBootStatus, 10, 1⟩
abbrev devBootStatus_HDR_NONE : Fld := ⟨.devBootStatus, 11, 1⟩
abbrev devBootStatus_SIG_CHECKED : Fld := ⟨.devBootStatus, 12, 1⟩
abbrev devBootStatus_SFDP_FB : Fld := ⟨.devBootStatus, 13, 1⟩
abbrev devBootStatus_LOAD_TIME : Fld := ⟨.devBootStatus, 16, 16⟩
/- DEV.TEST_RESULT (R73) -/
abbrev devTestResult_BIST_FAIL : Fld := ⟨.devTestResult, 0, 1⟩
abbrev devTestResult_CMP_FAIL : Fld := ⟨.devTestResult, 1, 1⟩
abbrev devTestResult_REF_FAIL : Fld := ⟨.devTestResult, 2, 1⟩
abbrev devTestResult_SHORT_FAIL : Fld := ⟨.devTestResult, 3, 1⟩
abbrev devTestResult_TRIP_FAIL : Fld := ⟨.devTestResult, 4, 1⟩
abbrev devTestResult_EXC_OPEN : Fld := ⟨.devTestResult, 5, 1⟩
abbrev devTestResult_AUX_FAIL : Fld := ⟨.devTestResult, 6, 1⟩
abbrev devTestResult_FAILED_AXES : Fld := ⟨.devTestResult, 8, 8⟩
abbrev devTestResult_TEST_TIME : Fld := ⟨.devTestResult, 16, 16⟩
/- DEV.SUPPLY (R85) -/
abbrev devSupply_BELOW_WARN : Fld := ⟨.devSupply, 0, 5⟩
abbrev devSupply_WARN_SEEN : Fld := ⟨.devSupply, 8, 5⟩
abbrev devSupply_VBAT_LOW : Fld := ⟨.devSupply, 16, 1⟩
abbrev devSupply_SNAP_BUSY : Fld := ⟨.devSupply, 17, 1⟩
abbrev devSupply_WARN_COUNT : Fld := ⟨.devSupply, 24, 8⟩
/- DEV.TRIM_CTL (R60) -/
abbrev devTrimCtl_BYPASS : Fld := ⟨.devTrimCtl, 0, 1⟩
abbrev devTrimCtl_TRIM_BAD : Fld := ⟨.devTrimCtl, 1, 1⟩
abbrev devTrimCtl_BUSY : Fld := ⟨.devTrimCtl, 2, 1⟩
abbrev devTrimCtl_WEAR_OUT : Fld := ⟨.devTrimCtl, 3, 1⟩
abbrev devTrimCtl_ORIGIN : Fld := ⟨.devTrimCtl, 4, 2⟩
/- DEV.CONV_LATE (R400) -/
abbrev devConvLate_COUNT : Fld := ⟨.devConvLate, 0, 16⟩
/- DEV.STATUS (R400) -/
abbrev devStatus_MODE : Fld := ⟨.devStatus, 0, 4⟩
abbrev devStatus_IMAGE : Fld := ⟨.devStatus, 4, 1⟩
abbrev devStatus_TRIM_BAD : Fld := ⟨.devStatus, 5, 1⟩
abbrev devStatus_PLAN : Fld := ⟨.devStatus, 6, 1⟩
abbrev devStatus_TIME_LOCK : Fld := ⟨.devStatus, 7, 1⟩
abbrev devStatus_SV_RUN : Fld := ⟨.devStatus, 8, 1⟩
abbrev devStatus_LEDGER : Fld := ⟨.devStatus, 9, 1⟩
abbrev devStatus_AXIS_TRIP : Fld := ⟨.devStatus, 10, 1⟩
abbrev devStatus_AXIS_MISS : Fld := ⟨.devStatus, 11, 1⟩
abbrev devStatus_LINK_DOWN : Fld := ⟨.devStatus, 12, 1⟩
abbrev devStatus_RED_OK : Fld := ⟨.devStatus, 13, 1⟩
/- DEV.OTP_LOCK (R46) -/
abbrev devOtpLock_SIG_REQ : Fld := ⟨.devOtpLock, 0, 1⟩
abbrev devOtpLock_FKEY_LOCK : Fld := ⟨.devOtpLock, 1, 1⟩
abbrev devOtpLock_HASH_LOCK : Fld := ⟨.devOtpLock, 2, 1⟩
abbrev devOtpLock_FKEY_WLOCK : Fld := ⟨.devOtpLock, 3, 1⟩
/- DEV.OTP_SERIAL (R46) -/
abbrev devOtpSerial_SERIAL : Fld := ⟨.devOtpSerial, 0, 64⟩
/- DEV.OTP_KHASH (R401) -/
abbrev devOtpKhash_KHASH : Fld := ⟨.devOtpKhash, 0, 256⟩
/- DEV.OTP_FKEY (R401) -/
abbrev devOtpFkey_FKEY : Fld := ⟨.devOtpFkey, 0, 128⟩
/- DEV.QM_STAT (R276) -/
abbrev devQmStat_FREE : Fld := ⟨.devQmStat, 0, 16⟩
abbrev devQmStat_RETIRED : Fld := ⟨.devQmStat, 16, 9⟩
abbrev devQmStat_SWEEP : Fld := ⟨.devQmStat, 25, 1⟩
abbrev devQmStat_REBUILD : Fld := ⟨.devQmStat, 26, 1⟩
abbrev devQmStat_POOL_LOW : Fld := ⟨.devQmStat, 27, 1⟩
abbrev devQmStat_MT_FULL : Fld := ⟨.devQmStat, 28, 1⟩
/- DEV.QM_CNT (R276) -/
abbrev devQmCnt_RESETS : Fld := ⟨.devQmCnt, 0, 16⟩
abbrev devQmCnt_PARITY : Fld := ⟨.devQmCnt, 16, 16⟩
abbrev devQmCnt_DROPS : Fld := ⟨.devQmCnt, 32, 16⟩
abbrev devQmCnt_SWEEP_DROPS : Fld := ⟨.devQmCnt, 48, 16⟩
/- DEV.EV_STAT (R403) -/
abbrev devEvStat_LOG_FILL : Fld := ⟨.devEvStat, 0, 13⟩
abbrev devEvStat_PRE_LOST : Fld := ⟨.devEvStat, 16, 16⟩
/- DEV.EV_CMD (R403) -/
abbrev devEvCmd_DUMP : Fld := ⟨.devEvCmd, 0, 1⟩
/- DEV.EV_RAISE (R403) -/
abbrev devEvRaise_CODE : Fld := ⟨.devEvRaise, 0, 16⟩
abbrev devEvRaise_AXIS : Fld := ⟨.devEvRaise, 16, 8⟩
abbrev devEvRaise_ARG : Fld := ⟨.devEvRaise, 32, 32⟩
/- LK[p].CFG (R309) -/
abbrev lkCfg_EN : Fld := ⟨.lkCfg, 0, 1⟩
abbrev lkCfg_PRESET : Fld := ⟨.lkCfg, 1, 4⟩
abbrev lkCfg_ERR_LIM : Fld := ⟨.lkCfg, 8, 8⟩
abbrev lkCfg_QUAR_T : Fld := ⟨.lkCfg, 16, 8⟩
abbrev lkCfg_MAC_LIM : Fld := ⟨.lkCfg, 24, 8⟩
/- LK[p].STAT (R309) -/
abbrev lkStat_STATE : Fld := ⟨.lkStat, 0, 3⟩
abbrev lkStat_CONGEST : Fld := ⟨.lkStat, 3, 1⟩
abbrev lkStat_DOWN_WHY : Fld := ⟨.lkStat, 4, 4⟩
abbrev lkStat_NBR_NODE : Fld := ⟨.lkStat, 8, 6⟩
abbrev lkStat_NBR_PORT : Fld := ⟨.lkStat, 14, 3⟩
abbrev lkStat_TRAINED : Fld := ⟨.lkStat, 17, 1⟩
abbrev lkStat_PARENT : Fld := ⟨.lkStat, 18, 1⟩
abbrev lkStat_LAT : Fld := ⟨.lkStat, 19, 13⟩
/- LK[p].NBR (R309) -/
abbrev lkNbr_SERIAL : Fld := ⟨.lkNbr, 0, 64⟩
/- LK[p].CNT (R309) -/
abbrev lkCnt_CRC_ERR : Fld := ⟨.lkCnt, 0, 16⟩
abbrev lkCnt_REPLAYS : Fld := ⟨.lkCnt, 16, 16⟩
abbrev lkCnt_RT_EXP : Fld := ⟨.lkCnt, 32, 16⟩
abbrev lkCnt_MALFORMED : Fld := ⟨.lkCnt, 48, 16⟩
abbrev lkCnt_MAC_FAIL : Fld := ⟨.lkCnt, 64, 16⟩
abbrev lkCnt_RATE_DROP : Fld := ⟨.lkCnt, 80, 16⟩
abbrev lkCnt_STALE : Fld := ⟨.lkCnt, 96, 16⟩
abbrev lkCnt_AUTH_FAIL : Fld := ⟨.lkCnt, 112, 16⟩
abbrev lkCnt_DOWNS : Fld := ⟨.lkCnt, 128, 16⟩
/- LK[p].TOT (R309) -/
abbrev lkTot_CRC_TOT : Fld := ⟨.lkTot, 0, 32⟩
abbrev lkTot_REPLAY_TOT : Fld := ⟨.lkTot, 32, 32⟩
/- DEV.FAB_CFG (R309) -/
abbrev devFabCfg_RT_LIFE : Fld := ⟨.devFabCfg, 0, 8⟩
abbrev devFabCfg_TWIN : Fld := ⟨.devFabCfg, 8, 8⟩
abbrev devFabCfg_SYNC_PER : Fld := ⟨.devFabCfg, 16, 16⟩
/- DEV.FAB_RATE (R309) -/
abbrev devFabRate_CTL_RATE : Fld := ⟨.devFabRate, 0, 16⟩
abbrev devFabRate_MGMT_RATE : Fld := ⟨.devFabRate, 16, 16⟩
/- DEV.FAB_STAT (R309) -/
abbrev devFabStat_NODE_ID : Fld := ⟨.devFabStat, 0, 6⟩
abbrev devFabStat_ID_VALID : Fld := ⟨.devFabStat, 6, 1⟩
abbrev devFabStat_DUP : Fld := ⟨.devFabStat, 7, 1⟩
abbrev devFabStat_GM : Fld := ⟨.devFabStat, 8, 6⟩
abbrev devFabStat_TIME_LOCK : Fld := ⟨.devFabStat, 14, 1⟩
abbrev devFabStat_TIME_HOLD : Fld := ⟨.devFabStat, 15, 1⟩
abbrev devFabStat_NODES : Fld := ⟨.devFabStat, 16, 7⟩
abbrev devFabStat_HOPS_GM : Fld := ⟨.devFabStat, 23, 4⟩
abbrev devFabStat_SETTLED : Fld := ⟨.devFabStat, 27, 1⟩
/- DEV.FAB_TIME (R309) -/
abbrev devFabTime_TIME : Fld := ⟨.devFabTime, 0, 64⟩
/- DEV.FAB_EPOCH (R309) -/
abbrev devFabEpoch_EPOCH : Fld := ⟨.devFabEpoch, 0, 48⟩
abbrev devFabEpoch_SYNC_NO : Fld := ⟨.devFabEpoch, 48, 16⟩
/- DEV.FAB_CNT (R309) -/
abbrev devFabCnt_SYNC_LATE : Fld := ⟨.devFabCnt, 0, 16⟩
abbrev devFabCnt_DUP : Fld := ⟨.devFabCnt, 16, 16⟩
abbrev devFabCnt_REPLAY_REJ : Fld := ⟨.devFabCnt, 32, 16⟩
abbrev devFabCnt_FLOW_FULL : Fld := ⟨.devFabCnt, 48, 16⟩
abbrev devFabCnt_NO_ROUTE : Fld := ⟨.devFabCnt, 64, 16⟩
abbrev devFabCnt_BAD_Q : Fld := ⟨.devFabCnt, 80, 16⟩
/- DEV.FAB_CMD (R309) -/
abbrev devFabCmd_SYNC : Fld := ⟨.devFabCmd, 0, 1⟩
abbrev devFabCmd_UNQUAR : Fld := ⟨.devFabCmd, 8, 8⟩
/- DEV.PWM_CFG (R236) -/
abbrev devPwmCfg_SSC : Fld := ⟨.devPwmCfg, 0, 2⟩
/- AX[n].EXC_CTL (R436) -/
abbrev axExcCtl_GROUP : Fld := ⟨.axExcCtl, 0, 2⟩
abbrev axExcCtl_EN : Fld := ⟨.axExcCtl, 2, 1⟩
abbrev axExcCtl_SENSE : Fld := ⟨.axExcCtl, 3, 1⟩
abbrev axExcCtl_MODE : Fld := ⟨.axExcCtl, 4, 2⟩
abbrev axExcCtl_SQ_RETRY : Fld := ⟨.axExcCtl, 6, 1⟩
abbrev axExcCtl_PROOF : Fld := ⟨.axExcCtl, 8, 8⟩
abbrev axExcCtl_FAIL_N : Fld := ⟨.axExcCtl, 16, 8⟩
abbrev axExcCtl_RING_MAX : Fld := ⟨.axExcCtl, 24, 8⟩
/- AX[n].EXC_CHK (R436) -/
abbrev axExcChk_A_NOM : Fld := ⟨.axExcChk, 0, 16⟩
abbrev axExcChk_AMIN : Fld := ⟨.axExcChk, 16, 8⟩
abbrev axExcChk_AMAX : Fld := ⟨.axExcChk, 24, 8⟩
/- DEV.EXC_GRP[g] (R89) -/
abbrev devExcGrp_HALF_PERIOD : Fld := ⟨.devExcGrp, 0, 19⟩
abbrev devExcGrp_EN : Fld := ⟨.devExcGrp, 31, 1⟩
/- DEV.EXC_PHASE[g] (R89) -/
abbrev devExcPhase_PHASE : Fld := ⟨.devExcPhase, 0, 20⟩
/- AX[n].FE_CTL (R112) -/
abbrev axFeCtl_RSRC : Fld := ⟨.axFeCtl, 0, 2⟩
abbrev axFeCtl_ISRC : Fld := ⟨.axFeCtl, 2, 2⟩
abbrev axFeCtl_R_AUTO : Fld := ⟨.axFeCtl, 4, 1⟩
abbrev axFeCtl_R_FIX : Fld := ⟨.axFeCtl, 5, 2⟩
abbrev axFeCtl_I_AUTO : Fld := ⟨.axFeCtl, 7, 1⟩
abbrev axFeCtl_I_FIX : Fld := ⟨.axFeCtl, 8, 2⟩
abbrev axFeCtl_BIAS_R : Fld := ⟨.axFeCtl, 10, 1⟩
abbrev axFeCtl_BIAS_I : Fld := ⟨.axFeCtl, 11, 1⟩
abbrev axFeCtl_MUX_PW : Fld := ⟨.axFeCtl, 16, 8⟩
abbrev axFeCtl_RNG_PW : Fld := ⟨.axFeCtl, 24, 8⟩
/- AX[n].FE_CM (R112) -/
abbrev axFeCm_CM_LO : Fld := ⟨.axFeCm, 0, 7⟩
abbrev axFeCm_CM_HI : Fld := ⟨.axFeCm, 8, 7⟩
abbrev axFeCm_CM_QUAL : Fld := ⟨.axFeCm, 16, 8⟩
abbrev axFeCm_I_DN_N : Fld := ⟨.axFeCm, 24, 8⟩
/- AX[n].FE_STAT (R112) -/
abbrev axFeStat_R_RANGE : Fld := ⟨.axFeStat, 0, 2⟩
abbrev axFeStat_I_RANGE : Fld := ⟨.axFeStat, 2, 2⟩
abbrev axFeStat_CM : Fld := ⟨.axFeStat, 4, 4⟩
abbrev axFeStat_CLAMP : Fld := ⟨.axFeStat, 8, 4⟩
abbrev axFeStat_EXC_SINE : Fld := ⟨.axFeStat, 12, 1⟩
abbrev axFeStat_SQ_FAIL : Fld := ⟨.axFeStat, 13, 1⟩
abbrev axFeStat_EXC_LOW : Fld := ⟨.axFeStat, 14, 1⟩
abbrev axFeStat_RING : Fld := ⟨.axFeStat, 15, 1⟩
abbrev axFeStat_R_CHANGES : Fld := ⟨.axFeStat, 16, 8⟩
/- AX[n].FE_CNT (R112) -/
abbrev axFeCnt_CLIP_R : Fld := ⟨.axFeCnt, 0, 16⟩
abbrev axFeCnt_NV_UPD : Fld := ⟨.axFeCnt, 16, 16⟩
/- DEV.AUX_CTL[k] (R113) -/
abbrev devAuxCtl_SRC : Fld := ⟨.devAuxCtl, 0, 3⟩
abbrev devAuxCtl_RANGE : Fld := ⟨.devAuxCtl, 3, 2⟩
abbrev devAuxCtl_PW : Fld := ⟨.devAuxCtl, 8, 8⟩
abbrev devAuxCtl_CLAMP : Fld := ⟨.devAuxCtl, 16, 1⟩
/- DEV.AUXO_CTL[k] (R115) -/
abbrev devAuxoCtl_EN : Fld := ⟨.devAuxoCtl, 0, 1⟩
abbrev devAuxoCtl_MODE : Fld := ⟨.devAuxoCtl, 1, 1⟩
abbrev devAuxoCtl_FAULT : Fld := ⟨.devAuxoCtl, 2, 2⟩
abbrev devAuxoCtl_KIND : Fld := ⟨.devAuxoCtl, 8, 4⟩
abbrev devAuxoCtl_INDEX : Fld := ⟨.devAuxoCtl, 12, 6⟩
abbrev devAuxoCtl_SHIFT : Fld := ⟨.devAuxoCtl, 18, 5⟩
abbrev devAuxoCtl_FAULTED : Fld := ⟨.devAuxoCtl, 23, 1⟩
/- DEV.AUXO_PAR[k] (R115) -/
abbrev devAuxoPar_OFFSET : Fld := ⟨.devAuxoPar, 0, 32⟩
abbrev devAuxoPar_GAIN : Fld := ⟨.devAuxoPar, 32, 32⟩
abbrev devAuxoPar_LIM_LO : Fld := ⟨.devAuxoPar, 64, 24⟩
abbrev devAuxoPar_LIM_HI : Fld := ⟨.devAuxoPar, 96, 24⟩
abbrev devAuxoPar_PERIOD : Fld := ⟨.devAuxoPar, 128, 20⟩
abbrev devAuxoPar_FAULT_WORD : Fld := ⟨.devAuxoPar, 160, 24⟩
/- AX[n].FLT_SQ (R134) -/
abbrev axFltSq_RESP1 : Fld := ⟨.axFltSq, 0, 5⟩
abbrev axFltSq_SHIFT1 : Fld := ⟨.axFltSq, 5, 4⟩
abbrev axFltSq_PARAM1 : Fld := ⟨.axFltSq, 9, 7⟩
abbrev axFltSq_RESP2 : Fld := ⟨.axFltSq, 16, 5⟩
abbrev axFltSq_SHIFT2 : Fld := ⟨.axFltSq, 21, 4⟩
abbrev axFltSq_PARAM2 : Fld := ⟨.axFltSq, 25, 7⟩
abbrev axFltSq_RESP3 : Fld := ⟨.axFltSq, 32, 5⟩
abbrev axFltSq_SHIFT3 : Fld := ⟨.axFltSq, 37, 4⟩
abbrev axFltSq_PARAM3 : Fld := ⟨.axFltSq, 41, 7⟩
/- AX[n].FLT_SINE (R134) -/
abbrev axFltSine_RESP1 : Fld := ⟨.axFltSine, 0, 5⟩
abbrev axFltSine_SHIFT1 : Fld := ⟨.axFltSine, 5, 4⟩
abbrev axFltSine_PARAM1 : Fld := ⟨.axFltSine, 9, 7⟩
abbrev axFltSine_RESP2 : Fld := ⟨.axFltSine, 16, 5⟩
abbrev axFltSine_SHIFT2 : Fld := ⟨.axFltSine, 21, 4⟩
abbrev axFltSine_PARAM2 : Fld := ⟨.axFltSine, 25, 7⟩
abbrev axFltSine_RESP3 : Fld := ⟨.axFltSine, 32, 5⟩
abbrev axFltSine_SHIFT3 : Fld := ⟨.axFltSine, 37, 4⟩
abbrev axFltSine_PARAM3 : Fld := ⟨.axFltSine, 41, 7⟩
/- AX[n].FLT_CUR (R134) -/
abbrev axFltCur_RESP1 : Fld := ⟨.axFltCur, 0, 5⟩
abbrev axFltCur_SHIFT1 : Fld := ⟨.axFltCur, 5, 4⟩
abbrev axFltCur_PARAM1 : Fld := ⟨.axFltCur, 9, 7⟩
abbrev axFltCur_RESP2 : Fld := ⟨.axFltCur, 16, 5⟩
abbrev axFltCur_SHIFT2 : Fld := ⟨.axFltCur, 21, 4⟩
abbrev axFltCur_PARAM2 : Fld := ⟨.axFltCur, 25, 7⟩
abbrev axFltCur_RESP3 : Fld := ⟨.axFltCur, 32, 5⟩
abbrev axFltCur_SHIFT3 : Fld := ⟨.axFltCur, 37, 4⟩
abbrev axFltCur_PARAM3 : Fld := ⟨.axFltCur, 41, 7⟩
/- AX[n].FLT_STAT (R135) -/
abbrev axFltStat_R_SETTLING : Fld := ⟨.axFltStat, 0, 1⟩
abbrev axFltStat_I_SETTLING : Fld := ⟨.axFltStat, 1, 1⟩
abbrev axFltStat_R_PENDING : Fld := ⟨.axFltStat, 2, 1⟩
abbrev axFltStat_R_DCB_FROZEN : Fld := ⟨.axFltStat, 3, 1⟩
abbrev axFltStat_SAT : Fld := ⟨.axFltStat, 8, 8⟩
abbrev axFltStat_CLEARS : Fld := ⟨.axFltStat, 16, 16⟩
/- DEV.FLT_AUX[k] (R134) -/
abbrev devFltAux_RESP1 : Fld := ⟨.devFltAux, 0, 5⟩
abbrev devFltAux_SHIFT1 : Fld := ⟨.devFltAux, 5, 4⟩
abbrev devFltAux_PARAM1 : Fld := ⟨.devFltAux, 9, 7⟩
abbrev devFltAux_RESP2 : Fld := ⟨.devFltAux, 16, 5⟩
abbrev devFltAux_SHIFT2 : Fld := ⟨.devFltAux, 21, 4⟩
abbrev devFltAux_PARAM2 : Fld := ⟨.devFltAux, 25, 7⟩
abbrev devFltAux_RESP3 : Fld := ⟨.devFltAux, 32, 5⟩
abbrev devFltAux_SHIFT3 : Fld := ⟨.devFltAux, 37, 4⟩
abbrev devFltAux_PARAM3 : Fld := ⟨.devFltAux, 41, 7⟩
/- DEV.FLT_STAT (R135) -/
abbrev devFltStat_AUX_SETTLING : Fld := ⟨.devFltStat, 0, 8⟩
abbrev devFltStat_AUX_SAT : Fld := ⟨.devFltStat, 8, 8⟩
abbrev devFltStat_REALIGNED : Fld := ⟨.devFltStat, 16, 1⟩
/- AX[n].TRK_CTL (R155) -/
abbrev axTrkCtl_RES_PP : Fld := ⟨.axTrkCtl, 0, 5⟩
abbrev axTrkCtl_RTRIM_OFF : Fld := ⟨.axTrkCtl, 5, 1⟩
abbrev axTrkCtl_BW : Fld := ⟨.axTrkCtl, 8, 10⟩
abbrev axTrkCtl_COAST : Fld := ⟨.axTrkCtl, 18, 8⟩
abbrev axTrkCtl_ACC_K : Fld := ⟨.axTrkCtl, 26, 4⟩
abbrev axTrkCtl_TE_N : Fld := ⟨.axTrkCtl, 32, 8⟩
abbrev axTrkCtl_LOCK_N : Fld := ⟨.axTrkCtl, 40, 8⟩
abbrev axTrkCtl_TE_WIN : Fld := ⟨.axTrkCtl, 48, 16⟩
/- AX[n].TRK_AMP (R155) -/
abbrev axTrkAmp_AMP_NOM : Fld := ⟨.axTrkAmp, 0, 16⟩
abbrev axTrkAmp_AMP_LO : Fld := ⟨.axTrkAmp, 16, 8⟩
abbrev axTrkAmp_AMP_HI : Fld := ⟨.axTrkAmp, 24, 8⟩
/- AX[n].TRK_STAT (R155) -/
abbrev axTrkStat_VALID : Fld := ⟨.axTrkStat, 0, 1⟩
abbrev axTrkStat_ACQUIRING : Fld := ⟨.axTrkStat, 1, 1⟩
abbrev axTrkStat_COASTING : Fld := ⟨.axTrkStat, 2, 1⟩
abbrev axTrkStat_REF : Fld := ⟨.axTrkStat, 3, 1⟩
abbrev axTrkStat_BW_CLAMP : Fld := ⟨.axTrkStat, 4, 1⟩
abbrev axTrkStat_AMP_FAIL : Fld := ⟨.axTrkStat, 5, 1⟩
abbrev axTrkStat_TE_FAIL : Fld := ⟨.axTrkStat, 6, 1⟩
abbrev axTrkStat_FALSE_LOCK : Fld := ⟨.axTrkStat, 7, 1⟩
abbrev axTrkStat_OVERSPEED : Fld := ⟨.axTrkStat, 8, 1⟩
abbrev axTrkStat_LOST : Fld := ⟨.axTrkStat, 9, 1⟩
abbrev axTrkStat_TURN_WRAP : Fld := ⟨.axTrkStat, 10, 1⟩
abbrev axTrkStat_COAST_CNT : Fld := ⟨.axTrkStat, 16, 8⟩
abbrev axTrkStat_TE_CNT : Fld := ⟨.axTrkStat, 24, 8⟩
/- AX[n].TRK_CNT (R155) -/
abbrev axTrkCnt_COASTS : Fld := ⟨.axTrkCnt, 0, 16⟩
abbrev axTrkCnt_LOSSES : Fld := ⟨.axTrkCnt, 16, 16⟩
/- AX[n].MOTION (R155) -/
abbrev axMotion_ANGLE : Fld := ⟨.axMotion, 0, 32⟩
abbrev axMotion_SPEED : Fld := ⟨.axMotion, 32, 32⟩
abbrev axMotion_ACCEL : Fld := ⟨.axMotion, 64, 32⟩
abbrev axMotion_POS : Fld := ⟨.axMotion, 96, 64⟩
/- AX[n].TRK_MEAS (R155) -/
abbrev axTrkMeas_S : Fld := ⟨.axTrkMeas, 0, 32⟩
abbrev axTrkMeas_C : Fld := ⟨.axTrkMeas, 32, 32⟩
/- AX[n].POS_SET (R155) -/
abbrev axPosSet_POS : Fld := ⟨.axPosSet, 0, 64⟩
/- AX[n].AX_MODE (R193) -/
abbrev axMode_MODE : Fld := ⟨.axMode, 0, 3⟩
abbrev axMode_REQ : Fld := ⟨.axMode, 4, 3⟩
abbrev axMode_PREV : Fld := ⟨.axMode, 8, 3⟩
abbrev axMode_CAUSE : Fld := ⟨.axMode, 12, 4⟩
abbrev axMode_HELD : Fld := ⟨.axMode, 16, 1⟩
abbrev axMode_STOPPING : Fld := ⟨.axMode, 17, 1⟩
abbrev axMode_GEAR_LOST : Fld := ⟨.axMode, 18, 1⟩
/- AX[n].LOOP_CFG (R193) -/
abbrev axLoopCfg_TEMPLATE : Fld := ⟨.axLoopCfg, 0, 2⟩
abbrev axLoopCfg_START : Fld := ⟨.axLoopCfg, 2, 3⟩
abbrev axLoopCfg_VDIV : Fld := ⟨.axLoopCfg, 5, 6⟩
abbrev axLoopCfg_PDIV : Fld := ⟨.axLoopCfg, 11, 6⟩
abbrev axLoopCfg_VD_MEAS : Fld := ⟨.axLoopCfg, 17, 1⟩
abbrev axLoopCfg_PD_MEAS : Fld := ⟨.axLoopCfg, 18, 1⟩
abbrev axLoopCfg_VDF_K : Fld := ⟨.axLoopCfg, 19, 4⟩
abbrev axLoopCfg_PDF_K : Fld := ⟨.axLoopCfg, 23, 4⟩
abbrev axLoopCfg_HOLD_KIND : Fld := ⟨.axLoopCfg, 27, 1⟩
abbrev axLoopCfg_AW : Fld := ⟨.axLoopCfg, 28, 1⟩
abbrev axLoopCfg_PL_REACT : Fld := ⟨.axLoopCfg, 29, 2⟩
/- AX[n].MOTOR (R193) -/
abbrev axMotor_MOT_PP : Fld := ⟨.axMotor, 0, 5⟩
abbrev axMotor_PL_N : Fld := ⟨.axMotor, 8, 8⟩
abbrev axMotor_COMM_OFS : Fld := ⟨.axMotor, 16, 16⟩
abbrev axMotor_LEAK_K : Fld := ⟨.axMotor, 32, 4⟩
/- AX[n].COEF[j] (R193) -/
abbrev axCoef_VALUE : Fld := ⟨.axCoef, 0, 32⟩
/- AX[n].SHIFT[g] (R193) -/
abbrev axShift_SH0 : Fld := ⟨.axShift, 0, 5⟩
abbrev axShift_SH1 : Fld := ⟨.axShift, 8, 5⟩
abbrev axShift_SH2 : Fld := ⟨.axShift, 16, 5⟩
abbrev axShift_SH3 : Fld := ⟨.axShift, 24, 5⟩
/- AX[n].LIM[j] (R193) -/
abbrev axLim_VALUE : Fld := ⟨.axLim, 0, 32⟩
/- AX[n].GEAR (R193) -/
abbrev axGear_M_AXIS : Fld := ⟨.axGear, 0, 6⟩
abbrev axGear_M_NODE : Fld := ⟨.axGear, 6, 6⟩
abbrev axGear_RATIO : Fld := ⟨.axGear, 32, 32⟩
/- AX[n].PAIR_SET (R193) -/
abbrev axPairSet_P_A : Fld := ⟨.axPairSet, 0, 64⟩
abbrev axPairSet_P_B : Fld := ⟨.axPairSet, 64, 64⟩
/- AX[n].LOOP_STAT (R193) -/
abbrev axLoopStat_U_SAT : Fld := ⟨.axLoopStat, 0, 1⟩
abbrev axLoopStat_V_SAT : Fld := ⟨.axLoopStat, 1, 1⟩
abbrev axLoopStat_P_SAT : Fld := ⟨.axLoopStat, 2, 1⟩
abbrev axLoopStat_LIM_ACT : Fld := ⟨.axLoopStat, 3, 1⟩
abbrev axLoopStat_PLAUS : Fld := ⟨.axLoopStat, 4, 1⟩
abbrev axLoopStat_SKEW : Fld := ⟨.axLoopStat, 5, 1⟩
abbrev axLoopStat_PEND : Fld := ⟨.axLoopStat, 8, 4⟩
abbrev axLoopStat_SP_DISC : Fld := ⟨.axLoopStat, 16, 8⟩
abbrev axLoopStat_PLAUS_CNT : Fld := ⟨.axLoopStat, 24, 8⟩
/- AX[n].SPEC_CTL (R217) -/
abbrev axSpecCtl_EXACT : Fld := ⟨.axSpecCtl, 0, 1⟩
abbrev axSpecCtl_MISS_LIMIT : Fld := ⟨.axSpecCtl, 8, 8⟩
/- AX[n].SPEC_WIN (R217) -/
abbrev axSpecWin_IWIN : Fld := ⟨.axSpecWin, 0, 16⟩
abbrev axSpecWin_AWIN : Fld := ⟨.axSpecWin, 16, 13⟩
/- AX[n].SPEC_MODEL (R217) -/
abbrev axSpecModel_KM : Fld := ⟨.axSpecModel, 0, 16⟩
abbrev axSpecModel_SH_KM : Fld := ⟨.axSpecModel, 16, 5⟩
abbrev axSpecModel_KR : Fld := ⟨.axSpecModel, 32, 16⟩
abbrev axSpecModel_SH_KR : Fld := ⟨.axSpecModel, 48, 5⟩
/- AX[n].SPEC_STAT (R217) -/
abbrev axSpecStat_EXACT_ACT : Fld := ⟨.axSpecStat, 0, 1⟩
abbrev axSpecStat_LAST_MISS : Fld := ⟨.axSpecStat, 1, 1⟩
abbrev axSpecStat_SQ_CAUSE : Fld := ⟨.axSpecStat, 2, 3⟩
abbrev axSpecStat_MS_CAUSE : Fld := ⟨.axSpecStat, 5, 3⟩
abbrev axSpecStat_MISS_RUN : Fld := ⟨.axSpecStat, 8, 8⟩
abbrev axSpecStat_PAIR_RUN : Fld := ⟨.axSpecStat, 16, 8⟩
abbrev axSpecStat_EQV : Fld := ⟨.axSpecStat, 24, 1⟩
/- AX[n].SPEC_CNT (R217) -/
abbrev axSpecCnt_SQUASHES : Fld := ⟨.axSpecCnt, 0, 16⟩
abbrev axSpecCnt_LATE : Fld := ⟨.axSpecCnt, 16, 16⟩
abbrev axSpecCnt_MISSES : Fld := ⟨.axSpecCnt, 32, 16⟩
abbrev axSpecCnt_EQV_ERR : Fld := ⟨.axSpecCnt, 48, 8⟩
/- AX[n].TEL_CFG (R402) -/
abbrev axTelCfg_D : Fld := ⟨.axTelCfg, 0, 16⟩
abbrev axTelCfg_EN : Fld := ⟨.axTelCfg, 16, 1⟩
/- DEV.SPEC_TOT (R217) -/
abbrev devSpecTot_SQUASH_TOT : Fld := ⟨.devSpecTot, 0, 32⟩
abbrev devSpecTot_MISS_TOT : Fld := ⟨.devSpecTot, 32, 32⟩
/- DEV.TRC_CTL (R193) -/
abbrev devTrcCtl_ARM : Fld := ⟨.devTrcCtl, 0, 1⟩
abbrev devTrcCtl_STOP : Fld := ⟨.devTrcCtl, 1, 1⟩
abbrev devTrcCtl_AUTO : Fld := ⟨.devTrcCtl, 2, 1⟩
abbrev devTrcCtl_DEPTH : Fld := ⟨.devTrcCtl, 4, 12⟩
abbrev devTrcCtl_PRE : Fld := ⟨.devTrcCtl, 16, 8⟩
/- DEV.TRC_TRIG (R193) -/
abbrev devTrcTrig_KIND : Fld := ⟨.devTrcTrig, 0, 2⟩
abbrev devTrcTrig_EDGE : Fld := ⟨.devTrcTrig, 2, 2⟩
abbrev devTrcTrig_PROBE : Fld := ⟨.devTrcTrig, 4, 6⟩
abbrev devTrcTrig_EVENT : Fld := ⟨.devTrcTrig, 16, 16⟩
abbrev devTrcTrig_LEVEL : Fld := ⟨.devTrcTrig, 32, 32⟩
/- DEV.TRC_STAT (R193) -/
abbrev devTrcStat_STATE : Fld := ⟨.devTrcStat, 0, 2⟩
abbrev devTrcStat_PRE_SHORT : Fld := ⟨.devTrcStat, 2, 1⟩
/- DEV.TRC_TIME (R193) -/
abbrev devTrcTime_TRIG_TIME : Fld := ⟨.devTrcTime, 0, 64⟩
/- DEV.TRC_PROBE[j] (R193) -/
abbrev devTrcProbe_EN : Fld := ⟨.devTrcProbe, 0, 1⟩
abbrev devTrcProbe_W32 : Fld := ⟨.devTrcProbe, 1, 1⟩
abbrev devTrcProbe_CLK : Fld := ⟨.devTrcProbe, 2, 3⟩
abbrev devTrcProbe_NODE : Fld := ⟨.devTrcProbe, 5, 5⟩
abbrev devTrcProbe_INDEX : Fld := ⟨.devTrcProbe, 10, 8⟩
abbrev devTrcProbe_DIV_M1 : Fld := ⟨.devTrcProbe, 18, 14⟩
/- AX[n].PWM_TIM (R236) -/
abbrev axPwmTim_HALF : Fld := ⟨.axPwmTim, 0, 17⟩
abbrev axPwmTim_PHASE : Fld := ⟨.axPwmTim, 32, 18⟩
/- AX[n].PWM_LEAD (R236) -/
abbrev axPwmLead_L : Fld := ⟨.axPwmLead, 0, 16⟩
/- AX[n].PWM_CFG (R236) -/
abbrev axPwmCfg_DUAL : Fld := ⟨.axPwmCfg, 0, 1⟩
abbrev axPwmCfg_SAFE : Fld := ⟨.axPwmCfg, 1, 2⟩
abbrev axPwmCfg_TDT : Fld := ⟨.axPwmCfg, 3, 2⟩
abbrev axPwmCfg_DT : Fld := ⟨.axPwmCfg, 8, 13⟩
abbrev axPwmCfg_MINP : Fld := ⟨.axPwmCfg, 21, 11⟩
/- DEV.DRV_STAT (R236) -/
abbrev devDrvStat_EN : Fld := ⟨.devDrvStat, 0, 4⟩
abbrev devDrvStat_MON : Fld := ⟨.devDrvStat, 4, 4⟩
abbrev devDrvStat_MON_ERR : Fld := ⟨.devDrvStat, 8, 4⟩
abbrev devDrvStat_DIS : Fld := ⟨.devDrvStat, 12, 4⟩
/- AX[n].EXC_DRV (R245) -/
abbrev axExcDrv_STEP : Fld := ⟨.axExcDrv, 0, 3⟩
abbrev axExcDrv_BOOST : Fld := ⟨.axExcDrv, 3, 1⟩
abbrev axExcDrv_SLEW : Fld := ⟨.axExcDrv, 4, 2⟩
abbrev axExcDrv_ILIM : Fld := ⟨.axExcDrv, 6, 2⟩
abbrev axExcDrv_SINE_AMP : Fld := ⟨.axExcDrv, 8, 9⟩
abbrev axExcDrv_REACT : Fld := ⟨.axExcDrv, 17, 1⟩
abbrev axExcDrv_OPEN_MIN : Fld := ⟨.axExcDrv, 24, 8⟩
abbrev axExcDrv_OW_N : Fld := ⟨.axExcDrv, 32, 8⟩
abbrev axExcDrv_CMP_N : Fld := ⟨.axExcDrv, 40, 8⟩
/- AX[n].EXC_DSTAT (R245) -/
abbrev axExcDstat_OPEN : Fld := ⟨.axExcDstat, 0, 1⟩
abbrev axExcDstat_COMPL : Fld := ⟨.axExcDstat, 1, 1⟩
abbrev axExcDstat_ILIM_ACT : Fld := ⟨.axExcDstat, 2, 1⟩
abbrev axExcDstat_STOPPED : Fld := ⟨.axExcDstat, 3, 1⟩
abbrev axExcDstat_OPEN_SEEN : Fld := ⟨.axExcDstat, 4, 1⟩
abbrev axExcDstat_COMPL_SEEN : Fld := ⟨.axExcDstat, 5, 1⟩
abbrev axExcDstat_OW_CNT : Fld := ⟨.axExcDstat, 8, 8⟩
abbrev axExcDstat_CMP_CNT : Fld := ⟨.axExcDstat, 16, 8⟩
abbrev axExcDstat_I_PEAK : Fld := ⟨.axExcDstat, 24, 8⟩
/- MON[c].CTL (R252) -/
abbrev monCtl_SPAN : Fld := ⟨.monCtl, 0, 2⟩
abbrev monCtl_EN : Fld := ⟨.monCtl, 2, 1⟩
abbrev monCtl_PERIOD : Fld := ⟨.monCtl, 4, 10⟩
abbrev monCtl_QID : Fld := ⟨.monCtl, 16, 16⟩
/- MON[c].VAL (R252) -/
abbrev monVal_PU_VAL : Fld := ⟨.monVal, 0, 16⟩
abbrev monVal_FAULT_VAL : Fld := ⟨.monVal, 16, 16⟩
/- MON[c].STAT (R252) -/
abbrev monStat_LAST : Fld := ⟨.monStat, 0, 16⟩
abbrev monStat_SAFE : Fld := ⟨.monStat, 16, 1⟩
abbrev monStat_UNDER : Fld := ⟨.monStat, 17, 1⟩
abbrev monStat_POISON : Fld := ⟨.monStat, 18, 1⟩
abbrev monStat_OPEN : Fld := ⟨.monStat, 19, 1⟩
abbrev monStat_COMPL : Fld := ⟨.monStat, 20, 1⟩
abbrev monStat_OPEN_SEEN : Fld := ⟨.monStat, 21, 1⟩
abbrev monStat_COMPL_SEEN : Fld := ⟨.monStat, 22, 1⟩
abbrev monStat_STATE : Fld := ⟨.monStat, 23, 3⟩
/- MON[c].CNT (R252) -/
abbrev monCnt_UNDERS : Fld := ⟨.monCnt, 0, 16⟩
abbrev monCnt_GAPS : Fld := ⟨.monCnt, 16, 16⟩
/- DEV.ENC_CTL[k] (R160) -/
abbrev devEncCtl_EN : Fld := ⟨.devEncCtl, 0, 1⟩
abbrev devEncCtl_INV : Fld := ⟨.devEncCtl, 1, 1⟩
abbrev devEncCtl_Z_OFF : Fld := ⟨.devEncCtl, 2, 1⟩
abbrev devEncCtl_AXIS : Fld := ⟨.devEncCtl, 8, 6⟩
abbrev devEncCtl_SEP : Fld := ⟨.devEncCtl, 16, 12⟩
abbrev devEncCtl_LINES_M1 : Fld := ⟨.devEncCtl, 32, 20⟩
/- DEV.ENC_STAT[k] (R160) -/
abbrev devEncStat_LIVE : Fld := ⟨.devEncStat, 0, 1⟩
abbrev devEncStat_WAIT : Fld := ⟨.devEncStat, 1, 1⟩
abbrev devEncStat_HOLD_NT : Fld := ⟨.devEncStat, 2, 1⟩
abbrev devEncStat_OVERRUN : Fld := ⟨.devEncStat, 3, 1⟩
abbrev devEncStat_RATE : Fld := ⟨.devEncStat, 4, 1⟩
abbrev devEncStat_BACKLOG_MAX : Fld := ⟨.devEncStat, 16, 16⟩
abbrev devEncStat_OUT_COUNT : Fld := ⟨.devEncStat, 32, 32⟩
/- DEV.ENC_CMD[k] (R160) -/
abbrev devEncCmd_RESYNC : Fld := ⟨.devEncCmd, 0, 1⟩
/- Q[id].CFG (R276) -/
abbrev qCfg_QUOTA : Fld := ⟨.qCfg, 0, 13⟩
abbrev qCfg_WM_HI : Fld := ⟨.qCfg, 16, 8⟩
abbrev qCfg_WM_LO : Fld := ⟨.qCfg, 24, 8⟩
/- Q[id].STAT (R276) -/
abbrev qStat_LEVEL : Fld := ⟨.qStat, 0, 19⟩
abbrev qStat_MARKER : Fld := ⟨.qStat, 19, 1⟩
abbrev qStat_RESETTING : Fld := ⟨.qStat, 20, 1⟩
abbrev qStat_FULL : Fld := ⟨.qStat, 21, 1⟩
/- Q[id].NOTICE (R276) -/
abbrev qNotice_SET : Fld := ⟨.qNotice, 0, 1⟩
abbrev qNotice_KIND : Fld := ⟨.qNotice, 1, 1⟩
abbrev qNotice_RET : Fld := ⟨.qNotice, 2, 1⟩
abbrev qNotice_CROSS : Fld := ⟨.qNotice, 3, 3⟩
abbrev qNotice_LEVEL : Fld := ⟨.qNotice, 8, 19⟩
/- Q[id].POP (R276) -/
abbrev qPop_WORD : Fld := ⟨.qPop, 0, 64⟩
abbrev qPop_TAG : Fld := ⟨.qPop, 64, 8⟩
abbrev qPop_RESET : Fld := ⟨.qPop, 72, 1⟩
/- DEV.PLACE_STAT (R328) -/
abbrev devPlaceStat_STATE : Fld := ⟨.devPlaceStat, 0, 3⟩
abbrev devPlaceStat_HOLDING : Fld := ⟨.devPlaceStat, 3, 1⟩
abbrev devPlaceStat_REASON : Fld := ⟨.devPlaceStat, 4, 4⟩
abbrev devPlaceStat_ATTEMPTS : Fld := ⟨.devPlaceStat, 8, 4⟩
abbrev devPlaceStat_PLAN_NO : Fld := ⟨.devPlaceStat, 16, 16⟩
abbrev devPlaceStat_UNPLACED : Fld := ⟨.devPlaceStat, 32, 8⟩
abbrev devPlaceStat_LANE_MAX : Fld := ⟨.devPlaceStat, 40, 8⟩
abbrev devPlaceStat_LINK_MAX : Fld := ⟨.devPlaceStat, 48, 8⟩
/- DEV.PLAN_HASH (R328) -/
abbrev devPlanHash_HASH : Fld := ⟨.devPlanHash, 0, 256⟩
/- DEV.PLAN_LOAD[l] (R328) -/
abbrev devPlanLoad_LOAD : Fld := ⟨.devPlanLoad, 0, 16⟩
abbrev devPlanLoad_ITEMS : Fld := ⟨.devPlanLoad, 16, 12⟩
/- DEV.PLAN_REC[i] (R328) -/
abbrev devPlanRec_WORD : Fld := ⟨.devPlanRec, 0, 32⟩
/- AX[n].CK_STAT (R350) -/
abbrev axCkStat_MM_RUN : Fld := ⟨.axCkStat, 0, 2⟩
abbrev axCkStat_CLASS : Fld := ⟨.axCkStat, 2, 3⟩
abbrev axCkStat_MM_CNT : Fld := ⟨.axCkStat, 8, 8⟩
abbrev axCkStat_DRP_CNT : Fld := ⟨.axCkStat, 16, 8⟩
abbrev axCkStat_AGREE_RUN : Fld := ⟨.axCkStat, 24, 8⟩
/- DEV.RED_CFG (R350) -/
abbrev devRedCfg_KIND : Fld := ⟨.devRedCfg, 0, 2⟩
abbrev devRedCfg_ROLE : Fld := ⟨.devRedCfg, 2, 2⟩
abbrev devRedCfg_PORT_A : Fld := ⟨.devRedCfg, 4, 3⟩
abbrev devRedCfg_PORT_B : Fld := ⟨.devRedCfg, 8, 3⟩
abbrev devRedCfg_LINK_REACT : Fld := ⟨.devRedCfg, 11, 1⟩
abbrev devRedCfg_EXC_EXT : Fld := ⟨.devRedCfg, 12, 1⟩
abbrev devRedCfg_TMO : Fld := ⟨.devRedCfg, 16, 8⟩
abbrev devRedCfg_XWIN_I : Fld := ⟨.devRedCfg, 32, 16⟩
abbrev devRedCfg_XWIN_R : Fld := ⟨.devRedCfg, 48, 16⟩
/- DEV.RED_STAT (R350) -/
abbrev devRedStat_EROLE : Fld := ⟨.devRedStat, 0, 2⟩
abbrev devRedStat_STRAP : Fld := ⟨.devRedStat, 2, 1⟩
abbrev devRedStat_STRAP_ERR : Fld := ⟨.devRedStat, 3, 1⟩
abbrev devRedStat_OK_IN : Fld := ⟨.devRedStat, 4, 1⟩
abbrev devRedStat_OK_OUT : Fld := ⟨.devRedStat, 5, 1⟩
abbrev devRedStat_LINK_A : Fld := ⟨.devRedStat, 6, 1⟩
abbrev devRedStat_LINK_B : Fld := ⟨.devRedStat, 7, 1⟩
abbrev devRedStat_UNCHECKED : Fld := ⟨.devRedStat, 8, 1⟩
abbrev devRedStat_RESYNC : Fld := ⟨.devRedStat, 9, 1⟩
abbrev devRedStat_ODD : Fld := ⟨.devRedStat, 10, 1⟩
abbrev devRedStat_RELEASED : Fld := ⟨.devRedStat, 11, 1⟩
abbrev devRedStat_DRIVER : Fld := ⟨.devRedStat, 16, 6⟩
/- DEV.RED_CNT (R350) -/
abbrev devRedCnt_DEV_MM : Fld := ⟨.devRedCnt, 0, 16⟩
abbrev devRedCnt_MEAS_X : Fld := ⟨.devRedCnt, 16, 16⟩
abbrev devRedCnt_HANDOVERS : Fld := ⟨.devRedCnt, 32, 16⟩
abbrev devRedCnt_RESYNCS : Fld := ⟨.devRedCnt, 48, 16⟩
/- DEV.LANE_TEST (R350) -/
abbrev devLaneTest_FAIL : Fld := ⟨.devLaneTest, 0, 4⟩
abbrev devLaneTest_RUNS : Fld := ⟨.devLaneTest, 16, 16⟩
/- DEV.SV_STAT (R378) -/
abbrev devSvStat_RUNNING : Fld := ⟨.devSvStat, 0, 1⟩
abbrev devSvStat_HALTED : Fld := ⟨.devSvStat, 1, 1⟩
abbrev devSvStat_HALT_CAUSE : Fld := ⟨.devSvStat, 2, 3⟩
abbrev devSvStat_WARN : Fld := ⟨.devSvStat, 5, 1⟩
abbrev devSvStat_RELOADING : Fld := ⟨.devSvStat, 6, 1⟩
abbrev devSvStat_FAULTS : Fld := ⟨.devSvStat, 8, 8⟩
abbrev devSvStat_WARNS : Fld := ⟨.devSvStat, 16, 8⟩
abbrev devSvStat_HALT_PC : Fld := ⟨.devSvStat, 32, 32⟩
/- DEV.SV_CMD (R378) -/
abbrev devSvCmd_RESTART : Fld := ⟨.devSvCmd, 0, 1⟩
abbrev devSvCmd_HALT : Fld := ⟨.devSvCmd, 1, 1⟩
/- AX[n].LEDG_CFG (R395) -/
abbrev axLedgCfg_REV_VTH : Fld := ⟨.axLedgCfg, 0, 16⟩
abbrev axLedgCfg_OT_CH : Fld := ⟨.axLedgCfg, 16, 4⟩
abbrev axLedgCfg_OT_LIM : Fld := ⟨.axLedgCfg, 32, 16⟩
/- AX[n].LEDGER (R395) -/
abbrev axLedger_TRAVEL : Fld := ⟨.axLedger, 0, 64⟩
abbrev axLedger_REVERSALS : Fld := ⟨.axLedger, 64, 32⟩
abbrev axLedger_ENERGISED : Fld := ⟨.axLedger, 96, 32⟩
abbrev axLedger_TRIPS : Fld := ⟨.axLedger, 128, 32⟩
abbrev axLedger_ILIM_S : Fld := ⟨.axLedger, 160, 32⟩
abbrev axLedger_OT_S : Fld := ⟨.axLedger, 192, 32⟩
abbrev axLedger_SAT : Fld := ⟨.axLedger, 224, 6⟩
/- DEV.LEDG_CFG (R395) -/
abbrev devLedgCfg_INTERVAL : Fld := ⟨.devLedgCfg, 0, 12⟩
/- DEV.CAL_CFG (R395) -/
abbrev devCalCfg_TRIM : Fld := ⟨.devCalCfg, 0, 9⟩
abbrev devCalCfg_CAL_SRC : Fld := ⟨.devCalCfg, 9, 1⟩
/- DEV.LEDG_STAT (R395) -/
abbrev devLedgStat_LOADED : Fld := ⟨.devLedgStat, 0, 1⟩
abbrev devLedgStat_NEW : Fld := ⟨.devLedgStat, 1, 1⟩
abbrev devLedgStat_FOREIGN : Fld := ⟨.devLedgStat, 2, 1⟩
abbrev devLedgStat_NOMEM : Fld := ⟨.devLedgStat, 3, 1⟩
abbrev devLedgStat_MEM_FAIL : Fld := ⟨.devLedgStat, 4, 1⟩
abbrev devLedgStat_BUSY : Fld := ⟨.devLedgStat, 5, 1⟩
abbrev devLedgStat_SLOT : Fld := ⟨.devLedgStat, 8, 3⟩
abbrev devLedgStat_WRITES : Fld := ⟨.devLedgStat, 16, 8⟩
abbrev devLedgStat_ERRS : Fld := ⟨.devLedgStat, 24, 8⟩
abbrev devLedgStat_SEQ : Fld := ⟨.devLedgStat, 32, 32⟩
/- DEV.LEDG_CMD (R395) -/
abbrev devLedgCmd_SNAP : Fld := ⟨.devLedgCmd, 0, 1⟩
abbrev devLedgCmd_CLR_AXIS : Fld := ⟨.devLedgCmd, 1, 1⟩
abbrev devLedgCmd_AXIS : Fld := ⟨.devLedgCmd, 2, 6⟩
/- DEV.LEDGER (R395) -/
abbrev devLedger_POWER_ON : Fld := ⟨.devLedger, 0, 32⟩
abbrev devLedger_POWER_CYCLES : Fld := ⟨.devLedger, 32, 32⟩
abbrev devLedger_BROWNOUTS : Fld := ⟨.devLedger, 64, 32⟩
abbrev devLedger_SAT : Fld := ⟨.devLedger, 96, 32⟩
abbrev devLedger_SQUASH : Fld := ⟨.devLedger, 128, 64⟩
abbrev devLedger_MISS : Fld := ⟨.devLedger, 192, 64⟩
/- DEV.CAL (R395) -/
abbrev devCal_SECONDS : Fld := ⟨.devCal, 0, 32⟩
abbrev devCal_VALID : Fld := ⟨.devCal, 32, 1⟩
abbrev devCal_LAGGED : Fld := ⟨.devCal, 33, 1⟩
abbrev devCal_WRAPPED : Fld := ⟨.devCal, 34, 1⟩
/- DEV.CAL_EDGE (R395) -/
abbrev devCalEdge_EDGE : Fld := ⟨.devCalEdge, 0, 64⟩
/- DEV.CAL_SET (R395) -/
abbrev devCalSet_SECONDS : Fld := ⟨.devCalSet, 0, 32⟩
/- LK[p].LEDGER (R395) -/
abbrev lkLedger_CRC : Fld := ⟨.lkLedger, 0, 32⟩
abbrev lkLedger_REPLAYS : Fld := ⟨.lkLedger, 32, 32⟩
/- AX[n].TRIP_CFG (R236) -/
abbrev axTripCfg_CW_HI : Fld := ⟨.axTripCfg, 0, 12⟩
abbrev axTripCfg_CW_LO : Fld := ⟨.axTripCfg, 12, 12⟩
abbrev axTripCfg_CW_EN : Fld := ⟨.axTripCfg, 24, 1⟩
abbrev axTripCfg_CW_FILT : Fld := ⟨.axTripCfg, 25, 2⟩
/- AX[n].TRIP_STAT (R236) -/
abbrev axTripStat_LATCH : Fld := ⟨.axTripStat, 0, 1⟩
abbrev axTripStat_ACTIVE : Fld := ⟨.axTripStat, 1, 1⟩
abbrev axTripStat_REARMABLE : Fld := ⟨.axTripStat, 2, 1⟩
abbrev axTripStat_CW_LIVE : Fld := ⟨.axTripStat, 3, 4⟩
abbrev axTripStat_IA_HI : Fld := ⟨.axTripStat, 8, 1⟩
abbrev axTripStat_IA_LO : Fld := ⟨.axTripStat, 9, 1⟩
abbrev axTripStat_IB_HI : Fld := ⟨.axTripStat, 10, 1⟩
abbrev axTripStat_IB_LO : Fld := ⟨.axTripStat, 11, 1⟩
abbrev axTripStat_EXT : Fld := ⟨.axTripStat, 12, 1⟩
abbrev axTripStat_CM : Fld := ⟨.axTripStat, 13, 1⟩
abbrev axTripStat_LANE : Fld := ⟨.axTripStat, 14, 1⟩
abbrev axTripStat_GROUP : Fld := ⟨.axTripStat, 15, 1⟩
abbrev axTripStat_CLOCK : Fld := ⟨.axTripStat, 16, 1⟩
abbrev axTripStat_TRIP_IN : Fld := ⟨.axTripStat, 17, 3⟩
abbrev axTripStat_TRIPS : Fld := ⟨.axTripStat, 24, 8⟩
/- AX[n].TRIP_CMD (R236) -/
abbrev axTripCmd_REARM : Fld := ⟨.axTripCmd, 0, 1⟩
/- DEV.MODE_CFG (R77) -/
abbrev devModeCfg_BO_HOLD : Fld := ⟨.devModeCfg, 0, 1⟩
abbrev devModeCfg_DRV_SETTLE : Fld := ⟨.devModeCfg, 2, 10⟩
abbrev devModeCfg_STOP_LIMIT : Fld := ⟨.devModeCfg, 12, 16⟩
/- DEV.SV_CTL (R378) -/
abbrev devSvCtl_WD_PER : Fld := ⟨.devSvCtl, 0, 16⟩
abbrev devSvCtl_REACT : Fld := ⟨.devSvCtl, 16, 2⟩
/- DEV.PLACE_CFG (R328) -/
abbrev devPlaceCfg_REPL_REACT : Fld := ⟨.devPlaceCfg, 0, 1⟩
/- DEV.TRIP_IN[k] (R236) -/
abbrev devTripIn_AXES : Fld := ⟨.devTripIn, 0, 48⟩
abbrev devTripIn_EN : Fld := ⟨.devTripIn, 48, 1⟩
abbrev devTripIn_ACT_HIGH : Fld := ⟨.devTripIn, 49, 1⟩
abbrev devTripIn_FILT : Fld := ⟨.devTripIn, 50, 2⟩
abbrev devTripIn_LEVEL : Fld := ⟨.devTripIn, 63, 1⟩
/- DEV.SHADOW[i] (R402) -/
abbrev devShadow_WORD : Fld := ⟨.devShadow, 0, 32⟩
/- DEV.TRIM[i] (R402) -/
abbrev devTrim_WORD : Fld := ⟨.devTrim, 0, 32⟩

end F

end Sys2Proof.Machine
end

