-- ==== Sys2Proof/Machine/State.lean ====
section
/-!
DEFINITION. The state of the block, as plain data. `regs` holds every object register of the map (R397) that stores
its own value; the structures below hold what the chapters give the device beside those registers. Sparse maps are
lists of (key, value) with rising keys; an unlisted key reads as the default its docstring names.
-/

namespace Sys2Proof.Machine

/-! ## Supplies, reset and the memories that a reset leaves alone (R63 to R69) -/

/-- The supplies and the pins of the reset logic. Rail masks have the bit order of BELOW_WARN (R85). -/
structure Pwr where
  /-- Rails in range (R63, R65). -/
  inRange : Nat
  /-- Rails below their warning level now (R85). -/
  below : Nat
  /-- VBAT below 2.00 V (R87). -/
  vbatLow : Bool
  /-- PORST_N is low (R67). -/
  porstLow : Bool
  /-- The internal reset is asserted (R65, R68). -/
  rst : Bool
  /-- The PLLs have locked since the reset release; the clock monitors are armed (R78). -/
  locked : Bool
  /-- CORE clock lost, or the 25 MHz reference (R23). -/
  coreLost : Bool
  /-- PWM clock lost (R23). -/
  pwmLost : Bool
  /-- CONV clock lost (R23). -/
  convLost : Bool
  /-- TWIN_ROLE as sampled at the reset release (R338, R423). -/
  twinRole : Nat
  /-- Time from the rise of PORST_N to the release of the internal reset, in ns: at least 10 µs (R49, R67). -/
  porstGap : Nat
  /-- Values the boundary cells drive while EXTEST is loaded and PORST_N is low (R429). -/
  extest : Option Nat
  deriving DecidableEq, Repr

/-- The RTC domain (R391 to R395): the count, its flags, whether the oscillator runs, the trim in force, the length of the
second in progress in oscillator clocks, and the values on their way through crossing C10. -/
structure Rtc where
  sec : Nat
  valid : Bool
  lagged : Bool
  wrapped : Bool
  running : Bool
  trim : Int
  clocks : Nat
  sets : List Nat
  deriving DecidableEq, Repr

/-- What no internal reset changes (R68): OTP, trim store, flash, ledger memory and RESET_CAUSE. -/
structure Nv where
  /-- Device serial number (R46). -/
  serial : Nat
  /-- Grade: 0 PV4896-E0, 1 PV4896-X0 (R399). -/
  grade : Nat
  /-- OTP lock word (R46). -/
  otpLock : Nat
  /-- OTP signing key hash, 256 bits (R46). -/
  khash : Nat
  /-- OTP fabric key, 128 bits (R46). -/
  fkey : Nat
  /-- The trim store, 16 KiB (R56); an unlisted byte reads 0. -/
  trim : List Host.Cell
  /-- The QSPI flash (R34); an unlisted byte reads 0xFF, erased. -/
  flash : List Host.Cell
  /-- The ledger memory: 8 slots of 2,048 bytes (R380); an unlisted byte reads 0. -/
  ledgMem : List Host.Cell
  /-- Ledger slots whose write was cut off or misread: they fail their CRC (R388). -/
  ledgTorn : List Nat
  /-- The calendar (R391). -/
  rtc : Rtc
  /-- RESET_CAUSE (R69). -/
  cause : Nat
  deriving DecidableEq, Repr

/-! ## Time, events, mode (R75 to R87, R298, R403) -/

/-- An event record (R403). -/
structure Ev where
  code : Nat
  node : Nat
  axis : Nat
  arg : Nat
  time : Nat
  deriving DecidableEq, Repr

/-- A pending trigger of a mode transition (R78, R79): its target, its cause and, for a request, who waits for the
reply. -/
structure Trig where
  target : Nat
  cause : Nat
  src : Option Src
  deriving DecidableEq, Repr

/-- Time, events and mode transitions. -/
structure Ctl where
  /-- The time of the frame grid in units of 2^-32/3 ns (R298): one core cycle of 2/3 ns adds 2^33 at the nominal rate. -/
  time : Nat
  /-- Fabric time less `time`, in the same units: the steps taken so far, which move no grid before the next SYNC (R298,
  R299). -/
  ofs : Int
  /-- Amount added to `time` by one core cycle; the nominal rate is 2^33 (R299). -/
  rate : Nat
  /-- Free values drawn so far. The model's own field, not the spec's: it names the next free value. -/
  freeCnt : Nat
  /-- Events raised by the command that is running, not yet pushed. -/
  evNew : List Ev
  /-- Events raised before the end of LOAD, at most 16 (R403). -/
  evPre : List Ev
  /-- LOAD has ended since the reset: events go to their queues (R403). -/
  evOpen : Bool
  /-- The event log, oldest first, at most 4,096 records (R403). -/
  evLog : List Ev
  /-- Triggers waiting for the next frame boundary (R78). -/
  trigs : List Trig
  /-- The mode a requested TEST returns to (R74). -/
  testFrom : Option Nat
  /-- A granted reset waits for its ledger snapshot: the RESET_CAUSE bit it will set (R70, R376). -/
  resetWait : Option Nat
  /-- Chains marked for a clear are cleared at the slot read of their first strobe at or after this instant, in cycles
  (R132, R136). -/
  clearFrom : Nat
  /-- Cycle of the current frame's start, counted in core cycles of fabric time (R13). -/
  frameStart : Nat
  /-- Length in cycles of the current frame and of the one before it: 200, or what a realignment makes of it (R16). -/
  frameLen : Nat
  prevLen : Nat
  /-- Start and length of the last shortened frame: its slots at or beyond the length have no strobe and no read (R117). -/
  short : Option (Nat × Nat)
  /-- Epoch of a SYNC acted on at a boundary whose frame has not been adjusted yet, in cycles (R16). -/
  gridAt : Option Nat
  /-- Late results counted in the current frame (R15). -/
  lateInFrame : Nat
  /-- The epoch E of the excitation grids in cycles of fabric time (R89). -/
  epoch : Nat
  /-- Axes that failed a check of TEST, and how many they were when the run in progress began (R72, R73). -/
  testFail : List Nat
  testWas : Nat
  deriving DecidableEq, Repr

/-! ## Loading and rewriting (R32 to R62) -/

/-- An open image session (R53). -/
structure ImgSession where
  slot : Nat
  len : Nat
  /-- Bytes of the slot written in the session, as (offset, length) runs. -/
  written : List (Nat × Nat)
  deriving DecidableEq, Repr

/-- An operation of the non-volatile memories in progress, with who waits for its end (R53, R61, R401, R409). -/
inductive Job where
  | erase (src : Src) (slot len : Nat)
  | program (src : Src) (slot off : Nat) (bytes : List Byte)
  | readback (src : Src) (slot : Nat)
  | trim (src : Src)
  | otp (src : Src) (obj : OtpObj) (val : Nat)
  deriving DecidableEq, Repr

/-- The loader, the shadow and the image and trim sessions. -/
structure Load where
  /-- Slots still to try, in order (R36). -/
  toTry : List Nat
  /-- The flash was found usable (R32, R33). -/
  flashOk : Bool
  /-- The starter shadow (R52); an unlisted byte reads 0. -/
  shadow : List Host.Cell
  /-- The trim staging buffer, the top 16 KiB of the shadow region (R52); an unlisted byte reads 0. -/
  staging : List Host.Cell
  /-- The booted image holds a supervisor program (R44): container header words. -/
  svHead : List Nat
  /-- First 8 bytes of the SHA-256 digest of the booted image (R45). -/
  fingerprint : Nat
  /-- Queue configurations the image wrote, for reason 3 resets (R273): (queue, CFG). -/
  qcfg : List (Nat × Nat)
  /-- Axes' LOOPS start modes written by the image: (axis, AX_MODE). -/
  bindings : List Binding
  /-- FABRIC section: node ID claim and the fabric key it gives, if it is its source (R41). -/
  claim : Nat
  fabKey : Option Nat
  /-- IDENT standalone flag (R40). -/
  standalone : Bool
  /-- Open image session (R53). -/
  img : Option ImgSession
  /-- Slots whose last END returned code 1, with no BEGIN since (R54). -/
  okSlots : List Nat
  /-- Open trim session: its kind (R61, R409). -/
  trimKind : Option Nat
  /-- Trim values of the store apply at the next frame boundary (R61). -/
  trimSwitch : Bool
  /-- The trim values in use, as bytes of a store; identity where `trimUse` is none (R59, R61). -/
  trimUse : Option (List Host.Cell)
  /-- Image, trim or OTP operations in progress. -/
  jobs : List Job
  deriving DecidableEq, Repr

/-! ## The queue manager (R253 to R276) -/

/-- A slot of a cell: its payload word, its tag nibble and how many of its two halves fail parity (R257, R271). -/
structure QSlot where
  word : BitVec 64
  vb : Nat
  mark : Bool
  psn : Bool
  bad : Nat
  deriving DecidableEq, Repr

/-- A cell of the pool in use or retired (R257): its slots 0 to 6, its control word and whether the tag word and the
control word fail parity. A cell the pool map does not list is free and carries the key of ID 0xFFFF (R256). -/
structure QCell where
  slots : List (Nat × QSlot)
  next : Nat
  key : Nat
  check : Nat
  tagBad : Bool
  ctlBad : Bool
  retired : Bool
  deriving DecidableEq, Repr

/-- The unread or pending marker of a queue (R266 to R268). -/
structure QMark where
  kind : Nat
  reason : Nat
  count : Nat
  scattered : Bool
  /-- No entry of the marker table holds it: it cannot be updated (R268). -/
  untracked : Bool
  time : Nat
  /-- No word was free yet to append it (R267). -/
  pending : Bool
  /-- Where it stands: cell and slot. -/
  cell : Nat
  slot : Nat
  /-- A record has been accepted since it was appended. -/
  behind : Bool
  deriving DecidableEq, Repr

/-- A queue that waits for its reset or is in a pass (R272, R273). -/
structure QReset where
  reason : Nat
  count : Nat
  time : Nat
  inPass : Bool
  deriving DecidableEq, Repr

/-- The descriptor of a queue (R258), with what the queue manager keeps beside it. An unlisted queue has an empty
descriptor with the quota of R254. -/
structure QDesc where
  head : Nat
  headN : Nat
  tail : Nat
  tailN : Nat
  held : Nat
  quota : Nat
  hofs : Nat
  tofs : Nat
  wmHi : Nat
  wmLo : Nat
  /-- Notice: latched, kind, returned, crossings and distance (R270). -/
  nSet : Bool
  nKind : Bool
  nRet : Bool
  cross : Nat
  nXs : Nat
  /-- A descriptor word fails parity (R272). -/
  bad : Bool
  mark : Option QMark
  resetting : Option QReset
  /-- The last record was dropped and none has been accepted since. -/
  full : Bool
  deriving DecidableEq, Repr

/-- An entry of a sorted queue (R275): item, priority, whether it fails parity; `isMark` marks the marker's place. -/
structure SEntry where
  item : Nat
  prio : Nat
  bad : Bool
  isMark : Bool
  deriving DecidableEq, Repr

/-- A popped word with its pop tag (R262), as a read port delivered it. -/
structure Popped where
  word : BitVec 64
  tag : Nat
  deriving DecidableEq, Repr

/-- Record boundaries of a set-point queue: halfwords of its head word already taken, and the length in halfwords and the
arrival in ns of each queue record it holds, oldest first. -/
structure SetQ where
  ofs : Nat
  lens : List (Nat × Nat)
  deriving DecidableEq, Repr

/-- The queue manager. -/
structure Qm where
  descs : List (Nat × QDesc)
  cells : List (Nat × QCell)
  /-- Sorted stores, entries in arrival order (R275). -/
  sorted : List (Nat × List SEntry)
  /-- Queues taken in by the running sweep pass (R273). -/
  sweep : Option (List Nat)
  /-- The two copies of the free-list pointer disagree or fail parity (R274). -/
  freeBad : Bool
  /-- A free-list rebuild pass is running (R274). -/
  rebuild : Bool
  /-- EV_QM_POOL has been raised (R274). -/
  poolEv : Bool
  /-- The last word each read port delivered (R262). -/
  out : List (Nat × Popped)
  /-- Record boundaries of the set-point queues (R179, R405). -/
  sets : List (Nat × SetQ)
  /-- In the running cycle: cells freed, which return to the pool in the next one, and the free words, or items, of each popped
  queue before its pop, which pushes of the cycle are held to (R258, R265). -/
  freed : List Nat
  popped : List (Nat × Int)
  /-- Free cells that do not read as free cells: their words fail parity, or their key is not that of ID 0xFFFF (R256, R272). -/
  upset : List (Nat × QCell)
  deriving DecidableEq, Repr

/-! ## Messages (R407 to R412) -/

/-- A message waiting for the message engine: who sent it and its bytes (R408). -/
structure InMsg where
  src : Src
  bytes : List Byte
  deriving DecidableEq, Repr

/-- A reply to a fabric request, waiting in 0x0003 for its frame: where it goes (R408). -/
structure OutMsg where
  node : Nat
  queue : Halfword
  cls : Cls
  bytes : List Byte
  deriving DecidableEq, Repr

/-- A subscription (R410). -/
structure Subscr where
  svc : Bool
  dstNode : Nat
  dstQueue : Nat
  rsize : Nat
  /-- Halfwords popped and not delivered, with their poison bits, and the SEQ values to pass over behind them: a marker was
  popped there. -/
  held : List QWord
  skip : Nat
  deriving DecidableEq, Repr

/-- The message engine and the service port. -/
structure Msg where
  inbox : List InMsg
  /-- Messages in a pending state: replies still to come (R408). -/
  waiting : Nat
  /-- Replies in 0x0003, oldest first, with their destinations. -/
  replies : List OutMsg
  /-- Bytes the router has taken from 0x0003 and not yet put into a frame. -/
  repHead : List Byte
  subs : List (Nat × Subscr)
  /-- Service port BAD (R412). -/
  bad : Bool
  /-- Bytes the service port returned in its last RECV or STAT transaction (R412). -/
  svcOut : List Byte
  /-- Lengths of the messages accepted into 0x0002 and not yet delivered, oldest first (R412). -/
  svcLens : List Nat
  /-- Bytes the port has taken from 0x0002 and not yet delivered (R412). -/
  svcHead : List Byte
  /-- Outcome of the supervisor's and the test port's last object access: status and value (R355, R21). -/
  svStatus : Nat
  jtagStatus : Nat
  jtagData : Nat
  deriving DecidableEq, Repr

/-! ## Excitation, front end and filter (R89 to R136, R238 to R245) -/

/-- An excitation group (R89, R90). Instants are core cycles of fabric time. -/
structure Grp where
  running : Bool
  /-- Timing in force, which a written timing replaces at an edge of R90. -/
  half : Nat
  phase : Nat
  /-- Polarity of the half-period in progress: positive. -/
  pos : Bool
  /-- Number of half-periods begun since the start. -/
  count : Nat
  /-- Edge that opened the half-period in progress, t_e. -/
  edgeAt : Nat
  /-- Latest positive edge, t_p (R239). -/
  posAt : Nat
  /-- The polarity, or the sine phase `heldPh`, is held until the first positive edge of a new grid (R90, R133); `moved` where
  a SYNC has moved the grid. -/
  holding : Bool
  heldPh : Nat
  moved : Bool
  deriving DecidableEq, Repr

/-- Class of a strobe in its half-period (R91); `none` outside a running group. -/
inductive StrobeCls where
  | none | proof | plateau | tail
  deriving DecidableEq, Repr

/-- What the frame sequencer and the front end note when a hold strobe falls (R13, R91, R125, R126). -/
structure Strobe where
  at_ : Nat
  cls : StrobeCls
  /-- Number of its half-period. -/
  h : Nat
  /-- Negative half-period. -/
  neg : Bool
  /-- Edge that opened its half-period, in cycles. -/
  edge : Nat
  /-- The N-th plateau strobe of its half-period. -/
  last : Bool
  /-- Phase point it serves, and the excitation phase at its instant (R125, R239). -/
  point : Option Nat
  ph : Nat
  /-- Tag of each of its channels, SIN, COS, IA, IB; one for an auxiliary channel (R6). -/
  tags : List Nat
  deriving DecidableEq, Repr

/-- A conversion result in crossing queue C1, with its tag and its strobe (R21). -/
structure C1Ent where
  x : Int
  tag : Nat
  st : Strobe
  deriving DecidableEq, Repr

/-- A sample inside the filter engine: code, tag (R6) and, for a correlator, the reference at its strobe (R125). -/
structure Smp where
  x : Int
  tag : Nat
  ref : Int
  deriving DecidableEq, Repr

/-- History of one stage (R121): its window, newest first, inputs counted since the last clear or block start, the DC
estimate with 16 fraction bits and whether the next input (1) or the next valid input (2) presets it (R128). -/
structure Stage where
  win : List Smp
  cnt : Nat
  dc : Int
  dcInit : Nat
  /-- Its last input carried Settling, so that a DC-blocking stage is frozen (R128). -/
  held : Bool
  deriving DecidableEq, Repr

/-- History of a chain: its stages, whether it is settling and whether its DC blocks are frozen by a switch (R130, R131),
and whether it is cleared at its next slot read (R132, R136). -/
structure Chain where
  s1 : Stage
  s2 : Stage
  s3 : Stage
  settling : Bool
  frozen : Bool
  clearNext : Bool
  deriving DecidableEq, Repr

/-- Range requests of a pair (R103, R104): to range 0, one code less gain, one code more gain; each with the instant of
the strobe that raised it. -/
structure RngReq where
  zero : Option Nat
  up : Option Nat
  down : Option Nat
  deriving DecidableEq, Repr

/-- A measurement pair of one half-period in fine LSB, with the trims in force as it was formed: s1 and c3 (R93, R125, R137,
R139). -/
structure Meas where
  sin : Int
  cos : Int
  valid : Bool
  /-- Some contributing sample carried tag bit [5] or [6] (R138). -/
  tainted : Bool
  /-- Measurement instant t_m in cycles, and that of a coast step in its place (R137, R138). -/
  at_ : Int
  coastAt : Int
  deriving DecidableEq, Repr

/-- A plateau output (R93, R124): its word in fine LSB, whether it is valid, its range code, its tag, and whether
it was short of kept samples (R105). -/
structure Plateau where
  p : Int
  ok : Bool
  range : Nat
  tag : Nat
  short : Bool
  deriving DecidableEq, Repr

/-- Excitation of one axis. -/
structure AxExc where
  /-- Group in force (R97). -/
  grp : Nat
  /-- The driver excites (R241). -/
  drive : Bool
  /-- Levels and limits in force (R242). -/
  step : Nat
  amp : Nat
  slew : Nat
  ilim : Nat
  /-- Output code of the driver's DAC (R238). -/
  out : Int
  /-- Consecutive failing half-periods (R94). -/
  failCnt : Nat
  /-- Sine mode decided by fall-back, or kept by a write of MODE = 0 (R95, R96). -/
  fall : Bool
  /-- A decision of the driver, and the half-period number at which it applies (R98). -/
  decided : Option (Bool × Nat)
  /-- An excitation switch is due whatever the mode and chain: a start, or a grid moved by a SYNC (R90, R133). -/
  force : Bool
  /-- Group timing under which the last excitation switch was applied (R131). -/
  half : Nat
  phase : Nat
  /-- EXC_DRV as the half-period in progress found it: OPEN_MIN, OW_N, CMP_N and REACT act from the next one (R242). -/
  det : Nat
  /-- Proof window of the half-period in progress, in converter cycles (R91, R107). -/
  pw : Nat
  /-- Plateau strobes of the half-period so far, next phase point (R91, R125). -/
  nPl : Nat
  nextPt : Nat
  /-- The next plateau gives no measurement (R93). -/
  noMeas : Bool
  /-- An excitation switch waits for the chain to settle (R131). -/
  pending : Bool
  /-- The axis failed the excitation open test (R72). -/
  openFail : Bool
  /-- Instant of the last excitation switch: earlier strobes do not enter the chain in force (R131). -/
  swAt : Nat
  deriving DecidableEq, Repr

/-- Front end and measurement of one axis. -/
structure AxFe where
  /-- Sources in force (R100). -/
  rsrc : Nat
  isrc : Nat
  /-- Ends of the open proof windows of the two pairs, in half cycles (R100, R104). -/
  rWin : Nat
  iWin : Nat
  /-- A multiplexer window opens at the next strobe: its length in converter cycles (R100). -/
  rMux : Option Nat
  iMux : Option Nat
  /-- Range requests and down-range counts (R103). -/
  rReq : RngReq
  iReq : RngReq
  rDn : Nat
  iDn : Nat
  /-- Largest squared magnitude so far: resolver per half-period, current per carrier period (times 3 for T0 and T2). -/
  rPeak : Nat
  iPeak : Nat
  /-- Clamps that conducted since the previous strobe: bits SIN, COS, IA, IB (R111). -/
  clamp : Nat
  /-- SIN sample of the strobe being read, IA sample likewise. -/
  xS : Int
  xA : Int
  /-- Half-period number of the last sample read. -/
  hRead : Nat
  /-- Last proof-class samples in fine LSB, newest first (R94). -/
  ringS : List Int
  ringC : List Int
  /-- SIN plateau of the half-period being read, and the plateaus of the one before (R93). -/
  plS : Plateau
  prevS : Plateau
  prevC : Plateau
  /-- SIN kept the plateau strobe being read; instants of the plateau strobes kept and of all: sums and counts; centroid
  of the plateau before (R137, R138). -/
  keptS : Bool
  tSum : Nat
  tCnt : Nat
  allSum : Nat
  allCnt : Nat
  prevAt : Option Int
  prevAll : Option Int
  /-- The averager of SIN, of COS has still to emit for the half-period in progress; the polarity of a half-period that
  closed before, for which it emits at its next slot read; the instant of the last such closing edge, before which no
  later strobe enters (R124). -/
  opS : Bool
  opC : Bool
  cutS : Option Bool
  cutC : Option Bool
  closedAt : Nat
  deriving DecidableEq, Repr

/-- Filter of one axis: chains in force and their histories, for each channel (R122, R123). -/
structure AxFlt where
  cfgSq : Nat
  cfgSn : Nat
  cfgCu : Nat
  sqS : Chain
  sqC : Chain
  snS : Chain
  snC : Chain
  cuA : Chain
  cuB : Chain
  /-- Last outputs of SIN, COS, IA, IB. -/
  outS : Smp
  outC : Smp
  outA : Smp
  outB : Smp
  /-- The measurement pair waiting for the observer (R93, R141). -/
  meas : Option Meas
  /-- IA and IB outputs of the strobe a load point selects, waiting for the commit decision (R126). -/
  selA : Option Smp
  deriving DecidableEq, Repr

/-- An auxiliary channel (R113): source in force, end of its proof window in half cycles, clamp since the last strobe, its
chain in force, its history and its last output. -/
structure Aux where
  src : Nat
  win : Nat
  clamp : Bool
  cfg : Nat
  chain : Chain
  out : Smp
  deriving DecidableEq, Repr

/-- A pulse and frequency output (R114, R115): value in force (high ticks or increment), form, updates with a source that
is not valid, and whether it drives constantly. -/
structure Auxo where
  value : Nat
  freq : Bool
  bad : Nat
  /-- Output level: 0 low, 1 running, 2 high. -/
  level : Nat
  deriving DecidableEq, Repr

/-! ## Angle tracking and encoder emulation (R137 to R160) -/

/-- The observer of one axis (R141, R149 to R153). -/
structure AxTrk where
  /-- Electrical angle, 2^-48 electrical rev. -/
  phi : Nat
  ecount : Int
  omega : Int
  /-- Instant of the last step, in cycles. -/
  tPrev : Int
  /-- Speed and acceleration of the last step (R151). -/
  v : Int
  acc : Int
  /-- Position offset (R153). -/
  ofs : Int
  /-- Last pair failed the amplitude check (R145). -/
  ampBad : Bool
  /-- In-window steps counted in acquisition (R148); the first usable pair has been taken. -/
  lock : Nat
  started : Bool
  /-- A position to take, and the steps still to wait where a twin driver decided it (R153). -/
  posReq : Option Nat
  posWait : Nat
  /-- The observer runs (R149). -/
  run : Bool
  /-- Position without zero and position set at the last step with valid tracking, and the sign of the last speed beyond
  REV_VTH (R382). -/
  travel : Option Int
  revSign : Int
  deriving DecidableEq, Repr

/-- An encoder emulator (R156 to R160). -/
structure Enc where
  /-- Output count E_o, 32 bits. -/
  eo : Nat
  /-- Target count E_t the core side last computed, and the Gray-coded counter that moves towards it by one count per cycle:
  its value `gray` at cycle `grayAt` (R156). -/
  goal : Nat
  gray : Nat
  grayAt : Nat
  /-- Target count sampled at the last frame mark. -/
  et : Nat
  /-- Steps of the last frame mark and of the last edge; an edge has been emitted since the start (R157). -/
  markAt : Nat
  lastAt : Option Nat
  /-- floor(400 / |b|) of the last frame mark in steps; SEP bounds it at the edge (R157). -/
  interval : Nat
  /-- A resynchronisation waits for the next frame mark. -/
  resync : Bool
  /-- Levels of the pins. -/
  a : Bool
  b : Bool
  z : Bool
  deriving DecidableEq, Repr

/-! ## PWM timers and protection (R218 to R236) -/

/-- A half-bridge of a timer (R225, R228): compare value of the rising half and of the falling half in steps, that of the falling
half before, and whether its high-side interval is removed or its low-side interval around the last valley is filled. -/
structure Phase where
  rise : Nat
  fall : Nat
  last : Nat
  removed : Bool
  filled : Bool
  deriving DecidableEq, Repr

/-- Set-point records an evaluation takes (R179, R199): halfwords to remove, records to count in SP_DISC, the value of the
record used. -/
structure SpTake where
  hw : Nat
  disc : Nat
  value : Option Nat
  deriving DecidableEq, Repr

/-- A commit on its way to the timer (R22): the duties of U, V and W, the load point it is for, in ticks, and the
set-point records that leave their queue with it (R199). -/
structure Commit where
  du : Nat
  dv : Nat
  dw : Nat
  load : Nat
  take : SpTake
  deriving DecidableEq, Repr

/-- The PWM timer of one axis. -/
structure AxPwm where
  /-- The timer is active (R219). -/
  active : Bool
  /-- Configuration in force since the last valley (R222). -/
  half : Nat
  phase : Nat
  dual : Bool
  dt : Nat
  minp : Nat
  /-- Tick of the last valley, and ticks the carrier period in progress is lengthened by (R221). -/
  valley : Nat
  extra : Nat
  /-- Load-point index j (R169) and the tick of that load point. -/
  j : Nat
  loadAt : Nat
  u : Phase
  v : Phase
  w : Phase
  /-- The commit mailbox, not yet loaded: its entry, then commits for later load points that wait in the lane (R22). -/
  box : List Commit
  /-- A first committed duty has been loaded since entry to a driving mode (R226). -/
  fed : Bool
  /-- The axis shows its safe gate state (R232, R234). -/
  safe : Bool
  /-- The low sides of the safe gate state are on, TDT after the latch (R232). -/
  lowOn : Bool
  /-- The low sides are on in the brake manner of HOLD (R166). -/
  brake : Bool
  deriving DecidableEq, Repr

/-- Protection of the device as a whole. -/
structure Prot where
  /-- DRV_EN outputs asked for by the mode (R81, R83, R84), one bit per group. -/
  want : Nat
  /-- Consecutive DRV_MON samples that differed, per group (R236). -/
  differ : List (Nat × Nat)
  /-- Spread in force, and whether a written one is settling (R223). -/
  ssc : Nat
  sscWait : Bool
  /-- Frame boundary of RUN entry still waits for DRV_SETTLE (R81). -/
  settling : Bool
  deriving DecidableEq, Repr

/-! ## Loops, run-ahead commit and trace (R161 to R217) -/

/-- State words of one PID loop (R173): integrator, filtered derivative, previous error and previous measurement, output,
saturation sign, and whether its next evaluation is the first after it was not evaluated (R183). -/
structure Pid where
  i : Int
  df : Int
  ePrev : Int
  mPrev : Int
  u : Int
  sat : Int
  fresh : Bool
  deriving DecidableEq, Repr

/-- The state words a full evaluation advances (R171 to R190, R213). -/
structure LoopSt where
  /-- Current loop: integrators, saturation signs, last voltages before and after the circle limit, feed-forwards. -/
  iD : Int
  iQ : Int
  satD : Int
  satQ : Int
  vD0 : Int
  vQ0 : Int
  vD : Int
  vQ : Int
  ffD : Int
  ffQ : Int
  curFresh : Bool
  /-- Committed currents and references (R181). -/
  id : Int
  iq : Int
  idRef : Int
  iqRef : Int
  ia : Int
  ib : Int
  vel : Pid
  pos : Pid
  skew : Pid
  /-- Velocity loop of the partner, and its last current reference (R176). -/
  velB : Pid
  iqRefB : Int
  /-- Limiter: position, speed, acceleration (R180); whether the references of CURRENT start at the next evaluation (R183). -/
  limX : Int
  limV : Int
  limA : Int
  limFresh : Bool
  /-- Target of the mode: position, speed, or a pair of references or voltages. -/
  tgtA : Int
  tgtB : Int
  /-- GEAR entry points m0 and g0 (R178). -/
  gearM0 : Int
  gearG0 : Int
  /-- Plausibility model, its count and whether its event stands (R189, R190). -/
  vh : Int
  resid : Int
  plCnt : Nat
  plDone : Bool
  /-- Position error of the last evaluation (R175). -/
  posErr : Int
  deriving DecidableEq, Repr

/-- The measurement an evaluation uses (R169): currents in fine LSB, raw position before zero and position set, position,
speed, and the range code of the selected samples; position and speed of a T2 partner (R176) and position of a GEAR
master (R178); whether the observer coasts (R190). -/
structure EvIn where
  ia : Int
  ib : Int
  praw : Int
  pos : Int
  speed : Int
  range : Nat
  xB : Int
  vB : Int
  mast : Int
  coasting : Bool
  deriving DecidableEq, Repr

/-- Parameters in force at a load point (R169): the parameter words, LOOP_CFG, MOTOR, GEAR ratio, current period in ticks,
template and role in a T2 pair (0 none, 1 primary, 2 partner). -/
structure LoopPar where
  coef : List Int
  sh : List Nat
  lim : List Int
  cfg : Nat
  motor : Nat
  ratio : Int
  tC : Nat
  tmpl : Nat
  role : Nat
  deriving DecidableEq, Repr

/-- What an evaluation is asked for: which loops are due, the mode and the manner in force (R169, R215). -/
structure EvKind where
  mode : Nat
  doVel : Bool
  doPos : Bool
  held : Bool
  stopping : Bool
  /-- Load-point index j of the boundary it follows. -/
  j : Nat
  /-- The partner's data have arrived (R211). -/
  pairOk : Bool
  deriving DecidableEq, Repr

/-- A guard of a speculation (R202): the row of sensitivities of a guarded quantity to di_d, di_q, dth and dv, in 2^-16 of its
unit, and its distances to the boundary below and above, where there is one. -/
structure Guard where
  d : Int
  q : Int
  x : Int
  s : Int
  below : Option Nat
  above : Option Nat
  deriving DecidableEq, Repr

/-- Sensitivities of the pre-floor duty of one half-bridge (R202): its row of G, h_x and h_v, in 2^-16 pre-floor units. -/
structure SensRow where
  gd : Int
  gq : Int
  hx : Int
  hv : Int
  deriving DecidableEq, Repr

/-- Remainder coefficients of a speculation (R202). The spec gives no formula for them: they are free. -/
structure Remainder where
  cTh : Nat
  cW : Nat
  cD : Nat
  q : Nat
  deriving DecidableEq, Repr

/-- The speculation record of one evaluation (R196). -/
structure Spec where
  /-- Load point it is for, in ticks. -/
  load : Nat
  kind : EvKind
  par : LoopPar
  pred : EvIn
  take : SpTake
  /-- Pre-floor duties w_spec. -/
  wU : Int
  wV : Int
  wW : Int
  /-- Sensitivities of U, V and W, active guards, and remainder coefficients (R202). -/
  sU : SensRow
  sV : SensRow
  sW : SensRow
  guards : List Guard
  rem : Remainder
  /-- State words the evaluation would advance. -/
  st : LoopSt
  /-- Step count of the observer state it used. -/
  step : Nat
  deriving DecidableEq, Repr

/-- An evaluation that has been decided and waits for its completion or its slow path (R206, R213). -/
structure Eval where
  load : Nat
  kind : EvKind
  par : LoopPar
  inp : EvIn
  take : SpTake
  du : Nat
  dv : Nat
  dw : Nat
  /-- The squash is counted: exact mode does not count late commits (R216). -/
  count : Bool
  /-- The committed state words it starts from (R206, R213). -/
  st0 : LoopSt
  deriving DecidableEq, Repr

/-- What a commit advanced, as it was before, for a commit the timer does not take (R209, R215): state words, duties, lateness,
the inputs used, and LOOP_STAT [3:0]. -/
structure Undo where
  st : LoopSt
  du : Nat
  dv : Nat
  dw : Nat
  late : Bool
  last : EvIn
  stat : Nat
  deriving DecidableEq, Repr

/-- Bumpless presets that wait for an evaluation in flight (R183, R213, R215): the mode left and the mode taken, whether the gates
were braked, and whether every loop restarts. -/
structure Preset where
  old : Nat
  m : Nat
  brake : Bool
  all : Bool
  deriving DecidableEq, Repr

/-- A pending parameter write of the list of R185. -/
structure PWrite where
  src : Src
  word : ParamWord
  val : Word
  /-- Instant it became head, in ns; none while it is not head. -/
  headAt : Option Nat
  deriving DecidableEq, Repr

/-- Committed data of a partner or a master on another device, with its instant and its arrival in cycles (R176,
R178), and what it says of that axis: tracking valid, REF, in TRIPPED, failed TEST (R163, R165, R168). -/
structure Remote where
  pos : Int
  speed : Int
  at_ : Int
  got : Nat
  valid : Bool
  ref : Bool
  tripped : Bool
  failed : Bool
  deriving DecidableEq, Repr

/-- Loops of one axis. -/
structure AxLoop where
  st : LoopSt
  /-- State words at the last commit whose completion has not run are `st`; the record and evaluations in flight: -/
  spec : Option Spec
  compl : Option Eval
  slow : Option Eval
  /-- A granted mode request waiting for its boundary (R164): mode and who asked. -/
  req : Option (Nat × Src)
  /-- Pending parameter writes, head first (R185). -/
  pend : List PWrite
  /-- Position pair waiting for its velocity boundary (R177). -/
  pairSet : Option (Nat × Nat)
  /-- Data received from a partner or master on another device. -/
  remote : Option Remote
  /-- Stop completion: velocity boundaries in a row with speed in window (R167). -/
  stopCnt : Nat
  /-- Mode whose stop ramp runs (R167). -/
  stopMode : Nat
  /-- Current periods since the last committed evaluation (R197). -/
  since : Nat
  /-- Periods since the last telemetry record (R30); last committed duties. -/
  telCnt : Nat
  du : Nat
  dv : Nat
  dw : Nat
  /-- Observer steps taken, the observer identity of R196. -/
  steps : Nat
  /-- Exact mode in force since the last current boundary (R216). -/
  exact : Bool
  /-- Held by the loss of remote master data until a new request (R178), or by a re-placement (R324). -/
  gearHeld : Bool
  moveHeld : Bool
  /-- Tick of the last load point whose evaluation has been decided (R204 to R209). -/
  decided : Nat
  /-- What the commit that the timer has not taken yet replaced (R209, R215). -/
  back : Option Undo
  /-- Parameters in force at the last load point, or at the landing on it (R169). -/
  par : LoopPar
  /-- Presets that wait for the evaluation in flight (R215). -/
  presets : List Preset
  /-- A set-point record has given the target since the mode was taken (R183, R184); the next parameter word for a partner on
  another device, and the position it is to set (R161, R177). -/
  spSeen : Bool
  pairWord : Nat
  pairSend : Option Nat
  /-- A telemetry record waits for the completion of its evaluation: load-point index and fabric time (R30, R406). -/
  tel : Option (Nat × Nat)
  /-- A completion or slow path to run again after a disagreement of the lane's copies (R334). -/
  retry : Option Eval
  /-- The last commit was late; the inputs it used (R406). -/
  wasLate : Bool
  last : EvIn
  /-- The load point, in ticks, that selects the strobe whose IA slot was read last, if one does; the instant in cycles of the
  last strobe a load point selected (R20, R177). -/
  sel : Option Nat
  selAt : Nat
  deriving DecidableEq, Repr

/-- A probe of the crumb trace (R191): its samples, oldest first, samples since the trigger, whether it has stopped. -/
structure Probe where
  ring : List Int
  post : Nat
  stopped : Bool
  /-- Ticks of its clock still to pass before the next sample (R191). -/
  skip : Nat
  deriving DecidableEq, Repr

/-! ## One axis -/

/-- What the device holds for one axis beside its objects. -/
structure Axis where
  exc : AxExc
  fe : AxFe
  flt : AxFlt
  trk : AxTrk
  pwm : AxPwm
  loop : AxLoop
  deriving DecidableEq, Repr

def Smp.zero : Smp := ⟨0, 0, 0⟩
def Stage.reset : Stage := ⟨[], 0, 0, 2, false⟩
def Chain.reset : Chain := ⟨Stage.reset, Stage.reset, Stage.reset, false, false, true⟩
def RngReq.none_ : RngReq := ⟨none, none, none⟩
def Plateau.none_ : Plateau := ⟨0, false, 0, 0, false⟩

def AxExc.reset : AxExc :=
  { grp := 0, drive := false, step := 3, amp := 100, slew := 1, ilim := 3, out := 0, failCnt := 0, fall := false,
    decided := none, force := false, half := 18750, phase := 0, det := 0, pw := 96, nPl := 0, nextPt := 0, noMeas := true,
    pending := false, openFail := false, swAt := 0 }

def AxFe.reset : AxFe :=
  { rsrc := 0, isrc := 0, rWin := 0, iWin := 0, rMux := none, iMux := none, rReq := RngReq.none_, iReq := RngReq.none_, rDn := 0,
    iDn := 0, rPeak := 0, iPeak := 0, clamp := 0, xS := 0, xA := 0, hRead := 0, ringS := [], ringC := [],
    plS := Plateau.none_, prevS := Plateau.none_, prevC := Plateau.none_, keptS := false, tSum := 0, tCnt := 0,
    allSum := 0, allCnt := 0, prevAt := none, prevAll := none, opS := false, opC := false, cutS := none, cutC := none,
    closedAt := 0 }

def AxFlt.reset : AxFlt :=
  { cfgSq := 7 + 30 * 2 ^ 16 + 30 * 2 ^ 32, cfgSn := 12 + 30 * 2 ^ 16 + 30 * 2 ^ 32,
    cfgCu := 16 + 30 * 2 ^ 16 + 30 * 2 ^ 32, sqS := Chain.reset, sqC := Chain.reset, snS := Chain.reset,
    snC := Chain.reset, cuA := Chain.reset, cuB := Chain.reset, outS := Smp.zero, outC := Smp.zero, outA := Smp.zero,
    outB := Smp.zero, meas := none, selA := none }

def AxTrk.reset : AxTrk :=
  { phi := 0, ecount := 0, omega := 0, tPrev := 0, v := 0, acc := 0, ofs := 0, ampBad := false, lock := 0,
    started := false, posReq := none, posWait := 0, run := false, travel := none, revSign := 0 }

def Phase.reset : Phase := ⟨0, 0, 0, false, false⟩

def AxPwm.reset : AxPwm :=
  { active := false, half := 3750, phase := 0, dual := false, dt := 0, minp := 0, valley := 0, extra := 0, j := 0, loadAt := 0,
    u := Phase.reset, v := Phase.reset, w := Phase.reset, box := [], fed := false, safe := false, lowOn := false,
    brake := false }

def Prot.reset : Prot := ⟨0, [], 0, false, false⟩

def Pid.reset : Pid := ⟨0, 0, 0, 0, 0, 0, true⟩

def LoopSt.reset : LoopSt :=
  { iD := 0, iQ := 0, satD := 0, satQ := 0, vD0 := 0, vQ0 := 0, vD := 0, vQ := 0, ffD := 0, ffQ := 0, curFresh := true,
    id := 0, iq := 0, idRef := 0, iqRef := 0, ia := 0, ib := 0, vel := Pid.reset, pos := Pid.reset, skew := Pid.reset,
    velB := Pid.reset, iqRefB := 0,
    limX := 0, limV := 0, limA := 0, limFresh := true, tgtA := 0, tgtB := 0, gearM0 := 0, gearG0 := 0, vh := 0,
    resid := 0, plCnt := 0, plDone := false, posErr := 0 }

def EvIn.zero : EvIn := ⟨0, 0, 0, 0, 0, 0, 0, 0, 0, false⟩

def LoopPar.reset : LoopPar := ⟨[], [], [], 0, 0, 0, 0, 0, 0⟩

def AxLoop.reset : AxLoop :=
  { st := LoopSt.reset, spec := none, compl := none, slow := none, req := none, pend := [], pairSet := none,
    remote := none, stopCnt := 0, stopMode := 0, since := 0, telCnt := 0, du := 0, dv := 0, dw := 0,
    steps := 0, exact := false, gearHeld := false, moveHeld := false, decided := 0, back := none, tel := none,
    retry := none, wasLate := false, last := EvIn.zero, sel := none, selAt := 0, par := LoopPar.reset, presets := [],
    spSeen := false, pairWord := 0, pairSend := none }

def Probe.reset : Probe := ⟨[], 0, false, 0⟩

def Axis.reset : Axis := ⟨AxExc.reset, AxFe.reset, AxFlt.reset, AxTrk.reset, AxPwm.reset, AxLoop.reset⟩

def Grp.reset : Grp := ⟨false, 18750, 0, false, 0, 0, 0, false, 0, false⟩

def Aux.reset (k : Nat) : Aux := ⟨if k = 7 then 3 else 0, 0, false, 27 + 30 * 2 ^ 16 + 30 * 2 ^ 32, Chain.reset, Smp.zero⟩

def Auxo.reset : Auxo := ⟨0, false, 0, 0⟩

def Enc.reset : Enc := ⟨0, 0, 0, 0, 0, 0, none, 0, false, false, false, false⟩
/-! ## Fabric links and the Jorfevy protocol (R277 to R309) -/

/-- A frame in a link's replay store (R286): its link sequence, class and bytes from header to MAC. -/
structure Sent where
  lseq : Nat
  cls : Nat
  bytes : List Byte
  deriving DecidableEq, Repr

/-- What a link keeps beside LK[p].CFG, STAT, NBR, CNT and TOT. -/
structure Link where
  /-- Training has run out and the link goes on at preset 3 (R278). -/
  preset3 : Bool
  /-- Own nonce, drawn at the entry to HELLO, and what the partner's latest accepted HELLO said (R289). -/
  nonce : Nat
  nbrClaim : Nat
  nbrNonce : Nat
  nbrFlags : Nat
  nbrFinger : Nat
  /-- TIME of the partner's latest JOIN and the own time of its arrival in ns (R303). -/
  joinTime : Option (Nat × Nat)
  /-- Last LSEQ sent, the frames not yet acknowledged, oldest first, and those of them a replay round still has to send
  (R286). -/
  txSeq : Nat
  unacked : List Sent
  again : List Nat
  /-- Replay rounds in a row without acknowledgement progress. -/
  rounds : Nat
  /-- Expected LSEQ once a frame has been taken, and whether a NAK for it is outstanding. -/
  rxNext : Option Nat
  nakOut : Bool
  /-- Credits by class: granted by the partner since UP, used since UP, granted to the partner since UP (R285). -/
  grant : List Nat
  used : List Nat
  given : List Nat
  /-- Class weights left in the round of the weighted round robin (R284). -/
  wrr : List Nat
  /-- Bytes of each class that have left the transmit queue and wait for the rest of their frame (R308). -/
  rest : List (List Byte)
  /-- Link words put into the gap since the last frame began, the newest of each kind and class (R281). -/
  words : List (BitVec 24)
  /-- The frame last put on the wire: the 56 bits of its link prefix (R280), its bytes from header to CRC, and whether it was
  aborted with /E/ (R287). -/
  outPre : Nat
  out : List Byte
  outCut : Bool
  /-- CRC errors of the running millisecond; MAC failures of the last second by instant (R286, R307). -/
  errMs : Nat
  errCnt : Nat
  macAt : List Nat
  macEv : Option Nat
  /-- Token buckets in millionths of a frame, CTL then MGMT, and their last refill in ns (R307). -/
  tokens : List Nat
  tokAt : Nat
  /-- Instants of the last exits to DOWN in ns (R288). -/
  downs : List Nat
  /-- TSYNC: last exchange number and its t1, twice the last 16 delays in ns, newest first (R299). -/
  xno : Nat
  t1 : Option Nat
  delays : List Int
  /-- Classes congested now (R306). -/
  cong : List Nat
  deriving DecidableEq, Repr

def Link.reset : Link :=
  { preset3 := false, nonce := 0, nbrClaim := 0xFF, nbrNonce := 0, nbrFlags := 0, nbrFinger := 0, joinTime := none, txSeq := 0,
    unacked := [],
    again := [], rounds := 0, rxNext := none, nakOut := false, grant := [0, 0, 0, 0], used := [0, 0, 0, 0],
    given := [0, 0, 0, 0], wrr := [0, 4, 1, 2], rest := [[], [], [], []], words := [], outPre := 0, out := [], outCut := false,
    errMs := 0, errCnt := 0, macAt := [], macEv := none,
    tokens := [64000000, 64000000], tokAt := 0, downs := [], xno := 0, t1 := none, delays := [], cong := [] }

/-- A link of a node as its LSR reports it (R283). -/
structure LsLink where
  own : Nat
  nbr : Nat
  delay : Nat
  serial : Nat
  deriving DecidableEq, Repr

/-- A node of the link-state database (R291), with the ID assigned to it (R293) and its last refresh in ns. -/
structure Lsr where
  serial : Nat
  claim : Nat
  flags : Nat
  seq : Nat
  finger : Nat
  links : List LsLink
  id : Option Nat
  dup : Bool
  at_ : Nat
  deriving DecidableEq, Repr

/-- A BCAST frame taken within the last second (R284). -/
structure Seen where
  who : Nat
  typ : Nat
  num : Nat
  at_ : Nat
  deriving DecidableEq, Repr

/-- An entry of the flow table (R304). -/
structure Flow where
  key : FlowKey
  h : Nat
  at_ : Nat
  deriving DecidableEq, Repr

/-- A flow this node is the source of: its next SEQ (R304). -/
structure SrcFlow where
  srcQ : Nat
  dstQ : Nat
  cls : Nat
  next : Nat
  deriving DecidableEq, Repr

/-- What an RT route of a plan carries (R318). -/
inductive FlowUse where
  | iqRef | setPoint | exchange | gear
  deriving DecidableEq, Repr

/-- An RT route as this node holds it (R295, R296, R318): its ends and queues, its use with the axis at either end and the
period of its flow in cycles, this node's next ports on both paths, and what a failure has made of it. -/
structure RtRoute where
  id : Nat
  src : Nat
  dst : Nat
  srcQ : Nat
  dstQ : Nat
  use : FlowUse
  srcAxis : Nat
  dstAxis : Nat
  period : Nat
  prim : Option Nat
  alt : Option Nat
  onAlt : Bool
  dead : Bool
  /-- Cycle of the last record of the flow; set-point records that wait to be forwarded, oldest first (R28). -/
  sentAt : Nat
  wait : List (List Byte)
  deriving DecidableEq, Repr

/-- A transit frame in a receive buffer, waiting for its output link (R287): where it came from, where it goes, a number that its
BCAST copies share, and its arrival in ns. A `fresh` one is a frame of this node that has not begun, held for a link that was lost
(R297): its header and payload only. -/
structure Transit where
  inPort : Nat
  out : Nat
  uid : Nat
  cls : Nat
  bytes : List Byte
  at_ : Nat
  fresh : Bool
  deriving DecidableEq, Repr

/-- The fabric of a node beside its objects. -/
structure Fab where
  links : List (Nat × Link)
  lsdb : List Lsr
  /-- Own LSR sequence, the last change of the database in ns, and how many changes it has had (R291, R292, R321). -/
  lsrSeq : Nat
  changeAt : Nat
  changes : Nat
  seen : List Seen
  flows : List Flow
  src : List SrcFlow
  routes : List RtRoute
  transit : List Transit
  uid : Nat
  /-- IDs assigned so far stay with their nodes (R293). -/
  held : Bool
  /-- The node has stepped onto its parent's time, has had the lock before, and exchanges in a row within 4 ns (R299). -/
  stepped : Bool
  locked : Bool
  lockRun : Nat
  /-- Number of the last SYNC sent or taken, and a SYNC that waits for its T: number and T in ns (R302). -/
  syncNo : Nat
  syncPend : Option (Nat × Nat)
  /-- The epoch E in force, in ns (R302). -/
  epoch : Nat
  deriving DecidableEq, Repr

def Fab.reset : Fab :=
  { links := [], lsdb := [], lsrSeq := 0, changeAt := 0, changes := 0, seen := [], flows := [], src := [], routes := [],
    transit := [],
    uid := 0, held := false, stepped := false, locked := false, lockRun := 0, syncNo := 0, syncPend := none, epoch := 0 }

/-! ## Monitor outputs (R246 to R251) -/

/-- What a monitor output keeps beside its objects: span and period in force, 16-bit words of the pop word in use, whether
a word has been taken since it became queue-fed and whether an underflow would be the first after one, whether it holds
its fault value until then, and who waits for the end of a span change. -/
structure Mon where
  span : Nat
  period : Nat
  buf : List Nat
  took : Bool
  armed : Bool
  holdFault : Bool
  wait : Option Src
  deriving DecidableEq, Repr

def Mon.reset : Mon := ⟨0, 1000, [], false, false, false, none⟩

/-! ## Redundancy (R329 to R350) -/

/-- A device checkpoint: axis, load point and CRC (R343, R344). -/
structure Ckpt where
  axis : Nat
  j : Nat
  crc : Nat
  deriving DecidableEq, Repr

/-- What a member keeps of the member behind one of its twin ports (R343, R344): whether it is present, the last TSEQ and
the last STATUS it sent, its checkpoints not yet compared, the records that wait for it, and the TSEQ of the next frame to
it. -/
structure Member where
  present : Bool
  tseq : Option Nat
  mode : Nat
  role : Nat
  okOut : Bool
  odd : Bool
  resync : Bool
  cks : List Ckpt
  out : List (List Byte)
  next : Nat
  deriving DecidableEq, Repr

def Member.reset : Member := ⟨false, none, 0, 0, false, false, false, [], [], 0⟩

/-- The outcome of an evaluation that waits for its load point before it is sent (R341, R344): load point, outcome code,
ranges, currents, and the set-point record it took. `passed` says that the load point has gone by. -/
structure TwinDue where
  j : Nat
  outcome : Nat
  range : Nat
  ia : Int
  ib : Int
  take : Option (Nat × Nat)
  passed : Bool
  deriving DecidableEq, Repr

/-- A handover the designated member runs (R348): the groups whose enable the old driver held and the samples in a row at
which each read low, the axes that were driving with their modes, whether the old driver was in HOLD, whether release is
verified. -/
structure Handover where
  groups : Nat
  low : List Nat
  modes : List (Nat × Nat)
  hold : Bool
  verified : Bool
  deriving DecidableEq, Repr

/-- What the twin and triad logic keeps beside its objects. -/
structure Red where
  /-- This member drives (R348); a solo device always does. -/
  drives : Bool
  /-- The members behind PORT_A (0) and PORT_B (1). -/
  mems : List (Nat × Member)
  /-- Own checkpoints not yet compared. -/
  own : List Ckpt
  due : List (Nat × TwinDue)
  /-- AX_MODE of each axis as the followers know it. -/
  sentMode : List (Nat × Nat)
  /-- The odd member: 0 and 1 as in `mems`, 2 this one (R347). -/
  odd : Option Nat
  /-- A checkpoint mismatch has been found since STANDBY or FOLLOW was entered (R345). -/
  bad : Bool
  /-- Axes whose own measurement lies beyond its window (R342). -/
  meas : List Nat
  /-- A follower's own pair since the driver's last, by axis, and the set-point its next evaluation takes: kind and value. -/
  pairs : List (Nat × (Int × Int))
  sets : List (Nat × (Nat × Nat))
  /-- A handover in progress on the designated member. -/
  hand : Option Handover
  /-- A resync of this member runs (R349): words of SNAP records taken so far by axis, axes loaded, and the records that wait
  for their axis. -/
  snap : List (Nat × List (Nat × Nat))
  loaded : List Nat
  kept : List (List Byte)
  /-- RED_CFG as written in MAINT, which the next start takes. -/
  cfgNext : Option Nat
  deriving DecidableEq, Repr

def Red.reset : Red :=
  { drives := true, mems := [], own := [], due := [], sentMode := [], odd := none, bad := false, meas := [], pairs := [],
    sets := [], hand := none, snap := [], loaded := [], kept := [], cfgNext := none }


/-! ## Placement (R310 to R328) -/

/-- A fraction, exact. -/
structure Frac where
  n : Nat
  d : Nat
  deriving DecidableEq, Repr

/-- Kinds of work items, by the numbers of R328. -/
inductive ItemKind where
  | t0 | t1 | motor | pair | exchange | gear | t3
  deriving DecidableEq, Repr

/-- A work item (R312) with what a plan gives it (R316). `home` is the device it is pinned to, or the primary's for a pair
item; `far` the other device it names. `winT` and `lead` are the period and lead of the axis whose window it uses (R315),
`sched` the scheduled part of its cost. -/
structure Item where
  node : Nat
  task : Nat
  part : Nat
  kind : ItemKind
  axis : Nat
  home : Nat
  far : Option Nat
  farAxis : Nat
  period : Nat
  cost : Frac
  sched : Option Frac
  winT : Nat
  lead : Nat
  failed : Bool
  exact : Bool
  unplaced : Bool
  device : Option Nat
  lane : Option Nat
  deriving DecidableEq, Repr

/-- One path of a route: first port, hops, latency in ns (R328). -/
structure RouteEnd where
  port : Nat
  hops : Nat
  latency : Nat
  deriving DecidableEq, Repr

/-- A route of a plan (R318): its flow, its queues, its two paths. -/
structure PlanRoute where
  id : Nat
  src : Nat
  dst : Nat
  srcQ : Nat
  dstQ : Nat
  use : FlowUse
  keyNode : Nat
  keyTask : Nat
  srcAxis : Nat
  dstAxis : Nat
  period : Nat
  bytes : Nat
  prim : Option RouteEnd
  alt : Option RouteEnd
  deriving DecidableEq, Repr

/-- A plan (R316 to R319, R328). -/
structure Plan where
  no : Nat
  nodes : List (Nat × Nat × Nat)
  items : List Item
  routes : List PlanRoute
  deriving DecidableEq, Repr

/-- What placement keeps beside its objects. -/
structure Place where
  /-- Axes of items the accepted plan leaves unplaced (R317). -/
  unplaced : List Nat
  /-- Lane of each axis in the accepted plan (R316). -/
  lanes : List (Nat × Nat)
  /-- Axes that are the second motor of a pair whose primary is on another device (R161, R313). -/
  parts : List Nat
  /-- The plan in force; the plan computed and not yet accepted; the plan records read and not its own (R321). -/
  plan : Option Plan
  next : Option Plan
  /-- The database the plan in `next` was computed from: its RT routes are those of that moment (R295). -/
  db : List Lsr
  /-- An attempt runs over the database of this number (R321). -/
  run : Option Nat
  /-- A re-placement runs: instant of its first start in ns (R324, R325). -/
  since : Option Nat
  /-- The plan accepted by a re-placement waits for the T of its SYNC (R324). -/
  moving : Bool
  deriving DecidableEq, Repr

def Place.reset : Place :=
  { unplaced := [], lanes := [], parts := [], plan := none, next := none, db := [], run := none, since := none, moving := false }


/-! ## Ledger (R380 to R390) -/

/-- A ledger write in progress (R387): its cause, slot, sequence and calendar value, the counters of its snapshot as bytes,
whether it is the retry, and whether a reset waits for it (R70). -/
structure LedgWrite where
  cause : Nat
  slot : Nat
  seq : Nat
  cal : Nat
  data : List Byte
  retry : Bool
  forReset : Bool
  /-- The snapshot of a brown-out, alone or merged with other triggers (R86, R388). -/
  bo : Bool
  deriving DecidableEq, Repr

/-- What the ledger keeps beside its objects: hidden millisecond accumulators, by counter, each below 1,000 between
seconds (R382); the values of the raw counters at the last fold (R385); the write in progress, triggers that wait for its
end (R388), failed writes in a row (R387) and the completion of the last brown-out snapshot in ns (R86). -/
structure Ledg where
  acc : List (Nat × Nat)
  base : List (Nat × Nat)
  write : Option LedgWrite
  waiting : List Nat
  fails : Nat
  lastBo : Option Nat
  /-- Slot and sequence of the newest valid record, once there is one. -/
  newest : Option (Nat × Nat)
  deriving DecidableEq, Repr

def Ledg.reset : Ledg := ⟨[], [], none, [], 0, none, none⟩


/-! ## The supervisor core (R351 to R379) -/

/-- The supervisor core beside DEV.SV_STAT. Control registers are listed by number and read `Sv.csr0` where unlisted; IP0
and IP1 hold the edge sources only, OBST its CODE and ERR, TIME_HI its latch. -/
structure Sv where
  /-- Registers w0 to w15 and the program counter (R351). -/
  w : Vector Word 16
  pc : Word
  /-- SR (R353). -/
  cp : Nat
  ie : Bool
  inf : Bool
  mask : Nat
  csr : List (Nat × Nat)
  /-- Supervisor SRAM, 512 KiB; an unlisted byte reads 0 (R352, R379). -/
  mem : List Host.Cell
  /-- Words of the SRAM whose parity is wrong (R352). -/
  badPar : List Nat
  /-- TCMP is armed (R375). -/
  armed : Bool
  /-- Instants in ns of the writes that set TMR0 and TMR1, and of the watchdog's last restart (R375, R376). -/
  tmrAt : List (Nat × Nat)
  wdAt : Nat
  /-- Waits in WFI (R373). -/
  wfi : Bool
  /-- Register whose load or product the next instruction would wait for (R362). -/
  late : Option (Fin 16)
  /-- Supervisor clocks spent since the start, by the costs of R362. -/
  clocks : Nat
  deriving DecidableEq, Repr

/-- Reset value of a control register (R354). -/
def Sv.csr0 (n : Nat) : Nat := if 0x20 ≤ n ∧ n ≤ 0x27 then 0xFFFF else 0

/-- The core after a reset, before a program starts. -/
def Sv.reset : Sv :=
  { w := Vector.replicate 16 0, pc := 0, cp := 8, ie := false, inf := false, mask := 8, csr := [], mem := [], badPar := [],
    armed := false, tmrAt := [], wdAt := 0, wfi := false, late := none, clocks := 0 }


/-! ## The state -/

/-- Why the block stops. No rule of the spec stops the block as a whole: loss of the CORE clock is a state the block
stays in until a reset (R23). The one fault is the bus's: nobody raises it, and it is safe. -/
inductive Fault where
  /-- An access beyond the block. No meaning raises it; safe. -/
  | noSuchAccess
  deriving DecidableEq, Repr

/-- Why a command has no meaning. -/
inductive Refusal where
  /-- The command has no meaning in the model yet: raised by Dispatch only; safe. -/
  | notModelled (mnemonic : String)
  deriving DecidableEq, Repr

/-- The state of the block. -/
structure State where
  /-- Commands waiting, first in, first out. -/
  pending : List Instr
  /-- Object registers (R397): key is block * 2^18 + index, value is the whole object; an unlisted register holds its
  reset value (R398). -/
  regs : List (Nat × Nat)
  pwr : Pwr
  nv : Nv
  ctl : Ctl
  load : Load
  qm : Qm
  msg : Msg
  /-- Axes 0 to 47, groups 0 to 3, auxiliary channels, AUXO outputs, encoder emulators (R88, R89, R113, R114, R156). -/
  axes : List (Nat × Axis)
  grps : List (Nat × Grp)
  auxs : List (Nat × Aux)
  auxos : List (Nat × Auxo)
  encs : List (Nat × Enc)
  /-- Strobes whose conversions run, oldest first, by slot (R13); crossing queue C1 by slot (R21). -/
  conv : List (Nat × List Strobe)
  c1 : List (Nat × List C1Ent)
  prot : Prot
  /-- Monitor outputs 0 to 15 (R246). -/
  mons : List (Nat × Mon)
  /-- Probes of the crumb trace (R191). -/
  probes : List (Nat × Probe)
  red : Red
  place : Place
  ledg : Ledg
  sv : Sv
  fab : Fab
  deriving DecidableEq, Repr

/-- The state at power-on: the internal reset is asserted, no rail is in range yet, RESET_CAUSE shows POWER_ON (R65,
R69), and every register holds its reset value (R398). -/
def Pwr.reset : Pwr := ⟨0, 0, false, false, true, false, false, false, false, 0, 10000, none⟩

/-- The RTC domain at its first supply: the count runs from 0 and is not valid (R391). -/
def Rtc.reset : Rtc := ⟨0, false, false, false, true, 0, 32768, []⟩

/-- Memories at power-on. The spec gives no factory content: log entries 3 and 4. -/
def Nv.reset : Nv :=
  { serial := 0, grade := 0, otpLock := 0, khash := 0, fkey := 0, trim := [], flash := [], ledgMem := [], ledgTorn := [],
    rtc := Rtc.reset, cause := 1 }

def Ctl.reset : Ctl :=
  { time := 0, ofs := 0, rate := 2 ^ 33, freeCnt := 0, evNew := [], evPre := [], evOpen := false, evLog := [], trigs := [],
    testFrom := none, resetWait := none, clearFrom := 0, frameStart := 0, frameLen := 200, prevLen := 200,
    short := none, gridAt := none, lateInFrame := 0, epoch := 0, testFail := [], testWas := 0 }

def Load.reset : Load :=
  { toTry := [], flashOk := false, shadow := [], staging := [], svHead := [], fingerprint := 0, qcfg := [],
    bindings := [], claim := 0xFF, fabKey := none, standalone := false, img := none, okSlots := [], trimKind := none,
    trimSwitch := false,
    trimUse := none, jobs := [] }

def Qm.reset : Qm := ⟨[], [], [], none, false, false, false, [], [], [], [], []⟩

def Msg.reset : Msg := ⟨[], 0, [], [], [], false, [], [], [], 0, 0, 0⟩

def State.reset : State :=
  { pending := [], regs := [], pwr := Pwr.reset, nv := Nv.reset, ctl := Ctl.reset, load := Load.reset, qm := Qm.reset,
    msg := Msg.reset, axes := [], grps := [], auxs := [], auxos := [], encs := [], conv := [], c1 := [],
    prot := Prot.reset, mons := [], probes := [], red := Red.reset, place := Place.reset, ledg := Ledg.reset, sv := Sv.reset,
    fab := Fab.reset }

end Sys2Proof.Machine
end

