-- ==== Sys2Proof/Machine/Operands.lean ====
section
/-!
DEFINITION. Operands: sparse maps, byte strings, fields of an object (R4, R7, R10) and the one place where an
object register is read and written.
-/

namespace Sys2Proof.Machine

/-! ## Sparse maps in canonical form -/

/-- The entry at key `k`, or `d` where none is listed. -/
def mget {α : Type} (d : α) : List (Nat × α) → Nat → α
  | [], _ => d
  | (j, a) :: m, k => if j = k then a else mget d m k

/-- Whether the map lists key `k`. -/
def mhas {α : Type} : List (Nat × α) → Nat → Bool
  | [], _ => false
  | (j, _) :: m, k => if j = k then true else mhas m k

/-- The map without key `k`. -/
def mdel {α : Type} : List (Nat × α) → Nat → List (Nat × α)
  | [], _ => []
  | (j, a) :: m, k => if j = k then mdel m k else (j, a) :: mdel m k

/-- The map with `a` at key `k`, keys rising. -/
def mins {α : Type} : List (Nat × α) → Nat → α → List (Nat × α)
  | [], k, a => [(k, a)]
  | (j, b) :: m, k, a =>
    if k < j then (k, a) :: (j, b) :: m
    else if j = k then (k, a) :: m
    else (j, b) :: mins m k a

/-- The map with `a` at key `k`; writing the value an unlisted key reads as removes the entry. -/
def mset {α : Type} [DecidableEq α] (d : α) (m : List (Nat × α)) (k : Nat) (a : α) : List (Nat × α) :=
  if a = d then mdel m k else mins m k a

/-- The canonical form: keys strictly rising from `lo`, and no entry equal to what an unlisted key reads as. -/
def mwfFrom {α : Type} [DecidableEq α] (d : α) : Nat → List (Nat × α) → Bool
  | _, [] => true
  | lo, (j, a) :: m => decide (lo ≤ j) && decide (a ≠ d) && mwfFrom d (j + 1) m

/-- The canonical form of a map. -/
def mwf {α : Type} [DecidableEq α] (d : α) (m : List (Nat × α)) : Bool := mwfFrom d 0 m

/-- The first key at or above `n` that a rising list of keys leaves free. -/
def firstFree {α : Type} : Nat → List (Nat × α) → Nat
  | n, [] => n
  | n, (j, _) :: m => if j < n then firstFree n m else if j = n then firstFree (n + 1) m else n

/-! ## Bits and bytes -/

/-- Bits [lo + w - 1 : lo] of a word (R4). -/
def bits (v lo w : Nat) : Nat := v / 2 ^ lo % 2 ^ w

/-- A word with bits [lo + w - 1 : lo] replaced by `x`. -/
def setBits (v lo w x : Nat) : Nat :=
  v % 2 ^ lo + (x % 2 ^ w) * 2 ^ lo + v / 2 ^ (lo + w) * 2 ^ (lo + w)

/-- One bit as a Boolean. -/
def bit (v i : Nat) : Bool := v / 2 ^ i % 2 == 1

/-- A Boolean as a bit. -/
def b2n (b : Bool) : Nat := if b then 1 else 0

/-- The signed value of a `w`-bit two's complement field (R5). -/
def sx (w v : Nat) : Int := if v % 2 ^ w < 2 ^ (w - 1) then (v % 2 ^ w : Nat) else (v % 2 ^ w : Nat) - (2 ^ w : Nat)

/-- The `w`-bit two's complement field of a signed value (R5). -/
def tc (w : Nat) (x : Int) : Nat := (x % (2 ^ w : Nat)).toNat

/-- The value of a little-endian byte string (R4). -/
def leVal : List Byte → Nat
  | [] => 0
  | b :: bs => b.toNat + 256 * leVal bs

/-- The `n` little-endian bytes of a value (R4). -/
def leBytes : Nat → Nat → List Byte
  | 0, _ => []
  | n + 1, v => BitVec.ofNat 8 v :: leBytes n (v / 256)

/-- `n` bytes at offset `off` of a byte string; bytes beyond its end read 0. -/
def sliceB (bs : List Byte) (off n : Nat) : List Byte :=
  let t := (bs.drop off).take n
  t ++ List.replicate (n - t.length) 0

/-- A little-endian field of a byte string: `n` bytes at offset `off`. -/
def fieldB (bs : List Byte) (off n : Nat) : Nat := leVal (sliceB bs off n)

/-- The bytes of a sparse byte memory from address `a`. -/
def memBytes (d : Byte) (m : List (Nat × Byte)) (a : Nat) : Nat → List Byte
  | 0 => []
  | n + 1 => mget d m a :: memBytes d m (a + 1) n

/-- A sparse byte memory with a byte string written from address `a`. -/
def memWrite (d : Byte) (m : List (Nat × Byte)) (a : Nat) : List Byte → List (Nat × Byte)
  | [] => m
  | b :: bs => memWrite d (mset d m a b) (a + 1) bs

/-- A byte string packed in halfwords, little-endian; an odd last byte is padded with 0. -/
def halfwords : List Byte → List QWord
  | a :: b :: bs => ((b ++ a : BitVec 16), false) :: halfwords bs
  | [a] => [((0#8 ++ a : BitVec 16), false)]
  | [] => []

/-- The bytes of a list of halfwords. -/
def hwBytes : List (BitVec 16) → List Byte
  | [] => []
  | h :: hs => h.setWidth 8 :: (h >>> 8).setWidth 8 :: hwBytes hs

/-- The 32-bit words of a value, lowest first (R396). -/
def words32 : Nat → Nat → List Word
  | 0, _ => []
  | n + 1, v => BitVec.ofNat 32 v :: words32 n (v / 2 ^ 32)

/-! ## Object registers -/

/-- The index of instance `i` of an object in its block (R397). An object with `sub` side-by-side instances per axis
counts them within the axis's stride. -/
def objIndex (o : ObjId) (i : Nat) : Nat :=
  let r := objRow o
  r.base + i / r.sub * r.stride + i % r.sub

/-- The key of an object register: block and index, the address of R7 without its node. -/
def objKey (o : ObjId) (i : Nat) : Nat := (objRow o).block * 2 ^ 18 + objIndex o i

/-! ## Addresses (R7, R396, R397) -/

/-- The instance of object `o` whose lowest index is `ix`. -/
def instOf (o : ObjId) (ix : Nat) : Option Nat :=
  let r := objRow o
  let k := (ix - r.base) / max 1 r.stride
  let j := (ix - r.base) % max 1 r.stride
  if r.base ≤ ix ∧ k < r.count ∧ j < r.sub then some (k * r.sub + j) else none

/-- The object a block and an index name, among those of a list. -/
def findObj (ix : Nat) : List ObjId → Option (ObjId × Nat)
  | [] => none
  | o :: os => match instOf o ix with
    | some i => some (o, i)
    | none => findObj ix os

/-- The object at an address: block and index, whatever its node field says (R396). -/
def locate (addr : Nat) : Option (ObjId × Nat) := findObj (addr % 2 ^ 18) (objsOfBlock (bits addr 18 8))

/-- Words of an object. -/
def objWords (o : ObjId) : Nat := ((objRow o).bits + 31) / 32

/-! ## Values and fields -/

/-- The value of the object register `o[i]`: its reset value (R398) until something is written there. -/
def getObj (s : State) (o : ObjId) (i : Nat) : Nat := mget (objReset o i) s.regs (objKey o i)

/-- The state with the object register `o[i]` holding `v`. -/
def setObj (s : State) (o : ObjId) (i : Nat) (v : Nat) : State :=
  { s with regs := mset (objReset o i) s.regs (objKey o i) v }

/-- A field of an object value (R7). -/
def fget (v : Nat) (f : Fld) : Nat := bits v f.lo f.w

/-- An object value with one field replaced. -/
def fset (v : Nat) (f : Fld) (x : Nat) : Nat := setBits v f.lo f.w x

/-- A field of an object register. -/
def rd (s : State) (f : Fld) (i : Nat) : Nat := fget (getObj s f.obj i) f

/-- A signed field of an object register (R5). -/
def rdS (s : State) (f : Fld) (i : Nat) : Int := sx f.w (rd s f i)

/-- A one-bit field of an object register. -/
def rdB (s : State) (f : Fld) (i : Nat) : Bool := rd s f i == 1

/-- The state with one field of an object register replaced. -/
def wr (s : State) (f : Fld) (i : Nat) (x : Nat) : State := setObj s f.obj i (fset (getObj s f.obj i) f x)

/-- The state with a one-bit field of an object register replaced. -/
def wrB (s : State) (f : Fld) (i : Nat) (b : Bool) : State := wr s f i (b2n b)

/-- The state with a signed field of an object register replaced (R5). -/
def wrS (s : State) (f : Fld) (i : Nat) (x : Int) : State := wr s f i (tc f.w x)

end Sys2Proof.Machine
end

