-- ==== Sys2Proof/Machine/Sram.lean ====
section
/-!
DEFINITION. The partition of the 8 MiB SRAM, fixed in silicon (R25): the regions of the local address space and their
addresses. What a region holds is kept by the unit that owns it; the bounds of those units come from the sizes here.
-/

namespace Sys2Proof.Machine

/-- The regions of the SRAM, in address order. -/
inductive Region where
  | descriptors | cells | trace | supervisor | axisBlocks | laneState | tables | shadow
  deriving DecidableEq, Repr

/-- Bytes of the local address space. -/
def sramSize : Nat := 0x800000

/-- First address of a region. -/
def Region.base : Region → Nat
  | .descriptors => 0x000000
  | .cells => 0x100000
  | .trace => 0x400000
  | .supervisor => 0x600000
  | .axisBlocks => 0x680000
  | .laneState => 0x6E0000
  | .tables => 0x700000
  | .shadow => 0x780000

/-- Bytes of a region. -/
def Region.size : Region → Nat
  | .descriptors => 0x100000
  | .cells => 0x300000
  | .trace => 0x200000
  | .supervisor => 0x080000
  | .axisBlocks => 0x060000
  | .laneState => 0x020000
  | .tables => 0x080000
  | .shadow => 0x080000

/-- All regions, in address order. -/
def Region.all : List Region := [.descriptors, .cells, .trace, .supervisor, .axisBlocks, .laneState, .tables, .shadow]

/-- The region a local address lies in; none beyond the 8 MiB. -/
def regionAt (a : Nat) : Option Region := Region.all.find? (fun r => decide (r.base ≤ a ∧ a < r.base + r.size))

/-- First address of the block of axis `n`, 8 KiB each. -/
def axisBlock (n : Nat) : Nat := Region.axisBlocks.base + 0x2000 * n

/-- Queue descriptors of 16 bytes and cells of 64 bytes that the SRAM holds. -/
def sramQueues : Nat := Region.descriptors.size / 16
def poolCells : Nat := Region.cells.size / 64

/-- Bytes of the crumb trace and of the supervisor's memory. -/
def traceBytes : Nat := Region.trace.size
def svSize : Nat := Region.supervisor.size

end Sys2Proof.Machine
end

