-- ==== Sys2Proof/Machine/Flags.lean ====
section
/-!
DEFINITION. Flags and exact arithmetic: saturation, rounding, counters and sticky bits (R5, R9, R119).
-/

namespace Sys2Proof.Machine

/-- Saturation of a signed value to `w` bits (R119). -/
def satS (w : Nat) (x : Int) : Int :=
  if x < -(2 ^ (w - 1) : Nat) then -(2 ^ (w - 1) : Nat)
  else if x > (2 ^ (w - 1) : Nat) - 1 then (2 ^ (w - 1) : Nat) - 1
  else x

/-- Saturation to 16 bits. -/
def sat16 (x : Int) : Int := satS 16 x

/-- Saturation to 32 bits. -/
def sat32 (x : Int) : Int := satS 32 x

/-- A signed value wrapped to `w` bits (R5). -/
def wrapS (w : Nat) (x : Int) : Int := sx w (tc w x)

/-- Arithmetic right shift, rounding toward minus infinity. -/
def asr (x : Int) (n : Nat) : Int := x / (2 ^ n : Nat)

/-- Rounding right shift: halves round up (R119). -/
def rshr (x : Int) (n : Nat) : Int := if n = 0 then x else (x + (2 ^ (n - 1) : Nat)) / (2 ^ n : Nat)

/-- The absolute value as a natural number. -/
def absN (x : Int) : Nat := x.natAbs

/-- Clamping of a signed value between two limits. -/
def clampS (lo hi x : Int) : Int := if x < lo then lo else if x > hi then hi else x

/-- A counter field that saturates at its maximum: `k` more (R9, R49). -/
def addSat (s : State) (f : Fld) (i k : Nat) : State := wr s f i (min (rd s f i + k) (2 ^ f.w - 1))

/-- A saturating counter field counts one. -/
def incSat (s : State) (f : Fld) (i : Nat) : State := addSat s f i 1

/-- A wrapping counter field counts `k` (R15). -/
def addWrap (s : State) (f : Fld) (i k : Nat) : State := wr s f i ((rd s f i + k) % 2 ^ f.w)

/-- A sticky bit is set (R9). -/
def stick (s : State) (f : Fld) (i : Nat) : State := wr s f i 1

/-- Bits of a sticky mask field are set. -/
def stickMask (s : State) (f : Fld) (i m : Nat) : State := wr s f i (rd s f i ||| m)

/-! ## Time and events -/

/-- Fabric time in ns (R298). -/
def nowNs (s : State) : Nat := ((s.ctl.time : Int) + s.ctl.ofs).toNat / (3 * 2 ^ 32)

/-- The device's own time in ns, without the steps of fabric time: what intervals are measured in. -/
def locNs (s : State) : Nat := s.ctl.time / (3 * 2 ^ 32)

/-- Time of the frame grid in core cycles of 2/3 ns: the instant a command falls on (R13, R298). -/
def nowCyc (s : State) : Nat := s.ctl.time / 2 ^ 33

/-- Time of the frame grid in ticks of 4/3 ns, two core cycles (R20). -/
def nowTick (s : State) : Nat := s.ctl.time / 2 ^ 34

/-- The epoch in cycles of the frame grid: T, less the steps of fabric time, to the nearest cycle. -/
def epochCyc (s : State) (t : Nat) : Nat := ((((t * 3 * 2 ^ 32 : Nat) : Int) - s.ctl.ofs + 2 ^ 32) / 2 ^ 33).toNat

/-- The node ID an event record carries: 0xFF before one is assigned (R403). -/
def evNode (s : State) : Nat := if rdB s F.devFabStat_ID_VALID 0 then rd s F.devFabStat_NODE_ID 0 else 0xFF

/-- The AXIS value of a device event (R403). -/
def devAxis : Nat := 0xFF

/-- An event is raised: its record waits until the command has done its work, when every record of the command is
pushed in the order of R403. -/
def raise (s : State) (code axis arg : Nat) : State :=
  { s with ctl := { s.ctl with evNew := s.ctl.evNew ++ [⟨code, evNode s, axis, arg % 2 ^ 32, nowNs s⟩] } }

/-- A device event is raised. -/
def raiseD (s : State) (code arg : Nat) : State := raise s code devAxis arg

/-- The next free value's number is drawn. Nothing in the model constrains the value itself. -/
def draw (s : State) : State := { s with ctl := { s.ctl with freeCnt := s.ctl.freeCnt + 1 } }

/-- The numbers of `k` free values are drawn. -/
def draws (s : State) (k : Nat) : State := { s with ctl := { s.ctl with freeCnt := s.ctl.freeCnt + k } }

/-- A free choice between two. -/
def drawBool (s : State) : State × Bool := (draw s, Config.freeBool s.ctl.freeCnt)

/-- A free value below `m`. -/
def drawBelow (s : State) (m : Nat) : State × Nat := (draw s, Config.freeNat s.ctl.freeCnt % m)

/-- A free signed value of at most `m` in magnitude. -/
def drawWithin (s : State) (m : Nat) : State × Int := (draw s, clampS (-(m : Int)) m (Config.freeInt s.ctl.freeCnt))

/-- A ledger counter of an axis advances by `k`; one that would pass its largest value stays there, sets its SAT bit `b`
and raises EV_LEDGER_SAT the first time (R382, R384). -/
def ledgAxis (s : State) (f : Fld) (n b k : Nat) : State :=
  let v := rd s f n + k
  if v < 2 ^ f.w then wr s f n v
  else
    let s1 := wr s f n (2 ^ f.w - 1)
    let m := rd s F.axLedger_SAT n
    if bit m b then s1 else raise (wr s1 F.axLedger_SAT n (m ||| 2 ^ b)) 0xA0 n b

end Sys2Proof.Machine
end

