-- ==== Sys2Proof/Machine/Pool.lean ====
section
/-!
DEFINITION. The queue manager: queue IDs, cells, descriptors, pushes, pops, gap and reset markers, watermark notices,
pointer faults, the sweep and the sorted queues (spec/11_queues.md, R253 to R276).
-/

namespace Sys2Proof.Machine

/-! ## Queue IDs (R253, R254) -/

/-- Queues of the sorted store. -/
def isSorted (q : Nat) : Bool := decide (0x400 ≤ q ∧ q ≤ 0x4FF)

/-- Queues whose words stand in pool cells; every other ID but those of the sorted store is reserved. -/
def isPool (q : Nat) : Bool :=
  decide (q ≤ 3) || decide (0x40 ≤ q ∧ q ≤ 0x1BF) || (decide (0x200 ≤ q ∧ q ≤ 0x2FF) && decide (q % 32 < 8))
    || decide (0x1000 ≤ q ∧ q ≤ 0xFFFE)

/-- IDs that exist. -/
def isQueue (q : Nat) : Bool := isPool q || isSorted q

/-- Reset QUOTA of a queue (R254). -/
def quotaInit (q : Nat) : Nat :=
  if q ≤ 3 then 8
  else if 0x100 ≤ q ∧ q ≤ 0x1BF then (match q % 4 with | 0 => 1 | 1 => 4 | 2 => 8 | _ => 1)
  else if 0x200 ≤ q ∧ q ≤ 0x2FF ∧ q % 32 < 8 then 8
  else 0

/-- Set-point queue of axis `n` (R253). -/
def qSet (n : Nat) : Nat := 0x100 + 4 * n
/-- Telemetry queue of axis `n` (R253). -/
def qTel (n : Nat) : Nat := 0x101 + 4 * n
/-- Crumb-trace readout queue of axis `n` (R253). -/
def qTrc (n : Nat) : Nat := 0x102 + 4 * n
/-- Axis event queue of axis `n` (R253). -/
def qAxEv (n : Nat) : Nat := 0x103 + 4 * n
/-- Queue of link `p`, class number `c`: `d` is 0 for transmit, 1 for receive (R254). -/
def qLink (p c d : Nat) : Nat := 0x200 + 32 * p + 2 * c + d

/-! ## Descriptors and cells (R255 to R258) -/

/-- An empty descriptor with the quota and marks given. -/
def qEmpty (quota wmHi wmLo : Nat) : QDesc :=
  { head := 0xFFFF, headN := 0, tail := 0xFFFF, tailN := 0, held := 0, quota := quota, hofs := 0, tofs := 0,
    wmHi := wmHi, wmLo := wmLo, nSet := false, nKind := false, nRet := false, cross := 0, nXs := 0, bad := false,
    mark := none, resetting := none, full := false }

/-- The descriptor of a queue nothing has touched since reset. -/
def qInit (q : Nat) : QDesc := qEmpty (quotaInit q) 0 0

/-- The descriptor of queue `q`. -/
def qd (s : State) (q : Nat) : QDesc := mget (qInit q) s.qm.descs q

/-- The state with the descriptor of queue `q` replaced. -/
def setQd (s : State) (q : Nat) (d : QDesc) : State :=
  { s with qm := { s.qm with descs := mset (qInit q) s.qm.descs q d } }

/-- An empty slot. -/
def slot0 : QSlot := ⟨0, 0, false, false, 0⟩

/-- Owner key of queue `q` (R256). -/
def ownKey (q : Nat) : Nat := q % 4096

/-- Owner check of queue `q`: ID[15:12] XOR ID[3:0] (R256). -/
def ownChk (q : Nat) : Nat := q / 4096 % 16 ^^^ q % 16

/-- The queue ID that an owner key and check give back (R256). -/
def ownId (key chk : Nat) : Nat := (chk ^^^ key % 16) * 4096 + key

/-- A cell just taken from the pool for queue `q`. -/
def cellNew (q : Nat) : QCell := ⟨[], 0xFFFF, ownKey q, ownChk q, false, false, false⟩

/-- A free cell: it carries the key of ID 0xFFFF (R256). -/
def cellFree : QCell := cellNew 0xFFFF

/-- Cell `c` of the pool. -/
def cellAt (m : Qm) (c : Nat) : QCell := mget cellFree m.cells c

/-- The pool with cell `c` in use. -/
def setCell (m : Qm) (c : Nat) (x : QCell) : Qm := { m with cells := mins m.cells c x }

/-- Cell `c` leaves its queue, and returns to the pool in the next cycle (R258). -/
def freeCell (m : Qm) (c : Nat) : Qm := { m with cells := mdel m.cells c, freed := m.freed ++ [c] }

/-- Free cells now. -/
def freeCells (m : Qm) : Nat := poolCells - m.cells.length - m.freed.length

/-- The free cells the pool gives next, `k` of them. -/
def nextFree (m : Qm) : Nat → List Nat
  | 0 => []
  | k + 1 =>
    let c := firstFree 0 (m.freed.foldl (fun l x => mins l x cellFree) m.cells)
    c :: nextFree { m with cells := mins m.cells c cellFree } k

/-- The cell the pool gives next. -/
def newCell (m : Qm) : Nat := (nextFree m 1).headD 0

/-- Retired cells (R274). -/
def retiredCells (m : Qm) : Nat := (m.cells.filter (fun x => x.2.retired)).length

/-- Slot `i` of cell `c`. -/
def slotAt (m : Qm) (c i : Nat) : QSlot := mget slot0 (cellAt m c).slots i

/-- Slot `i` of cell `c` is written. -/
def setSlot (m : Qm) (c i : Nat) (x : QSlot) : Qm :=
  let k := cellAt m c
  setCell m c { k with slots := mset slot0 k.slots i x }

/-- Words between head and tail, markers included. -/
def qWords (d : QDesc) : Nat := if d.held = 0 then 0 else 7 * (d.held - 1) + d.tofs - d.hofs

/-- A marker stands unread in the stream. -/
def markIn (d : QDesc) : Bool := match d.mark with | some k => !k.pending | none => false

/-- Level of a pool queue: data words, an unread marker not counted (R258). -/
def qLevel (d : QDesc) : Nat := qWords d - b2n (markIn d)

/-- Level of any queue: items on a sorted queue (R275). -/
def sLevel (es : List SEntry) : Nat := (es.filter (fun e => !e.isMark)).length

/-- Entries of a sorted queue. -/
def sEntries (s : State) (q : Nat) : List SEntry := mget [] s.qm.sorted q

/-- Level of queue `q`. -/
def levelOf (s : State) (q : Nat) : Nat := if isSorted q then sLevel (sEntries s q) else qLevel (qd s q)

/-- Free words of a pool queue (R261). -/
def qFree (d : QDesc) : Int :=
  if d.held = 0 then ((d.quota * 56 : Nat) : Int)
  else ((d.quota * 56 : Nat) : Int) - ((d.held * 7 : Nat) : Int) + (7 - (d.tofs : Int))

/-- Cells that `w` new words take. -/
def cellsFor (d : QDesc) (w : Nat) : Nat :=
  let room := if d.held = 0 then 0 else 7 - d.tofs
  (w - room + 6) / 7

/-- The pool can supply `k` cells now (R261, R274). -/
def canSupply (m : Qm) (k : Nat) : Bool := k == 0 || (!m.rebuild && !m.freeBad && decide (k ≤ freeCells m))

/-- A new slot is opened at the tail, in a new cell where the tail cell is full. -/
def openSlot (m : Qm) (q : Nat) (d : QDesc) : Qm × QDesc :=
  if d.held = 0 then
    let c := newCell m
    (setCell m c (cellNew q),
      { d with head := c, headN := 0xFFFF - c, tail := c, tailN := 0xFFFF - c, held := 1, hofs := 0, tofs := 1 })
  else if d.tofs = 7 then
    let c := newCell m
    let m1 := setCell m c (cellNew q)
    (setCell m1 d.tail { cellAt m1 d.tail with next := c },
      { d with tail := c, tailN := 0xFFFF - c, held := d.held + 1, tofs := 1 })
  else (m, { d with tofs := d.tofs + 1 })

/-- Halfwords in the open tail word: 0 where the tail word is full, closed or no data (R260). -/
def tailOpen (m : Qm) (d : QDesc) : Nat :=
  if qLevel d = 0 then 0
  else
    let x := slotAt m d.tail (d.tofs - 1)
    if x.mark then 0 else x.vb

/-- One halfword is written at the tail (R257, R260). -/
def putHw (q : Nat) (md : Qm × QDesc) (h : QWord) : Qm × QDesc :=
  let m := md.1
  let d := md.2
  let n := tailOpen m d
  if n = 0 then
    let md1 := openSlot m q d
    (setSlot md1.1 md1.2.tail (md1.2.tofs - 1) ⟨h.1.setWidth 64, 1, false, h.2, 0⟩, md1.2)
  else
    let x := slotAt m d.tail (d.tofs - 1)
    (setSlot m d.tail (d.tofs - 1)
      { x with word := x.word ||| (h.1.setWidth 64 <<< (16 * n)), vb := (n + 1) % 4, psn := x.psn || h.2 }, d)

/-- The marker word of R266. -/
def markWord (k : QMark) : BitVec 64 :=
  BitVec.ofNat 64 (k.kind + 4 * b2n k.scattered + 8 * b2n k.untracked + 16 * k.reason + 256 * k.count
    + 2 ^ 24 * (k.time % 2 ^ 40))

/-- A marker is appended at the tail, in a word of its own. -/
def putMark (m : Qm) (q : Nat) (d : QDesc) (k : QMark) : Qm × QDesc :=
  let md := openSlot m q d
  let k1 := { k with pending := false, cell := md.2.tail, slot := md.2.tofs - 1 }
  (setSlot md.1 md.2.tail (md.2.tofs - 1) ⟨markWord k1, 0, true, false, 0⟩, { md.2 with mark := some k1 })

/-! ## Watermarks (R269, R270) -/

/-- The high and low marks of queue `q`, in words or items. -/
def hiMark (q : Nat) (d : QDesc) : Nat := if isSorted q then d.wmHi else d.wmHi * d.quota * 56 / 256
/-- The low mark of queue `q`. -/
def loMark (q : Nat) (d : QDesc) : Nat := if isSorted q then d.wmLo else d.wmLo * d.quota * 56 / 256

/-- Level at latch time, from the notice (R270). -/
def noticeLevel (q : Nat) (d : QDesc) : Nat :=
  if !d.nSet then 0 else if d.nKind then loMark q d - d.nXs else hiMark q d + d.nXs

/-- The level has gone from `a` to `b`: crossings latch or update the notice. -/
def watermark (s : State) (q a b : Nat) : State :=
  let d := qd s q
  let up := decide (d.wmHi ≠ 0) && decide (a ≤ hiMark q d) && decide (hiMark q d < b)
  let dn := decide (d.wmLo ≠ 0) && decide (loMark q d ≤ a) && decide (b < loMark q d)
  if d.nSet then
    let back := if d.nKind then decide (a < loMark q d) && decide (loMark q d ≤ b)
      else decide (hiMark q d < a) && decide (b ≤ hiMark q d)
    setQd s q { d with cross := min 7 (d.cross + b2n up + b2n dn), nRet := d.nRet || back }
  else if up then
    raiseD (setQd s q { d with nSet := true, nKind := false, nRet := false, cross := 1, nXs := min 63 (b - hiMark q d) })
      0x61 q
  else if dn then
    raiseD (setQd s q { d with nSet := true, nKind := true, nRet := false, cross := 1, nXs := min 63 (loMark q d - b) })
      0x61 (q + 0x10000)
  else s

/-! ## Faults and resets (R272, R273) -/

/-- The fault of a descriptor, if any: its REASON. -/
def descFault (d : QDesc) : Option Nat :=
  if d.bad then some 3
  else if d.head + d.headN ≠ 0xFFFF then some 1
  else if d.tail + d.tailN ≠ 0xFFFF then some 2
  else none

/-- The fault found when the head enters cell `c` of queue `q`. -/
def cellFault (m : Qm) (q c : Nat) : Option Nat :=
  let k := cellAt m c
  if k.tagBad || k.ctlBad then some 4
  else if k.key ≠ ownKey q ∨ k.check ≠ ownChk q then some 5
  else none

/-- Fabric time bits [47:8], as a marker carries them (R266). -/
def markTime (s : State) : Nat := nowNs s / 256 % 2 ^ 40

/-- With a reply queue, the lengths and places of the replies in it are lost. -/
def dropReplies (s : State) (q : Nat) : State :=
  match q with
  | 2 => { s with msg := { s.msg with svcLens := [], svcHead := [] } }
  | 3 => { s with msg := { s.msg with replies := [], repHead := [] } }
  | _ => s

/-- The fault found as the tail enters the next `k` cells of the pool, if any (R256, R272). -/
def tailFault (m : Qm) (k : Nat) : Option Nat :=
  (nextFree m k).findSome? (fun c => match m.upset.find? (fun x => x.1 == c) with
    | some x =>
      if x.2.tagBad || x.2.ctlBad then some 4
      else if x.2.key ≠ ownKey 0xFFFF ∨ x.2.check ≠ ownChk 0xFFFF then some 5
      else none
    | none => none)

/-- A mismatch on the free-list pointer is found by an operation that takes or returns a cell: a rebuild pass starts (R274). -/
def freeListFault (s : State) : State :=
  if s.qm.freeBad then { s with qm := { s.qm with rebuild := true, freeBad := false } } else s

/-- Queue `q` is marked resetting for `reason` (R272). -/
def startReset (s : State) (q reason : Nat) : State :=
  let d := qd s q
  match d.resetting with
  | some _ => s
  | none =>
    let s1 := dropReplies (setQd s q { d with resetting := some ⟨reason, 0, markTime s, false⟩ }) q
    raiseD (incSat s1 F.devQmCnt_RESETS 0) 0x62 (q + 0x10000 * reason)

/-! ## Drops (R267, R268) -/

/-- Entries of the marker table in use. -/
def markEntries (m : Qm) : Nat :=
  (m.descs.filter (fun x => match x.2.mark with | some k => !k.untracked | none => false)).length

/-- The marker table is full (R268). -/
def mtFull (m : Qm) : Bool := decide (4096 ≤ markEntries m)

/-- One more drop on a marker. -/
def bumpMark (k : QMark) : QMark :=
  if k.untracked then k
  else { k with count := min 65535 (k.count + 1), scattered := k.scattered || k.behind }

/-- A marker is appended where a word is free and the pool supplies its cell, else it is pending (R267, R272, R274). -/
def appendMark (s : State) (q : Nat) (d : QDesc) (k : QMark) : State :=
  if decide (1 ≤ qFree d) then
    let s1 := if cellsFor d 1 = 0 then s else freeListFault s
    if canSupply s1.qm (cellsFor d 1) then
      match tailFault s1.qm (cellsFor d 1) with
      | some reason => startReset (setQd s1 q { d with mark := some k }) q reason
      | none => let md := putMark s1.qm q d k; setQd { s1 with qm := md.1 } q md.2
    else setQd s1 q { d with mark := some k }
  else setQd s q { d with mark := some k }

/-- A drop on queue `q` goes into its gap marker (R267). -/
def dropGap (s : State) (q : Nat) : State :=
  let s1 := incSat s F.devQmCnt_DROPS 0
  let d := { qd s1 q with full := true }
  match d.mark with
  | some k =>
    let k1 := bumpMark k
    let s2 := setQd s1 q { d with mark := some k1 }
    if k1.pending || isSorted q then s2
    else { s2 with qm := setSlot s2.qm k1.cell k1.slot { slotAt s2.qm k1.cell k1.slot with word := markWord k1 } }
  | none =>
    let k : QMark := ⟨1, 0, 1, false, mtFull s1.qm, markTime s1, true, 0, 0, false⟩
    let s2 :=
      if isSorted q then
        let s3 := setQd s1 q { d with mark := some { k with pending := false } }
        { s3 with qm := { s3.qm with sorted := mset [] s3.qm.sorted q (sEntries s3 q ++ [⟨0, 0, false, true⟩]) } }
      else appendMark s1 q d k
    if q = 0 then s2 else raiseD s2 0x60 q

/-- A push dropped while the queue is resetting (R272). -/
def dropReset (s : State) (q : Nat) : State :=
  let s1 := incSat (incSat s F.devQmCnt_DROPS 0) F.devQmCnt_SWEEP_DROPS 0
  let d := qd s1 q
  match d.resetting with
  | some r => setQd s1 q { d with full := true, resetting := some { r with count := min 65535 (r.count + 1) } }
  | none => s1

/-- A pending marker is appended as soon as a word is free (R267). -/
def placeMark (s : State) (q : Nat) : State :=
  let d := qd s q
  match d.mark with
  | some k =>
    if k.pending && d.resetting.isNone && decide (1 ≤ qFree d) then appendMark s q d k else s
  | none => s

/-- Every pending marker that finds its word is appended: the pool supplies cells again (R267). -/
def placeMarks (s : State) : State :=
  (s.qm.descs.filter (fun x => match x.2.mark with | some k => k.pending | none => false)).foldl (fun t x => placeMark t x.1) s

/-! ## Push (R259 to R261, R275) -/

/-- A record is accepted behind any unread marker. -/
def noteBehind (d : QDesc) : QDesc :=
  match d.mark with
  | some k => { d with full := false, mark := some (if k.pending then k else { k with behind := true }) }
  | none => { d with full := false }

/-- Halfwords of a record after the open tail word is filled up: new words needed (R261). -/
def newWords (m : Qm) (d : QDesc) (k : Nat) : Nat :=
  let b := 2 * tailOpen m d
  let w := (b + 2 * k + 7) / 8
  if b > 0 then w - 1 else w

/-! ## Record boundaries of set-point queues (R179, R405) -/

/-- Set-point queues (R253). -/
def isSetQ (q : Nat) : Bool := decide (0x100 ≤ q ∧ q ≤ 0x1BF) && q % 4 == 0

/-- Boundaries of an empty queue. -/
def SetQ.empty : SetQ := ⟨0, []⟩

/-- Record boundaries of queue `q`. -/
def setQ (s : State) (q : Nat) : SetQ := mget SetQ.empty s.qm.sets q

/-- The state with the record boundaries of queue `q` replaced. -/
def putSetQ (s : State) (q : Nat) (x : SetQ) : State := { s with qm := { s.qm with sets := mset SetQ.empty s.qm.sets q x } }

/-- A record of `k` halfwords joins a set-point queue. -/
def noteRecord (s : State) (q k : Nat) : State :=
  if isSetQ q then putSetQ s q { setQ s q with lens := (setQ s q).lens ++ [(k, nowNs s)] } else s

/-- `k` halfwords leave the head of a list of record lengths. -/
def takeLens : Nat → List (Nat × Nat) → List (Nat × Nat)
  | _, [] => []
  | k, l :: ls => if k < l.1 then (l.1 - k, l.2) :: ls else takeLens (k - l.1) ls

/-- Halfwords of a slot that hold data. -/
def slotHw (x : QSlot) : Nat := if x.mark then 0 else if x.vb = 0 then 4 else x.vb

/-- A word of a set-point queue is popped whole: what was already taken of it does not count twice. -/
def noteGone (s : State) (q : Nat) (x : QSlot) : State :=
  if isSetQ q && !x.mark then
    let y := setQ s q
    putSetQ s q ⟨0, takeLens (slotHw x - y.ofs) y.lens⟩
  else s

/-- Free words a push is held to: those at the start of the cycle (R265). -/
def startFree (m : Qm) (q : Nat) (now : Int) : Int := ((m.popped.find? (fun x => x.1 == q)).map (·.2)).getD now

/-- A record commits to a pool queue whose markers stand. -/
def pushWords (s : State) (q : Nat) (r : List QWord) : State × Bool :=
  let d := qd s q
  let w := newWords s.qm d r.length
  let s0 := if cellsFor d w = 0 then s else freeListFault s
  if decide ((w : Int) ≤ startFree s0.qm q (qFree d) - 1 ∧ (w : Int) ≤ qFree d - 1) && canSupply s0.qm (cellsFor d w) then
    match tailFault s0.qm (cellsFor d w) with
    | some reason => (dropReset (startReset s0 q reason) q, false)
    | none =>
      let md := r.foldl (putHw q) (s0.qm, d)
      let s1 := noteRecord (setQd { s0 with qm := md.1 } q (noteBehind md.2)) q r.length
      (watermark s1 q (qLevel d) (levelOf s1 q), true)
  else (dropGap s0 q, false)

/-- A record commits to a pool queue, behind a marker that was pending (R267). -/
def pushPool (s : State) (q : Nat) (r : List QWord) : State × Bool :=
  let t := placeMark s q
  if (qd t q).resetting.isSome then (dropReset t q, false) else pushWords t q r

/-- A record commits to a sorted queue (R275). -/
def pushSorted (s : State) (port q prio : Nat) (r : List QWord) : State × Bool :=
  match r with
  | [h] =>
    if port = 5 ∨ port = 7 then
      let es := sEntries s q
      if (1 : Int) ≤ startFree s.qm q (31 - sLevel es : Nat) ∧ sLevel es < 31 then
        let s1 := { s with qm := { s.qm with
          sorted := mset [] s.qm.sorted q (es ++ [⟨h.1.toNat, prio % 8, h.2, false⟩]) } }
        let s2 := setQd s1 q (noteBehind (qd s1 q))
        (watermark s2 q (sLevel es) (levelOf s2 q), true)
      else (dropGap s q, false)
    else (incSat s F.devQmCnt_DROPS 0, false)
  | _ => (incSat s F.devQmCnt_DROPS 0, false)

/-- A record gathered by a write port commits: accepted whole or dropped. The answer says whether it was accepted. -/
def qPush (s : State) (port q prio : Nat) (r : List QWord) : State × Bool :=
  if !isQueue q then (s, false)
  else if (qd s q).resetting.isSome then (dropReset s q, false)
  else if isSorted q then pushSorted s port q prio r
  else if (qd s q).bad then (dropReset (startReset s q 3) q, false)
  else if (qd s q).quota = 0 then (incSat (setQd s q { qd s q with full := true }) F.devQmCnt_DROPS 0, false)
  else
    match descFault (qd s q) with
    | some reason => (dropReset (startReset s q reason) q, false)
    | none => pushPool s q r

/-- A record of bytes commits. -/
def qPushBytes (s : State) (port q : Nat) (bs : List Byte) : State × Bool := qPush s port q 0 (halfwords bs)

/-! ## Pop (R262 to R264, R271, R276) -/

/-- What a pop returns when no word is available: EMPTY (R262). -/
def popEmpty : Popped := ⟨0, 4⟩

/-- The head moves past one word: the emptied cell returns to the pool, and a new cell is checked as the head enters it
(R258, R272). `none` where the queue is left as it was because the check failed, with the reason. -/
def advHead (m : Qm) (q : Nat) (d : QDesc) : (Qm × QDesc) ⊕ Nat :=
  if qWords d ≤ 1 then
    .inl (freeCell m d.head,
      { d with head := 0xFFFF, headN := 0, tail := 0xFFFF, tailN := 0, held := 0, hofs := 0, tofs := 0 })
  else if d.hofs = 6 then
    let c := (cellAt m d.head).next
    match cellFault m q c with
    | some reason => .inr reason
    | none => .inl (freeCell m d.head, { d with head := c, headN := 0xFFFF - c, held := d.held - 1, hofs := 0 })
  else .inl (m, { d with hofs := d.hofs + 1 })

/-- The pop tag of a slot (R262). -/
def slotTag (x : QSlot) : Nat := x.vb + 8 * b2n x.mark + 16 * b2n (decide (x.bad ≠ 0) || x.psn)

/-- A pop of the cycle: what was free before it (R265). -/
def notePop (m : Qm) (q : Nat) (room : Int) : Qm :=
  if m.popped.any (fun x => x.1 == q) then m else { m with popped := mins m.popped q room }

/-- A read of a pool queue that comes to words: its descriptor is checked, and a pending marker stands by then; `none` where it
finds no word. -/
def readable (s : State) (q : Nat) : State × Bool :=
  if (qd s q).bad then (startReset s q 3, false)
  else if (qd s q).quota = 0 then (s, false)
  else
    match descFault (qd s q) with
    | some reason => (startReset s q reason, false)
    | none => let t := placeMark s q; (t, (qd t q).resetting.isNone && decide ((qd t q).held ≠ 0))

/-- Cells that a pop or a DISCARD has emptied go back to the free list (R274). -/
def cellsBack (old : Qm) (s : State) : State := if s.qm.cells.length < old.cells.length then freeListFault s else s

/-- One pool queue word is popped. -/
def popPool (s0 : State) (q : Nat) : State × Popped :=
  let g := readable s0 q
  let s := g.1
  let d := qd s q
  if !g.2 then (s, popEmpty)
  else
    let x := slotAt s.qm d.head d.hofs
    match advHead s.qm q d with
    | .inr reason => (startReset s q reason, popEmpty)
    | .inl md =>
      let d1 := if x.mark then { md.2 with mark := none } else md.2
      let s1 := cellsBack s.qm (setQd { s with qm := notePop md.1 q (qFree d) } q d1)
      let s2 := noteGone (addSat s1 F.devQmCnt_PARITY 0 x.bad) q x
      (placeMark (watermark s2 q (qLevel d) (qLevel d1)) q, ⟨x.word, slotTag x⟩)

/-- Priority an entry sorts at (R276). -/
def sPrio (e : SEntry) : Nat := if e.isMark || e.bad then 0 else e.prio

/-- The entry a sorted pop chooses, with its place (R276): lowest priority value, earliest arrival. -/
def sPick : List SEntry → Nat → Option (Nat × SEntry)
  | [], _ => none
  | e :: es, i =>
    match sPick es (i + 1) with
    | none => some (i, e)
    | some (j, f) => if sPrio e ≤ sPrio f then some (i, e) else some (j, f)

/-- A sorted queue delivers one entry (R276). -/
def popSorted (s : State) (q : Nat) : State × Popped :=
  let es := sEntries s q
  match sPick es 0 with
  | none => (s, popEmpty)
  | some (i, e) =>
    let m := notePop s.qm q (31 - sLevel es : Nat)
    let s1 := { s with qm := { m with sorted := mset [] m.sorted q (es.eraseIdx i) } }
    let d := qd s1 q
    if e.isMark then
      match d.mark with
      | some k => (setQd s1 q { d with mark := none },
          ⟨BitVec.ofNat 64 (k.count + 0x10000 * k.kind + 0x40000 * b2n k.scattered), 8⟩)
      | none => (s1, ⟨0, 8⟩)
    else
      let s2 := if e.bad then incSat s1 F.devQmCnt_PARITY 0 else s1
      (watermark s2 q (sLevel es) (levelOf s2 q),
        ⟨BitVec.ofNat 64 e.item, 1 + 16 * b2n e.bad + 32 * sPrio e⟩)

/-- A read port pops queue `q`. -/
def qPop (s : State) (q : Nat) : State × Popped :=
  if !isQueue q then (s, popEmpty)
  else if (qd s q).resetting.isSome then (s, popEmpty)
  else if isSorted q then popSorted s q
  else popPool s q

/-- A read port keeps the word it delivered. -/
def portOut (s : State) (port : Nat) (x : Popped) : State :=
  { s with qm := { s.qm with out := mset popEmpty s.qm.out port x } }

/-- Words 0, 1, … of a pool queue from its head on. -/
def walk (m : Qm) : Nat → Nat → Nat → List QSlot
  | 0, _, _ => []
  | n + 1, c, i =>
    slotAt m c i :: (if i = 6 then walk m n (cellAt m c).next 0 else walk m n c (i + 1))

/-- PEEK i: the i-th word from the head, not removed (R264). -/
def qPeek (s0 : State) (q i : Nat) : State × Popped :=
  if !isPool q || (qd s0 q).resetting.isSome then (s0, popEmpty)
  else
    let g := readable s0 q
    let s := g.1
    let d := qd s q
    if g.2 && decide (i < qWords d) then
      let x := (walk s.qm (i + 1) d.head d.hofs).getLastD slot0
      (s, ⟨x.word, slotTag x⟩)
    else (s, popEmpty)

/-- The heads of `n` words are passed over; the answer gives the COUNT of each marker among them, or the fault found. -/
def discardN (q : Nat) : Nat → Qm × QDesc → List Nat → ((Qm × QDesc) × List Nat) ⊕ Nat
  | 0, md, k => .inl (md, k)
  | n + 1, md, k =>
    if md.2.held = 0 then .inl (md, k)
    else
      let x := slotAt md.1 md.2.head md.2.hofs
      match advHead md.1 q md.2 with
      | .inr r => .inr r
      | .inl md1 =>
        if x.mark then discardN q n (md1.1, { md1.2 with mark := none }) (k ++ [bits x.word.toNat 8 16])
        else discardN q n md1 k

/-- DISCARD m: removes m words from the head; the answer lists the COUNTs of the markers removed (R264). -/
def qDiscard (s0 : State) (q n : Nat) : State × List Nat :=
  if !isPool q || (qd s0 q).resetting.isSome then (s0, [])
  else
    let g := readable s0 q
    let s := g.1
    let d := qd s q
    if !g.2 then (s, [])
    else
      let gone := walk s.qm (min n (qWords d)) d.head d.hofs
      match discardN q n (s.qm, d) [] with
      | .inr reason => (startReset s q reason, [])
      | .inl (md, k) =>
        let t := cellsBack s.qm (setQd { s with qm := notePop md.1 q (qFree d) } q md.2)
        let s1 := gone.foldl (fun t x => noteGone t q x) t
        (placeMark (watermark s1 q (qLevel d) (qLevel md.2)) q, k)

/-! ## Resets, sweep and rebuild (R272 to R276) -/

/-- A reset requested with reason 6: a pool queue waits for a sweep pass; a sorted queue is emptied and left with its
reset marker (R272, R276). -/
def resetQueue (s : State) (q : Nat) : State :=
  if isSorted q then
    let s1 := raiseD (incSat s F.devQmCnt_RESETS 0) 0x62 (q + 0x60000)
    let d := qd s1 q
    let e := { qEmpty 0 d.wmHi d.wmLo with full := d.full }
    let k : QMark := ⟨2, 6, 0, false, mtFull (setQd s1 q e).qm, markTime s, false, 0, 0, false⟩
    let s2 := setQd s1 q { e with mark := some k }
    { s2 with qm := { s2.qm with sorted := mset [] s2.qm.sorted q [⟨0, 0, false, true⟩] } }
  else if isPool q then startReset s q 6
  else s

/-- Queues that wait for a sweep pass. -/
def resetQueues (m : Qm) : List Nat :=
  (m.descs.filter (fun x => match x.2.resetting with | some r => !r.inPass | none => false)).map (·.1)

/-- Queue `q` is taken into the pass. -/
def enterPass (s : State) (q : Nat) : State :=
  let d := qd s q
  match d.resetting with
  | some r => setQd s q { d with resetting := some { r with inPass := true } }
  | none => s

/-- A sweep pass starts and takes in every queue then waiting (R273). -/
def sweepStart (s : State) : State :=
  match s.qm.sweep, resetQueues s.qm with
  | none, q :: qs =>
    let s1 := (q :: qs).foldl enterPass s
    { s1 with qm := { s1.qm with sweep := some (q :: qs) } }
  | _, _ => s

/-- What a pass does with a cell: a control word that fails parity retires it, an owner of the pass frees it (R273,
R274). -/
def sweepCells (qs : List Nat) : List (Nat × QCell) → List (Nat × QCell)
  | [] => []
  | (c, k) :: m =>
    if k.retired then (c, k) :: sweepCells qs m
    else if k.ctlBad then (c, { k with retired := true }) :: sweepCells qs m
    else if qs.contains (ownId k.key k.check) then sweepCells qs m
    else (c, k) :: sweepCells qs m

/-- What a pass does with the free cells that do not read as such: retired, or written as free cells again (R273, R274). -/
def sweepUpset (qs : List Nat) (m : Qm) : Qm :=
  let out := fun (x : Nat × QCell) => x.2.ctlBad || qs.contains (ownId x.2.key x.2.check)
      || decide (ownId x.2.key x.2.check = 0xFFFF)
  let m1 := (m.upset.filter (fun x => x.2.ctlBad)).foldl (fun m x => setCell m x.1 { x.2 with retired := true }) m
  { m1 with upset := m.upset.filter (fun x => !out x) }

/-- The end of a pass for one queue: an empty descriptor and the reset marker (R273). -/
def endReset (s : State) (q : Nat) : State :=
  let d := qd s q
  match d.resetting with
  | none => s
  | some r =>
    let cfg := mget (quotaInit q) s.load.qcfg q
    let d1 := if r.reason = 3 then qEmpty (cfg % 2 ^ 13) (bits cfg 16 8) (bits cfg 24 8)
      else qEmpty d.quota d.wmHi d.wmLo
    let k : QMark := ⟨2, r.reason, r.count, false, mtFull (setQd s q d1).qm, r.time, true, 0, 0, false⟩
    placeMark (setQd (putSetQ s q SetQ.empty) q { d1 with mark := some k, full := d.full }) q

/-- More cells are retired than the reserve holds: EV_QM_POOL once (R274). -/
def poolLow (s : State) : State :=
  if decide (256 < retiredCells s.qm) && !s.qm.poolEv then
    raiseD { s with qm := { s.qm with poolEv := true } } 0x63 (min 511 (retiredCells s.qm))
  else s

/-- The pass ends (R273, R274). -/
def sweepEnd (s : State) : State :=
  match s.qm.sweep with
  | none => s
  | some qs =>
    let m := sweepUpset qs { s.qm with cells := sweepCells qs s.qm.cells, sweep := none }
    poolLow (placeMarks (qs.foldl endReset (cellsBack s.qm { s with qm := m })))

/-- The rebuild ends: cells that carry the free key or name a disabled queue join the free list (R274). -/
def rebuildEnd (s : State) : State :=
  if s.qm.rebuild then
    let keep := s.qm.cells.filter (fun x => x.2.retired ||
      (decide (ownId x.2.key x.2.check ≠ 0xFFFF) && decide ((qd s (ownId x.2.key x.2.check)).quota ≠ 0)))
    let away := s.qm.upset.filter (fun x =>
      decide (ownId x.2.key x.2.check ≠ 0xFFFF) && decide ((qd s (ownId x.2.key x.2.check)).quota ≠ 0))
    let cells := away.foldl (fun m x => mins m x.1 x.2) keep
    let left := s.qm.upset.filter (fun x => !away.any (fun y => y.1 == x.1))
    placeMarks { s with qm := { s.qm with rebuild := false, freeBad := false, cells := cells, upset := left } }
  else s

/-- Sum of all quotas in units of 8 cells: 1,216 at reset (R254, R255). -/
def quotaSum (m : Qm) : Int := m.descs.foldl (fun a x => a + (x.2.quota : Int) - (quotaInit x.1 : Int)) 1216

/-! ## The objects of a queue -/

/-- Q[id].CFG as it reads. -/
def qCfgVal (s : State) (q : Nat) : Nat :=
  let d := qd s q
  (if isSorted q then 0 else d.quota) + d.wmHi * 2 ^ 16 + d.wmLo * 2 ^ 24

/-- Q[id].STAT as it reads. -/
def qStatVal (s : State) (q : Nat) : Nat :=
  let d := qd s q
  levelOf s q + b2n d.mark.isSome * 2 ^ 19 + b2n d.resetting.isSome * 2 ^ 20 + b2n d.full * 2 ^ 21

/-- Q[id].NOTICE as it reads (R270). -/
def qNoticeVal (s : State) (q : Nat) : Nat :=
  let d := qd s q
  b2n d.nSet + 2 * b2n d.nKind + 4 * b2n d.nRet + 8 * d.cross + 256 * noticeLevel q d

/-- The notice is cleared by its read (R270). -/
def qNoticeClear (s : State) (q : Nat) : State :=
  setQd s q { qd s q with nSet := false, nKind := false, nRet := false, cross := 0, nXs := 0 }

/-- DEV.QM_STAT as it reads. -/
def qmStatVal (s : State) : Nat :=
  freeCells s.qm + min 511 (retiredCells s.qm) * 2 ^ 16 + b2n s.qm.sweep.isSome * 2 ^ 25 + b2n s.qm.rebuild * 2 ^ 26
    + b2n (decide (256 < retiredCells s.qm)) * 2 ^ 27 + b2n (mtFull s.qm) * 2 ^ 28

end Sys2Proof.Machine
end

