-- ==== Sys2Proof/Machine/Trace.lean ====
section
/-!
DEFINITION. The crumb trace unit (spec/07_control_loops.md, R191 to R193): arming, triggers, and the end of a capture.
Machine/Timer.lean says what a node's sample is.
-/

namespace Sys2Proof.Machine

/-- Probe `j` of the trace unit. -/
def probe (s : State) (j : Nat) : Probe := mget Probe.reset s.probes j

/-- The state with probe `j` replaced. -/
def setProbe (s : State) (j : Nat) (x : Probe) : State := { s with probes := mset Probe.reset s.probes j x }

/-- States of TRC_STAT. -/
def trcIdle : Nat := 0
def trcArmed : Nat := 1
def trcTriggered : Nat := 2
def trcDone : Nat := 3

/-- State of the trace unit. -/
def trcState (s : State) : Nat := rd s F.devTrcStat_STATE 0

/-- Enabled probes. -/
def trcProbes (s : State) : List Nat := (List.range 64).filter (fun j => rdB s F.devTrcProbe_EN j)

/-- Samples of a capture per probe, and those kept from before the trigger (R192). -/
def trcDepth (s : State) : Nat := rd s F.devTrcCtl_DEPTH 0 * 256
def trcPre (s : State) : Nat := trcDepth s * rd s F.devTrcCtl_PRE 0 / 256

/-- Halfwords of a sample, little-endian. -/
def sampleHw (w32 : Bool) (x : Int) : List QWord :=
  if w32 then [(BitVec.ofInt 16 x, false), (BitVec.ofNat 16 (tc 32 x / 2 ^ 16), false)] else [(BitVec.ofInt 16 x, false)]

/-- The samples of a probe with a loop clock go into the readout queue of its axis, one record a sample (R193). -/
def trcPush (s : State) (j : Nat) : State :=
  if rd s F.devTrcProbe_CLK j ≤ 3 then
    (probe s j).ring.foldl (fun t x =>
      (qPush t 6 (qTrc (rd s F.devTrcProbe_INDEX j)) 0 (sampleHw (rdB s F.devTrcProbe_W32 j) x)).1) s
  else s

/-- The capture is DONE once every enabled probe has stopped (R192, R193). -/
def trcFinish (s : State) : State :=
  if trcState s = trcTriggered ∧ (trcProbes s).all (fun j => (probe s j).stopped) then
    let s1 := raiseD (wr s F.devTrcStat_STATE 0 trcDone) 0x47 0
    if rdB s F.devTrcCtl_AUTO 0 then (trcProbes s1).foldl trcPush s1 else s1
  else s

/-- The trigger: its time is stored, every probe keeps its pre-trigger share (R192). -/
def trcTrigger (s : State) : State :=
  if trcState s = trcArmed then
    let pre := trcPre s
    let ps := trcProbes s
    let short := ps.any (fun j => decide ((probe s j).ring.length < pre))
    let s1 := ps.foldl (fun t j =>
      let p := probe t j
      setProbe t j { p with ring := p.ring.drop (p.ring.length - pre), post := 0, stopped := decide (trcDepth s ≤ pre) }) s
    let s2 := wr (wr s1 F.devTrcTime_TRIG_TIME 0 (nowNs s)) F.devTrcStat_STATE 0 trcTriggered
    trcFinish (if short then wr s2 F.devTrcStat_PRE_SHORT 0 1 else s2)
  else s

/-- A sample crosses LEVEL in the direction EDGE (R192). -/
def trcCross (edge : Nat) (level prev x : Int) : Bool :=
  let up := decide (prev < level ∧ level ≤ x)
  let down := decide (level < prev ∧ x ≤ level)
  match edge with
  | 0 => up
  | 1 => down
  | _ => up || down

/-- One sample of probe `j` is recorded (R191, R192). -/
def trcSample (s : State) (j : Nat) (x : Int) : State :=
  let p := probe s j
  if !rdB s F.devTrcProbe_EN j || p.stopped then s
  else if trcState s = trcArmed then
    let n := trcDepth s
    let s1 := setProbe s j { p with ring := (p.ring ++ [x]).drop (p.ring.length + 1 - n) }
    match p.ring.getLast? with
    | some prev =>
      if rd s F.devTrcTrig_KIND 0 = 2 ∧ rd s F.devTrcTrig_PROBE 0 = j
          ∧ trcCross (rd s F.devTrcTrig_EDGE 0) (rdS s F.devTrcTrig_LEVEL 0) prev x then trcTrigger s1
      else s1
    | none => s1
  else if trcState s = trcTriggered then
    let c := p.post + 1
    trcFinish (setProbe s j { p with ring := p.ring ++ [x], post := c, stopped := decide (trcDepth s - trcPre s ≤ c) })
  else s

/-- Bytes of the trace region a capture takes (R192). -/
def trcBytes (s : State) : Nat :=
  ((trcProbes s).map (fun j => trcDepth s * (if rdB s F.devTrcProbe_W32 j then 4 else 2))).sum

/-- A capture is armed: every probe's buffer is cleared (R192). -/
def trcArm (s : State) : State :=
  wr (wr { s with probes := [] } F.devTrcStat_STATE 0 trcArmed) F.devTrcStat_PRE_SHORT 0 0

/-- STOP: triggers in ARMED, ends every probe in TRIGGERED (R192). -/
def trcStop (s : State) : State :=
  if trcState s = trcArmed then trcTrigger s
  else if trcState s = trcTriggered then
    trcFinish ((trcProbes s).foldl (fun t j => setProbe t j { probe t j with stopped := true }) s)
  else s

end Sys2Proof.Machine
end

