-- ==== Sys2Proof/Machine/Ops.lean ====
section
/-!
DEFINITION. Shared operations: pushing events into their queues and the log (R403), replies to messages (R408), the end
of a command, and the device mode.
-/

namespace Sys2Proof.Machine

/-- What a command answers. -/
abbrev Out := Host.Outcome State Fault Refusal

/-! ## Events (R403, R404) -/

/-- The 16 bytes of an event record (R403). -/
def evBytes (e : Ev) : List Byte :=
  leBytes 2 e.code ++ leBytes 1 e.node ++ leBytes 1 e.axis ++ leBytes 4 e.arg ++ leBytes 8 e.time

/-- The queue of an event: that of its axis, or the device event queue. -/
def evQueue (e : Ev) : Nat := if e.axis < 48 then qAxEv e.axis else 0

/-- Events of one command go in ascending CODE, then ascending AXIS. -/
def evLe (a b : Ev) : Bool := decide (a.code < b.code) || (decide (a.code = b.code) && decide (a.axis ≤ b.axis))

/-- An event is put in its place; equal ones keep their order. -/
def evInsert (e : Ev) : List Ev → List Ev
  | [] => [e]
  | f :: fs => if evLe f e then f :: evInsert e fs else e :: f :: fs

/-- The events of a command in the order they are pushed. -/
def evSort : List Ev → List Ev
  | [] => []
  | e :: es => evInsert e (evSort es)

/-- A trace trigger that waits for this event code fires (R192). -/
def evTrace (s : State) (e : Ev) : State :=
  if rd s F.devTrcTrig_KIND 0 = 1 ∧ rd s F.devTrcTrig_EVENT 0 = e.code then trcTrigger s else s

/-- The event log takes a record: it keeps the latest 4,096. -/
def logEvent (s : State) (e : Ev) : State :=
  let l := s.ctl.evLog ++ [e]
  { s with ctl := { s.ctl with evLog := l.drop (l.length - 4096) } }

/-- An event record is pushed and logged. -/
def pushEvent (s : State) (e : Ev) : State := evTrace (logEvent (qPushBytes s 7 (evQueue e) (evBytes e)).1 e) e

/-- An event raised before the end of LOAD waits; beyond 16 it is lost and counted. -/
def holdEvent (s : State) (e : Ev) : State :=
  if s.ctl.evPre.length < 16 then { s with ctl := { s.ctl with evPre := s.ctl.evPre ++ [e] } }
  else incSat s F.devEvStat_PRE_LOST 0

/-- One round: the events raised so far leave; pushing them may raise more. -/
def flushRound (s : State) : State :=
  let es := evSort s.ctl.evNew.reverse
  let s1 := { s with ctl := { s.ctl with evNew := [] } }
  es.foldl (if s.ctl.evOpen then pushEvent else holdEvent) s1

/-- Rounds until no event is left to push. -/
def flushEvents : Nat → State → State
  | 0, s => s
  | n + 1, s => match s.ctl.evNew with
    | [] => s
    | _ :: _ => flushEvents n (flushRound s)

/-- Rounds a command is given; what is left waits for the next command. -/
def flushFuel : Nat := 6

/-- The end of a command: its events are pushed, and the block takes the next command. -/
def done (s : State) : Out := .next (flushEvents flushFuel s)

/-- The CORE clock runs and the internal reset is released: nothing else on the device acts otherwise (R23, R68). -/
def coreRuns (s : State) : Bool := !s.pwr.rst && !s.pwr.coreLost

/-- A command of the CORE domain: it changes nothing while CORE does not run. -/
def clocked (s : State) (o : Out) : Out := if coreRuns s then o else done s

/-- One CORE cycle passes (R298): where no command waits, the time of the frame grid advances by its rate. Cells freed in it return
to the pool (R258). -/
def idle (s : State) : State :=
  if coreRuns s then
    { s with
      ctl := { s.ctl with time := s.ctl.time + s.ctl.rate }
      qm := { s.qm with freed := [], popped := [] } }
  else s

/-- LOAD ends: the events held since the reset are pushed in the order they were raised. -/
def openEvents (s : State) : State :=
  let es := s.ctl.evPre
  es.foldl pushEvent { s with ctl := { s.ctl with evPre := [], evOpen := true } }

/-! ## Replies (R407, R408) -/

/-- A message: its 8-byte header and its body (R407). -/
def msgBytes (typ flags : Nat) (tag : Halfword) (status op : Nat) (body : List Byte) : List Byte :=
  leBytes 1 typ ++ leBytes 1 flags ++ leBytes 2 tag.toNat ++ leBytes 1 status ++ leBytes 1 op ++ leBytes 2 0 ++ body

/-- The reply to a request goes where the request came from (R408). The supervisor's window and the test port see the
status of their own access; an image entry has no reply. -/
def reply (s : State) (src : Src) (typ op status : Nat) (body : List Byte) : State :=
  match src with
  | .svc tag =>
    let bs := msgBytes typ 1 tag status op body
    let r := qPushBytes s 7 2 bs
    if r.2 then { r.1 with msg := { r.1.msg with svcLens := r.1.msg.svcLens ++ [bs.length] } } else r.1
  | .fabric _ node queue cls tag =>
    let bs := msgBytes typ 1 tag status op body
    let r := qPushBytes s 7 3 bs
    if r.2 then { r.1 with msg := { r.1.msg with replies := r.1.msg.replies ++ [⟨node, queue, cls, bs⟩] } } else r.1
  | .supervisor => { s with msg := { s.msg with svStatus := status } }
  | .jtag => { s with msg := { s.msg with jtagStatus := status } }
  | .image => s

/-- The reply to a WRITE of the object at `addr` (R409). -/
def replyWrite (s : State) (src : Src) (addr : Nat) (status : Nat) : State := reply s src 2 0 status (leBytes 4 addr)

/-- A message takes a pending state: its reply comes later (R408). -/
def hold (s : State) (src : Src) : State :=
  match src with
  | .svc _ => { s with msg := { s.msg with waiting := s.msg.waiting + 1 } }
  | .fabric .. => { s with msg := { s.msg with waiting := s.msg.waiting + 1 } }
  | _ => s

/-- A pending message leaves its pending state. -/
def release (s : State) (src : Src) : State :=
  match src with
  | .svc _ => { s with msg := { s.msg with waiting := s.msg.waiting - 1 } }
  | .fabric .. => { s with msg := { s.msg with waiting := s.msg.waiting - 1 } }
  | _ => s

/-- The message of `src` leaves the message engine's queue as it is taken (R408). -/
def takeMsg (s : State) (src : Src) : State :=
  { s with msg := { s.msg with inbox := s.msg.inbox.eraseP (fun m => m.src == src) } }

/-- READ, WRITE, IMAGE_WRITE and TRIM_WRITE travel as MGMT (R29, R407): from a frame of another class they have no effect (R306).
The answer is an access error; the spec names none (DESIGN CHOICE, log 103). -/
def offMgmt (src : Src) : Bool :=
  match src with
  | .fabric _ _ _ cls _ => decide (cls ≠ .mgmt)
  | _ => false

/-- Messages that may be pending at once (R408). -/
def maxWaiting : Nat := 64

/-! ## The device mode (R75) -/

/-- The twelve modes by number (R75). -/
def mOff : Nat := 0
def mLoad : Nat := 1
def mTest : Nat := 2
def mDiscover : Nat := 3
def mPlace : Nat := 4
def mStandby : Nat := 5
def mRun : Nat := 6
def mHold : Nat := 7
def mSafestop : Nat := 8
def mMaint : Nat := 9
def mFollow : Nat := 10
def mLatch : Nat := 11

/-- The current device mode. -/
def mode (s : State) : Nat := rd s F.devMode_MODE 0

/-- A trigger of a mode transition waits for the next frame boundary (R78). -/
def trigger (s : State) (target cause : Nat) (src : Option Src) : State :=
  { s with ctl := { s.ctl with trigs := s.ctl.trigs ++ [⟨target, cause, src⟩] } }

/-- Fold over the axes 0 to 47. -/
def forAxes (f : State → Nat → State) (s : State) : State := (List.range 48).foldl f s

/-- Whether some axis satisfies `p`. -/
def anyAxis (p : Nat → Bool) : Bool := (List.range 48).any p

/-- The sequence rule of R36: `a` is newer than `b`. -/
def seqNewer (a b : Nat) : Bool := decide (1 ≤ (a + 2 ^ 32 - b) % 2 ^ 32 ∧ (a + 2 ^ 32 - b) % 2 ^ 32 ≤ 2 ^ 31 - 1)

end Sys2Proof.Machine
end

