-- ==== Sys2Proof/Machine/FrontEnd.lean ====
section
/-!
DEFINITION. Excitation groups, excitation switches, drivers, ranging, multiplexer and trims of the front end
(spec/04_front_end_excitation.md, R88 to R115, R436; drivers of R237 to R245; converter trims of R56, R57).
-/

namespace Sys2Proof.Machine

/-! ## Access to the parts of an axis -/

/-- What the device holds for axis `n`. -/
def ax (s : State) (n : Nat) : Axis := mget Axis.reset s.axes n

/-- The state with axis `n` replaced. -/
def setAx (s : State) (n : Nat) (a : Axis) : State := { s with axes := mset Axis.reset s.axes n a }

def modExc (s : State) (n : Nat) (f : AxExc → AxExc) : State := setAx s n { ax s n with exc := f (ax s n).exc }
def modFe (s : State) (n : Nat) (f : AxFe → AxFe) : State := setAx s n { ax s n with fe := f (ax s n).fe }
def modFlt (s : State) (n : Nat) (f : AxFlt → AxFlt) : State := setAx s n { ax s n with flt := f (ax s n).flt }
def modTrk (s : State) (n : Nat) (f : AxTrk → AxTrk) : State := setAx s n { ax s n with trk := f (ax s n).trk }

/-- Excitation group `g`. -/
def grp (s : State) (g : Nat) : Grp := mget Grp.reset s.grps g

/-- The state with group `g` replaced. -/
def setGrp (s : State) (g : Nat) (x : Grp) : State := { s with grps := mset Grp.reset s.grps g x }

/-- Auxiliary channel `k`. -/
def auxCh (s : State) (k : Nat) : Aux := mget (Aux.reset k) s.auxs k

/-- The state with auxiliary channel `k` replaced. -/
def setAux (s : State) (k : Nat) (x : Aux) : State := { s with auxs := mset (Aux.reset k) s.auxs k x }

/-- Fabric time in half core cycles: a converter cycle is 25 of them (R91). -/
def nowHalf (s : State) : Nat := s.ctl.time / 2 ^ 32

/-- Modes in which excitation timing runs (R84, R89). -/
def excTiming (m : Nat) : Bool := decide (5 ≤ m ∧ m ≤ 10)

/-- This device is a twin or triad member that does not drive (R98). -/
def isFollower (s : State) : Bool := decide (rd s F.devRedCfg_KIND 0 ≠ 0) && !s.red.drives

/-! ## AUXO outputs (R114, R115) -/

/-- AUXO output `k`. -/
def auxo (s : State) (k : Nat) : Auxo := mget Auxo.reset s.auxos k

/-- The state with AUXO output `k` replaced. -/
def setAuxo (s : State) (k : Nat) (x : Auxo) : State := { s with auxos := mset Auxo.reset s.auxos k x }

/-- An AUXO output is low and its fault over: EN = 0, or a mode where R84 says low (R115). -/
def auxoLow (s : State) (k : Nat) : State := setAuxo (wr s F.devAuxoCtl_FAULTED k 0) k { auxo s k with level := 0, bad := 0 }

/-! ## Trims (R56, R57, R59, R60) -/

/-- A signed 16-bit trim of the values in use; 0, the identity, where none are in use (R59). -/
def trimS16 (s : State) (off : Nat) : Int :=
  match s.load.trimUse with
  | none => 0
  | some m => sx 16 (leVal (memBytes 0 m off 2))

/-- Converter trim of a slot at a range: offset and gain (R56); identity under BYPASS (R60). -/
def convTrim (s : State) (slot range : Nat) : Int × Int :=
  if rdB s F.devTrimCtl_BYPASS 0 then (0, 0)
  else (trimS16 s (0x40 + (4 * slot + range) * 4), trimS16 s (0x42 + (4 * slot + range) * 4))

/-- A raw result with its trim: the word, and whether it saturated (R57). -/
def applyTrim (x : Int) (t : Int × Int) : Int × Bool :=
  let y := asr ((x + t.1) * (65536 + t.2)) 16
  (sat16 y, decide (sat16 y ≠ y))

/-- The resolver compensation record of an axis is in use (R56, R139). -/
def rtrimOn (s : State) (n : Nat) : Bool :=
  !rdB s F.devTrimCtl_BYPASS 0 && !rdB s F.axTrkCtl_RTRIM_OFF n &&
    (match s.load.trimUse with
     | none => false
     | some m => bit (leVal (memBytes 0 m (0x1000 + 16 * n + 10) 2)) 0)

/-- A field of the resolver compensation record; 0 where it is not in use. -/
def rtrim (s : State) (n off : Nat) : Int := if rtrimOn s n then trimS16 s (0x1000 + 16 * n + off) else 0

/-- SIN/COS gain ratio in force, Q2.14 (R56). -/
def rtrimRatio (s : State) (n : Nat) : Int := if rtrimOn s n then trimS16 s (0x1000 + 16 * n) else 0x4000

/-- Mechanical zero in force, 2^-32 mechanical rev (R56). -/
def rtrimZero (s : State) (n : Nat) : Nat :=
  if rtrimOn s n then
    match s.load.trimUse with
    | none => 0
    | some m => leVal (memBytes 0 m (0x1000 + 16 * n + 12) 4)
  else 0

/-! ## Driver output (R238, R239) -/

/-- Output code of the driver of axis `n` for a nominal level and a Q1.15 shape. -/
def drvCode (s : State) (n : Nat) (sine : Bool) (nom shape : Int) : Int :=
  let o := 0xCE0 + 8 * n + (if sine then 4 else 0)
  let a := asr (nom * (65536 + trimS16 s o)) 16
  sat16 (asr (a * shape) 15 + trimS16 s (o + 2))

/-- Square output of the half-period in progress. -/
def drvSquare (s : State) (n : Nat) (pos : Bool) : Int :=
  drvCode s n false (3686 * ((ax s n).exc.step + 1 : Nat)) (if pos then 32767 else -32768)

/-- Excitation phase of a running group at an instant (R239). -/
def runPhase (g : Grp) (t : Nat) : Nat := (t - g.posAt) * 2 ^ 31 / (max 1 g.half) % 2 ^ 32

/-- Excitation phase of a group at an instant: held while the group waits for a new grid (R90, R133, R239). -/
def excPhase (g : Grp) (t : Nat) : Nat := if g.holding then g.heldPh else runPhase g t

/-- Sine output at a phase. -/
def drvSine (s : State) (n ph : Nat) : Int := drvCode s n true (((ax s n).exc.amp * 94907 / 1024 : Nat)) (sineQ15 ph)

/-- The EXC pins are sense inputs: SENSE, FOLLOW, or resolvers excited externally in a redundant device (R98, R244). -/
def senseOn (s : State) (n : Nat) : Bool :=
  rdB s F.axExcCtl_SENSE n || decide (mode s = mFollow)
    || (decide (rd s F.devRedCfg_KIND 0 ≠ 0) && rdB s F.devRedCfg_EXC_EXT 0)

/-- The driver of axis `n` excites when all of R241 hold. -/
def canDrive (s : State) (n : Nat) : Bool :=
  let m := mode s
  excTiming m && decide (m ≠ mFollow) && rdB s F.devExcGrp_EN (ax s n).exc.grp && rdB s F.axExcCtl_EN n
    && !senseOn s n && !(ax s n).exc.openFail && !rdB s F.axExcDstat_STOPPED n

/-- A driver stops: both legs low (R241). -/
def stopDriver (s : State) (n : Nat) : State := modExc s n (fun e => { e with drive := false, out := 0 })

/-! ## Chains in force and their histories (R123, R130, R131) -/

/-- Response, shift and parameter of stage `i` of a chain configuration (R134). -/
def stResp (cfg i : Nat) : Nat := bits cfg (16 * i) 5
def stShift (cfg i : Nat) : Nat := bits cfg (16 * i + 5) 4
def stParam (cfg i : Nat) : Nat := bits cfg (16 * i + 9) 7

/-- A stage history is emptied; the DC estimate stays (R128, R130). -/
def clearStage (x : Stage) : Stage := { x with win := [], cnt := 0 }

/-- A chain history is cleared: it settles from here (R130). -/
def clearChain (c : Chain) : Chain :=
  { c with s1 := clearStage c.s1, s2 := clearStage c.s2, s3 := clearStage c.s3, settling := true, clearNext := false }

/-- A configuration write that changes a stage presets its DC estimate at the next input (R128). -/
def dcPreset (old new i : Nat) (x : Stage) : Stage :=
  if bits old (16 * i) 16 = bits new (16 * i) 16 then x else { x with dcInit := 1 }

/-- A chain takes a new configuration: its history is cleared. -/
def newChain (old new : Nat) (c : Chain) : Chain :=
  let c1 := clearChain c
  { c1 with s1 := dcPreset old new 0 c1.s1, s2 := dcPreset old new 1 c1.s2, s3 := dcPreset old new 2 c1.s3 }

/-- The axis runs in sine mode. -/
def inSine (s : State) (n : Nat) : Bool := rdB s F.axFeStat_EXC_SINE n

/-- The SIN chain in use, and its COS twin. -/
def chainS (s : State) (n : Nat) : Chain := if inSine s n then (ax s n).flt.snS else (ax s n).flt.sqS
def chainC (s : State) (n : Nat) : Chain := if inSine s n then (ax s n).flt.snC else (ax s n).flt.sqC

/-- The SIN/COS chain in use is settling (R135). -/
def resSettling (s : State) (n : Nat) : Bool := (chainS s n).settling || (chainC s n).settling

/-- Object value of the chain of the mode. -/
def chainObj (s : State) (n : Nat) (sine : Bool) : Nat := getObj s (if sine then .axFltSine else .axFltSq) n

/-- Boxcar length of the plateau averager a square chain holds; 0 for a raw chain (R91, R121). -/
def plateauN (cfg : Nat) : Nat :=
  let f (r : Nat) : Nat := match r with
    | 0 => 4 | 1 => 8 | 2 => 12 | 3 => 16 | 4 => 24 | 5 => 32 | 6 => 48 | 7 => 64 | _ => 0
  f (stResp cfg 0) + f (stResp cfg 1) + f (stResp cfg 2)

/-- Phase points per excitation period of the correlator a sine chain holds; 0 for a raw chain (R121). -/
def corrK (cfg : Nat) : Nat :=
  let f (r : Nat) : Nat := match r with
    | 8 => 8 | 9 => 12 | 10 => 16 | 11 => 24 | 12 => 32 | 13 => 48 | 14 => 64 | 15 => 128 | _ => 0
  f (stResp cfg 0) + f (stResp cfg 1) + f (stResp cfg 2)

/-- This device is a twin or triad member: a fall-back or a return is the driver's decision (R98). -/
def inTeam (s : State) : Bool := decide (rd s F.devRedCfg_KIND 0 ≠ 0)

/-- The waveform the axis should run in: sine with MODE = 2, or after a fall-back with MODE = 0 (R95, R96). In a twin or triad a
fall-back also stands under MODE = 1 until the driver's decision to return takes effect (R98). -/
def wantSine (s : State) (n : Nat) : Bool :=
  let m := rd s F.axExcCtl_MODE n
  m == 2 || ((m == 0 || inTeam s) && (ax s n).exc.fall)

/-- An excitation switch takes effect on axis `n`: new waveform, chain and timing, and at a positive edge the written level;
the new chain is cleared and its DC blocks are frozen (R97, R131, R242). A pair that is already complete stays (R131, R149). -/
def applySwitch (s : State) (n : Nat) (sine pos : Bool) : State :=
  let new := chainObj s n sine
  let g := grp s (ax s n).exc.grp
  let s1 := modFlt s n (fun f =>
    if sine then
      let g := fun c => { newChain f.cfgSn new c with frozen := true }
      { f with cfgSn := new, snS := g f.snS, snC := g f.snC }
    else
      let g := fun c => { newChain f.cfgSq new c with frozen := true }
      { f with cfgSq := new, sqS := g f.sqS, sqC := g f.sqC })
  let s2 := modExc s1 n (fun e =>
    { e with
      force := false, pending := false, noMeas := true, half := g.half, phase := g.phase,
      step := if pos then rd s F.axExcDrv_STEP n else e.step, amp := if pos then rd s F.axExcDrv_SINE_AMP n else e.amp,
      failCnt := if sine then e.failCnt else 0, swAt := nowCyc s })
  let s3 := modFe s2 n (fun f =>
    { f with
      rDn := 0, rPeak := 0, ringS := [], ringC := [], plS := Plateau.none_, prevS := Plateau.none_,
      prevC := Plateau.none_, tSum := 0, tCnt := 0, allSum := 0, allCnt := 0, prevAt := none, prevAll := none,
      cutS := none, cutC := none })
  incSat (wrB s3 F.axFeStat_EXC_SINE n sine) F.axFltStat_CLEARS n

/-- The group timing in force is not the one the last switch of the axis was applied under (R90, R97). -/
def timingMoved (s : State) (n : Nat) : Bool :=
  let e := (ax s n).exc
  let g := grp s e.grp
  decide (g.half ≠ e.half) || decide (g.phase ≠ e.phase)

/-- What a switch would change: waveform, chain, timing or level (R97, R123, R131, R242). A level change joins at a positive
edge. -/
def switchDue (s : State) (n : Nat) (pos : Bool) : Bool :=
  let a := ax s n
  let w := wantSine s n
  (w != inSine s n) || a.exc.force || timingMoved s n
    || decide (chainObj s n w ≠ (if w then a.flt.cfgSn else a.flt.cfgSq))
    || (pos && (decide (rd s F.axExcDrv_STEP n ≠ a.exc.step) || decide (rd s F.axExcDrv_SINE_AMP n ≠ a.exc.amp)))

/-- An excitation switch waits for the chain to settle: one that fell due at a boundary, or one asked for while the chain
settles (R131, R135). One that restores what is in force waits no longer. -/
def switchWaits (s : State) (n : Nat) : Bool :=
  let e := (ax s n).exc
  (grp s e.grp).running && (e.pending || resSettling s n)
    && (switchDue s n true || decide (rd s F.axExcCtl_GROUP n ≠ e.grp))

/-- At a boundary, a switch that is due is applied, or waits while the chain is settling; at the start of a group nothing
settles from an earlier switch (R95, R97, R131). -/
def edgeSwitch (s : State) (n : Nat) (start pos : Bool) : State :=
  if switchDue s n pos then
    if resSettling s n && !start then modExc s n (fun e => { e with pending := true })
    else applySwitch s n (wantSine s n) pos
  else if switchDue s n true then s
  else modExc s n (fun e => { e with pending := false })

/-- Number of the half-period boundary at cycle `t` on the grid of a group, counted from the epoch: the same number on every
device that shares fabric time (R89, R98). -/
def edgeNo (s : State) (g : Grp) (t : Nat) : Nat :=
  (((t : Int) - s.ctl.epoch - g.phase + max 1 g.half / 2) / (max 1 g.half : Nat)).toNat

/-- Number of the boundary that opened the half-period in progress on axis `n`. -/
def halfNo (s : State) (n : Nat) : Nat := let g := grp s (ax s n).exc.grp; edgeNo s g g.edgeAt

/-- A decision of the driver takes effect at its boundary (R98). -/
def edgeDecision (s : State) (n : Nat) : State :=
  match (ax s n).exc.decided with
  | some (b, k) =>
    if k ≤ halfNo s n then modExc s n (fun e => { e with fall := b, decided := none, failCnt := 0 }) else s
  | none => s

/-- Driver of axis `n` at an edge of its group: it starts at a positive edge with the written level, stops at any boundary,
and takes its new limits; with BOOST the current limit is the fixed 10 mA, code 0 (R241 to R243). -/
def edgeDriver (s : State) (n : Nat) (pos : Bool) : State :=
  let lim := if rdB s F.axExcDrv_BOOST n then 0 else rd s F.axExcDrv_ILIM n
  let s1 := modExc s n (fun e => { e with slew := rd s F.axExcDrv_SLEW n, ilim := lim })
  if !canDrive s1 n then stopDriver s1 n
  else
    let e := (ax s1 n).exc
    let s2 := if pos && !e.drive then modExc s1 n (fun e =>
        { e with drive := true, noMeas := true, step := rd s F.axExcDrv_STEP n, amp := rd s F.axExcDrv_SINE_AMP n })
      else s1
    if (ax s2 n).exc.drive && !inSine s2 n then
      modExc s2 n (fun e => { e with out := drvSquare s2 n pos })
    else s2

/-- A new half-period starts on axis `n`: its proof window, its plateau and phase points, and the detector settings that hold
for it (R91, R125, R242). -/
def startHalf (s : State) (n : Nat) (pos : Bool) : State :=
  let avg := !inSine s n && decide (plateauN (ax s n).flt.cfgSq ≠ 0)
  let s1 := modExc s n (fun e =>
    { e with
      pw := rd s F.axExcCtl_PROOF n, nPl := 0, nextPt := if pos then 0 else corrK (ax s n).flt.cfgSn / 2,
      det := getObj s .axExcDrv n })
  modFe s1 n (fun f => { f with opS := avg, opC := avg })

/-- A half-period closes on axis `n` before its N-th plateau strobe has been read: each averager emits at its next slot read,
over the samples it holds (R124). `neg` is the polarity of the closing half-period. -/
def cutHalf (s : State) (n : Nat) (neg : Bool) : State :=
  let f := (ax s n).fe
  if f.opS || f.opC then
    modFe s n (fun f =>
      { f with
        cutS := if f.opS then some neg else f.cutS, cutC := if f.opC then some neg else f.cutC, opS := false, opC := false,
        closedAt := nowCyc s })
  else s

/-- BW_CLAMP follows the half-period that takes effect: set where BW exceeds an eighth of the update rate (R142). -/
def bwCheck (s : State) (n : Nat) : State :=
  wrB s F.axTrkStat_BW_CLAMP n (decide (1500000000 < 80 * rd s F.axTrkCtl_BW n * (grp s (ax s n).exc.grp).half))

/-- At a positive edge of group `g`, an axis whose GROUP names it joins, unless its filter still settles from an earlier change
and its group so far runs: then it waits for the next one (R97, R131). -/
def joinGroup (s : State) (n g : Nat) : State :=
  let e := (ax s n).exc
  if decide (rd s F.axExcCtl_GROUP n = g) && decide (e.grp ≠ g) then
    if (grp s e.grp).running && resSettling s n then modExc s n (fun e => { e with pending := true })
    else bwCheck (modExc s n (fun e => { e with grp := g, force := true })) n
  else s

/-- Everything a half-period boundary of group `g` does on axis `n`; `start` where the group has just started. -/
def axisEdge (g : Nat) (start pos : Bool) (s : State) (n : Nat) : State :=
  let s1 := if pos then joinGroup s n g else s
  if (ax s1 n).exc.grp = g then
    let join := start || decide ((ax s n).exc.grp ≠ g)
    let s2 := edgeSwitch (edgeDecision (cutHalf s1 n pos) n) n join pos
    startHalf (edgeDriver s2 n pos) n pos
  else s1

/-- Every axis of a group treats an edge as an excitation switch (R90, R133). -/
def forceGroup (s : State) (g : Nat) : State :=
  forAxes (fun t n =>
    if (ax t n).exc.grp = g then bwCheck (modExc t n (fun e => { e with force := true })) n else t) s

/-- The gains of the axes of a group follow its half-period (R142). -/
def bwGroup (s : State) (g : Nat) : State :=
  forAxes (fun t n => if (ax t n).exc.grp = g then bwCheck t n else t) s

/-- The written timing of a group. -/
def grpHalf (s : State) (g : Nat) : Nat := rd s F.devExcGrp_HALF_PERIOD g
def grpPhase (s : State) (g : Nat) : Nat := rd s F.devExcPhase_PHASE g

/-- An instant is a positive edge of the grid the objects describe, counted from the epoch E (R89). -/
def onGrid (s : State) (g t : Nat) : Bool :=
  let e : Int := s.ctl.epoch
  ((t : Int) - e - grpPhase s g) % (2 * grpHalf s g : Nat) == 0

/-- A group starts, or starts its new timing, at a positive edge. A start, and a grid that a SYNC has moved, are an excitation
switch of every axis whatever the timing (R90, R133). -/
def startGroup (s : State) (g : Nat) : State :=
  let x := grp s g
  let t := nowCyc s
  let s1 := setGrp s g { x with
    running := true, half := grpHalf s g, phase := grpPhase s g, pos := true, count := x.count + 1, edgeAt := t,
    posAt := t, holding := false, moved := false }
  if !x.running || x.moved then forceGroup s1 g else bwGroup s1 g

/-- The next half-period of a running group. -/
def nextHalf (s : State) (g : Nat) : State :=
  let x := grp s g
  let t := nowCyc s
  setGrp s g { x with
    pos := !x.pos, count := x.count + 1, edgeAt := t, posAt := if x.pos then x.posAt else t }

/-- A stopped group: both legs of every driver low (R90, R241). -/
def stopGroup (s : State) (g : Nat) : State :=
  forAxes (fun t n => if (ax t n).exc.grp = g then stopDriver t n else t)
    (setGrp s g { grp s g with running := false, holding := false, moved := false })

/-- All axes at an edge of group `g`. -/
def groupAxes (s : State) (g : Nat) (start : Bool) : State :=
  let x := grp s g
  forAxes (axisEdge g start x.pos) s

/-- A group holds the polarity, or the sine phase, that it has now (R90, R133). -/
def holdGroup (s : State) (g : Nat) (moved : Bool) : State :=
  let x := grp s g
  setGrp s g { x with holding := true, heldPh := excPhase x (nowCyc s), moved := x.moved || moved }

/-- A half-period boundary of group `g` (R89, R90, R97, R133). -/
def groupEdge (s : State) (g : Nat) : State :=
  let x := grp s g
  if !excTiming (mode s) then s
  else if !rdB s F.devExcGrp_EN g then (if x.running then stopGroup s g else s)
  else if !x.running || x.holding then groupAxes (startGroup s g) g (!x.running)
  else if !x.pos && (decide (x.half ≠ grpHalf s g) || decide (x.phase ≠ grpPhase s g)) then
    if onGrid s g (nowCyc s) then groupAxes (startGroup s g) g false
    else holdGroup s g false
  else groupAxes (nextHalf s g) g false

/-! ## Ranging (R102 to R107) -/

/-- Range in force of a pair: `cur` picks IA/IB. -/
def rangeOf (s : State) (n : Nat) (cur : Bool) : Nat :=
  if cur then rd s F.axFeStat_I_RANGE n else rd s F.axFeStat_R_RANGE n

/-- The range of a pair is set at once, without a change being counted. -/
def setRange (s : State) (n : Nat) (cur : Bool) (r : Nat) : State :=
  if cur then wr s F.axFeStat_I_RANGE n r else wr s F.axFeStat_R_RANGE n r

/-- Source in force, autoranging and fixed range of a pair. -/
def srcOf (s : State) (n : Nat) (cur : Bool) : Nat := if cur then (ax s n).fe.isrc else (ax s n).fe.rsrc
def autoOf (s : State) (n : Nat) (cur : Bool) : Bool :=
  if cur then rdB s F.axFeCtl_I_AUTO n else rdB s F.axFeCtl_R_AUTO n
def fixOf (s : State) (n : Nat) (cur : Bool) : Nat :=
  if cur then rd s F.axFeCtl_I_FIX n else rd s F.axFeCtl_R_FIX n

/-- A pair ranges by itself (R102, R103). -/
def autoRanging (s : State) (n : Nat) (cur : Bool) : Bool := autoOf s n cur && decide (srcOf s n cur = 0)

/-- Starting range of a pair (R102). -/
def startRange (s : State) (n : Nat) (cur : Bool) : State :=
  setRange s n cur (if autoRanging s n cur then 0 else fixOf s n cur)

/-- Requests and down-range count of a pair are dropped. -/
def clearRanging (s : State) (n : Nat) (cur : Bool) : State :=
  modFe s n (fun f => if cur then { f with iReq := RngReq.none_, iDn := 0, iPeak := 0 }
    else { f with rReq := RngReq.none_, rDn := 0, rPeak := 0 })

/-- A proof window of `len` converter cycles opens now on a pair; in square mode the resolver's joins the proof window of
the half-period (R100, R104, R107). -/
def openWindow (s : State) (n : Nat) (cur : Bool) (len : Nat) : State :=
  if cur then modFe s n (fun f => { f with iWin := max f.iWin (nowHalf s + 25 * len) })
  else if inSine s n then modFe s n (fun f => { f with rWin := max f.rWin (nowHalf s + 25 * len) })
  else modExc s n (fun e => { e with pw := max e.pw len })

/-- A request old enough for this instant: at least 200 ns, 300 cycles, after its strobe (R104). -/
def ripe (s : State) (r : Option Nat) : Bool := match r with | some t => decide (t + 300 ≤ nowCyc s) | none => false

/-- The range a pair takes at an allowed instant, if it changes (R103, R107). -/
def newRange (s : State) (n : Nat) (cur : Bool) : Option Nat :=
  let r := rangeOf s n cur
  let q := if cur then (ax s n).fe.iReq else (ax s n).fe.rReq
  let t :=
    if !autoRanging s n cur then fixOf s n cur
    else if ripe s q.zero then 0
    else if ripe s q.up then r - 1
    else if ripe s q.down then min 3 (r + 1)
    else r
  if t = r then none else some t

/-- Requests left after an allowed instant: those not yet ripe, and no down-range beside an up-range. -/
def leftReq (s : State) (q : RngReq) : RngReq :=
  let f := fun (r : Option Nat) => if ripe s r then none else r
  ⟨f q.zero, f q.up, if ripe s q.zero || ripe s q.up then none else f q.down⟩

/-- The range of a pair changes: a proof window opens and the counts restart (R103, R104). -/
def changeRange (s : State) (n : Nat) (cur : Bool) : State :=
  let left := fun t => modFe t n (fun f =>
    if cur then { f with iReq := leftReq s f.iReq } else { f with rReq := leftReq s f.rReq })
  match newRange s n cur with
  | none => left s
  | some r =>
    let s1 := left (incSat (setRange s n cur r) F.axFeStat_R_CHANGES n)
    let s2 := modFe s1 n (fun f => if cur then { f with iDn := 0, iPeak := 0 } else { f with rDn := 0, rPeak := 0 })
    openWindow s2 n cur (rd s F.axFeCtl_RNG_PW n)

/-- A request is noted; the first of its kind stands. -/
def noteReq (q : Option Nat) (t : Nat) : Option Nat := match q with | some u => some u | none => some t

/-- A sample asks for less gain: full scale or Clamp asks for range 0, above 29,491 for one code (R103). An up-range
request restarts the down-range count. -/
def upRange (s : State) (n : Nat) (cur : Bool) (x : Int) (clamp : Bool) (t : Nat) : State :=
  let zero := clamp || decide (x = 32767) || decide (x = -32768)
  let up := decide (29491 < absN x)
  if autoRanging s n cur && (zero || up) then
    modFe s n (fun f =>
      let q := if cur then f.iReq else f.rReq
      let q1 : RngReq := ⟨if zero then noteReq q.zero t else q.zero, if up then noteReq q.up t else q.up, none⟩
      if cur then { f with iReq := q1, iDn := 0 } else { f with rReq := q1, rDn := 0 })
  else s

/-- An interval (half-period or carrier period) ends: it counts towards a down-range if its peak stayed below 40 %, and
restarts the count otherwise (R103). `limit` is the number of intervals asked for. -/
def downRange (s : State) (n : Nat) (cur : Bool) (low : Bool) (limit t : Nat) : State :=
  modFe s n (fun f =>
    let cnt := if cur then f.iDn else f.rDn
    let q := if cur then f.iReq else f.rReq
    let up := q.zero.isSome || q.up.isSome
    let cnt1 := if low && !up && autoRanging s n cur then cnt + 1 else 0
    let fire := decide (limit ≤ cnt1) && decide (rangeOf s n cur < 3)
    let q1 : RngReq := if fire then { q with down := noteReq q.down t } else q
    if cur then { f with iDn := if fire then 0 else cnt1, iReq := q1, iPeak := 0 }
    else { f with rDn := if fire then 0 else cnt1, rReq := q1, rPeak := 0 })

/-! ## Multiplexer (R99 to R102) -/

/-- The written source of a pair. -/
def srcObj (s : State) (n : Nat) (cur : Bool) : Nat := if cur then rd s F.axFeCtl_ISRC n else rd s F.axFeCtl_RSRC n

/-- A source takes effect on a pair: the pair goes to its fixed range, or restarts at range 0 under autoranging, and a proof
window opens from the first strobe under the new source: MUX_PW, or in square mode the larger of MUX_PW and PROOF (R100,
R102). -/
def setSource (s : State) (n : Nat) (cur : Bool) (src : Nat) : State :=
  if src = srcOf s n cur then s
  else
    let pw := rd s F.axFeCtl_MUX_PW n
    let len := if cur || inSine s n then pw else max pw (rd s F.axExcCtl_PROOF n)
    let s1 := modFe s n (fun f => if cur then { f with isrc := src, iMux := some len }
        else { f with rsrc := src, rMux := some len })
    let s2 := startRange (clearRanging s1 n cur) n cur
    if rangeOf s2 n cur = rangeOf s n cur then s2 else incSat s2 F.axFeStat_R_CHANGES n

/-- The written source of a pair takes effect (R100). -/
def switchMux (s : State) (n : Nat) (cur : Bool) : State := setSource s n cur (srcObj s n cur)

end Sys2Proof.Machine
end

