-- ==== Sys2Proof/Machine/Protect.lean ====
section
/-!
DEFINITION. Trip latches, safe gate states and driver enables (spec/09_pwm_protection.md, R229 to R236; entry to TRIPPED
of R165).
-/

namespace Sys2Proof.Machine

def modPwm (s : State) (n : Nat) (f : AxPwm → AxPwm) : State := setAx s n { ax s n with pwm := f (ax s n).pwm }
def modLoop (s : State) (n : Nat) (f : AxLoop → AxLoop) : State := setAx s n { ax s n with loop := f (ax s n).loop }

/-! ## Axis modes (R162) -/

def aDisabled : Nat := 0
def aTrack : Nat := 1
def aManual : Nat := 2
def aCurrent : Nat := 3
def aVelocity : Nat := 4
def aPosition : Nat := 5
def aGear : Nat := 6
def aTripped : Nat := 7

/-- Mode of axis `n`. -/
def axMode (s : State) (n : Nat) : Nat := rd s F.axMode_MODE n

/-- Modes 2 to 6 are the driving modes (R162). -/
def isDriving (m : Nat) : Bool := decide (2 ≤ m ∧ m ≤ 6)

/-- Axis `n` is in a driving mode. -/
def driving (s : State) (n : Nat) : Bool := isDriving (axMode s n)

/-- Template of an axis, from its binding (R161). -/
def template (s : State) (n : Nat) : Nat := rd s F.axLoopCfg_TEMPLATE n

/-- The binding of axis `n`, if the image has one (R43). -/
def bindingOf (s : State) (n : Nat) : Option Binding := s.load.bindings.find? (fun b => b.axis == n)


/-- The axis failed TEST (R72). -/
def testFailed (s : State) (n : Nat) : Bool := s.ctl.testFail.contains n

/-- The other motor of a T2 pair on this device, with whether `n` is the primary (R161). -/
def pairLocal (s : State) (n : Nat) : Option Nat :=
  match bindingOf s n with
  | some b =>
    if b.kind = 1 && (decide (b.node = rd s F.devFabStat_NODE_ID 0) || !rdB s F.devFabStat_ID_VALID 0) then some b.paxis
    else none
  | none => none

/-- The primary whose partner on this device is `n`. -/
def primaryOf (s : State) (n : Nat) : Option Nat :=
  (s.load.bindings.find? (fun b => b.kind == 1 && pairLocal s b.axis == some n)).map (·.axis)

/-- The axis has a PLACEMENT binding, its own or as the second motor of a pair. -/
def bound (s : State) (n : Nat) : Bool := (bindingOf s n).isSome || (primaryOf s n).isSome || s.place.parts.contains n

/-- The other motor of the pair `n` belongs to, on this device. -/
def pairMate (s : State) (n : Nat) : Option Nat :=
  match pairLocal s n with
  | some m => some m
  | none => primaryOf s n

/-- An axis takes a new mode: PREV and CAUSE record the change (R162). -/
def setMode (s : State) (n m cause : Nat) : State :=
  let old := axMode s n
  wr (wr (wr s F.axMode_PREV n old) F.axMode_MODE n m) F.axMode_CAUSE n cause

/-- The address of an object of this device, as replies carry it (R7, R409). -/
def ownAddr (s : State) (o : ObjId) (i : Nat) : Nat :=
  objKey o i + (if rdB s F.devFabStat_ID_VALID 0 then rd s F.devFabStat_NODE_ID 0 * 2 ^ 26 else 0)

/-- A pending write of `o[i]` is answered and leaves its pending state. -/
def answer (s : State) (src : Src) (o : ObjId) (i status : Nat) : State :=
  release (replyWrite s src (ownAddr s o i) status) src

/-- A pending mode request is refused with a mode error (R164). -/
def refuseReq (s : State) (n : Nat) : State :=
  match (ax s n).loop.req with
  | none => s
  | some (_, src) => answer (modLoop s n (fun l => { l with req := none })) src .axMode n 2

/-! ## Sources (R229) -/

/-- Live comparator outputs act as sources only with CW_EN (R229). -/
def cwActive (s : State) (n : Nat) : Nat := if rdB s F.axTripCfg_CW_EN n then rd s F.axTripStat_CW_LIVE n else 0

/-- Enabled TRIP inputs of axis `n` at their active level. -/
def extActive (s : State) (n : Nat) : List Nat :=
  (List.range 8).filter (fun k => rdB s F.devTripIn_EN k && bit (rd s F.devTripIn_AXES k) n && rdB s F.devTripIn_LEVEL k)

/-- A common-mode fault of IA or IB acts on an axis in a driving mode (R110). -/
def cmActive (s : State) (n : Nat) : Bool := driving s n && decide (4 ≤ rd s F.axFeStat_CM n)

/-- Clock loss acts on every axis; the CONV clock's on axes whose loops need samples, CURRENT to GEAR, where its latch
then stays (R23, R234). -/
def clkActive (s : State) (n : Nat) : Bool :=
  s.pwr.coreLost || s.pwr.pwmLost
    || (s.pwr.convLost && (decide (3 ≤ axMode s n ∧ axMode s n ≤ 6) || bit (getObj s .axTripStat n) 16))

/-- A source of the latch is active now (R229, R234). -/
def tripActive (s : State) (n : Nat) : Bool :=
  decide (cwActive s n ≠ 0) || !(extActive s n).isEmpty || cmActive s n || clkActive s n

/-- Source bits [16:8] of TRIP_STAT for what is active now. -/
def sourceBits (s : State) (n : Nat) : Nat :=
  cwActive s n + b2n (!(extActive s n).isEmpty) * 16 + b2n (cmActive s n) * 32 + b2n (clkActive s n) * 256

/-- Bits of TRIP_STAT[16:8] that are no live source: a lane trip and a group disable. -/
def srcLane : Nat := 64
def srcGroup : Nat := 128

/-- Source bits are added to those recorded; the lowest-numbered TRIP input recorded is noted. -/
def recordSources (s : State) (n extra : Nat) : State :=
  let v := getObj s .axTripStat n
  let s1 := setObj s .axTripStat n (setBits v 8 9 (bits v 8 9 ||| sourceBits s n ||| extra))
  match extActive s n with
  | k :: _ => wr s1 F.axTripStat_TRIP_IN n (if bit (bits v 8 9) 4 then min k (rd s F.axTripStat_TRIP_IN n) else k)
  | [] => s1

/-! ## Driver enables (R233, R236) -/

/-- Groups that a latch with SAFE = 2 holds low, one bit per group (R233). -/
def disGroups (s : State) : Nat :=
  ((List.range 4).map (fun g => b2n ((List.range 12).any (fun i =>
    rdB s F.axTripStat_LATCH (12 * g + i) && decide (rd s F.axPwmCfg_SAFE (12 * g + i) = 2))) * 2 ^ g)).sum

/-- DRV_EN and DIS follow the mode, the latches and the clocks. -/
def updDrv (s : State) : State :=
  let d := disGroups s
  let en := if s.pwr.coreLost || s.pwr.pwmLost then 0 else s.prot.want &&& (15 - d)
  wr (wr s F.devDrvStat_DIS 0 d) F.devDrvStat_EN 0 en

/-- The mode asks for DRV_EN on these groups. -/
def wantDrv (s : State) (m : Nat) : State := updDrv { s with prot := { s.prot with want := m } }

/-! ## The latch (R230, R233, R165) -/

/-- A commit that the timer has not taken does not take effect: what it advanced is as it was before (R209, R215). -/
def undoCommit (s : State) (n : Nat) : State :=
  match (ax s n).loop.back with
  | none => s
  | some u =>
    let s1 := modLoop s n (fun l =>
      { l with st := u.st, du := u.du, dv := u.dv, dw := u.dw, wasLate := u.late, last := u.last, back := none })
    setObj s1 .axLoopStat n (setBits (getObj s1 .axLoopStat n) 0 4 u.stat)

/-- Evaluations in flight of an axis are discarded, with a commit that has not taken effect (R209, R215). -/
def dropEvals (s : State) (n : Nat) : State :=
  modPwm (modLoop (undoCommit s n) n (fun l =>
    { l with spec := none, compl := none, slow := none, retry := none, presets := [], tel := none })) n
    (fun p => { p with box := [] })

/-- An axis enters TRIPPED: its integrators stand, a pending request is refused, and EV_AXIS_TRIP is raised (R164,
R165). -/
def enterTripped (s : State) (n cause : Nat) : State :=
  let s1 := dropEvals (setMode s n aTripped cause) n
  let s2 := modLoop (wr (wr s1 F.axMode_HELD n 0) F.axMode_STOPPING n 0) n (fun l => { l with gearHeld := false })
  let s3 := modPwm s2 n (fun p => { p with safe := true, lowOn := false, brake := false, fed := false })
  let s4 := ledgAxis s3 F.axLedger_TRIPS n 3 1
  refuseReq (raise s4 0x40 n cause) n

/-- The latch of one axis sets: sources and count are recorded, and an axis that is not DISABLED enters TRIPPED. -/
def latchOne (s : State) (n cause extra : Nat) : State :=
  let s1 := recordSources s n extra
  if rdB s F.axTripStat_LATCH n then s1
  else
    let s2 := incSat (wr s1 F.axTripStat_LATCH n 1) F.axTripStat_TRIPS n
    if axMode s n = aDisabled then modPwm s2 n (fun p => { p with safe := true, lowOn := false })
    else if axMode s n = aTripped then modPwm s2 n (fun p => { p with safe := true, lowOn := false })
    else enterTripped s2 n cause

/-- A latch with SAFE = 2 is a source for every other driving axis of its group (R233). -/
def groupDisable (s : State) (n : Nat) : State :=
  if rd s F.axPwmCfg_SAFE n = 2 then
    (List.range 12).foldl (fun t i =>
      let m := n / 12 * 12 + i
      if m ≠ n ∧ driving t m then latchOne t m 3 srcGroup else t) s
  else s

/-- A trip of one motor of a T2 pair trips the other (R165). -/
def tripMate (s : State) (n cause extra : Nat) : State :=
  match pairMate s n with
  | some m => if axMode s m = aTripped ∨ axMode s m = aDisabled then s else groupDisable (latchOne s m cause extra) m
  | none => s

/-- Axes other than `n` that a trip of `n` trips have their own pairs; two rounds reach every mate of the group. -/
def tripMates (s : State) (extra : Nat) (old : State) : State :=
  forAxes (fun t m =>
    if axMode t m = aTripped ∧ axMode old m ≠ aTripped then tripMate t m (rd t F.axMode_CAUSE m) extra else t) s

/-- A trip of axis `n`: its latch, its group, its pair, DRV_EN (R229 to R233). -/
def trip (s : State) (n cause extra : Nat) : State :=
  let s1 := groupDisable (latchOne s n cause extra) n
  updDrv (tripMates s1 srcLane s)

/-- The loss of the CORE, PWM or reference clock sets the latch of every axis (R23, R229, R230); a latch with SAFE = 2 is a
source for the other axes of its group that drove (R233). -/
def clockTrip (s : State) : State :=
  updDrv (forAxes (fun t n =>
    let cut := (List.range 12).any (fun i =>
      let m := n / 12 * 12 + i
      decide (m ≠ n) && decide (rd s F.axPwmCfg_SAFE m = 2))
    latchOne t n 3 (if driving s n && cut then srcGroup else 0)) s)

/-- A lane trip: miss limit, checkpoint mismatch, loss of tracking or skew (R165). -/
def laneTrip (s : State) (n cause : Nat) : State := trip s n cause srcLane

/-- A source of the trip logic has become active, or TRIP_CFG makes one active: the latch sets (R229). -/
def tripCheck (s : State) (n : Nat) : State :=
  if tripActive s n then (if rdB s F.axTripStat_LATCH n then recordSources s n 0 else trip s n 3 0) else s

/-! ## Load points (R20, R218 to R224) -/

/-- Tick at which the period in progress ends, its lengthening included (R221). -/
def nextValley (p : AxPwm) : Nat := p.valley + 2 * p.half + p.extra

/-- Tick of the peak of the period in progress. -/
def peakOf (p : AxPwm) : Nat := p.valley + p.half + p.extra / 2

/-- The first load point at or after tick `t` (R224). -/
def nextLoad (p : AxPwm) (t : Nat) : Nat :=
  let v1 := nextValley p
  if t ≤ p.valley then p.valley
  else if p.dual && decide (t ≤ peakOf p) then peakOf p
  else if t ≤ v1 then v1
  else
    let h := max 1 (if p.dual then p.half else 2 * p.half)
    v1 + (t - v1 + h - 1) / h * h

/-- Length of a frame that starts at cycle `a`, where a SYNC of epoch `e` waits: the frame before the epoch, or the one that a
late SYNC finds next, is shortened or lengthened by at most 100 cycles so that its successor starts on the new grid (R16). A
frame just 100 cycles off is free to be either. -/
def fitFrame (e a : Nat) : Nat :=
  let d := (((e : Int) - a) % 200).toNat
  if a + 300 < e ∨ d = 0 then 200
  else if d < 100 then 200 + d
  else if d = 100 then (if Config.frameTie e then 300 else 100)
  else d

/-- The epoch that frames still have to be fitted to, in cycles: that of a SYNC acted on, or of one that waits for its T. -/
def gridGoal (s : State) : Option Nat :=
  match s.ctl.gridAt with
  | some e => some e
  | none => s.fab.syncPend.map (fun p => epochCyc s p.2)

/-- Length of the frame that starts at cycle `a`. -/
def frameLenAt (s : State) (a : Nat) : Nat := match gridGoal s with | some e => fitFrame e a | none => 200

/-- Whether a frame of length `len` issues the strobe of axis `n` (R117). -/
def hasStrobe (n len : Nat) : Bool := decide (4 * n < len)

/-- The instant of the first strobe of axis `n` after its strobe at cycle `c` (R13, R16, R117): the one in flight, if it has
been issued. -/
def nextStrobe (s : State) (n c : Nat) : Nat :=
  let f := fun (l : List Nat) => l.find? (fun t => decide (c < t))
  match f ((mget [] s.c1 (4 * n)).map (·.st.at_) ++ (mget [] s.conv (4 * n)).map (·.at_)) with
  | some t => t
  | none =>
    let a := s.ctl.frameStart
    let b := a + s.ctl.frameLen
    let len := frameLenAt s b
    if decide (c < a + 4 * n) && hasStrobe n s.ctl.frameLen then a + 4 * n
    else if hasStrobe n len then b + 4 * n
    else b + len + 4 * n

/-- The load point that selects the strobe of axis `n` at cycle `c`, if one does: the strobe is the last at or before P − L
(R20). -/
def selLoad (s : State) (n c : Nat) : Option Nat :=
  let l := rd s F.axPwmLead_L n
  let p := nextLoad (ax s n).pwm ((c + 1) / 2 + l)
  if 2 * p < nextStrobe s n c + 2 * l then some p else none

/-- The instant in cycles of the strobe that load point `p` (a tick) selects: the latest of axis `n` at or before P − L, over
the frame before, the current one, the next one and the 200-cycle frames from there (R16, R20, R117). -/
def strobeFor (s : State) (n p : Nat) : Int :=
  let x : Int := 2 * ((p : Int) - rd s F.axPwmLead_L n) - 4 * n
  let a : Int := s.ctl.frameStart
  let b : Int := a + s.ctl.frameLen
  let len := frameLenAt s (s.ctl.frameStart + s.ctl.frameLen)
  let c : Int := b + len
  let z : Int := a - s.ctl.prevLen
  let start : Int :=
    if c ≤ x then c + (x - c) / 200 * 200
    else if b ≤ x ∧ hasStrobe n len then b
    else if a ≤ x ∧ hasStrobe n s.ctl.frameLen then a
    else if z ≤ x ∧ hasStrobe n s.ctl.prevLen then z
    else z + (min x (z - 1) - z) / 200 * 200
  start + 4 * n

/-- Ticks from tick `t` to the next valley of the written grid (R220): the lengthening of R221 where it is asked at a
valley. -/
def gridGap (s : State) (n t : Nat) : Nat :=
  let period := 2 * max 1 (rd s F.axPwmTim_HALF n)
  (((s.ctl.epoch / 2 + rd s F.axPwmTim_PHASE n : Nat) : Int) - (t : Int)) % (period : Int) |>.toNat

/-! ## Gate outputs (R66, R84, R219, R232) -/

/-- Whether gates follow the commit path on axis `n`: a driving mode, no latch, clocks running. -/
def switching (s : State) (n : Nat) : Bool :=
  driving s n && (ax s n).pwm.active && !rdB s F.axTripStat_LATCH n && !(ax s n).pwm.safe && !(ax s n).pwm.brake
    && !s.pwr.coreLost && !s.pwr.pwmLost && !s.pwr.rst

/-- Half-bridges a template uses: `leg` 0 to 2 for U, V, W; the W outputs of a T1 axis stay low, and all of a T3 axis (R161,
R172). -/
def legUsed (s : State) (n leg : Nat) : Bool :=
  decide (template s n ≠ 3) && !(decide (template s n = 1) && decide (leg = 2))

/-- Level of a low-side output that does not switch: `leg` is 0, 1 or 2 for U, V, W. The W outputs of a T1 axis stay low
(R232). -/
def lowSideOn (s : State) (n leg : Nat) : Bool :=
  let p := (ax s n).pwm
  !s.pwr.coreLost && !s.pwr.pwmLost && !s.pwr.rst && (p.brake || (p.safe && p.lowOn))
    && legUsed s n leg

/-- The ramp r at a step (R218): 0 at the valley, 4 × HALF at the peak. A lengthened half waits at 0, which leaves every high-side
interval as long as it is (R221). -/
def ramp (p : AxPwm) (step : Nat) : Nat := 4 * p.half - absN ((step : Int) - (4 * peakOf p : Nat))

/-- hs_x: the high-side request of a half-bridge at a step of the period in progress, or just before it (R225, R228). -/
def highRequest (p : AxPwm) (x : Phase) (step : Nat) : Bool :=
  if step < 4 * p.valley then decide (4 * p.half < 4 * p.valley - step + x.last)
  else
    let rising := decide (step < 4 * peakOf p)
    (rising && x.filled)
      || (!x.removed && decide (4 * p.half < ramp p step + (if rising then x.rise else x.fall)))

/-- The half-bridge of a leg. -/
def AxPwm.leg (p : AxPwm) (leg : Nat) : Phase := match leg with | 0 => p.u | 1 => p.v | _ => p.w

/-- The request has stood at `v` for the dead time: an output rises DT steps after it and falls at once (R227). -/
def stoodFor (p : AxPwm) (x : Phase) (v : Bool) (step : Nat) : Bool :=
  (List.range (p.dt + 1)).all (fun k => highRequest p x (step - k) == v)

/-- Level of a high-side output at a step of 1/3 ns of the frame grid's time (R225 to R227, R232). -/
def highGate (s : State) (n leg step : Nat) : Bool :=
  let p := (ax s n).pwm
  switching s n && p.fed && legUsed s n leg && stoodFor p (p.leg leg) true step

/-- Level of a low-side output at a step. -/
def lowGate (s : State) (n leg step : Nat) : Bool :=
  let p := (ax s n).pwm
  if switching s n then p.fed && legUsed s n leg && stoodFor p (p.leg leg) false step else lowSideOn s n leg

/-- An axis takes its safe gate state outside a trip (R83, R84, R437): SAFE = 1 turns the low sides on at once of TDT. -/
def safeGates (s : State) (n : Nat) : State := modPwm s n (fun p => { p with safe := true, brake := false, fed := false })

/-- An axis shows its safe gate state by its own latch or in TRIPPED, whatever the mode of the device (R84, R232, R234). -/
def keepsSafe (s : State) (n : Nat) : Bool := rdB s F.axTripStat_LATCH n || decide (axMode s n = aTripped)

/-- All six outputs low (R219, R234). -/
def lowGates (s : State) (n : Nat) : State :=
  modPwm s n (fun p => { p with safe := false, lowOn := false, brake := false, fed := false })

/-! ## Re-arming -/

/-- REARM: the latch clears only if no source is active (R234). An axis in DISABLED has its gates low again, but for a
device in LATCH (R84, R162). The answer says whether it did. -/
def rearm (s : State) (n : Nat) : State × Bool :=
  if tripActive s n then (s, false)
  else
    let v := getObj s .axTripStat n
    let s1 := setObj s .axTripStat n (setBits (setBits v 8 9 0) 0 1 0)
    let s2 := wr s1 F.axTripStat_TRIP_IN n 0
    (updDrv (if axMode s n = aDisabled ∧ mode s ≠ mLatch then lowGates s2 n else s2), true)

end Sys2Proof.Machine
end

