-- ==== Sys2Proof/Machine/TwinRec.lean ====
section
/-!
DEFINITION. TWIN records (R341, R344): what the driver tells the other members, and the records of checkpoints, releases
and status.
-/

namespace Sys2Proof.Machine

/-- 0 none, 1 twin, 2 triad. -/
def redKind (s : State) : Nat := rd s F.devRedCfg_KIND 0

/-- The other members: 0 behind PORT_A, 1 behind PORT_B. -/
def memberIds (s : State) : List Nat :=
  match redKind s with
  | 1 => [0]
  | 2 => [0, 1]
  | _ => []

/-- The twin port of a member. -/
def memberPort (s : State) (k : Nat) : Nat := if k = 0 then rd s F.devRedCfg_PORT_A 0 else rd s F.devRedCfg_PORT_B 0

/-- What is kept of a member. -/
def mem (s : State) (k : Nat) : Member := mget Member.reset s.red.mems k

/-- The twin logic is changed. -/
def modRed (s : State) (f : Red → Red) : State := { s with red := f s.red }

/-- What is kept of a member is changed. -/
def modMem (s : State) (k : Nat) (f : Member → Member) : State :=
  modRed s (fun r => { r with mems := mset Member.reset r.mems k (f (mem s k)) })

/-- A record waits for a member whose twin link is UP (state 4). -/
def twinPut (s : State) (k : Nat) (r : List Byte) : State :=
  if rd s F.lkStat_STATE (memberPort s k) = 4 then modMem s k (fun m => { m with out := m.out ++ [r] }) else s

/-- A record for every other member. -/
def twinAll (s : State) (r : List Byte) : State := (memberIds s).foldl (fun t k => twinPut t k r) s

/-- This member drives a twin or triad. -/
def isDriver (s : State) : Bool := decide (redKind s ≠ 0) && s.red.drives

/-- The driver tells the followers. -/
def twinTell (s : State) (r : List Byte) : State := if isDriver s then twinAll s r else s

/-- CKPT. -/
def recCkpt (c : Ckpt) : List Byte := [1] ++ leBytes 1 c.axis ++ leBytes 2 c.j ++ leBytes 4 c.crc

/-- CUR. -/
def recCur (n : Nat) (d : TwinDue) : List Byte :=
  [2] ++ leBytes 1 n ++ leBytes 2 d.j ++ leBytes 1 d.outcome ++ leBytes 1 d.range ++ [0, 0] ++ leBytes 4 (tc 32 d.ia)
    ++ leBytes 4 (tc 32 d.ib)

/-- PAIR. -/
def recPair (n : Nat) (usable coast : Bool) (t s1 c3 : Int) : List Byte :=
  [3] ++ leBytes 1 n ++ leBytes 1 (b2n usable + 2 * b2n coast) ++ [0] ++ leBytes 4 (tc 32 t) ++ leBytes 4 (tc 32 s1)
    ++ leBytes 4 (tc 32 c3)

/-- CTRL. -/
def recCtrl (axis j addr val : Nat) : List Byte :=
  [4] ++ leBytes 1 axis ++ leBytes 2 j ++ leBytes 4 (addr % 2 ^ 26) ++ leBytes 8 val

/-- INPUT. -/
def recInput (n j kind : Nat) (bs : List Byte) : List Byte :=
  let pad := (8 - bs.length % 8) % 8
  [5] ++ leBytes 1 n ++ leBytes 2 j ++ leBytes 1 (bs.length / 2) ++ leBytes 1 kind ++ [0, 0] ++ bs ++ List.replicate pad 0

/-- RELEASE. -/
def recRelease (reason : Nat) : List Byte := [6] ++ leBytes 1 reason ++ [0, 0, 0, 0, 0, 0]

/-- SNAP. -/
def recSnap (n j off : Nat) (ws : List Int) : List Byte :=
  [7] ++ leBytes 1 n ++ leBytes 2 j ++ leBytes 2 off ++ leBytes 1 ws.length ++ List.replicate 9 0
    ++ ws.flatMap (fun w => leBytes 8 (tc 64 w))

/-- Length of the record at the front of a string of records. -/
def recLen (bs : List Byte) : Nat :=
  match fieldB bs 0 1 with
  | 1 => 8
  | 2 => 16
  | 3 => 16
  | 4 => 16
  | 5 => 8 + (2 * fieldB bs 4 1 + 7) / 8 * 8
  | 6 => 8
  | 7 => 16 + 8 * fieldB bs 6 1
  | 8 => 8
  | _ => 0

/-- An object of axis `n` as it stands, told at load point `j`; wider objects take consecutive records. -/
def tellObj (s : State) (n j : Nat) (o : ObjId) (i : Nat) : State :=
  let v := getObj s o i
  (List.range ((objRow o).bits / 64 + b2n (decide ((objRow o).bits % 64 ≠ 0)))).foldl
    (fun t k => twinTell t (recCtrl n j (objKey o i) (v / 2 ^ (64 * k) % 2 ^ 64))) s

/-- What an evaluation came to waits for its load point (R341). -/
def noteDue (s : State) (n : Nat) (d : TwinDue) : State :=
  if isDriver s then modRed s (fun r => { r with due := mins r.due n d }) else s

end Sys2Proof.Machine
end

