-- ==== Sys2Proof/Machine/Filter.lean ====
section
/-!
DEFINITION. The filter engine (spec/05_filter_chain.md, R116 to R136), the measurement pair, the square checks and the
ranging requests it raises (R91 to R105).
-/

namespace Sys2Proof.Machine

/-! ## Tags (R6, R120) -/

def tRange (t : Nat) : Nat := t % 4
def tClamp (t : Nat) : Bool := bit t 3
def tSettle (t : Nat) : Bool := bit t 4
def tForeign (t : Nat) : Bool := bit t 5 || bit t 6
def tNonMain (t : Nat) : Bool := bit t 6
def tValid (t : Nat) : Bool := bit t 7

/-- Bits 3 to 6 of a tag, those an output takes as the OR over its inputs. -/
def tOr (t : Nat) : Nat := t &&& 0x78

/-- A tag from its parts. -/
def mkTag (range : Nat) (neg : Bool) (ors : Nat) (sat valid : Bool) : Nat :=
  range + 4 * b2n neg + (ors ||| (if sat then 8 else 0)) + 128 * b2n valid

/-- A sample on the common scale: fine LSB for resolver and current samples, codes for auxiliary ones (R118). -/
def fine (aux : Bool) (x : Smp) : Int := if aux then x.x else x.x * 2 ^ (3 - tRange x.tag)

/-! ## One stage (R119 to R129) -/

/-- What a stage is told beside its input: whether the plateau strobe is its half-period's N-th, whether a load point
selects the strobe (`none` without an active timer), whether the strobe serves a phase point and ends a half-period's
points, and the polarity of the half-period. -/
structure StageCtx where
  aux : Bool
  last : Bool
  sel : Option Bool
  point : Option Nat
  neg : Bool
  deriving DecidableEq, Repr

/-- An output of a stage: the word with its tag, whether the response counts it as valid, whether it saturated. -/
structure Emit where
  y : Smp
  ok : Bool
  sat : Bool
  deriving DecidableEq, Repr

/-- The output of a stage from its accumulator (R119, R120): `ins` are the contributing inputs, newest first. -/
def emit (aux : Bool) (shift : Nat) (acc : Int) (ins : List Smp) (newest : Smp) (neg ok : Bool) (ref : Int) : Emit :=
  let k := tRange newest.tag
  let z := if aux then acc else rshr acc (3 - k)
  let v := rshr z shift
  let y := sat16 v
  let sat := decide (y ≠ v)
  ⟨⟨y, mkTag k neg (ins.foldl (fun a x => a ||| tOr x.tag) 0) sat ok, ref⟩, ok, sat⟩

/-- The validity rule of R120 for a response without a rule of its own. -/
def allGood (ins : List Smp) : Bool := ins.all (fun x => tValid x.tag && !tSettle x.tag)

/-- The polarity a response other than an averager or a correlator takes: that of its newest input. -/
def tNeg (t : Nat) : Bool := bit t 2

/-- recip[m] = round(65536 / m) (R124). -/
def recip (m : Nat) : Int := if m = 0 then 0 else ((2 * 65536 + m) / (2 * m) : Nat)

/-- N of a plateau averager response (R121). -/
def avgN (r : Nat) : Nat := match r with
  | 0 => 4 | 1 => 8 | 2 => 12 | 3 => 16 | 4 => 24 | 5 => 32 | 6 => 48 | 7 => 64 | _ => 0

/-- K of a sine correlator response (R121). -/
def corK (r : Nat) : Nat := match r with
  | 8 => 8 | 9 => 12 | 10 => 16 | 11 => 24 | 12 => 32 | 13 => 48 | 14 => 64 | 15 => 128 | _ => 0

/-- L of a CIC response (R121). -/
def cicL (r : Nat) : Nat := match r with
  | 24 => 2400 | 25 => 480 | 26 => 120 | 27 => 24 | _ => 1

/-- Sum of a list. -/
def sumI (xs : List Int) : Int := xs.foldl (· + ·) 0

/-- A weighted sum, weights 1, 2, …, m, …, 2, 1 over 2m − 1 values. -/
def triSum (m : Nat) : Nat → List Int → Int
  | _, [] => 0
  | i, x :: xs => x * (if i < m then i + 1 else 2 * m - 1 - i : Nat) + triSum m (i + 1) xs

/-- The output of a plateau averager over the kept samples of its half-period (R124). Its `ref` carries how many were
kept. -/
def avgEmit (shift n : Nat) (neg : Bool) (st : Stage) (x : Smp) : Stage × Emit :=
  let m := st.win.length
  let acc := asr (sumI (st.win.map (fine false)) * recip m + 32768) 16
  let newest := st.win.headD x
  let ok := decide (n ≤ 2 * m) && st.win.all (fun w => !tSettle w.tag)
  ({ st with win := [], cnt := 0 }, emit false shift acc st.win newest neg ok m)

/-- A plateau averager takes a plateau strobe (R124). -/
def avgStep (n shift : Nat) (ctx : StageCtx) (st : Stage) (x : Smp) : Stage × Option Emit :=
  let keep := tValid x.tag && !tClamp x.tag
  let st1 := { st with win := if keep then x :: st.win else st.win, cnt := st.cnt + 1 }
  if ctx.last then
    let r := avgEmit shift n ctx.neg st1 x
    (r.1, some r.2)
  else (st1, none)

/-- A sine correlator takes the strobe of a phase point; it emits with the last point of a half-period (R125). -/
def corStep (k shift : Nat) (ctx : StageCtx) (st : Stage) (x : Smp) : Stage × Option Emit :=
  match ctx.point with
  | none => (st, none)
  | some j =>
    let win := (x :: st.win).take k
    let st1 := { st with win := win, cnt := st.cnt + 1 }
    if (j + 1) % (k / 2) = 0 then
      let s := sumI (win.map (fun w => asr (fine false w * w.ref) 15))
      let acc := asr (s * ((2 * 131072 + k) / (2 * k) : Nat) + 32768) 16
      let ok := decide (win.length = k) && allGood win && win.all (fun w => !tClamp w.tag && tRange w.tag == tRange x.tag)
      (st1, some (emit false shift acc win x ctx.neg ok 0))
    else (st1, none)

/-- Whether a current decimator emits on this strobe: the strobe a load point selects, or every `m`-th since the last
history clear without an active timer (R126). -/
def curSel (m : Nat) (ctx : StageCtx) (cnt : Nat) : Bool :=
  match ctx.sel with
  | some b => b
  | none => cnt % m == 0

/-- A current decimator: `len` strobes in its window, `tri` for triangular weights, sum shifted right by `sh` (R126). -/
def curStep (m len sh : Nat) (tri : Bool) (shift : Nat) (ctx : StageCtx) (st : Stage) (x : Smp) : Stage × Option Emit :=
  let win := (x :: st.win).take len
  let st1 := { st with win := win, cnt := st.cnt + 1 }
  if curSel m ctx st1.cnt then
    let vs := win.map (fine false)
    let acc := asr (if tri then triSum m 0 vs else sumI vs) sh
    let ok := decide (win.length = len) && allGood win && win.all (fun w => !tNonMain w.tag)
    (st1, some (emit false shift acc win x (tNeg x.tag) ok 0))
  else (st1, none)

/-- The mean a CIC response forms, free within its gain error of 0.01 % (R121, R127). -/
def cicMean (l : Nat) (sum : Int) : Int :=
  let m := (2 * sum + ((l * l : Nat) : Int)) / ((2 * (l * l) : Nat) : Int)
  m + clampS (-((m.natAbs / 10000 + 1 : Nat) : Int)) (m.natAbs / 10000 + 1 : Nat) (Config.cicError l sum)

/-- Tag of a running CIC block: OR of R120, with bit 8 set by an input that is not valid or settling. -/
def cicTag (a t : Nat) : Nat := a ||| tOr t ||| (if tValid t && !tSettle t then 0 else 256)

/-- A CIC response (R127). The window holds three sums in place of 2L − 1 inputs: of the running block, the rising
weighted sum and the plain sum with its tag; the tag of all but the block's first input; and of the block before, the
falling weighted sum with its tag (`ref` 1 once there is one). -/
def cicStep (l shift : Nat) (st : Stage) (x : Smp) : Stage × Option Emit :=
  let a := st.win.getD 0 Smp.zero
  let b := st.win.getD 1 Smp.zero
  let p := st.win.getD 2 Smp.zero
  let i := st.cnt
  let w : Int := a.x + a.ref + x.x
  let plain : Int := a.ref + x.x
  let tag := cicTag a.tag x.tag
  let tagB := if i = 0 then 0 else cicTag b.tag x.tag
  if i + 1 = l then
    let sum := w + p.x
    let ors := tag ||| p.tag
    let ok := decide (p.ref = 1) && decide (ors < 256)
    let y := emit true shift (cicMean l sum) [⟨0, ors, 0⟩] x (tNeg x.tag) ok 0
    ({ st with win := [Smp.zero, Smp.zero, ⟨plain * (l : Int) - w, tagB, 1⟩], cnt := 0 }, some y)
  else ({ st with win := [⟨w, tag, plain⟩, ⟨0, tagB, 0⟩, p], cnt := i + 1 }, none)

/-- A DC-blocking stage (R128): `frozen` where the chain holds its DC blocks after a switch. DESIGN CHOICE (log 91): a preset that
is due wins over the freeze. -/
def dcStep (aux frozen : Bool) (param shift : Nat) (st : Stage) (x : Smp) : Stage × Option Emit :=
  let v := fine aux x
  let xs := v * 65536
  let preset := decide (st.dcInit = 1) || (decide (st.dcInit = 2) && tValid x.tag)
  let hold := bit param 5 || tSettle x.tag || frozen
  let m := if preset then xs else if hold then st.dc else st.dc + asr (xs - st.dc) (param % 32)
  let acc := v - rshr m 16
  ({ st with dc := m, dcInit := if preset then 0 else st.dcInit, held := tSettle x.tag },
    some (emit aux shift acc [x] x (tNeg x.tag) (allGood [x]) x.ref))

/-- A single-cycle-settling block average (R129). -/
def blockStep (aux : Bool) (m shift : Nat) (st : Stage) (x : Smp) : Stage × Option Emit :=
  if tValid x.tag && !tSettle x.tag then
    let win := x :: st.win
    if m ≤ win.length then
      let acc := asr (sumI (win.map (fine aux)) * recip m + 32768) 16
      ({ st with win := [] }, some (emit aux shift acc win x (tNeg x.tag) true 0))
    else ({ st with win := win }, none)
  else ({ st with win := [] }, none)

/-- The identity response. -/
def idStep (aux : Bool) (shift : Nat) (st : Stage) (x : Smp) : Stage × Option Emit :=
  (st, some (emit aux shift (fine aux x) [x] x (tNeg x.tag) (allGood [x]) x.ref))

/-- One stage acts on one input (R121). -/
def stageStep (frozen : Bool) (resp shift param : Nat) (ctx : StageCtx) (st : Stage) (x : Smp) : Stage × Option Emit :=
  if resp ≤ 7 then avgStep (avgN resp) shift ctx st x
  else if resp ≤ 15 then corStep (corK resp) shift ctx st x
  else if resp = 16 then curStep 1 1 0 false shift ctx st x
  else if resp ≤ 20 then curStep (2 ^ (resp - 16)) (2 ^ (resp - 16)) (resp - 16) false shift ctx st x
  else if resp ≤ 23 then
    curStep (2 ^ (resp - 20)) (2 * 2 ^ (resp - 20) - 1) (2 * (resp - 20)) true shift ctx st x
  else if resp ≤ 27 then cicStep (cicL resp) shift st x
  else if resp = 28 then dcStep ctx.aux frozen param shift st x
  else if resp = 31 then blockStep ctx.aux (max 1 param) shift st x
  else idStep ctx.aux shift st x

/-! ## One chain (R116, R130) -/

/-- Stage `i` of a chain. -/
def stageAt (c : Chain) (i : Nat) : Stage := if i = 0 then c.s1 else if i = 1 then c.s2 else c.s3

/-- The chain with stage `i` replaced. -/
def setStage (c : Chain) (i : Nat) (x : Stage) : Chain :=
  if i = 0 then { c with s1 := x } else if i = 1 then { c with s2 := x } else { c with s3 := x }

/-- A chain at work: its history, the output so far, outputs that saturated, and what the averager was fed. -/
structure ChainRun where
  c : Chain
  out : Option Emit
  sats : Nat
  fed : Option Smp
  deriving DecidableEq, Repr

/-- Stage `i` takes what the stage before it emitted; nothing where that did not emit (R116). -/
def passStage (cfg : Nat) (ctx : StageCtx) (i : Nat) (r : ChainRun) : ChainRun :=
  match r.out with
  | none => r
  | some e =>
    let q := stageStep r.c.frozen (stResp cfg i) (stShift cfg i) (stParam cfg i) ctx (stageAt r.c i) e.y
    { c := setStage r.c i q.1, out := q.2,
      sats := r.sats + (match q.2 with | some f => b2n f.sat | none => 0),
      fed := if stResp cfg i ≤ 7 then some e.y else r.fed }

/-- The final output carries the chain's settling; its first valid one ends it and releases the DC blocks (R130,
R131). -/
def finishChain (r : ChainRun) : ChainRun :=
  match r.out with
  | none => r
  | some e =>
    if !r.c.settling then r
    else if e.ok then { r with c := { r.c with settling := false, frozen := false } }
    else { r with out := some { e with y := { e.y with tag := (e.y.tag ||| 16) % 128 } } }

/-- A chain acts on one sample. -/
def chainStep (cfg : Nat) (ctx : StageCtx) (c : Chain) (x : Smp) : ChainRun :=
  finishChain (passStage cfg ctx 2 (passStage cfg ctx 1 (passStage cfg ctx 0 ⟨c, some ⟨x, true, false⟩, 0, none⟩)))

/-- Place of the plateau averager in a chain. -/
def avgPlace (cfg : Nat) : Nat := if stResp cfg 0 ≤ 7 then 0 else if stResp cfg 1 ≤ 7 then 1 else 2

/-- A half-period closed before its N-th plateau strobe was read: the averager emits over the samples it holds (R124). -/
def chainFlush (cfg : Nat) (ctx : StageCtx) (c : Chain) (x : Smp) : ChainRun :=
  let i := avgPlace cfg
  let q := avgEmit (stShift cfg i) (avgN (stResp cfg i)) ctx.neg (stageAt c i) x
  let r : ChainRun := ⟨setStage c i q.1, some q.2, b2n q.2.sat, none⟩
  let r1 := if i < 1 then passStage cfg ctx 1 r else r
  finishChain (if i < 2 then passStage cfg ctx 2 r1 else r1)

/-- Sum of the shifts of a chain: the output's value is y × 2^(SHIFT − k) range-0 LSB (R119). -/
def sumShift (cfg : Nat) : Nat := stShift cfg 0 + stShift cfg 1 + stShift cfg 2

/-! ## Auxiliary channels (R113, R127 to R130) -/

/-- A chain that is marked is cleared at its first strobe on the new grid (R132, R136). -/
def clearDue (s : State) (c : Chain) (st : Strobe) : Bool := c.clearNext && decide (s.ctl.clearFrom ≤ st.at_)

/-- The slot of an auxiliary channel is read. -/
def auxRead (s : State) (k : Nat) (x : Int) (tag : Nat) (st : Strobe) : State :=
  let a := auxCh s k
  let c := if clearDue s a.chain st then clearChain a.chain else a.chain
  let r := chainStep a.cfg ⟨true, false, none, none, false⟩ c ⟨x, tag, 0⟩
  let s1 := setAux s k { a with chain := r.c, out := match r.out with | some e => e.y | none => a.out }
  if r.sats = 0 then s1 else stickMask s1 F.devFltStat_AUX_SAT 0 (2 ^ k)

/-! ## Resolver channels -/

/-- Context of a strobe in a resolver chain. -/
def resCtx (st : Strobe) : StageCtx := ⟨false, st.last, none, st.point, st.neg⟩

/-- Whether a strobe enters the chain in force: one taken since the last switch; in square mode with an averager only
plateau strobes (R124, R131). -/
def enters (s : State) (n : Nat) (st : Strobe) : Bool :=
  decide ((ax s n).exc.swAt ≤ st.at_)
    && (inSine s n || decide (plateauN (ax s n).flt.cfgSq = 0) || decide (st.cls = .plateau))

/-- The resolver configuration in force. -/
def resCfg (s : State) (n : Nat) : Nat := if inSine s n then (ax s n).flt.cfgSn else (ax s n).flt.cfgSq

/-- The chain in use of SIN or COS is replaced. -/
def setResChain (s : State) (n : Nat) (cos : Bool) (c : Chain) : State :=
  let sine := inSine s n
  modFlt s n (fun f =>
    if sine then (if cos then { f with snC := c } else { f with snS := c })
    else (if cos then { f with sqC := c } else { f with sqS := c }))

/-- A marked resolver chain is cleared at its first strobe on the new grid. -/
def clearRes (s : State) (n : Nat) (cos : Bool) (st : Strobe) : State :=
  let c := if cos then chainC s n else chainS s n
  if clearDue s c st then
    let s1 := setResChain s n cos (clearChain c)
    if cos then s1
    else
      let s2 := modFe s1 n (fun f =>
        { f with
          plS := Plateau.none_, prevS := Plateau.none_, prevC := Plateau.none_, tSum := 0, tCnt := 0, allSum := 0,
          allCnt := 0, prevAt := none, prevAll := none, opS := false, opC := false, cutS := none, cutC := none })
      incSat (modExc s2 n (fun e => { e with noMeas := true })) F.axFltStat_CLEARS n
  else s

/-- Mean of `cnt` instants rounded to the nearest cycle; a mean halfway between two is free (R137). -/
def meanAt (s : State) (sum cnt : Nat) : State × Int :=
  let q := sum / cnt
  let r := 2 * (sum % cnt)
  if r < cnt then (s, q)
  else if cnt < r then (s, q + 1)
  else
    let b := drawBool s
    (b.1, if b.2 then q + 1 else q)

/-- Middle of two instants; a half cycle is free (R137). -/
def midAt (s : State) (a b : Int) : State × Int :=
  if (a + b) % 2 = 0 then (s, (a + b) / 2)
  else
    let d := drawBool s
    (d.1, (a + b) / 2 + if d.2 then 1 else 0)

/-! ## Square checks (R94 to R96) -/

/-- The amplitude check: the plateau magnitude lies between AMIN % and AMAX % of A_NOM (R94). Magnitudes are in fine
LSB. -/
def ampPass (s : State) (n : Nat) (pS pC : Int) : Bool :=
  let a := rd s F.axExcChk_A_NOM n
  let m2 := (pS * pS + pC * pC).toNat * 10000
  a == 0 || (decide ((8 * a * rd s F.axExcChk_AMIN n) ^ 2 ≤ m2) && decide (m2 ≤ (8 * a * rd s F.axExcChk_AMAX n) ^ 2))

/-- The ringing check of one channel over its last proof strobes (R94). -/
def ringPass (s : State) (n : Nat) (ring : List Int) (p : Int) : Bool :=
  let lim := rd s F.axExcCtl_RING_MAX n
  lim == 0 || ring.all (fun x => decide (absN (x - p) ≤ lim * 512))

/-- The driver of a twin or triad decides a fall-back (`sine`) or a return: it applies it at the second half-period boundary from
here, and tells every member that boundary's number (R98). -/
def decideExc (s : State) (n : Nat) (sine : Bool) : State :=
  let k := halfNo s n + 2
  twinTell (modExc s n (fun e => { e with decided := some (sine, k) }))
    (recCtrl n (ax s n).pwm.j (objKey .axExcCtl n) (b2n sine + k * 2 ^ 32))

/-- The square checks fail for the axis: with MODE = 0 the driver decides the fall-back (R95, R98). -/
def fallBack (s : State) (n : Nat) : State :=
  if rd s F.axExcCtl_MODE n ≠ 0 ∨ (ax s n).exc.fall ∨ isFollower s ∨ (ax s n).exc.decided.isSome then s
  else raise (if inTeam s then decideExc s n true else modExc s n (fun e => { e with fall := true })) 0x20 n 0

/-- The checks of one half-period; the answer says whether it passed (R94). -/
def squareCheck (s : State) (n : Nat) (pS pC : Int) : State × Bool :=
  if rd s F.axExcCtl_MODE n = 2 then (s, true)
  else
    let f := (ax s n).fe
    let amp := ampPass s n pS pC
    let ring := ringPass s n f.ringS pS && ringPass s n f.ringC pC
    let s1 := if amp then s else stick s F.axFeStat_SQ_FAIL n
    let s2 := if ring then s1 else stick s1 F.axFeStat_RING n
    if amp && ring then (modExc s2 n (fun e => { e with failCnt := 0 }), true)
    else
      let c := (ax s2 n).exc.failCnt + 1
      let s3 := modExc s2 n (fun e => { e with failCnt := c })
      (if rd s F.axExcCtl_FAIL_N n ≤ c then fallBack s3 n else s3, false)

/-! ## The measurement pair (R93, R125, R137) -/

/-- A plateau output of SIN or COS. -/
def plateauOf (y : Smp) (short : Bool) : Plateau := ⟨fine false y, tValid y.tag, tRange y.tag, y.tag, short⟩

/-- A plateau of too few kept samples is counted (R105). -/
def countShort (s : State) (n : Nat) (cfg : Nat) (y : Smp) : State :=
  if 2 * y.ref.toNat < plateauN cfg then incSat s F.axFeCnt_NV_UPD n else s

/-- Half a plateau difference in fine LSB, by an arithmetic shift, signed by the half-period (R93, R137). -/
def halfDiff (neg : Bool) (p prev : Int) : Int := let d := asr (if neg then prev - p else p - prev) 1; d

/-- Some contributing sample carried tag bit [5] or [6] (R138). -/
def taintedP (a b : Plateau) : Bool := tForeign a.tag || tForeign b.tag

/-- Centroid of the half-period's plateau strobes: of those kept and of all (R137). -/
def centroids (s : State) (n : Nat) (st : Strobe) : State × Int × Int :=
  let f := (ax s n).fe
  let a := if f.allCnt = 0 then (s, (st.at_ : Int)) else meanAt s f.allSum f.allCnt
  let b := if f.tCnt = 0 then a else meanAt a.1 f.tSum f.tCnt
  (b.1, b.2, a.2)

/-- s1 and c3 of R139: the words of a pair with the trims in force as it is formed. -/
def trimPair (s : State) (n : Nat) (sin cos : Int) : Int × Int :=
  let s1 := wrapS 32 (sin - rtrim s n 2 * 8)
  let c1 := wrapS 32 (cos - rtrim s n 4 * 8)
  let c2 := wrapS 32 (asr (c1 * rtrimRatio s n) 14)
  let qk := sinRound15 ((rtrim s n 6 * 2 ^ 32) % 2 ^ 48).toNat
  (s1, wrapS 32 (c2 + wrapS 32 (asr (s1 * qk) 15)))

/-- The plateaus of a half-period are complete: the down-range count, the checks, the measurement pair (R93, R94, R103,
R137). -/
def plateauDone (s : State) (n : Nat) (st : Strobe) (pC : Plateau) : State :=
  let f := (ax s n).fe
  let pS := f.plS
  let s0 := downRange s n false (decide (f.rPeak < 13107 ^ 2) && !pS.short && !pC.short) 8 st.at_
  let sh := 2 ^ sumShift (ax s n).flt.cfgSq
  let chk := if pS.ok && pC.ok then squareCheck s0 n (pS.p * sh) (pC.p * sh) else (s0, false)
  let c := centroids chk.1 n st
  let hp : Int := (grp s (ax s n).exc.grp).half
  let m1 := midAt c.1 c.2.1 (f.prevAt.getD (c.2.1 - hp))
  let m2 := midAt m1.1 c.2.2 (f.prevAll.getD (c.2.2 - hp))
  let ok := chk.2 && !(ax s n).exc.noMeas && f.prevS.ok && f.prevC.ok && decide (f.prevS.range = pS.range)
    && decide (f.prevC.range = pC.range)
  let q := trimPair s n (halfDiff st.neg pS.p f.prevS.p) (halfDiff st.neg pC.p f.prevC.p)
  let m : Meas := ⟨q.1, q.2, ok, taintedP pS f.prevS || taintedP pC f.prevC, m1.2, m2.2⟩
  let s1 := modFlt m2.1 n (fun x => { x with meas := some m })
  let s2 := modExc s1 n (fun e => { e with noMeas := false })
  modFe s2 n (fun f =>
    { f with
      prevS := pS, prevC := pC, plS := Plateau.none_, tSum := 0, tCnt := 0, allSum := 0, allCnt := 0,
      prevAt := some c.2.1, prevAll := some c.2.2 })

/-- A correlator pair is complete: the measurement of the half-period just ended, at the window's centre (R125, R137). -/
def corrDone (s : State) (n : Nat) (st : Strobe) (pC : Plateau) : State :=
  let pS := (ax s n).fe.plS
  let q := trimPair s n pS.p pC.p
  let m : Meas := ⟨q.1, q.2, pS.ok && pC.ok, tForeign pS.tag || tForeign pC.tag, st.edge, st.edge⟩
  modFe (modFlt s n (fun x => { x with meas := some m })) n (fun f => { f with plS := Plateau.none_ })

/-- An output of the SIN or COS chain in use. A raw chain gives no measurement (R122). -/
def resOut (s : State) (n : Nat) (cos : Bool) (st : Strobe) (y : Smp) : State :=
  let sine := inSine s n
  let cfg := resCfg s n
  let s1 := modFlt s n (fun f => if cos then { f with outC := y } else { f with outS := y })
  if sine then
    if corrK cfg = 0 then s1
    else if cos then corrDone s1 n st (plateauOf y false)
    else modFe s1 n (fun f => { f with plS := plateauOf y false })
  else if plateauN cfg = 0 then s1
  else
    let s2 := countShort s1 n cfg y
    let short := decide (2 * y.ref.toNat < plateauN cfg)
    if cos then plateauDone s2 n st (plateauOf y short)
    else modFe s2 n (fun f => { f with plS := plateauOf y short })

/-! ## Sampling bookkeeping and ranging (R94, R103, R105) -/

/-- The half-period of the strobe differs from that of the strobe before: what is collected over a half-period starts anew; in
sine mode the down-range count takes the one that has ended (R94, R103). -/
def closeHalf (s : State) (n : Nat) (st : Strobe) : State :=
  let f := (ax s n).fe
  if f.hRead = st.h then s
  else
    let s1 := if inSine s n then downRange s n false (decide (f.rPeak < 13107 ^ 2)) 8 st.at_ else s
    modFe s1 n (fun f => { f with hRead := st.h, ringS := [], ringC := [], rPeak := 0 })

/-- A proof-class strobe enters the ringing record, 4 deep (R94). -/
def noteRing (s : State) (n : Nat) (cos : Bool) (st : Strobe) (x : Smp) : State :=
  if st.cls = .proof then
    modFe s n (fun f =>
      if cos then { f with ringC := (fine false x :: f.ringC).take 4 }
      else { f with ringS := (fine false x :: f.ringS).take 4 })
  else s

/-- The strobe counts for the peak of its half-period: a plateau strobe, or any non-proof strobe in sine mode (R103). -/
def inPeak (s : State) (n : Nat) (st : Strobe) (tag : Nat) : Bool :=
  if inSine s n then !tSettle tag else decide (st.cls = .plateau)

/-- Ranging on a resolver sample (R103). Proof-class samples are ignored. -/
def resRange (s : State) (n : Nat) (cos : Bool) (st : Strobe) (x : Smp) : State :=
  if st.cls = .proof ∨ tSettle x.tag then s
  else
    let s1 := upRange s n false x.x (tClamp x.tag) st.at_
    if cos then
      if inPeak s n st x.tag then
        modFe s1 n (fun f => { f with rPeak := max f.rPeak (f.xS * f.xS + x.x * x.x).toNat })
      else s1
    else s1

/-- A plateau sample is kept or excluded: instants for the centroid, CLIP_R (R105, R137). -/
def noteKept (s : State) (n : Nat) (cos : Bool) (st : Strobe) (fed : Option Smp) : State :=
  match fed with
  | none => s
  | some x =>
    let keep := tValid x.tag && !tClamp x.tag
    let s1 := if tClamp x.tag then incSat s F.axFeCnt_CLIP_R n else s
    if cos then
      modFe s1 n (fun f =>
        { f with
          tSum := f.tSum + (if f.keptS || keep then st.at_ else 0), tCnt := f.tCnt + b2n (f.keptS || keep),
          allSum := f.allSum + st.at_, allCnt := f.allCnt + 1 })
    else modFe s1 n (fun f => { f with keptS := keep })

/-- The reference of a sample in sine mode: the excitation phase at its strobe less the lag trim (R125, R139). -/
def sineRef (s : State) (n : Nat) (st : Strobe) : Int :=
  if inSine s n then sineQ15 (((st.ph : Int) - rtrim s n 8 * 65536) % 2 ^ 32).toNat else 0

/-- The polarity of a cut half-period for which the averager of SIN or COS has still to emit (R124). -/
def cutOf (s : State) (n : Nat) (cos : Bool) : Option Bool := let f := (ax s n).fe; if cos then f.cutC else f.cutS

/-- The averager of a channel has emitted for its half-period. -/
def emitted (s : State) (n : Nat) (cos : Bool) : State :=
  modFe s n (fun f => if cos then { f with opC := false, cutC := none } else { f with opS := false, cutS := none })

/-- A cut half-period: the averager of the channel emits over the samples it holds (R124). -/
def flushCut (s : State) (n : Nat) (cos : Bool) (st : Strobe) : State :=
  match cutOf s n cos with
  | none => s
  | some neg =>
    let r := chainFlush (ax s n).flt.cfgSq ⟨false, true, none, none, neg⟩ (if cos then chainC s n else chainS s n) Smp.zero
    let s1 := emitted (addSat (setResChain s n cos r.c) F.axFltStat_SAT n r.sats) n cos
    match r.out with
    | some e => resOut s1 n cos { st with neg := neg } e.y
    | none => s1

/-- A strobe that enters the chain passes through it; what the chain emits is taken (R116, R124). -/
def feedRes (s : State) (n : Nat) (cos : Bool) (st : Strobe) (smp : Smp) : State :=
  let r := chainStep (resCfg s n) (resCtx st) (if cos then chainC s n else chainS s n) smp
  let s1 := addSat (setResChain s n cos r.c) F.axFltStat_SAT n r.sats
  let s2 := noteKept s1 n cos st r.fed
  let s3 := if st.last then emitted s2 n cos else s2
  match r.out with
  | some e => resOut s3 n cos st e.y
  | none => s3

/-- The slot of SIN or COS is read (R116). The first read after the edge that cut a half-period short closes that half-period,
after a sample of it has been taken; strobes of it that come later enter no more (R124, DEDUCED, log 92). -/
def resRead (s : State) (n : Nat) (cos : Bool) (x : Int) (tag : Nat) (st : Strobe) : State :=
  let early := decide (st.at_ < (ax s n).fe.closedAt)
  let cut := (cutOf s n cos).isSome
  let s0 := if early then s else flushCut s n cos st
  let s1 := clearRes (if cos then s0 else closeHalf s0 n st) n cos st
  let smp : Smp := ⟨x, tag, sineRef s1 n st⟩
  let s2 := resRange (noteRing s1 n cos st smp) n cos st smp
  let s3 := if cos then s2 else modFe s2 n (fun f => { f with xS := x, keptS := false })
  let s4 := if enters s3 n st && (cut || !early) then feedRes s3 n cos st smp else s3
  if early then flushCut s4 n cos st else s4

/-! ## Current channels -/

/-- Square of the current peak measure of a strobe, times 3 for templates T0 and T2 (R103). -/
def curPeak (s : State) (n : Nat) (ia ib : Int) : Nat :=
  let t := template s n
  if t = 0 ∨ t = 2 then (3 * ia * ia + (ia + 2 * ib) * (ia + 2 * ib)).toNat
  else max (absN ia) (absN ib) ^ 2

/-- The limit the peak measure is held against (R103). -/
def curLow (s : State) (n peak : Nat) : Bool :=
  let t := template s n
  if t = 0 ∨ t = 2 then decide (peak < 3 * 13107 ^ 2) else decide (peak < 13107 ^ 2)

/-- A carrier period ends on an axis with an active timer: its peak counts (R103). -/
def curPeriod (s : State) (n : Nat) : State :=
  downRange s n true (curLow s n (ax s n).fe.iPeak) (rd s F.axFeCm_I_DN_N n) (nowCyc s)

/-- Ranging on a current sample (R103). -/
def curRange (s : State) (n : Nat) (isB : Bool) (st : Strobe) (x : Smp) : State :=
  if tSettle x.tag then s
  else
    let s1 := upRange s n true x.x (tClamp x.tag) st.at_
    if isB then modFe s1 n (fun f => { f with iPeak := max f.iPeak (curPeak s n f.xA x.x) }) else s1

/-- The slot of IA or IB is read. -/
def curRead (s : State) (n : Nat) (isB : Bool) (x : Int) (tag : Nat) (st : Strobe) : State :=
  let f := (ax s n).flt
  let c0 := if isB then f.cuB else f.cuA
  let due := clearDue s c0 st
  let s0 := if due && !isB then incSat s F.axFltStat_CLEARS n else s
  let smp : Smp := ⟨x, tag, 0⟩
  let s1 := curRange s0 n isB st smp
  let s2a := if isB then s1 else modFe s1 n (fun f => { f with xA := x })
  let pick := if isB then (ax s n).loop.sel else if (ax s n).pwm.active then selLoad s n st.at_ else none
  let sel := if (ax s n).pwm.active then some pick.isSome else none
  let s2 := if isB then s2a else modLoop s2a n (fun l => { l with sel := pick })
  let r := chainStep f.cfgCu ⟨false, false, sel, none, st.neg⟩ (if due then clearChain c0 else c0) smp
  let s3 := modFlt s2 n (fun g =>
    let g1 := if isB then { g with cuB := r.c } else { g with cuA := r.c }
    match r.out with
    | none => if isB then g1 else { g1 with selA := none }
    | some e => if isB then { g1 with outB := e.y } else { g1 with outA := e.y, selA := some e.y })
  addSat s3 F.axFltStat_SAT n r.sats

/-- A chain without its decimator is raw: it gives the loop no current (R122). -/
def curRaw (cfg : Nat) : Bool :=
  let dec := fun i => decide (16 ≤ stResp cfg i ∧ stResp cfg i ≤ 23)
  !(dec 0 || dec 1 || dec 2)

/-! ## One slot (R13 to R15, R57) -/

/-- The slot's channel kind: SIN, COS, IA, IB by 0 to 3; 4 for an auxiliary channel. -/
def slotKind (slot : Nat) : Nat := if slot < 192 then slot % 4 else 4

/-- A strobe no command has recorded: a slot read with nothing in flight. -/
def noStrobe (s : State) : Strobe := ⟨nowCyc s, .none, 0, false, 0, false, none, 0, [0, 0, 0, 0]⟩

/-- Tag of a strobe for a slot. -/
def slotTagOf (st : Strobe) (slot : Nat) : Nat := st.tags.getD (if slot < 192 then slot % 4 else 0) 0

/-- No read of the slot is scheduled now: a shortened frame had no strobe for it (R117). -/
def noRead (s : State) (slot : Nat) : Bool :=
  match s.ctl.short with
  | some (a, len) =>
    decide (len ≤ slot) && decide (a + 212 + slot ≤ nowCyc s) && decide (nowCyc s < a + len + 212 + slot)
      && (mget [] s.c1 slot).isEmpty && (mget [] s.conv slot).isEmpty
  | none => false

/-- Samples are tagged not valid once the CONV clock is lost (R23). -/
def clkTag (s : State) (tag : Nat) : Nat := if s.pwr.convLost then tag % 128 else tag

/-- The result of a slot as the filter engine takes it: from C1, or a zero sample with Valid clear where it is absent
(R15). -/
def takeResult (s : State) (slot : Nat) : State × C1Ent :=
  match mget [] s.c1 slot with
  | e :: es => ({ s with c1 := mset [] s.c1 slot es }, { e with tag := clkTag s e.tag })
  | [] =>
    let s1 := addWrap s F.devConvLate_COUNT 0 1
    let s2 := { s1 with ctl := { s1.ctl with lateInFrame := s1.ctl.lateInFrame + 1 } }
    match mget [] s.conv slot with
    | st :: sts => ({ s2 with conv := mset [] s.conv slot sts }, ⟨0, slotTagOf st slot % 128, st⟩)
    | [] => (s2, ⟨0, 0, noStrobe s⟩)

/-- The slot read without its commit decision; the answer gives the sample's strobe. -/
def slotRead (s : State) (slot : Nat) : State × Strobe :=
  let r := takeResult s slot
  let e := r.2
  let n := slot / 4
  let s1 := match slotKind slot with
    | 0 => resRead r.1 n false e.x e.tag e.st
    | 1 => resRead r.1 n true e.x e.tag e.st
    | 2 => curRead r.1 n false e.x e.tag e.st
    | 3 => curRead r.1 n true e.x e.tag e.st
    | _ => auxRead r.1 (slot - 192) e.x e.tag e.st
  (s1, e.st)

end Sys2Proof.Machine
end

