-- ==== Sys2Proof/Machine/Track.lean ====
section
/-!
DEFINITION. The tracking observer, its supervision, position and prediction, and the encoder emulators
(spec/06_angle_tracking_encoder.md, R137 to R160).
-/

namespace Sys2Proof.Machine

/-! ## Gains and trigonometry (R141, R142) -/

/-- 2π times 10^25, and the divisor of R142 times 10^25: as printed, 2.4824, and √(3 + √10), which the rule says it equals
and which is a little smaller. -/
def wnNum : Nat := 62831853071795864769252867
def wnDen : Nat := 24824 * 1000000000000000000000
def wnDenRoot : Nat := 24823935345082534540108858

/-- The bandwidth in force in units of 1/(8·HALF) of the cycle rate: 10·BW Hz, at most an eighth of the update rate; as
numerator and denominator of f_bw / f_upd (R142). -/
def bwRatio (s : State) (n hp : Nat) : Nat × Nat :=
  let bw := 10 * rd s F.axTrkCtl_BW n
  if 8 * bw * hp ≤ 1500000000 then (bw * hp, 1500000000) else (1, 8)

/-- k1 in Q0.32, 2·ωn/f_upd: free between the values of the two divisors, the last bit's rounding included (R142). -/
def gain1 (s : State) (n hp : Nat) : Nat :=
  let r := bwRatio s n hp
  let lo := 2 ^ 33 * wnNum * r.1 / (wnDen * r.2)
  let hi := 2 ^ 33 * wnNum * r.1 / (wnDenRoot * r.2) + 1
  lo + Config.freeGain 1 r.1 r.2 % (hi - lo + 1)

/-- k2 in Q0.32, (ωn/f_upd)²: free between the values of the two divisors, the last bit's rounding included (R142). -/
def gain2 (s : State) (n hp : Nat) : Nat :=
  let r := bwRatio s n hp
  let lo := 2 ^ 32 * (wnNum * r.1) ^ 2 / (wnDen * r.2) ^ 2
  let hi := 2 ^ 32 * (wnNum * r.1) ^ 2 / (wnDenRoot * r.2) ^ 2 + 1
  lo + Config.freeGain 2 r.1 r.2 % (hi - lo + 1)

/-- A word within 1 LSB of 2^15 times a value with 80 fraction bits: `pick` says which of the two or three (R141). -/
def within15 (x : Int) (pick : Nat) : Int :=
  let lo := -((2 ^ 65 - x) / 2 ^ 65)
  let hi := (x + 2 ^ 65) / 2 ^ 65
  sat16 (lo + (pick % (hi - lo + 1).toNat : Nat))

/-- sin15: the sine of a 48-bit phase in Q1.15, free within 1 LSB (R141). -/
def sin15 (ph : Nat) : Int := within15 (sin80 ph) (Config.sinError ph)

/-- cos15: the cosine likewise. -/
def cos15 (ph : Nat) : Int := within15 (cos80 ph) (Config.cosError ph)

/-- A signed amount is added to (ecount, phi): whole revolutions go into ecount (R141). -/
def carry48 (ec : Int) (ph : Nat) (d : Int) : Int × Nat :=
  let t := (ph : Int) + d
  (wrapS 64 (ec + t / 2 ^ 48), (t % 2 ^ 48).toNat)

/-! ## Position (R150, R154) -/

/-- Resolver speed in force: electrical cycles per revolution. -/
def resPP (s : State) (n : Nat) : Nat := max 1 (rd s F.axTrkCtl_RES_PP n)

/-- praw of R150: position without zero and position set. -/
def prawOf (s : State) (n : Nat) (ec : Int) (ph : Nat) : Int :=
  wrapS 64 ((ec * 2 ^ 32 + (ph / 2 ^ 16 : Nat)) / (resPP s n : Int))

/-- pos of R150. -/
def posOf (s : State) (n : Nat) (praw ofs : Int) : Int := wrapS 64 (praw - (rtrimZero s n : Int) + ofs)

/-- A prediction (R154): angle in 2^-32 electrical rev, praw and position. -/
structure Pred where
  angle : Nat
  praw : Int
  pos : Int
  deriving DecidableEq, Repr

/-- The predictor evaluates the committed observer state at cycle `t` (R154). -/
def predict (s : State) (n : Nat) (t : Int) : Pred :=
  let k := (ax s n).trk
  let c := carry48 k.ecount k.phi (wrapS 64 (k.omega * (t - k.tPrev)))
  let p := prawOf s n c.1 c.2
  ⟨c.2 / 2 ^ 16, p, posOf s n p k.ofs⟩

/-! ## Clearing, acquisition and loss (R148, R149) -/

/-- The observer state is cleared and acquisition starts (R149). The position offset stays. DESIGN CHOICE (log 93): the filtered
speed and acceleration are cleared with it and a pending position set is dropped, while MOTION keeps its snapshot. -/
def obsClear (s : State) (n : Nat) : State :=
  let v := getObj s .axTrkStat n
  let v1 := setBits (setBits v 0 4 2) 16 16 0
  let s1 := setObj s .axTrkStat n v1
  let s2 := modTrk s1 n (fun k =>
    { k with
      phi := 0, ecount := 0, omega := 0, tPrev := nowCyc s, v := 0, acc := 0, ampBad := false, lock := 0, started := false,
      posReq := none, posWait := 0, run := true, travel := none })
  modFlt s2 n (fun f => { f with meas := none })

/-- The observer stops: VALID, REF and ACQUIRING are clear (R149). -/
def obsStop (s : State) (n : Nat) : State :=
  let v := getObj s .axTrkStat n
  modTrk (setObj s .axTrkStat n (setBits v 0 4 0)) n (fun k => { k with run := false, posReq := none, posWait := 0 })

/-! ## Encoder emulation (R156 to R160) -/

/-- Encoder emulator `k`. -/
def enc (s : State) (k : Nat) : Enc := mget Enc.reset s.encs k

/-- The state with emulator `k` replaced. -/
def setEnc (s : State) (k : Nat) (x : Enc) : State := { s with encs := mset Enc.reset s.encs k x }

/-- Lines per revolution. -/
def encLines (s : State) (k : Nat) : Nat := rd s F.devEncCtl_LINES_M1 k + 1

/-- Target count for frame start `t`: the predicted position at t + 200 cycles (R156). -/
def encTarget (s : State) (k : Nat) (t : Int) : Nat :=
  tc 32 ((predict s (rd s F.devEncCtl_AXIS k) (t + 200)).pos * 4 * (encLines s k : Int) / 2 ^ 32)

/-- A 32-bit count `n` counts nearer to `goal`, the short way round. -/
def countTo (n goal from_ : Nat) : Nat := tc 32 ((from_ : Int) + clampS (-(n : Int)) n (wrapS 32 ((goal : Int) - from_)))

/-- The Gray-coded counter now: one count per cycle towards E_t since it was last looked at (R156). -/
def encGray (s : State) (k : Nat) : Nat := let e := enc s k; countTo (nowCyc s - e.grayAt) e.goal e.gray

/-- The pins show E_o (R158); `zOn` lets Z show. -/
def encPins (s : State) (k : Nat) (e : Enc) (zOn : Bool) : Enc :=
  let m := e.eo % 4
  let a := decide (m = 1 ∨ m = 2)
  let b := decide (2 ≤ m)
  let inv := rdB s F.devEncCtl_INV k
  { e with
    a := if inv then b else a, b := if inv then a else b,
    z := zOn && !rdB s F.devEncCtl_Z_OFF k && decide (e.eo % (4 * encLines s k) = 0) }

/-- All three pins low. -/
def encLow (e : Enc) : Enc := { e with a := false, b := false, z := false }

/-- Flags LIVE, WAIT, HOLD_NT, OVERRUN of an emulator. -/
def encFlags (s : State) (k : Nat) (live wait hold ovr : Bool) : State :=
  wrB (wrB (wrB (wrB s F.devEncStat_LIVE k live) F.devEncStat_WAIT k wait) F.devEncStat_HOLD_NT k hold)
    F.devEncStat_OVERRUN k ovr

/-- OUT_COUNT shows E_o. -/
def encShow (s : State) (k : Nat) (e : Enc) : State := wr (setEnc s k e) F.devEncStat_OUT_COUNT k e.eo

/-- An emulator is off: its pins are low and its flags clear (R159). -/
def encStop (s : State) (k : Nat) : State := encFlags (encShow s k (encLow (enc s k))) k false false false false

/-- An emulator that follows, or stands in overrun, holds its pins at a loss of tracking, with Z low (R159). -/
def encHold (s : State) (k : Nat) : State :=
  if rdB s F.devEncStat_LIVE k || rdB s F.devEncStat_OVERRUN k then
    wr (wr (setEnc s k { enc s k with z := false }) F.devEncStat_LIVE k 0) F.devEncStat_HOLD_NT k 1
  else s

/-- Every emulator of axis `n` holds (R159). -/
def encHoldAll (s : State) (n : Nat) : State :=
  (List.range 16).foldl (fun t k => if rd t F.devEncCtl_AXIS k = n then encHold t k else t) s

/-! ## Loss of tracking (R148) -/

/-- A loss of tracking trips a driving axis whose template needs the angle (R165). -/
def lossTrips (s : State) (n : Nat) : Bool :=
  let t := template s n
  let m := axMode s n
  (isDriving m && (decide (t = 0) || decide (t = 2))) || (decide (t = 1) && decide (4 ≤ m ∧ m ≤ 6))

/-- A position set of a pair is discarded when either motor loses tracking (R177). -/
def dropPairSet (s : State) (n : Nat) : State :=
  (n :: (primaryOf s n).toList).foldl (fun t k => modLoop t k (fun l => { l with pairSet := none })) s

/-- Loss of tracking (R148). -/
def obsLoss (s : State) (n : Nat) : State :=
  let s1 := wr (wr (wr s F.axTrkStat_VALID n 0) F.axTrkStat_REF n 0) F.axTrkStat_ACQUIRING n 1
  let s2 := incSat (stick s1 F.axTrkStat_LOST n) F.axTrkCnt_LOSSES n
  let s3 := raise s2 0x31 n (getObj s2 .axTrkStat n % 2 ^ 16)
  let s4 := modTrk s3 n (fun k => { k with lock := 0, started := false, posReq := none, posWait := 0, travel := none })
  let s5 := encHoldAll (dropPairSet s4 n) n
  if lossTrips s5 n then laneTrip s5 n 6 else s5

/-! ## The pair after trims (R138, R139, R145) -/

/-- M of R138: the integer square root of s1² + c3². -/
def pairMag (m : Meas) : Int := (Nat.sqrt (m.sin * m.sin + m.cos * m.cos).toNat : Nat)

/-- The amplitude window of R145. -/
def ampWindow (s : State) (n : Nat) (m : Int) : Bool :=
  let a := rd s F.axTrkAmp_AMP_NOM n
  let m2 := 100 * m.toNat ^ 2
  a == 0 || (decide (rd s F.axTrkAmp_AMP_LO n * 64 * a ^ 2 ≤ m2) && decide (m2 ≤ rd s F.axTrkAmp_AMP_HI n * 64 * a ^ 2))

/-- A pair that passes R138's first two conditions is held against the amplitude window; the first failing one after a
passing one raises EV_TRK_AMP (R145). -/
def noteAmp (s : State) (n : Nat) (pass : Bool) : State :=
  if pass then modTrk s n (fun k => { k with ampBad := false })
  else
    let s1 := modTrk (stick s F.axTrkStat_AMP_FAIL n) n (fun k => { k with ampBad := true })
    if (ax s n).trk.ampBad then s1 else raise s1 0x30 n 0

/-- The EXC pins of the axis are neither driven nor sensed: it only ever coasts (R149). -/
def onlyCoasts (s : State) (n : Nat) : Bool := !rdB s F.axExcCtl_EN n && !senseOn s n

/-- The pair waiting for the step: the state with its flags, and the pair and M where it is usable (R138). -/
def takePair (s : State) (n : Nat) : State × Option (Meas × Int) :=
  match (ax s n).flt.meas with
  | none => (s, none)
  | some m =>
    let s1 := modFlt s n (fun f => { f with meas := none })
    let s2 := wrS (wrS s1 F.axTrkMeas_S n m.sin) F.axTrkMeas_C n m.cos
    if m.valid && !m.tainted && !onlyCoasts s n then
      let ok := ampWindow s n (pairMag m)
      let s3 := noteAmp s2 n ok
      if ok && decide (2048 ≤ pairMag m) then (s3, some (m, pairMag m)) else (s3, none)
    else (s2, none)

/-! ## One step (R141 to R153) -/

/-- Half-period of the axis's group in force. -/
def hpOf (s : State) (n : Nat) : Nat := max 1 (grp s (ax s n).exc.grp).half

/-- The prediction lines of a step (R141). -/
def obsPredict (s : State) (n : Nat) (t : Int) : State :=
  modTrk s n (fun k =>
    let c := carry48 k.ecount k.phi (wrapS 64 (k.omega * (t - k.tPrev)))
    { k with ecount := c.1, phi := c.2, tPrev := t })

/-- e15 of R141: sin(θ − φ) in Q1.15. -/
def errTerm (ph : Nat) (s1 c3 m : Int) : Int := sat16 ((s1 * cos15 ph - c3 * sin15 ph).tdiv m)

/-- The correction of a step; the answer says whether omega was clamped (R141, R143). -/
def obsCorrect (s : State) (n : Nat) (e15 : Int) : State × Bool :=
  let hp := hpOf s n
  let er := e15 * 1367130551
  let k := (ax s n).trk
  let c := carry48 k.ecount k.phi (asr ((gain1 s n hp : Nat) * er) 32)
  let w := wrapS 64 (k.omega + (asr ((gain2 s n hp : Nat) * er) 32).tdiv hp)
  let omax : Int := (2 ^ 45 / hp : Nat)
  let w1 := clampS (-omax) omax w
  let s1 := modTrk s n (fun k => { k with ecount := c.1, phi := c.2, omega := w1 })
  if w1 = w then (s1, false) else (stick s1 F.axTrkStat_OVERSPEED n, true)

/-- The first usable pair in acquisition sets the angle (R148). -/
def obsAcquire (s : State) (n : Nat) (s1 c3 : Int) : State :=
  let k := (ax s n).trk
  let d := ((atan20 s1 c3 * 2 ^ 28 : Nat) : Int) - (k.phi : Int)
  let d1 := let r := d % 2 ^ 48; if r ≤ 2 ^ 47 then r else r - 2 ^ 48
  let c := carry48 k.ecount k.phi d1
  modTrk s n (fun k => { k with ecount := c.1, phi := c.2, omega := 0, started := true, lock := 0 })

/-- The tracking-error window in Q1.15 (R146). -/
def teWindow (s : State) (n : Nat) : Int := sinRound15 (rd s F.axTrkCtl_TE_WIN n * 2 ^ 32)

/-- The window test of a usable pair at the predicted angle: in window, and whether the in-phase term was not positive
(R146, as printed). -/
def inWindow (s : State) (n ph : Nat) (s1 c3 e15 : Int) : Bool × Bool :=
  let falseLock := decide (s1 * cos15 ph + c3 * sin15 ph ≤ 0)
  (decide (absN e15 ≤ absN (teWindow s n)) && !falseLock, falseLock)

/-- A usable step's verdict: counts, stickies, lock, loss (R143, R146, R148). -/
def obsVerdict (s : State) (n : Nat) (inWin falseLock clamped : Bool) : State :=
  let good := inWin && !clamped
  if good then
    let s1 := wr s F.axTrkStat_TE_CNT n 0
    if rdB s F.axTrkStat_VALID n then s1
    else
      let l := (ax s1 n).trk.lock + 1
      let s2 := modTrk s1 n (fun k => { k with lock := l })
      if rd s F.axTrkCtl_LOCK_N n ≤ l then wr (wr s2 F.axTrkStat_VALID n 1) F.axTrkStat_ACQUIRING n 0 else s2
  else
    let s1 := stick s F.axTrkStat_TE_FAIL n
    let s2 := if falseLock then stick s1 F.axTrkStat_FALSE_LOCK n else s1
    let s3 := incSat s2 F.axTrkStat_TE_CNT n
    if rdB s F.axTrkStat_VALID n then
      (if rd s F.axTrkCtl_TE_N n ≤ rd s3 F.axTrkStat_TE_CNT n then obsLoss s3 n else s3)
    else modTrk s3 n (fun k => { k with lock := 0 })

/-- A usable step (R141, R148). -/
def obsUse (s : State) (n : Nat) (s1 c3 m : Int) : State :=
  let s2 := wr (wr s F.axTrkStat_COASTING n 0) F.axTrkStat_COAST_CNT n 0
  if rdB s F.axTrkStat_ACQUIRING n && !(ax s n).trk.started then obsAcquire s2 n s1 c3
  else
    let ph := (ax s2 n).trk.phi
    let e := errTerm ph s1 c3 m
    let w := inWindow s2 n ph s1 c3 e
    let r := obsCorrect s2 n e
    obsVerdict r.1 n w.1 w.2 r.2

/-- A coast step (R147): the limit counts only while tracking is valid. -/
def obsCoast (s : State) (n : Nat) : State :=
  let s1 := incSat (incSat (wr s F.axTrkStat_COASTING n 1) F.axTrkStat_COAST_CNT n) F.axTrkCnt_COASTS n
  let cnt := rd s F.axTrkStat_COAST_CNT n + 1
  if rdB s F.axTrkStat_VALID n && decide (rd s F.axTrkCtl_COAST n < cnt) then obsLoss s1 n else s1

/-- A pending position set applies at a step with a usable pair (R153). -/
def obsPosSet (s : State) (n : Nat) (usable : Bool) : State :=
  match (ax s n).trk.posReq with
  | none => s
  | some p =>
    if (ax s n).trk.posWait ≠ 0 then modTrk s n (fun k => { k with posWait := k.posWait - 1 })
    else if usable then
      let k := (ax s n).trk
      let ofs := wrapS 64 (sx 64 p - posOf s n (prawOf s n k.ecount k.phi) 0)
      let s1 := wr (modTrk s n (fun k => { k with ofs := ofs, posReq := none })) F.axTrkStat_REF n 1
      twinTell s1 (recCtrl n (ax s n).pwm.j (objKey .axPosSet n) p)
    else s

/-- A turn count that wraps is flagged (R150). -/
def obsWrap (s : State) (n : Nat) (old new : Int) : State :=
  let u := old + wrapS 64 (new - old)
  if decide (u < -(2 ^ 63)) || decide (2 ^ 63 ≤ u) then raise (stick s F.axTrkStat_TURN_WRAP n) 0x32 n 0 else s

/-- Speed and acceleration of a step (R151). `dt` is the time since the step before; with none, araw is free. -/
def obsMotion (s : State) (n : Nat) (coast : Bool) (dt : Int) : State :=
  let k := (ax s n).trk
  let v := if coast then k.v else sat32 ((asr (k.omega * 1500) 16).tdiv (resPP s n))
  let num := (v - k.v) * 65536 * 1500
  let r := if dt = 0 ∧ num ≠ 0 then drawWithin s (2 ^ 63) else (s, num.tdiv dt)
  let acc := sat32 (k.acc + asr (r.2 - k.acc) (rd s F.axTrkCtl_ACC_K n))
  modTrk r.1 n (fun k => { k with v := v, acc := acc })

/-- The ledger counts travel and reversals at a step (R382). -/
def obsLedger (s : State) (n : Nat) (praw v : Int) : State :=
  let s1 :=
    if rdB s F.axTrkStat_VALID n then
      let s2 := modTrk s n (fun k => { k with travel := some praw })
      match (ax s n).trk.travel with
      | some p => ledgAxis s2 F.axLedger_TRAVEL n 0 (absN (wrapS 64 (asr praw 16 - asr p 16)))
      | none => s2
    else s
  let th : Int := rd s F.axLedgCfg_REV_VTH n * 256
  let sg : Int := if th < v then 1 else if v < -th then -1 else 0
  if sg = 0 then s1
  else
    let s2 := modTrk s1 n (fun k => { k with revSign := sg })
    if (ax s n).trk.revSign = -sg then ledgAxis s2 F.axLedger_REVERSALS n 1 1 else s2

/-- The snapshot of AX.MOTION at the end of a step (R144). -/
def obsSnap (s : State) (n : Nat) : State :=
  let k := (ax s n).trk
  let praw := prawOf s n k.ecount k.phi
  let pos := posOf s n praw k.ofs
  let s2 := obsLedger s n praw k.v
  let v := k.phi / 2 ^ 16 + tc 32 k.v * 2 ^ 32 + tc 32 k.acc * 2 ^ 64 + tc 64 pos * 2 ^ 96
  setObj s2 .axMotion n v

/-- The position an axis reports, before a position set of the step. -/
def posNow (s : State) (n : Nat) : Int :=
  let k := (ax s n).trk
  posOf s n (prawOf s n k.ecount k.phi) k.ofs

/-- The observer's step: the pair, or a coast step; then position set, speed, acceleration and the snapshot. DESIGN CHOICE (log
29): where no plateau or correlator output came at all, t_m lies 200 cycles and a half-period back. -/
def obsStep (s : State) (n : Nat) : State :=
  let hp : Int := hpOf s n
  let t0 := (ax s n).trk.tPrev
  let old := posNow s n
  let coastAt : Int := match (ax s n).flt.meas with | some m => m.coastAt | none => (nowCyc s : Int) - 200 - hp
  let p := takePair s n
  let r : State × Bool × Int := match p.2 with
    | some (m, mag) => (obsUse (obsPredict p.1 n m.at_) n m.sin m.cos mag, true, m.at_)
    | none => (obsCoast (obsPredict p.1 n coastAt) n, false, coastAt)
  let told := twinTell r.1 (recPair n r.2.1 (!r.2.1) r.2.2 (rdS r.1 F.axTrkMeas_S n) (rdS r.1 F.axTrkMeas_C n))
  let s1 := obsMotion told n (!r.2.1) (r.2.2 - t0)
  let s2 := obsWrap s1 n old (posNow s1 n)
  let s4 := obsSnap (obsPosSet s2 n r.2.1) n
  modLoop s4 n (fun l => { l with steps := l.steps + 1 })

/-- The observer runs: not in TEST, LATCH or DISABLED (R149). -/
def obsRuns (s : State) (n : Nat) : Bool :=
  (ax s n).trk.run && decide (mode s ≠ mTest) && decide (mode s ≠ mLatch) && decide (axMode s n ≠ aDisabled)

/-! ## Frame marks and edges of the encoder emulators (R156 to R160) -/

/-- Absolute backlog of an emulator for target `et`. -/
def backlog (et eo : Nat) : Int := wrapS 32 ((et : Int) - eo)

/-- BACKLOG_MAX takes the backlog of a frame mark (R160). -/
def encNote (s : State) (k et : Nat) (e : Enc) : State :=
  wr s F.devEncStat_BACKLOG_MAX k (max (rd s F.devEncStat_BACKLOG_MAX k) (min 65535 (absN (backlog et e.eo))))

/-- The emulator follows: backlog, edge interval, overrun (R157, R160). -/
def encFollow (s : State) (k et : Nat) (e : Enc) : State :=
  let b := backlog et e.eo
  let s1 := encNote s k et e
  if 65535 < absN b then raiseD (encFlags (encShow s1 k { e with et := et, z := false }) k false false false true) 0x33 k
  else
    let e1 := { e with et := et, interval := 400 / max 1 (absN b) }
    encFlags (encShow s1 k (encPins s k e1 true)) k true false false false

/-- Outputs that must be low: not enabled, or a mode where R84 says low (R159). -/
def encOff (s : State) (k : Nat) : Bool := !rdB s F.devEncCtl_EN k || !excTiming (mode s) || s.pwr.rst

/-- A frame mark of emulator `k`: the PWM side samples the Gray-coded counter, the core side computes the next target; at the
end of the start-up wait both stand at E_t (R156, R157, R159, R160). -/
def encMark (s : State) (k : Nat) : State :=
  let goal := encTarget s k (nowCyc s)
  let et := encGray s k
  let e := { enc s k with resync := false, goal := goal, gray := et, grayAt := nowCyc s, markAt := nowHalf s }
  let valid := rdB s F.axTrkStat_VALID (rd s F.devEncCtl_AXIS k)
  let ovr := rdB s F.devEncStat_OVERRUN k
  let waiting := rdB s F.devEncStat_WAIT k || !(rdB s F.devEncStat_LIVE k || rdB s F.devEncStat_HOLD_NT k || ovr)
  if encOff s k then encFlags (encShow s k (encLow e)) k false false false false
  else if waiting then
    if valid then encFollow s k goal { e with gray := goal, eo := goal - goal % 4, lastAt := none }
    else encFlags (encShow s k (encLow e)) k false true false false
  else if (enc s k).resync then
    let eo := tc 32 ((et : Int) - ((et : Int) - e.eo) % 4)
    if valid then encFollow s k et { e with eo := eo }
    else
      encFlags (encShow (encNote s k et { e with eo := eo }) k { e with eo := eo, et := et, z := false }) k false false true false
  else if ovr || !valid then
    encFlags (encShow (encNote s k et e) k { e with et := et, z := false }) k false false (!valid) ovr
  else encFollow s k et e

/-- ENC_FRAME_MARK: the emulator samples its target count and sets its edge interval (R157). -/
def execEncFrameMark (k : Fin 16) (s : State) : Out := clocked s <| done (encMark s k)

/-- The step at which the next edge would fall without SEP, and that at which it falls: one interval after the frame mark or the
last edge since then, and at least SEP after the last edge of all (R157). -/
def edgeDue (e : Enc) (sep : Nat) : Nat × Nat :=
  let ref := max e.markAt (e.lastAt.getD 0)
  (ref + e.interval, max (ref + max sep e.interval) (match e.lastAt with | some t => t + sep | none => 0))

/-- ENC_EDGE: the emulator emits the edge that is due towards its target; one that waited for SEP sets RATE (R157, R158). -/
def execEncEdge (k : Fin 16) (s : State) : Out := clocked s <|
  let e := enc s k
  let b := backlog e.et e.eo
  let due := edgeDue e (rd s F.devEncCtl_SEP k)
  if !rdB s F.devEncStat_LIVE k || decide (b = 0) || decide (nowHalf s < due.2) then done s
  else
    let eo := tc 32 ((e.eo : Int) + (if 0 < b then 1 else -1))
    let s1 := encShow s k (encPins s k { e with eo := eo, lastAt := some (nowHalf s) } true)
    done (if due.1 < due.2 then stick s1 F.devEncStat_RATE k else s1)

end Sys2Proof.Machine
end

