-- ==== Sys2Proof/Machine/Loop.lean ====
section
/-!
DEFINITION. The full evaluation of the control loops (spec/07_control_loops.md, R169 to R190): Clarke and Park, the
current loops, the PID law, the limiter, gantry pairs, gearing and the plausibility model. It is a function of the
parameters in force, the state words and the measurement; Spec.lean says when it runs and what it commits.
-/

namespace Sys2Proof.Machine

/-! ## Parameters (R171 to R190) -/

/-- min(max(x, lo), hi), as the rules write it. -/
def mm (lo hi x : Int) : Int := min (max x lo) hi

/-- Sign of a number. -/
def sgn (x : Int) : Int := if 0 < x then 1 else if x < 0 then -1 else 0

def LoopPar.c (p : LoopPar) (i : Nat) : Int := p.coef.getD i 0
def LoopPar.s (p : LoopPar) (i : Nat) : Nat := p.sh.getD i 0
def LoopPar.l (p : LoopPar) (i : Nat) : Int := p.lim.getD i 0
def LoopPar.motPP (p : LoopPar) : Int := bits p.motor 0 5
def LoopPar.commOfs (p : LoopPar) : Nat := bits p.motor 16 16
def LoopPar.leak (p : LoopPar) : Nat := bits p.motor 32 4
def LoopPar.plN (p : LoopPar) : Nat := bits p.motor 8 8
def LoopPar.vdiv (p : LoopPar) : Nat := let v := bits p.cfg 5 6; if v = 0 then 64 else v
def LoopPar.pdiv (p : LoopPar) : Nat := let v := bits p.cfg 11 6; if v = 0 then 64 else v
def LoopPar.vdMeas (p : LoopPar) : Bool := bit p.cfg 17
def LoopPar.pdMeas (p : LoopPar) : Bool := bit p.cfg 18
def LoopPar.vdfK (p : LoopPar) : Nat := bits p.cfg 19 4
def LoopPar.pdfK (p : LoopPar) : Nat := bits p.cfg 23 4
def LoopPar.aw (p : LoopPar) : Bool := bit p.cfg 28
def LoopPar.isT1 (p : LoopPar) : Bool := p.tmpl == 1

/-- The decoded VDIV of an axis (LOOP_CFG). -/
def vdivOf (s : State) (n : Nat) : Nat := let v := rd s F.axLoopCfg_VDIV n; if v = 0 then 64 else v
/-- The decoded PDIV of an axis. -/
def pdivOf (s : State) (n : Nat) : Nat := let v := rd s F.axLoopCfg_PDIV n; if v = 0 then 64 else v

/-- Role of an axis in a T2 pair: 1 primary, 2 partner. -/
def roleOf (s : State) (n : Nat) : Nat :=
  if template s n ≠ 2 then 0
  else match bindingOf s n with
    | some b => if b.kind = 1 then 1 else 2
    | none => 2

/-- The axis whose parameter words serve axis `n`: the primary of its pair, on this device (R174, R185). -/
def parAxis (s : State) (n : Nat) : Nat := if roleOf s n = 2 then (primaryOf s n).getD n else n

/-- Instance of COEF, SHIFT and LIM words of an axis. -/
def coefIx (n j : Nat) : Nat := 16 * n + j
def shiftIx (n g : Nat) : Nat := 4 * n + g
def limIx (n j : Nat) : Nat := 18 * n + j

/-- The current period of an axis in ticks (R169). -/
def curTicks (s : State) (n : Nat) : Nat :=
  let p := (ax s n).pwm
  if p.dual then p.half else 2 * p.half

/-- The parameters in force now. -/
def loopPar (s : State) (n : Nat) : LoopPar :=
  let m := parAxis s n
  { coef := (List.range 16).map (fun j => sx 32 (getObj s .axCoef (coefIx m j))),
    sh := (List.range 16).map (fun j => bits (getObj s .axShift (shiftIx m (j / 4))) (8 * (j % 4)) 5),
    lim := (List.range 18).map (fun j => sx 32 (getObj s .axLim (limIx m j))),
    cfg := getObj s .axLoopCfg m, motor := getObj s .axMotor n, ratio := rdS s F.axGear_RATIO n, tC := curTicks s m,
    tmpl := template s n, role := roleOf s n }

/-! ## The PID law (R173) -/

/-- What a caller supplies to the PID law: gains and shifts, filter shift, limits, error, derivative input and
feed-forward. -/
structure PidIn where
  kp : Int
  ki : Int
  kd : Int
  shP : Nat
  shI : Nat
  shD : Nat
  dfK : Nat
  aw : Bool
  imin : Int
  imax : Int
  umin : Int
  umax : Int
  e : Int
  dd : Int
  ff : Int
  deriving DecidableEq, Repr

/-- One evaluation of the PID law; the first after a gap is preset to its last output (R173, R183). -/
def pidStep (q : PidIn) (x : Pid) : Pid :=
  let p := sat32 (asr (q.kp * q.e) q.shP)
  let dr := sat32 (asr (q.kd * q.dd) q.shD)
  let df := if x.fresh then 0 else sat32 (x.df + asr (dr - x.df) q.dfK)
  let inc := sat32 (asr (q.ki * q.e) q.shI)
  let i0 := if x.fresh then x.u - p - q.ff
    else if q.aw && decide (0 < x.sat * inc) then x.i else sat32 (x.i + inc)
  let i := mm q.imin q.imax i0
  let u0 := sat32 (p + i + df + q.ff)
  let u := mm q.umin q.umax u0
  { x with i := i, df := df, u := u, sat := sgn (u0 - u), fresh := false }

/-- The velocity loop (R174): command and speed; `aLim` is the limiter acceleration. -/
def velStep (p : LoopPar) (vcmd speed aLim : Int) (x : Pid) : Pid :=
  let e := sat32 (vcmd - speed)
  let dd := if x.fresh then 0 else if p.vdMeas then sat32 (-(speed - x.mPrev)) else sat32 (e - x.ePrev)
  let y := pidStep
    { kp := p.c 4, ki := p.c 5, kd := p.c 6, shP := p.s 4, shI := p.s 5, shD := p.s 6, dfK := p.vdfK, aw := p.aw,
      imin := p.l 4, imax := p.l 5, umin := p.l 2, umax := p.l 3, e := e, dd := dd,
      ff := sat32 (asr (p.c 7 * aLim) (p.s 7)) } x
  { y with ePrev := e, mPrev := speed }

/-- The position loop (R175): limiter position and speed, measured position. Its histories hold x_lim and x. -/
def posStep (p : LoopPar) (xLim vLim x : Int) (y : Pid) : Pid × Int :=
  let e := sat32 (asr (wrapS 64 (xLim - x)) 8)
  let dx := wrapS 64 (x - y.mPrev)
  let dl := wrapS 64 (xLim - y.ePrev)
  let dd := if y.fresh then 0 else if p.pdMeas then sat32 (asr (-dx) 8) else sat32 (asr (wrapS 64 (dl - dx)) 8)
  let z := pidStep
    { kp := p.c 8, ki := p.c 9, kd := p.c 10, shP := p.s 8, shI := p.s 9, shD := p.s 10, dfK := p.pdfK, aw := p.aw,
      imin := p.l 8, imax := p.l 9, umin := p.l 6, umax := p.l 7, e := e, dd := dd,
      ff := sat32 (asr (p.c 11 * vLim) (p.s 11)) } y
  ({ z with ePrev := xLim, mPrev := x }, e)

/-- The skew loop (R176): output clamped to ±XUMAX. -/
def skewStep (p : LoopPar) (skew : Int) (x : Pid) : Pid :=
  let m := p.l 16
  pidStep
    { kp := p.c 12, ki := p.c 13, kd := 0, shP := p.s 12, shI := p.s 13, shD := 0, dfK := 0, aw := p.aw,
      imin := -m, imax := m, umin := -m, umax := m, e := -skew, dd := 0, ff := 0 } x

/-! ## The limiter (R180, R181) -/

/-- Speed change a limiter may make in one period: the period is `t` ticks, the acceleration `a` (R180). -/
def limDv (a : Int) (t : Nat) : Int := wrapS 32 ((a * t).tdiv (750 * 65536))

/-- The limiter's acceleration for a change of speed over one period (R180). -/
def limAcc (dv : Int) (t : Nat) : Int := wrapS 32 ((dv * 65536 * 750).tdiv t)

/-- One period of the position limiter; the answer says whether it was at a limit (R180, LOOP_STAT.LIM_ACT). -/
def limPos (vMax aMax : Int) (t : Nat) (target : Int) (st : LoopSt) : LoopSt × Bool :=
  let dist := wrapS 64 (target - st.limX)
  let dv := limDv aMax t
  let root : Int := (Nat.sqrt (asr (2 * aMax * (absN dist : Int)) 16).toNat : Nat)
  let vb := wrapS 32 (min root vMax)
  let want := sgn dist * vb - st.limV
  let vn := wrapS 32 (st.limV + mm (-dv) dv want)
  let x := wrapS 64 (st.limX + ((st.limV + vn) * t).tdiv 1500)
  let act := decide (vMax ≤ (absN vn : Int)) || decide (absN dv < absN want)
  if (absN (wrapS 64 (target - x)) : Int) ≤ (dv * t).tdiv 750 ∧ (absN vn : Int) ≤ dv then
    ({ st with limX := target, limV := 0, limA := 0 }, act)
  else ({ st with limX := x, limV := vn, limA := limAcc (vn - st.limV) t }, act)

/-- One period of the speed limiter (R181). -/
def limVel (vMax aMax : Int) (t : Nat) (target : Int) (st : LoopSt) : LoopSt × Bool :=
  let tg := mm (-vMax) vMax target
  let dv := limDv aMax t
  let vn := wrapS 32 (st.limV + mm (-dv) dv (tg - st.limV))
  ({ st with limV := vn, limA := limAcc (vn - st.limV) t },
    decide (vMax ≤ (absN vn : Int)) || decide (absN dv < absN (tg - st.limV)))

/-- A current reference moves towards its target by at most DI_MAX (R181). -/
def slew (d target x : Int) : Int := x + mm (-d) d (target - x)

/-! ## Currents and voltages (R170 to R172) -/

/-- The motor electrical angle (R170), in 2^-32 rev. -/
def motorAngle (p : LoopPar) (praw : Int) : Nat := tc 32 (praw * p.motPP + (p.commOfs * 65536 : Nat))

/-- id and iq of a T0 motor (R170); T1 takes i := IA. -/
def dqOf (p : LoopPar) (m : EvIn) : Int × Int :=
  if p.isT1 then (m.ia, 0)
  else
    let th := motorAngle p m.praw * 2 ^ 16
    let s := sin15 th
    let c := cos15 th
    let ib := wrapS 32 (asr ((m.ia + 2 * m.ib) * 18919) 15)
    (wrapS 32 (asr (m.ia * c + ib * s) 15), wrapS 32 (asr (ib * c - m.ia * s) 15))

/-- One PI of the current loop: integrator and output before the limits (R171, R183). -/
def curPi (p : LoopPar) (fresh : Bool) (uPrev ref meas ff i sat : Int) : Int × Int :=
  let e := sat32 (ref - meas)
  let pr := sat32 (asr (p.c 0 * e) (p.s 0))
  let inc := sat32 (asr (p.c 1 * e) (p.s 1))
  let i0 := if fresh then uPrev - pr - ff else if p.aw && decide (0 < sat * inc) then i else sat32 (i + inc)
  let i1 := mm (-(p.l 1)) (p.l 1) i0
  (i1, sat32 (pr + i1 + ff))

/-- The voltage circle: v_d first, v_q within what is left (R171). -/
def circle (cumax vd vq : Int) : Int × Int :=
  let d := mm (-cumax) cumax vd
  let q : Int := (Nat.sqrt (cumax * cumax - d * d).toNat : Nat)
  (d, mm (-q) q vq)

/-- Pre-floor duty values of the half-bridges (R171, R172). -/
def preDuty (p : LoopPar) (praw vd vq : Int) : Int × Int × Int :=
  if p.isT1 then (2 ^ 30 + asr vd 1, 2 ^ 30 - asr vd 1, 0)
  else
    let th := motorAngle p praw * 2 ^ 16
    let s := sin15 th
    let c := cos15 th
    let va := wrapS 32 (asr (vd * c - vq * s) 15)
    let vb := wrapS 32 (asr (vd * s + vq * c) 15)
    let w3 := wrapS 32 (asr (vb * 56756) 15)
    let u := va
    let v := wrapS 32 (asr (-va + w3) 1)
    let w := wrapS 32 (asr (-va - w3) 1)
    let mid := asr (max u (max v w) + min u (min v w)) 1
    (2 ^ 30 + u - mid, 2 ^ 30 + v - mid, 2 ^ 30 + w - mid)

/-- The duty word of a pre-floor value (R171). -/
def dutyOf (w : Int) : Nat := (mm 0 65535 (asr w 15)).toNat

/-! ## The evaluation (R169) -/

/-- What a full evaluation yields: pre-floor values, duty words, state words, flags of LOOP_STAT, the skew, and whether
the velocity and position loops ran. -/
structure EvOut where
  w : Int × Int × Int
  du : Nat
  dv : Nat
  dw : Nat
  st : LoopSt
  uSat : Bool
  limAct : Bool
  skew : Int
  ranVel : Bool
  ranPos : Bool
  deriving DecidableEq, Repr

/-- Whether the mode runs a velocity loop: VELOCITY, POSITION, GEAR, and not held. -/
def EvKind.outer (k : EvKind) : Bool := decide (4 ≤ k.mode ∧ k.mode ≤ 6) && !k.held

/-- The mode runs a position limiter: POSITION and GEAR outside a stop. -/
def EvKind.posMode (k : EvKind) : Bool := decide (5 ≤ k.mode) && !k.stopping && !k.held

/-- Measured position of the loop: the axis's, or the pair mean (R176). -/
def loopX (p : LoopPar) (m : EvIn) : Int :=
  if p.role = 1 then wrapS 64 (m.pos + asr (wrapS 64 (m.xB - m.pos)) 1) else m.pos

/-- Measured speed of the loop: the axis's, or the mean of the pair. -/
def loopV (p : LoopPar) (m : EvIn) : Int := if p.role = 1 then sat32 (m.speed + asr (m.vB - m.speed) 1) else m.speed

/-- The limiter starts at the measured position and speed, which are the target too until a record falls due; GEAR
captures the master's position and the limiter's (R178, R183). -/
def limStart (p : LoopPar) (mode : Nat) (m : EvIn) (st : LoopSt) : LoopSt :=
  let x := loopX p m
  let v := mm (-(p.l 10)) (p.l 10) (loopV p m)
  { st with
    limX := x, limV := v, limA := 0, limFresh := false, tgtA := if mode = 4 then v else x, gearM0 := m.mast,
    gearG0 := x }

/-- The position limiter and loop at a position boundary (R175, R178, R180). -/
def runPos (p : LoopPar) (k : EvKind) (m : EvIn) (value : Option Nat) (st : LoopSt) : LoopSt × Bool :=
  if k.posMode && k.doPos then
    let tgt := if k.mode = 6 then wrapS 64 (st.gearG0 + asr (wrapS 64 (m.mast - st.gearM0) * p.ratio) 16)
      else match value with | some v => sx 64 v | none => st.tgtA
    let r := limPos (p.l 10) (p.l 11) (p.tC * p.vdiv * p.pdiv) tgt { st with tgtA := tgt }
    let q := posStep p r.1.limX r.1.limV (loopX p m) r.1.pos
    ({ r.1 with pos := q.1, posErr := q.2 }, r.2)
  else (st, false)

/-- The speed limiter at a velocity boundary: VELOCITY, and every stop ramp (R167, R181). -/
def runLim (p : LoopPar) (k : EvKind) (value : Option Nat) (st : LoopSt) : LoopSt × Bool :=
  if k.outer && !k.posMode && k.doVel then
    let tgt := if k.stopping then 0 else match value with | some v => sx 32 v | none => st.tgtA
    limVel (p.l 10) (if k.stopping then p.l 13 else p.l 11) (p.tC * p.vdiv) tgt { st with tgtA := tgt }
  else (st, false)

/-- The velocity loops at a velocity boundary, with the skew loop of a pair (R174, R176). -/
def runVel (p : LoopPar) (k : EvKind) (m : EvIn) (st : LoopSt) : LoopSt :=
  if k.outer && k.doVel then
    let vcmd := if k.posMode then st.pos.u else st.limV
    if p.role = 1 then
      let sk := skewStep p (sat32 (asr (wrapS 64 (m.pos - m.xB)) 8)) st.skew
      let a := velStep p (sat32 (vcmd + sk.u)) m.speed st.limA st.vel
      let b := velStep p (sat32 (vcmd - sk.u)) m.vB st.limA st.velB
      { st with skew := sk, vel := a, velB := b, iqRef := a.u, iqRefB := b.u }
    else
      let a := velStep p vcmd m.speed st.limA st.vel
      { st with vel := a, iqRef := a.u }
  else st

/-- The current references of CURRENT (R181), of a stop in CURRENT (R167), of a held axis (R166) and of the outer
loops. -/
def runRefs (p : LoopPar) (k : EvKind) (dq : Int × Int) (value : Option Nat) (st : LoopSt) : LoopSt :=
  let mq := if p.isT1 then dq.1 else dq.2
  let md := if p.isT1 then 0 else dq.1
  if k.held then { st with idRef := 0, iqRef := 0 }
  else if k.mode = 3 then
    let st0 := if st.limFresh then
        { st with idRef := md, iqRef := mq, tgtA := md, tgtB := mq, limFresh := false } else st
    let tA := if k.stopping then 0 else match value with | some v => sx 32 v | none => st0.tgtA
    let tB := if k.stopping then 0 else match value with | some v => sx 32 (v / 2 ^ 32) | none => st0.tgtB
    { st0 with tgtA := tA, tgtB := tB, idRef := slew (p.l 12) tA st0.idRef, iqRef := slew (p.l 12) tB st0.iqRef }
  else { st with idRef := 0 }

/-- Feed-forwards of R171 and R172. -/
def feedFwd (p : LoopPar) (speed id iq : Int) : Int × Int :=
  if p.isT1 then (sat32 (asr (p.c 3 * speed) (p.s 3)), 0)
  else
    let we := sat32 (speed * p.motPP)
    (sat32 (-(asr (p.c 2 * sat32 (asr (we * iq) 16)) (p.s 2))),
      sat32 (asr (p.c 2 * sat32 (asr (we * id) 16)) (p.s 2) + asr (p.c 3 * we) (p.s 3)))

/-- The current loop, or the manual voltage, and the output stage (R171, R172, R181). -/
def runCur (p : LoopPar) (k : EvKind) (m : EvIn) (dq : Int × Int) (value : Option Nat) (st : LoopSt) : LoopSt × Bool :=
  let cumax := p.l 0
  if k.mode = 2 && !k.held then
    let tA := match value with | some v => sx 32 v | none => st.tgtA
    let tB := match value with | some v => sx 32 (v / 2 ^ 32) | none => st.tgtB
    let d0 := if p.isT1 then tB else tA
    let q0 := if p.isT1 then 0 else tB
    let v := if p.isT1 then (mm (-cumax) cumax d0, 0) else circle cumax d0 q0
    ({ st with
        tgtA := tA, tgtB := tB, vD0 := d0, vQ0 := q0, vD := v.1, vQ := v.2, ffD := 0, ffQ := 0, satD := sgn (d0 - v.1),
        satQ := sgn (q0 - v.2), id := dq.1, iq := dq.2, ia := m.ia, ib := m.ib, curFresh := true },
      decide (d0 ≠ v.1) || decide (q0 ≠ v.2))
  else
    let ff := feedFwd p m.speed dq.1 dq.2
    let d := curPi p st.curFresh st.vD (if p.isT1 then st.iqRef else st.idRef) dq.1 ff.1 st.iD st.satD
    let q := if p.isT1 then (st.iQ, 0) else curPi p st.curFresh st.vQ st.iqRef dq.2 ff.2 st.iQ st.satQ
    let v := if p.isT1 then (mm (-cumax) cumax d.2, 0) else circle cumax d.2 q.2
    ({ st with
        iD := d.1, iQ := q.1, vD0 := d.2, vQ0 := q.2, vD := v.1, vQ := v.2, ffD := ff.1, ffQ := ff.2,
        satD := sgn (d.2 - v.1), satQ := sgn (q.2 - v.2), id := dq.1, iq := dq.2, ia := m.ia, ib := m.ib,
        curFresh := false },
      decide (d.2 ≠ v.1) || decide (q.2 ≠ v.2))

/-- The full evaluation: outer loops due, references, current loop, output stage. A T2 partner runs its current loop on
the references the pair task holds for it, and in CURRENT on its own way to the pair's target (R181, R183); a pair whose exchange
is missing leaves its outer loops as they are (R211). -/
def evalDq (p : LoopPar) (k : EvKind) (m : EvIn) (dq : Int × Int) (value : Option Nat) (st : LoopSt) : EvOut :=
  let runs := decide (p.role ≠ 2) && (decide (p.role ≠ 1) || k.pairOk)
  let k1 := if runs then k else { k with doVel := false, doPos := false }
  let a := runPos p k1 m value st
  let b := runLim p k1 value a.1
  let c := runVel p k1 m b.1
  let d := if p.role = 2 ∧ 4 ≤ k.mode ∧ !k.held then c else runRefs p k dq value c
  let e := runCur p k m dq value d
  let w := preDuty p m.praw e.1.vD e.1.vQ
  { w := w, du := dutyOf w.1, dv := dutyOf w.2.1, dw := if p.isT1 then 0 else dutyOf w.2.2, st := e.1, uSat := e.2,
    limAct := a.2 || b.2, skew := sat32 (asr (wrapS 64 (m.pos - m.xB)) 8), ranVel := k1.outer && k1.doVel,
    ranPos := k1.posMode && k1.doPos }

/-- The full evaluation on the measured currents. -/
def evalFull (p : LoopPar) (k : EvKind) (m : EvIn) (value : Option Nat) (st : LoopSt) : EvOut :=
  evalDq p k m (dqOf p m) value st

/-! ## Plausibility (R189, R190) -/

/-- The torque-making current of a motor: iq, or i of a T1 axis. -/
def torqueCur (p : LoopPar) (st : LoopSt) : Int := if p.isT1 then st.id else st.iq

/-- The plausibility model at a velocity boundary; the answer says whether its count has just been reached. -/
def plausible (p : LoopPar) (m : EvIn) (st : LoopSt) : LoopSt × Bool :=
  if p.c 14 = 0 then (st, false)
  else
    let r := sat32 (m.speed - st.vh)
    let acc := sat32 (asr (p.c 14 * torqueCur p st) (p.s 14) - asr (p.c 15 * st.vh) (p.s 15))
    let st1 := { st with vh := sat32 (st.vh + acc + asr r p.leak), resid := r }
    if m.coasting then (st1, false)
    else if (absN r : Int) ≤ p.l 17 then ({ st1 with plCnt := 0, plDone := false }, false)
    else
      let c := st1.plCnt + 1
      ({ st1 with plCnt := c, plDone := st1.plDone || decide (p.plN ≤ c) }, decide (p.plN ≤ c) && !st1.plDone)

/-! ## The current model (R197) -/

/-- `e` steps of the current model of one axis. -/
def curModel (km kr : Int) (shM shR : Nat) (v ff : Int) : Nat → Int → Int
  | 0, x => x
  | e + 1, x => curModel km kr shM shR v ff e (sat32 (x + asr (km * (v - ff)) shM - asr (kr * x) shR))

end Sys2Proof.Machine
end

