-- ==== Sys2Proof/Machine/Sens.lean ====
section
/-!
DEFINITION. What a precompute knows of the neighbourhood of its speculated point (spec/08_run_ahead_commit.md, R202): the full
evaluation of Loop.lean carried out on quantities with sensitivities, with every clamp and every saturation held in the state it
has there, and a guard for each boundary that a deviation could reach. The sensitivities are G, h_x and h_v; the remainder
coefficients are free values, since R202 gives no formula for them.
-/

namespace Sys2Proof.Machine

/-- A quantity at the speculated point and its sensitivities to di_d, di_q, dth and dv, scaled by 2^64. -/
structure Lin where
  v : Int
  d : Int
  q : Int
  x : Int
  s : Int
  deriving DecidableEq, Repr

/-- 2π in the scale of a sensitivity to an angle in 2^-32 rev. -/
def twoPi : Int := 26986075409

/-- A quantity that no deviation moves. -/
def Lin.fix (v : Int) : Lin := ⟨v, 0, 0, 0, 0⟩

/-- Componentwise combination of two quantities. -/
def Lin.map2 (f : Int → Int → Int) (a b : Lin) : Lin := ⟨f a.v b.v, f a.d b.d, f a.q b.q, f a.x b.x, f a.s b.s⟩

def Lin.add : Lin → Lin → Lin := Lin.map2 (· + ·)
def Lin.sub : Lin → Lin → Lin := Lin.map2 (· - ·)
def Lin.neg : Lin → Lin := Lin.sub (Lin.fix 0)

/-- (k × a) >> sh. -/
def Lin.scale (k : Int) (sh : Nat) (a : Lin) : Lin :=
  ⟨asr (k * a.v) sh, asr (k * a.d) sh, asr (k * a.q) sh, asr (k * a.x) sh, asr (k * a.s) sh⟩

/-- (a × b) >> sh. -/
def Lin.mul (sh : Nat) (a b : Lin) : Lin :=
  let f := fun (p r : Int) => asr (a.v * r + b.v * p) sh
  ⟨asr (a.v * b.v) sh, f a.d b.d, f a.q b.q, f a.x b.x, f a.s b.s⟩

/-- The quantity with another value, as a wrap to its width gives it. -/
def Lin.at (a : Lin) (v : Int) : Lin := { a with v := v }

/-- The part of a rotation by the angle: `r` is the quantity a quarter turn on, `sh` its shift. -/
def Lin.turn (a : Lin) (r : Int) (sh : Nat) : Lin := { a with x := a.x + asr (twoPi * r) sh }

/-! ## Guards -/

/-- The guards met so far. -/
abbrev Sens := StateM (List Guard)

/-- A sensitivity in 2^-16 of the unit, rounded to the nearest. -/
def unit16 (p : Int) : Int := rshr p 48

/-- A guard of a quantity with distances to its boundaries; it is active only where a deviation could reach one. -/
def guard (a : Lin) (below above : Option Nat) : Sens Unit :=
  let g : Guard := ⟨unit16 a.d, unit16 a.q, unit16 a.x, unit16 a.s, below, above⟩
  modify (fun gs => if g.d = 0 ∧ g.q = 0 ∧ g.x = 0 ∧ g.s = 0 then gs else gs ++ [g])

/-- A quantity stays on its side of 0. -/
def guardSign (a : Lin) : Sens Unit := if 0 < a.v then guard a (some a.v.toNat) none else guard a none (some (-a.v).toNat)

/-- A clamp to fixed limits, held in its state. -/
def clampL (lo hi : Int) (a : Lin) : Sens Lin := do
  if a.v < lo then
    guard a none (some (lo - a.v).toNat)
    pure (Lin.fix (mm lo hi a.v))
  else if hi < a.v then
    guard a (some (a.v - hi).toNat) none
    pure (Lin.fix (mm lo hi a.v))
  else
    guard a (some (a.v - lo).toNat) (some (hi - a.v).toNat)
    pure a

/-- Saturation to 32 bits, held in its state. -/
def satL (a : Lin) : Sens Lin := clampL (-(2 ^ 31)) (2 ^ 31 - 1) a

/-! ## The PID law and its callers (R173 to R176) -/

/-- The integrator before its clamp, with the guard of conditional integration (R171, R173). -/
def integL (fresh aw : Bool) (sat i : Int) (start inc : Lin) : Sens Lin := do
  if fresh then pure start
  else if aw && decide (sat ≠ 0) then
    guardSign (Lin.scale sat 0 inc)
    if 0 < sat * inc.v then pure (Lin.fix i) else satL (Lin.add (Lin.fix i) inc)
  else satL (Lin.add (Lin.fix i) inc)

/-- The PID law: `q` supplies gains and limits, `e`, `dd` and `ff` its inputs. -/
def pidL (q : PidIn) (e dd ff : Lin) (x : Pid) : Sens Lin := do
  let p ← satL (Lin.scale q.kp q.shP e)
  let dr ← satL (Lin.scale q.kd q.shD dd)
  let old := Lin.fix x.df
  let df ← if x.fresh then pure (Lin.fix 0) else satL (Lin.add old (Lin.scale 1 q.dfK (Lin.sub dr old)))
  let inc ← satL (Lin.scale q.ki q.shI e)
  let i0 ← integL x.fresh q.aw x.sat x.i (Lin.sub (Lin.sub (Lin.fix x.u) p) ff) inc
  let i ← clampL q.imin q.imax i0
  let u0 ← satL (Lin.add (Lin.add p i) (Lin.add df ff))
  clampL q.umin q.umax u0

/-- The velocity loop. -/
def velL (p : LoopPar) (vcmd speed : Lin) (aLim : Int) (x : Pid) : Sens Lin := do
  let e ← satL (Lin.sub vcmd speed)
  let dd ← if x.fresh then pure (Lin.fix 0)
    else if p.vdMeas then satL (Lin.sub (Lin.fix x.mPrev) speed) else satL (Lin.sub e (Lin.fix x.ePrev))
  let q : PidIn :=
    { kp := p.c 4, ki := p.c 5, kd := p.c 6, shP := p.s 4, shI := p.s 5, shD := p.s 6, dfK := p.vdfK, aw := p.aw,
      imin := p.l 4, imax := p.l 5, umin := p.l 2, umax := p.l 3, e := 0, dd := 0, ff := 0 }
  pidL q e dd (Lin.fix (sat32 (asr (p.c 7 * aLim) (p.s 7)))) x

/-- The position loop. -/
def posL (p : LoopPar) (xLim vLim : Int) (x : Lin) (y : Pid) : Sens Lin := do
  let diff := fun (a : Int) => Lin.scale 1 8 ((Lin.neg x).at (wrapS 64 a))
  let e ← satL (diff (xLim - x.v))
  let dx := wrapS 64 (x.v - y.mPrev)
  let dd ← if y.fresh then pure (Lin.fix 0)
    else if p.pdMeas then satL (Lin.scale 1 8 ((Lin.neg x).at (-dx)))
    else satL (diff (wrapS 64 (xLim - y.ePrev) - dx))
  let q : PidIn :=
    { kp := p.c 8, ki := p.c 9, kd := p.c 10, shP := p.s 8, shI := p.s 9, shD := p.s 10, dfK := p.pdfK, aw := p.aw,
      imin := p.l 8, imax := p.l 9, umin := p.l 6, umax := p.l 7, e := 0, dd := 0, ff := 0 }
  pidL q e dd (Lin.fix (sat32 (asr (p.c 11 * vLim) (p.s 11)))) y

/-- The skew loop. -/
def skewL (p : LoopPar) (skew : Lin) (x : Pid) : Sens Lin :=
  let m := p.l 16
  let q : PidIn :=
    { kp := p.c 12, ki := p.c 13, kd := 0, shP := p.s 12, shI := p.s 13, shD := 0, dfK := 0, aw := p.aw,
      imin := -m, imax := m, umin := -m, umax := m, e := 0, dd := 0, ff := 0 }
  pidL q (Lin.neg skew) (Lin.fix 0) (Lin.fix 0) x

/-! ## Measured quantities -/

/-- Pole pairs of the loop angle: MOT_PP, or RES_PP for T1 (R201). -/
def loopPP (s : State) (n : Nat) (p : LoopPar) : Int := if p.isT1 then (resPP s n : Nat) else p.motPP

/-- The measured speed. -/
def speedL (m : EvIn) : Lin := ⟨m.speed, 0, 0, 0, 2 ^ 64⟩

/-- The measured position: dth moves it by one pole pair's share. -/
def posLin (pp : Int) (m : EvIn) : Lin := ⟨m.pos, 0, 0, (2 ^ 64) / max 1 pp, 0⟩

/-- The dq currents at the speculated point, with the change that a rotation of the transform angle causes (R202). -/
def currentsL (p : LoopPar) (dq : Int × Int) : Lin × Lin :=
  if p.isT1 then (⟨dq.1, 2 ^ 64, 0, 0, 0⟩, Lin.fix 0)
  else ((⟨dq.1, 2 ^ 64, 0, 0, 0⟩ : Lin).turn dq.2 0, (⟨dq.2, 0, 2 ^ 64, 0, 0⟩ : Lin).turn (-dq.1) 0)

/-! ## Outer loops and references -/

/-- v_cmd: the position loop's output on a position boundary, else the output it holds or the limiter's speed. `st` is the state
after the limiters of this evaluation, `old` the state before. -/
def vcmdL (pp : Int) (p : LoopPar) (k : EvKind) (m : EvIn) (old st : LoopSt) : Sens Lin :=
  if k.posMode && k.doPos then
    let x := posLin pp m
    posL p st.limX st.limV (if p.role = 1 then (Lin.scale 1 1 x).at (loopX p m) else x) old.pos
  else pure (Lin.fix (if k.posMode then st.pos.u else st.limV))

/-- iq_ref: the velocity loop's output on a velocity boundary, with the skew loop of a pair; else the one held. -/
def iqRefL (pp : Int) (p : LoopPar) (k : EvKind) (m : EvIn) (old st : LoopSt) : Sens Lin := do
  if k.outer && k.doVel then
    let vcmd ← vcmdL pp p k m old st
    if p.role = 1 then
      let skew ← satL (Lin.scale 1 8 ((posLin pp m).at (wrapS 64 (m.pos - m.xB))))
      let c ← skewL p skew old.skew
      let va ← satL (Lin.add vcmd c)
      velL p va (speedL m) st.limA old.vel
    else velL p vcmd (speedL m) st.limA old.vel
  else pure (Lin.fix st.iqRef)

/-- A current reference on its way to its target (R181). -/
def slewL (d : Int) (target x : Lin) : Sens Lin := do
  let step ← clampL (-d) d (Lin.sub target x)
  pure (Lin.add x step)

/-- The references of an evaluation: (id_ref, iq_ref). `held` is what the evaluation that leaves them alone keeps. -/
def refsL (pp : Int) (p : LoopPar) (k : EvKind) (m : EvIn) (i : Lin × Lin) (value : Option Nat) (old st : LoopSt) :
    Sens (Lin × Lin) := do
  if k.held then pure (Lin.fix 0, Lin.fix 0)
  else if k.mode = 3 then
    let mq := if p.isT1 then i.1 else i.2
    let md := if p.isT1 then Lin.fix 0 else i.1
    let pick := fun (fixed : Int) (meas : Lin) (v : Option Int) =>
      if k.stopping then Lin.fix 0 else match v with
        | some x => Lin.fix x
        | none => if old.limFresh then meas else Lin.fix fixed
    let tA := pick old.tgtA md (value.map (fun v => sx 32 v))
    let tB := pick old.tgtB mq (value.map (fun v => sx 32 (v / 2 ^ 32)))
    let d ← slewL (p.l 12) tA (if old.limFresh then md else Lin.fix old.idRef)
    let q ← slewL (p.l 12) tB (if old.limFresh then mq else Lin.fix old.iqRef)
    pure (d, q)
  else
    let q ← iqRefL pp p k m old st
    pure (Lin.fix (if p.role = 2 then st.idRef else 0), q)

/-! ## Current loop and output stage (R171, R172) -/

/-- Feed-forwards. -/
def feedL (p : LoopPar) (m : EvIn) (i : Lin × Lin) : Sens (Lin × Lin) := do
  if p.isT1 then
    let f ← satL (Lin.scale (p.c 3) (p.s 3) (speedL m))
    pure (f, Lin.fix 0)
  else
    let we ← satL (Lin.scale p.motPP 0 (speedL m))
    let a ← satL (Lin.mul 16 we i.2)
    let b ← satL (Lin.mul 16 we i.1)
    let d ← satL (Lin.neg (Lin.scale (p.c 2) (p.s 2) a))
    let q ← satL (Lin.add (Lin.scale (p.c 2) (p.s 2) b) (Lin.scale (p.c 3) (p.s 3) we))
    pure (d, q)

/-- One PI of the current loop: its output before the limits. -/
def curL (p : LoopPar) (fresh : Bool) (uPrev : Int) (ref meas ff : Lin) (i sat : Int) : Sens Lin := do
  let e ← satL (Lin.sub ref meas)
  let pr ← satL (Lin.scale (p.c 0) (p.s 0) e)
  let inc ← satL (Lin.scale (p.c 1) (p.s 1) e)
  let i0 ← integL fresh p.aw sat i (Lin.sub (Lin.sub (Lin.fix uPrev) pr) ff) inc
  let i1 ← clampL (-(p.l 1)) (p.l 1) i0
  satL (Lin.add (Lin.add pr i1) ff)

/-- The voltage circle, held in its state: v_d inside or at ±CUMAX, v_q inside or on the circle. -/
def circleL (cumax : Int) (vd vq : Lin) : Sens (Lin × Lin) := do
  let d ← clampL (-cumax) cumax vd
  let m : Int := (Nat.sqrt (cumax * cumax - d.v * d.v).toNat : Nat)
  let g := fun (a : Int) => (-(d.v * a)).tdiv m
  let vqm : Lin := ⟨m, g d.d, g d.q, g d.x, g d.s⟩
  guardSign (Lin.sub vqm vq)
  guardSign (Lin.add vqm vq)
  pure (d, if m < vq.v then vqm else if vq.v < -m then Lin.neg vqm else vq)

/-- A phase stays the largest, or the smallest, of the three (R202). -/
def orderL (a b c : Lin) : Sens Unit := do
  let top := if b.v ≤ a.v ∧ c.v ≤ a.v then a else if c.v ≤ b.v then b else c
  let low := if a.v ≤ b.v ∧ a.v ≤ c.v then a else if b.v ≤ c.v then b else c
  for y in [a, b, c] do
    guardSign (Lin.sub top y)
    guardSign (Lin.sub y low)

/-- A duty stays within 0 and 65,535 (R202). -/
def dutyL (w : Lin) : Sens Lin := clampL 0 (2 ^ 31 - 1) w

/-- The three pre-floor duties. -/
def outL (p : LoopPar) (praw : Int) (vd vq : Lin) : Sens (Lin × Lin × Lin) := do
  let half := Lin.fix (2 ^ 30)
  if p.isT1 then
    let u ← dutyL (Lin.add half (Lin.scale 1 1 vd))
    let v ← dutyL (Lin.sub half (Lin.scale 1 1 vd))
    pure (u, v, Lin.fix 0)
  else
    let th := motorAngle p praw * 2 ^ 16
    let s := sin15 th
    let c := cos15 th
    let va := (Lin.sub (Lin.scale c 15 vd) (Lin.scale s 15 vq)).turn (-(vd.v * s + vq.v * c)) 15
    let vb := (Lin.add (Lin.scale s 15 vd) (Lin.scale c 15 vq)).turn (vd.v * c - vq.v * s) 15
    let w3 := Lin.scale 56756 15 vb
    let a := va
    let b := Lin.scale 1 1 (Lin.sub w3 va)
    let d := Lin.scale 1 1 (Lin.neg (Lin.add va w3))
    orderL a b d
    let top := if b.v ≤ a.v ∧ d.v ≤ a.v then a else if d.v ≤ b.v then b else d
    let low := if a.v ≤ b.v ∧ a.v ≤ d.v then a else if b.v ≤ d.v then b else d
    let mid := Lin.scale 1 1 (Lin.add top low)
    let u ← dutyL (Lin.sub (Lin.add half a) mid)
    let v ← dutyL (Lin.sub (Lin.add half b) mid)
    let w ← dutyL (Lin.sub (Lin.add half d) mid)
    pure (u, v, w)

/-- The evaluation with sensitivities: the pre-floor duties, and the guards met on the way. It takes the state after the limiters,
which no deviation moves, from the evaluation itself. -/
def evalL (pp : Int) (p : LoopPar) (k : EvKind) (m : EvIn) (dq : Int × Int) (value : Option Nat) (old : LoopSt) :
    Sens (Lin × Lin × Lin) := do
  let runs := decide (p.role ≠ 2) && (decide (p.role ≠ 1) || k.pairOk)
  let k1 := if runs then k else { k with doVel := false, doPos := false }
  let st := (runLim p k1 value (runPos p k1 m value old).1).1
  let i := currentsL p dq
  if k.mode = 2 && !k.held then
    let e := runCur p k m dq value st
    outL p m.praw (Lin.fix e.1.vD) (Lin.fix e.1.vQ)
  else
    let ref ← refsL pp p k1 m i value old st
    let ff ← feedL p m i
    if p.isT1 then
      let d ← curL p old.curFresh old.vD ref.2 i.1 ff.1 old.iD old.satD
      let u ← clampL (-(p.l 0)) (p.l 0) d
      outL p m.praw u (Lin.fix 0)
    else
      let d ← curL p old.curFresh old.vD ref.1 i.1 ff.1 old.iD old.satD
      let q ← curL p old.curFresh old.vQ ref.2 i.2 ff.2 old.iQ old.satQ
      let v ← circleL (p.l 0) d q
      outL p m.praw v.1 v.2

/-- The row of a half-bridge: int32 entries (R202). -/
def rowOf (w : Lin) : SensRow := ⟨sat32 (unit16 w.d), sat32 (unit16 w.q), sat32 (unit16 w.x), sat32 (unit16 w.s)⟩

/-! ## At the commit unit (R203, R204) -/

/-- δ of R201: di_d, di_q, dth, dv. -/
structure Dev where
  d : Int
  q : Int
  x : Int
  s : Int
  deriving DecidableEq, Repr

/-- w_x of a half-bridge for a deviation (R203). -/
def fastW (w : Int) (r : SensRow) (δ : Dev) : Int :=
  w + asr (r.gd * δ.d + r.gq * δ.q + r.hx * δ.x + r.hv * δ.s + 2 ^ 15) 16

/-- The change a guard's row gives for a deviation, rounded away from zero (R204). -/
def guardMove (g : Guard) (δ : Dev) : Int :=
  let t := g.d * δ.d + g.q * δ.q + g.x * δ.x + g.s * δ.s
  if 0 ≤ t then (t + (2 ^ 16 - 1)) / 2 ^ 16 else t / 2 ^ 16

/-- The change lies strictly between the two distances (R204 cause 4). -/
def guardHolds (δ : Dev) (g : Guard) : Bool :=
  let c := guardMove g δ
  (match g.below with | some b => decide (-(b : Int) < c) | none => true)
    && (match g.above with | some a => decide (c < a) | none => true)

/-- What the coefficients give for a deviation, ρ + q (R202, R204). R202 names the products they cover and no formula. -/
def Remainder.gives (r : Remainder) (δ : Dev) : Nat :=
  (r.cTh * absN δ.x ^ 2 + r.cW * (absN δ.s * (absN δ.d + absN δ.q)) + r.cD * (absN δ.d + absN δ.q) ^ 2) / 2 ^ 64 + r.q

end Sys2Proof.Machine
end

