-- ==== Sys2Proof/Machine/AxisMode.lean ====
section
/-!
DEFINITION. The axis mode machine (spec/07_control_loops.md, R162 to R168, R437), the bumpless presets (R183, R184) and
the gates that go with them (R226, R232, R234).
-/

namespace Sys2Proof.Machine

/-! ## Judging a request (R163, R168, R178, R317) -/

/-- Tracking of an axis is valid. -/
def tracked (s : State) (n : Nat) : Bool := rdB s F.axTrkStat_VALID n

/-- The position of an axis is referenced (R152). -/
def hasRef (s : State) (n : Nat) : Bool := rdB s F.axTrkStat_REF n

/-- The GEAR master of an axis is on this device (R178). -/
def gearLocal (s : State) (n : Nat) : Bool := decide (rd s F.axGear_M_NODE n = rd s F.devFabStat_NODE_ID 0)

/-- What a partner or master on another device last sent satisfies `f`. -/
def remoteIs (s : State) (n : Nat) (f : Remote → Bool) : Bool :=
  match (ax s n).loop.remote with
  | some r => f r
  | none => false

/-- A GEAR master may be followed: a local one tracks and passed TEST; a remote one matches the binding and its device has said the
same of it (R168, R178). -/
def gearOk (s : State) (n : Nat) : Bool :=
  let m := rd s F.axGear_M_AXIS n
  if gearLocal s n then tracked s m && !testFailed s m
  else
    match bindingOf s n with
    | some b => b.kind == 2 && b.node == rd s F.axGear_M_NODE n && b.paxis == m && remoteIs s n (fun r => r.valid && !r.failed)
    | none => false

/-- The partner or master that the binding of axis `n` names failed TEST, here or by the word of its own device (R168). -/
def depFailed (s : State) (n : Nat) : Bool :=
  match bindingOf s n with
  | none => false
  | some b =>
    if b.kind = 0 then false
    else if b.node = rd s F.devFabStat_NODE_ID 0 ∨ !rdB s F.devFabStat_ID_VALID 0 then testFailed s b.paxis
    else remoteIs s n (·.failed)

/-- Axes that a request to `n` moves: the axis, and the other motor of a T2 pair on this device (R164). -/
def pairAxes (s : State) (n : Nat) : List Nat := n :: (pairLocal s n).toList

/-- A condition on the partner of a primary that is on another device; true of every other axis. -/
def mateIs (s : State) (n : Nat) (f : Remote → Bool) : Bool :=
  decide (roleOf s n ≠ 1) || (pairLocal s n).isSome || remoteIs s n f

/-- Tracking of every motor of the pair, or of the axis. -/
def allTracked (s : State) (n : Nat) : Bool := (pairAxes s n).all (tracked s) && mateIs s n (·.valid)

/-- The latch of an axis in TRIPPED keeps it there: it is not re-armable (R163, R234). -/
def notRearmable (s : State) (n : Nat) : Bool :=
  decide (axMode s n = aTripped) && (rdB s F.axTripStat_LATCH n || tripActive s n)

/-- A request for mode `m` is granted (R163). -/
def mayEnter (s : State) (n m : Nat) : Bool :=
  let t := template s n
  let drv := isDriving m
  !(drv && decide (mode s ≠ mRun)) && (bound s n || decide (m = aDisabled)) && !(drv && decide (t = 3))
    && !(testFailed s n && decide (m ≠ aDisabled)) && !(drv && depFailed s n) && decide (roleOf s n ≠ 2)
    && !(pairAxes s n).any (notRearmable s) && !(drv && !mateIs s n (fun r => !r.tripped))
    && !(drv && s.place.unplaced.contains n)
    && !((decide (4 ≤ m ∧ m ≤ 6) || (drv && (decide (t = 0) || decide (t = 2)))) && !allTracked s n)
    && !(decide (m = 5 ∨ m = 6) && !((pairAxes s n).all (hasRef s) && mateIs s n (·.ref)))
    && !(decide (3 ≤ m ∧ m ≤ 6) && (pairAxes s n).any (fun k => curRaw (ax s k).flt.cfgCu))
    && !(decide (m = aGear) && !gearOk s n)

/-! ## Inputs of the loops (R169, R176, R178, R198) -/

/-- Data of another device, extrapolated to an instant (R176, R178). -/
def remoteAt (r : Option Remote) (t : Int) : Int × Int :=
  match r with
  | none => (0, 0)
  | some x => (wrapS 64 (x.pos + x.speed * (t - x.at_) / 1500), x.speed)

/-- Position and speed of the partner of a primary at an instant (R176). -/
def mateAt (s : State) (n : Nat) (t : Int) : Int × Int :=
  match pairLocal s n with
  | some b => ((predict s b t).pos, (ax s b).trk.v)
  | none => remoteAt (ax s n).loop.remote t

/-- Position of the GEAR master at an instant (R178). -/
def masterAt (s : State) (n : Nat) (t : Int) : Int :=
  if gearLocal s n then (predict s (rd s F.axGear_M_AXIS n) t).pos else (remoteAt (ax s n).loop.remote t).1

/-- The inputs of an evaluation of axis `n` for a strobe at `t`, from the observer state live now. -/
def evIn (s : State) (n : Nat) (t ia ib : Int) (range : Nat) : EvIn :=
  let p := predict s n t
  let b := if roleOf s n = 1 then mateAt s n t else (0, 0)
  { ia := ia, ib := ib, praw := p.praw, pos := p.pos, speed := (ax s n).trk.v, range := range, xB := b.1, vB := b.2,
    mast := if axMode s n = aGear then masterAt s n t else 0, coasting := rdB s F.axTrkStat_COASTING n }

/-! ## Bumpless presets (R183, R184, R189, R210) -/

/-- A PID loop starts with a previous output. -/
def startPid (u : Int) (x : Pid) : Pid := { x with u := u, fresh := true }

/-- The mode runs the velocity loop, or the position loop. -/
def runsVel (m : Nat) : Bool := decide (4 ≤ m ∧ m ≤ 6)
def runsPos (m : Nat) : Bool := decide (m = 5 ∨ m = 6)

/-- The limiter as axis `n` goes from mode `old` to `m`, or restarts (`all`): it starts where its loop begins to evaluate;
the references of CURRENT start at the first evaluation. Between POSITION and GEAR it runs on (R178, R183). -/
def limPreset (s : State) (n old m : Nat) (all : Bool) (st : LoopSt) : LoopSt :=
  let i := evIn s n (nowCyc s) 0 0 0
  let p := loopPar s n
  let j := { i with mast := if m = aGear then masterAt s n (nowCyc s) else 0 }
  if all || !(runsPos old && runsPos m || decide (m = old)) then
    (if runsVel m then limStart p m j st else { st with limFresh := true })
  else if m = old then st
  else if m = aGear then { st with gearM0 := j.mast, gearG0 := st.limX }
  else { st with tgtA := loopX p j }

/-- Torque current an outer loop of `n` starts from: 0 where the axis was not driving (R163, R183). -/
def startIq (s : State) (n : Nat) (zero : Bool) : Int := if zero then 0 else torqueCur (loopPar s n) (ax s n).loop.st

/-- The state words of axis `n` as it goes from mode `old` to the driving mode `m`; `brake` where its gates were braked
and `all` where every loop restarts (return from HOLD). From a mode that does not drive, every previous output is 0. A change
between two driving modes leaves vh as it is (DESIGN CHOICE, log 95). -/
def preset (s : State) (n old m : Nat) (brake all : Bool) : LoopSt :=
  let st := (ax s n).loop.st
  let idle := !isDriving old
  let trk := (ax s n).trk.v
  let v0 := idle || brake
  let u := startIq s n idle
  let uB := match pairLocal s n with | some b => startIq s b idle | none => if idle then 0 else st.iqRefB
  let a := if v0 then { st with vD := 0, vQ := 0 } else st
  let b := if v0 || all || decide (old = aManual) then { a with curFresh := true } else a
  let c := if runsVel m && (all || !runsVel old) then
      { b with vel := startPid u b.vel, velB := startPid uB b.velB, skew := startPid (if idle then 0 else b.skew.u) b.skew,
               iqRef := u, iqRefB := uB } else b
  let d := if runsPos m && (all || !runsPos old) then
      { c with pos := startPid (if decide (old = aTripped) then 0 else trk) c.pos } else c
  let e := limPreset s n old m all d
  let f := if decide (m = aManual) && (all || decide (old ≠ aManual)) then
      { e with tgtA := if (loopPar s n).isT1 then 0 else e.vD, tgtB := if (loopPar s n).isT1 then e.vD else e.vQ } else e
  if idle || all then { f with vh := trk } else f

/-- Presets that waited are taken, in order, once nothing of an evaluation is in flight (R183, R215). -/
def settlePresets (s : State) (n : Nat) : State :=
  let l := (ax s n).loop
  if l.compl.isSome || l.retry.isSome then s
  else
    l.presets.foldl (fun t p =>
      let st := preset t n p.old p.m p.brake p.all
      modLoop t n (fun k => { k with st := st, back := none })) (modLoop s n (fun k => { k with presets := [] }))

/-- The presets of a mode change are taken, and a miss run ends where the axis starts to drive (R210). They wait for the completion
of the evaluation before; at the end of a hold also for one that is precomputed, which runs in its own manner (R213, R215). -/
def applyPreset (s : State) (n old m : Nat) (brake all : Bool) : State :=
  let keep := decide (old = m) && (ax s n).loop.spec.isSome
  let s0 := modLoop s n (fun l =>
    { l with
      presets := l.presets ++ [⟨old, m, brake, all⟩], spec := if keep then l.spec else none, stopCnt := 0,
      spSeen := false })
  let s1 := if keep then s0 else settlePresets s0 n
  if isDriving old then s1
  else
    let l := rd s F.axPwmLead_L n
    let h := max 1 (curTicks s n)
    wr (modLoop s1 n (fun k => { k with decided := nowTick s + l / h * h, since := 0 })) F.axSpecStat_MISS_RUN n 0

/-! ## Taking a mode (R162, R226, R234) -/

/-- Gates of an axis that has just taken mode `m`: low until the first committed duty of a driving mode; a TRACK taken in
SAFESTOP at the end of its drive holds the safe gate state, one taken from TRIPPED is low (R167, R226, R234). -/
def modeGates (s : State) (n m : Nat) (wasDriving : Bool) : State :=
  if isDriving m then (if wasDriving then s else lowGates (modPwm s n (fun p =>
    { p with u := Phase.reset, v := Phase.reset, w := Phase.reset, box := [] })) n)
  else if m = aTripped then s
  else if wasDriving && decide (m = aTrack) && (decide (mode s = mSafestop) || decide (mode s = mLatch)) then safeGates s n
  else lowGates s n

/-- The observer follows an axis into and out of DISABLED (R149). -/
def modeTrack (s : State) (n old m : Nat) : State :=
  if decide (old = aDisabled) && decide (m ≠ aDisabled) then obsClear s n
  else if decide (old ≠ aDisabled) && decide (m = aDisabled) then obsStop s n
  else s

/-- Axis `n` takes mode `m` for a cause: presets, gates, observer; a common-mode fault of its current pairs acts once it
drives (R229). -/
def takeMode (s : State) (n m cause : Nat) : State :=
  let old := axMode s n
  let s1 := if isDriving m then applyPreset s n old m (ax s n).pwm.brake (decide (old = aTripped)) else dropEvals s n
  let s2 := modeTrack (modeGates (setMode s1 n m cause) n m (isDriving old)) n old m
  let s3 := if isDriving m then s2
    else modLoop (wr (wr s2 F.axMode_HELD n 0) F.axMode_STOPPING n 0) n (fun l => { l with gearHeld := false, stopCnt := 0 })
  if isDriving m && !isDriving old then tripCheck s3 n else s3

/-- A granted request takes effect for the axis and the other motor of its pair on this device (R164); a motor that failed TEST
stays DISABLED. A driving request to an axis held by a lost master ends that hold, restarts every loop and clears GEAR_LOST, which
nothing else clears (DESIGN CHOICE, log 94). -/
def enterMode (s : State) (n m cause : Nat) : State :=
  (pairAxes s n).foldl (fun t k =>
    if (ax t k).loop.gearHeld && isDriving m then
      let t1 := applyPreset t k (axMode t k) m (ax t k).pwm.brake true
      let t2 := modLoop t1 k (fun l => { l with gearHeld := false })
      let t3 := wr (wr t2 F.axMode_HELD k (b2n (decide (mode t = mHold)))) F.axMode_GEAR_LOST k 0
      if axMode t k = m then t3 else setMode t3 k m cause
    else if axMode t k = m ∨ (testFailed t k ∧ m ≠ aDisabled) then t
    else takeMode t k m cause) s

/-! ## HOLD and SAFESTOP (R82, R83, R166, R167, R437) -/

/-- Every axis is in its safe gate state: none is in a driving mode (R83). -/
def allSafe (s : State) : Bool := !anyAxis (driving s)

/-- DRV_EN of the groups in SAFESTOP: a group whose axes are all safe keeps it only for an axis with low-side on (R83). -/
def stopDrv (s : State) : State :=
  if mode s = mSafestop then
    wantDrv s (((List.range 4).map (fun g =>
      if (List.range 12).any (fun i => driving s (12 * g + i) ||
          (decide (rd s F.axPwmCfg_SAFE (12 * g + i) = 1) && bound s (12 * g + i) && decide (template s (12 * g + i) ≠ 3)))
        && bit s.prot.want g then 2 ^ g else 0)).sum)
  else s

/-- The stop of an axis is complete, or is ended: it takes TRACK with its safe gate state (R83, R167). -/
def stopAxis (s : State) (n cause : Nat) : State := stopDrv (takeMode s n aTrack cause)

/-- An axis and the other motor of its pair stop as one (R167). -/
def stopPair (s : State) (n cause : Nat) : State :=
  (pairAxes s n).foldl (fun t k => if driving t k then stopAxis t k cause else t) s

/-- An axis resumes from a hold: every loop restarts from what it drove last (R166, R183). A brake shows until the first duty after
it is loaded. -/
def resumeAxis (s : State) (n : Nat) : State :=
  wr (applyPreset s n (axMode s n) (axMode s n) (ax s n).pwm.brake true) F.axMode_HELD n 0

/-- The device enters HOLD: driving axes set HELD (R166). -/
def holdAxes (s : State) : State := forAxes (fun t n => if driving t n then wr t F.axMode_HELD n 1 else t) s

/-- The device returns to RUN from HOLD (R166). Axes held by a lost master or a re-placement stay held. -/
def resumeAxes (s : State) : State :=
  forAxes (fun t n =>
    if driving t n && rdB t F.axMode_HELD n && !(ax t n).loop.gearHeld && !(ax t n).loop.moveHeld then resumeAxis t n
    else t) s

/-- An axis starts its stop ramp (R167). -/
def stopStart (s : State) (n : Nat) : State :=
  if !driving s n then s
  else
    let s0 := if rdB s F.axMode_HELD n then resumeAxis s n else s
    let s1 := modLoop (wr s0 F.axMode_STOPPING n 1) n (fun l => { l with stopCnt := 0, stopMode := axMode s n })
    if axMode s n = aManual ∨ sx 32 (getObj s .axLim (limIx (parAxis s n) 13)) = 0 then stopAxis s1 n 8 else s1

/-- The device enters SAFESTOP (R83, R167). -/
def stopAxes (s : State) : State := stopDrv (forAxes stopStart s)

/-- STOP_LIMIT: every axis still stopping goes to TRACK (R83, R437). -/
def stopLimit (s : State) : State :=
  forAxes (fun t n => if driving t n && rdB t F.axMode_STOPPING n then stopAxis t n 11 else t) s

/-- The device enters LATCH: axes still in a driving mode trip (R437). -/
def latchAxes (s : State) : State :=
  forAxes (fun t n =>
    if driving t n then enterTripped t n 12
    else if rdB t F.axTripStat_LATCH n || decide (axMode t n = aTripped) then t
    else safeGates t n) s

/-! ## Run entry (R81) -/

/-- Axes that may take their start mode at t0 + DRV_SETTLE: bound to T0, T1 or T2, passed TEST, in TRACK, not latched. -/
def startable (s : State) (n : Nat) : Bool :=
  bound s n && decide (template s n ≠ 3) && !testFailed s n && decide (axMode s n = aTrack)
    && !rdB s F.axTripStat_LATCH n

/-- DRV_EN groups that rise at entry to RUN (R81). -/
def runGroups (s : State) : Nat :=
  ((List.range 4).map (fun g => b2n ((List.range 12).any (fun i =>
    let n := 12 * g + i
    bound s n && decide (template s n ≠ 3) && !testFailed s n && decide (axMode s n ≠ aTripped))) * 2 ^ g)).sum

/-- Start modes are taken (R81). A partner follows its primary. -/
def startAxes (s : State) : State :=
  forAxes (fun t n =>
    let m := rd t F.axLoopCfg_START n
    if startable t n && decide (roleOf t n ≠ 2) && mayEnter t n m then enterMode t n m 2 else t) s

end Sys2Proof.Machine
end

