-- ==== Sys2Proof/Machine/SetPoint.lean ====
section
/-!
DEFINITION. Set-point records: which of them an evaluation takes, and their removal when it commits (R29, R179, R199,
R264, R341, R405).
-/

namespace Sys2Proof.Machine

/-- Halfwords of a slot, first to last. -/
def slotWords (x : QSlot) : List Nat := (List.range (slotHw x)).map (fun i => bits x.word.toNat (16 * i) 16)

/-- Words of set-point queue `q` as a PEEK finds them, head first; none where the queue is not readable. -/
def spSlots (s : State) (q : Nat) : List QSlot :=
  let d := qd s q
  if d.resetting.isSome || decide (d.quota = 0) || (descFault d).isSome then [] else walk s.qm (qWords d) d.head d.hofs

/-- Halfwords of set-point queue `q` not yet taken. -/
def spHalfwords (s : State) (q : Nat) : List Nat :=
  ((spSlots s q).flatMap (fun x => if x.mark then [] else slotWords x)).drop (setQ s q).ofs

/-- One 16-byte record after another of a queue record that holds `n` (R405). `due` judges TIME and arrival; a record that
is not due ends the run (R179). -/
def spRecs (due : Nat → Bool) (want : Option Nat) : Nat → List Nat → SpTake → SpTake × Bool
  | 0, _, t => (t, true)
  | n + 1, hs, t =>
    let kind := hs.getD 0 0 % 256
    let time := hs.getD 2 0 + hs.getD 3 0 * 2 ^ 16
    let value := hs.getD 4 0 + hs.getD 5 0 * 2 ^ 16 + hs.getD 6 0 * 2 ^ 32 + hs.getD 7 0 * 2 ^ 48
    if due time then
      spRecs due want n (hs.drop 8)
        (if want = some kind then { t with hw := t.hw + 8, value := some value }
         else { t with hw := t.hw + 8, disc := t.disc + 1 })
    else (t, false)

/-- Queue records from the head on; one whose length is not a multiple of 16 bytes is discarded whole (R405). -/
def spQueue (due : Nat → Nat → Bool) (want : Option Nat) : List (Nat × Nat) → List Nat → SpTake → SpTake
  | [], _, t => t
  | (l, got) :: ls, hs, t =>
    if l % 8 ≠ 0 then spQueue due want ls (hs.drop l) { t with hw := t.hw + l, disc := t.disc + 1 }
    else
      let r := spRecs (due got) want (l / 8) hs t
      if r.2 then spQueue due want ls (hs.drop l) r.1 else r.1

def SpTake.none_ : SpTake := ⟨0, 0, none⟩

/-- A boundary at which the mode takes records: that of the loop that runs the limiter; none while held or stopping
(R82, R83, R179). -/
def EvKind.takes (k : EvKind) : Bool :=
  !k.held && !k.stopping && (if k.mode = 5 ∨ k.mode = 6 then k.doPos else if k.mode = 4 then k.doVel else true)

/-- The kind of record a mode uses: GEAR and a T2 partner use none (R179). -/
def wantKind (mode role : Nat) : Option Nat :=
  if role = 2 then none
  else match mode with
    | 2 => some 0
    | 3 => some 1
    | 4 => some 2
    | 5 => some 3
    | _ => none

/-- The run of due records at a period start of `ns` fabric time. In a twin or triad a record is taken by the first
evaluation whose precompute starts 4 µs after its arrival (R341). -/
def spRun (s : State) (n : Nat) (k : EvKind) (ns : Nat) : SpTake :=
  if k.takes then
    let q := qSet n
    let due := fun (got time : Nat) =>
      if rd s F.devRedCfg_KIND 0 = 0 then decide (((ns : Int) - time) % 2 ^ 32 < 2 ^ 31) else decide (got + 4000 ≤ nowNs s)
    spQueue due (wantKind k.mode (roleOf s n)) (setQ s q).lens (spHalfwords s q) SpTake.none_
  else SpTake.none_

/-- Words that `k` halfwords from the head on fill, and the halfwords taken of the word after them. A marker goes with the
records behind it. -/
def coverWords : Nat → List QSlot → Nat × Nat
  | _, [] => (0, 0)
  | k, x :: xs =>
    if k = 0 then (0, 0)
    else if x.mark then let r := coverWords k xs; (r.1 + 1, r.2)
    else if slotHw x ≤ k then let r := coverWords (k - slotHw x) xs; (r.1 + 1, r.2)
    else (0, k)

/-- The records of a committed evaluation leave the queue; SP_DISC counts those not used, and EV_SP_GAP is raised for each
marker that goes with them (R179, R199, R264). -/
def spTake (s : State) (n : Nat) (t : SpTake) : State :=
  let q := qSet n
  let o := (setQ s q).ofs
  let c := coverWords (o + t.hw) (spSlots s q)
  let r := if c.1 = 0 then (s, []) else qDiscard s q c.1
  let x := setQ r.1 q
  let s1 := if t.hw = 0 then r.1
    else putSetQ r.1 q ⟨c.2, takeLens (if c.1 = 0 then t.hw else c.2) x.lens⟩
  let s2 := addSat s1 F.axLoopStat_SP_DISC n t.disc
  r.2.foldl (fun u k => raise u 0x46 n k) s2

end Sys2Proof.Machine
end

