-- ==== Sys2Proof/Machine/Aes.lean ====
section
/-!
DEFINITION. AES-128 and its CMAC (NIST SP 800-38B), for the MAC of CTL and MGMT frames (R283).
-/

namespace Sys2Proof.Machine

/-- Rows 0 to 3 of the S-box. -/
def aesS0 : List Nat :=
  [0x63, 0x7c, 0x77, 0x7b, 0xf2, 0x6b, 0x6f, 0xc5, 0x30, 0x01, 0x67, 0x2b, 0xfe, 0xd7, 0xab, 0x76,
   0xca, 0x82, 0xc9, 0x7d, 0xfa, 0x59, 0x47, 0xf0, 0xad, 0xd4, 0xa2, 0xaf, 0x9c, 0xa4, 0x72, 0xc0,
   0xb7, 0xfd, 0x93, 0x26, 0x36, 0x3f, 0xf7, 0xcc, 0x34, 0xa5, 0xe5, 0xf1, 0x71, 0xd8, 0x31, 0x15,
   0x04, 0xc7, 0x23, 0xc3, 0x18, 0x96, 0x05, 0x9a, 0x07, 0x12, 0x80, 0xe2, 0xeb, 0x27, 0xb2, 0x75]

/-- Rows 4 to 7 of the S-box. -/
def aesS1 : List Nat :=
  [0x09, 0x83, 0x2c, 0x1a, 0x1b, 0x6e, 0x5a, 0xa0, 0x52, 0x3b, 0xd6, 0xb3, 0x29, 0xe3, 0x2f, 0x84,
   0x53, 0xd1, 0x00, 0xed, 0x20, 0xfc, 0xb1, 0x5b, 0x6a, 0xcb, 0xbe, 0x39, 0x4a, 0x4c, 0x58, 0xcf,
   0xd0, 0xef, 0xaa, 0xfb, 0x43, 0x4d, 0x33, 0x85, 0x45, 0xf9, 0x02, 0x7f, 0x50, 0x3c, 0x9f, 0xa8,
   0x51, 0xa3, 0x40, 0x8f, 0x92, 0x9d, 0x38, 0xf5, 0xbc, 0xb6, 0xda, 0x21, 0x10, 0xff, 0xf3, 0xd2]

/-- Rows 8 to 11 of the S-box. -/
def aesS2 : List Nat :=
  [0xcd, 0x0c, 0x13, 0xec, 0x5f, 0x97, 0x44, 0x17, 0xc4, 0xa7, 0x7e, 0x3d, 0x64, 0x5d, 0x19, 0x73,
   0x60, 0x81, 0x4f, 0xdc, 0x22, 0x2a, 0x90, 0x88, 0x46, 0xee, 0xb8, 0x14, 0xde, 0x5e, 0x0b, 0xdb,
   0xe0, 0x32, 0x3a, 0x0a, 0x49, 0x06, 0x24, 0x5c, 0xc2, 0xd3, 0xac, 0x62, 0x91, 0x95, 0xe4, 0x79,
   0xe7, 0xc8, 0x37, 0x6d, 0x8d, 0xd5, 0x4e, 0xa9, 0x6c, 0x56, 0xf4, 0xea, 0x65, 0x7a, 0xae, 0x08]

/-- Rows 12 to 15 of the S-box. -/
def aesS3 : List Nat :=
  [0xba, 0x78, 0x25, 0x2e, 0x1c, 0xa6, 0xb4, 0xc6, 0xe8, 0xdd, 0x74, 0x1f, 0x4b, 0xbd, 0x8b, 0x8a,
   0x70, 0x3e, 0xb5, 0x66, 0x48, 0x03, 0xf6, 0x0e, 0x61, 0x35, 0x57, 0xb9, 0x86, 0xc1, 0x1d, 0x9e,
   0xe1, 0xf8, 0x98, 0x11, 0x69, 0xd9, 0x8e, 0x94, 0x9b, 0x1e, 0x87, 0xe9, 0xce, 0x55, 0x28, 0xdf,
   0x8c, 0xa1, 0x89, 0x0d, 0xbf, 0xe6, 0x42, 0x68, 0x41, 0x99, 0x2d, 0x0f, 0xb0, 0x54, 0xbb, 0x16]

/-- The S-box. -/
def aesS (x : Nat) : Nat :=
  if x < 64 then aesS0.getD x 0 else if x < 128 then aesS1.getD (x - 64) 0 else if x < 192 then aesS2.getD (x - 128) 0
  else aesS3.getD (x - 192) 0

/-- Multiplication by x in the field of AES. -/
def xtime (a : Nat) : Nat := if a < 128 then 2 * a else (2 * a) % 256 ^^^ 0x1B

/-- Bytewise XOR. -/
def xorB (a b : List Nat) : List Nat := List.zipWith (· ^^^ ·) a b

/-- One column through MixColumns. -/
def mixCol : List Nat → List Nat
  | [a, b, c, d] =>
    [xtime a ^^^ (xtime b ^^^ b) ^^^ c ^^^ d, a ^^^ xtime b ^^^ (xtime c ^^^ c) ^^^ d,
     a ^^^ b ^^^ xtime c ^^^ (xtime d ^^^ d), (xtime a ^^^ a) ^^^ b ^^^ c ^^^ xtime d]
  | x => x

/-- MixColumns. -/
def mixCols : Nat → List Nat → List Nat
  | 0, _ => []
  | n + 1, s => mixCol (s.take 4) ++ mixCols n (s.drop 4)

/-- ShiftRows: byte r of column c comes from column c + r. -/
def shiftRows (s : List Nat) : List Nat := (List.range 16).map (fun i => s.getD ((i + 4 * (i % 4)) % 16) 0)

/-- The next round key from the one before, with its round constant. -/
def nextKey (k : List Nat) (rc : Nat) : List Nat :=
  let t := [aesS (k.getD 13 0) ^^^ rc, aesS (k.getD 14 0), aesS (k.getD 15 0), aesS (k.getD 12 0)]
  let w0 := xorB (k.take 4) t
  let w1 := xorB ((k.drop 4).take 4) w0
  let w2 := xorB ((k.drop 8).take 4) w1
  let w3 := xorB ((k.drop 12).take 4) w2
  w0 ++ w1 ++ w2 ++ w3

/-- Rounds 1 to 10; the last is without MixColumns. -/
def aesRounds : List Nat → List Nat → List Nat → List Nat
  | [], _, s => s
  | [rc], k, s => xorB (shiftRows (s.map aesS)) (nextKey k rc)
  | rc :: rcs, k, s =>
    let k1 := nextKey k rc
    aesRounds rcs k1 (xorB (mixCols 4 (shiftRows (s.map aesS))) k1)

/-- AES-128 encryption of one 16-byte block. -/
def aesEnc (key blk : List Nat) : List Nat :=
  aesRounds [1, 2, 4, 8, 16, 32, 64, 128, 0x1B, 0x36] key (xorB blk key)

/-- A 128-bit string, first byte highest, shifted left by one with the CMAC reduction. -/
def cmacDbl (b : List Nat) : List Nat :=
  let v := b.foldl (fun a x => a * 256 + x) 0
  let w := if v < 2 ^ 127 then 2 * v else (2 * v) % 2 ^ 128 ^^^ 0x87
  (List.range 16).map (fun i => w / 256 ^ (15 - i) % 256)

/-- The CBC chain of CMAC over full blocks but the last; the last is masked with its subkey. -/
def cmacRun (key k1 k2 : List Nat) : Nat → List Nat → List Nat → List Nat
  | 0, x, _ => x
  | n + 1, x, m =>
    if m.length ≤ 16 then
      if m.length = 16 then aesEnc key (xorB x (xorB m k1))
      else aesEnc key (xorB x (xorB (m ++ 0x80 :: List.replicate (15 - m.length) 0) k2))
    else cmacRun key k1 k2 n (aesEnc key (xorB x (m.take 16))) (m.drop 16)

/-- AES-128-CMAC of a byte string: the 16 output bytes. -/
def cmac (key : List Nat) (m : List Nat) : List Nat :=
  let k1 := cmacDbl (aesEnc key (List.replicate 16 0))
  cmacRun key k1 (cmacDbl k1) (m.length / 16 + 1) (List.replicate 16 0) m

/-- The MAC of a frame: the first 8 bytes of the CMAC under a key held as a little-endian value (R283). -/
def frameMac (key : Nat) (bs : List Byte) : List Byte :=
  ((cmac ((leBytes 16 key).map (·.toNat)) (bs.map (·.toNat))).take 8).map (BitVec.ofNat 8)

end Sys2Proof.Machine
end

