-- ==== Sys2Proof/Machine/Digest.lean ====
section
/-!
DEFINITION. Checks over byte strings: the CRC-32 of R36, the CRC-32C of R331, and the
SHA-256 digest of R45, R46 and R320.
-/

namespace Sys2Proof.Machine

/-- One bit of a reflected CRC: shift right, and the polynomial where the bit that leaves is 1. -/
def crcBit (poly c : Nat) : Nat := if c % 2 = 1 then c / 2 ^^^ poly else c / 2

/-- One byte of a reflected CRC. -/
def crcByte (poly c b : Nat) : Nat :=
  crcBit poly (crcBit poly (crcBit poly (crcBit poly (crcBit poly (crcBit poly (crcBit poly (crcBit poly (c ^^^ b))))))))

/-- A reflected CRC over a byte string, from register value `c`. -/
def crcRun (poly : Nat) : Nat → List Byte → Nat
  | c, [] => c
  | c, b :: bs => crcRun poly (crcByte poly c b.toNat) bs

/-- CRC-32 of R36: polynomial 0x04C11DB7 reflected, initial value and final XOR all ones. -/
def crc32 (bs : List Byte) : Nat := crcRun 0xEDB88320 0xFFFFFFFF bs ^^^ 0xFFFFFFFF

/-- CRC-32C of R331: polynomial 0x1EDC6F41 reflected, initial value and final XOR all ones. -/
def crc32c (bs : List Byte) : Nat := crcRun 0x82F63B78 0xFFFFFFFF bs ^^^ 0xFFFFFFFF

/-! ## SHA-256 -/

/-- The `k`-th root of `n`, rounded down: `b` bits are tried from the top, `r` holds those found. -/
def rootDown (k n : Nat) : Nat → Nat → Nat
  | 0, r => r
  | b + 1, r => rootDown k n b (if (r + 2 ^ b) ^ k ≤ n then r + 2 ^ b else r)

/-- The first 64 primes, the last of which is 311. -/
def shaPrimes : List Nat :=
  (List.range 312).filter (fun n => decide (2 ≤ n) && [2, 3, 5, 7, 11, 13, 17].all (fun d => decide (d = n) || decide (n % d ≠ 0)))

/-- The first 32 fractional bits of the `k`-th root of a prime below 512. -/
def rootFrac (k p : Nat) : Nat := rootDown k (p * 2 ^ (32 * k)) 37 0 % 2 ^ 32

/-- The round constants: cube roots of the first 64 primes. -/
def shaCubes : List Nat := shaPrimes.map (rootFrac 3)

/-- The value a digest starts from: square roots of the first 8 primes. -/
def shaRoots : List Nat := (shaPrimes.take 8).map (rootFrac 2)

/-- XOR of rotations to the right of a 32-bit word. -/
def rotSum (x : Nat) (ns : List Nat) : Nat := ns.foldl (fun a n => a ^^^ ((x + x * 2 ^ 32) / 2 ^ n % 2 ^ 32)) 0

/-- One step on the eight working words, newest first, with the sum of its message word and its constant. -/
def shaStep (v : List Nat) (kw : Nat) : List Nat :=
  match v with
  | [p, q, r, s, t, x, y, z] =>
    let low := z + kw + rotSum t [6, 11, 25] + (y ^^^ (t &&& (x ^^^ y)))
    let top := rotSum p [2, 13, 22] + ((p &&& q) ||| (r &&& (p ||| q)))
    [(low + top) % 2 ^ 32, p, q, r, (s + low) % 2 ^ 32, t, x, y]
  | _ => v

/-- The message word after sixteen others. -/
def shaWord (ws : List Nat) : Nat :=
  let near := ws.getD 14 0
  let far := ws.getD 1 0
  (rotSum near [17, 19] ^^^ near / 1024) + (rotSum far [7, 18] ^^^ far / 8) + ws.getD 9 0 + ws.headD 0

/-- The steps of a block, one for each constant: the sixteen message words in use, and the working words. -/
def shaSteps (v : List Nat) (ws : List Nat) (ks : List Nat) : List Nat :=
  (ks.foldl (fun (x : List Nat × List Nat) k =>
    (x.1.tail ++ [shaWord x.1 % 2 ^ 32], shaStep x.2 (x.1.headD 0 + k))) (ws, v)).2

/-- A big-endian number. -/
def beVal (bs : List Byte) : Nat := leVal bs.reverse

/-- The big-endian bytes of a value. -/
def beBytes (n v : Nat) : List Byte := (leBytes n v).reverse

/-- The block at the front of a padded message is taken into the value; the rest of the message follows. -/
def shaTake (x : List Byte × List Nat) : List Byte × List Nat :=
  let ws := (List.range 16).map (fun j => beVal (sliceB x.1 (4 * j) 4))
  (x.1.drop 64, List.zipWith (fun a b => (a + b) % 2 ^ 32) x.2 (shaSteps x.2 ws shaCubes))

/-- A message with its padding: a one bit, zeros, and its length in bits, to whole blocks. -/
def shaPad (bs : List Byte) : List Byte :=
  bs ++ 0x80 :: List.replicate ((119 - bs.length % 64) % 64) 0 ++ beBytes 8 (8 * bs.length)

/-- The SHA-256 digest, 32 bytes. -/
def sha256 (bs : List Byte) : List Byte :=
  let m := shaPad bs
  ((List.range (m.length / 64)).foldl (fun x _ => shaTake x) (m, shaRoots)).2.flatMap (beBytes 4)

end Sys2Proof.Machine
end

