-- ==== Sys2Proof/Machine/Route.lean ====
section
/-!
DEFINITION. The fabric graph and its routes (R291 to R295): what every node computes from the link-state database.
-/

namespace Sys2Proof.Machine

/-- A link of the graph in one direction: the port at its start, its ends by serial, and its cost in ns (R294). -/
structure Edge where
  src : Nat
  port : Nat
  dst : Nat
  cost : Nat
  deriving DecidableEq, Repr

/-- A path: its cost and its links, first to last. -/
structure Path where
  cost : Nat
  edges : List Edge
  deriving DecidableEq, Repr

/-- The entry of a serial. -/
def lsrOf (db : List Lsr) (serial : Nat) : Option Lsr := db.find? (fun e => e.serial == serial)

/-- Both ends report the link with each other's serial and port (R291). -/
def bothWays (db : List Lsr) (a : Lsr) (l : LsLink) : Bool :=
  match lsrOf db l.serial with
  | some b => b.links.any (fun r => r.serial == a.serial && r.own == l.nbr && r.nbr == l.own)
  | none => false

/-- The links of the fabric graph; a link's delay is that of the end it leaves. -/
def edgesOf (db : List Lsr) : List Edge :=
  db.flatMap (fun a => (a.links.filter (bothWays db a)).map (fun l => ⟨a.serial, l.own, l.serial, l.delay⟩))

/-- Serials a round adds to those reached. -/
def reachMore (es : List Edge) (m : List Nat) : List Nat :=
  es.foldl (fun m e => if m.contains e.src && !m.contains e.dst then m ++ [e.dst] else m) m

/-- Rounds of reaching. -/
def reachAll (es : List Edge) : Nat → List Nat → List Nat
  | 0, m => m
  | n + 1, m => reachAll es n (reachMore es m)

/-- Serials the graph connects to `src`, itself included. -/
def reachOf (db : List Lsr) (src : Nat) : List Nat := reachAll (edgesOf db) db.length [src]

/-- No route passes through a node marked LATCH, HOST or DUP (R294). -/
def mayTransit (db : List Lsr) (serial : Nat) : Bool :=
  match lsrOf db serial with
  | some e => decide (e.flags % 8 = 0) && !e.dup
  | none => false

/-- Lexicographic order of port lists. -/
def lexLt : List Nat → List Nat → Bool
  | [], [] => false
  | [], _ :: _ => true
  | _ :: _, [] => false
  | a :: as, b :: bs => if a = b then lexLt as bs else decide (a < b)

/-- The ports of a path. -/
def portsOf (p : Path) : List Nat := p.edges.map (·.port)

/-- `a` is the better path: cheaper, or of equal cost with the smaller list of ports (R294). -/
def pathLt (a b : Path) : Bool :=
  decide (a.cost < b.cost) || (decide (a.cost = b.cost) && lexLt (portsOf a) (portsOf b))

/-- The better of two paths. -/
def pathMin (a : Path) : Option Path → Path
  | some b => if pathLt a b then a else b
  | none => a

/-- One edge is tried: from the source at its own cost, beyond it with 60 ns for the forwarding node. -/
def relax (db : List Lsr) (src : Nat) (m : List (Nat × Path)) (e : Edge) : List (Nat × Path) :=
  if e.dst = src then m
  else
    let cand := if e.src = src then some (⟨e.cost, [e]⟩ : Path)
      else if mayTransit db e.src then
        (m.find? (fun x => x.1 == e.src)).map (fun x => (⟨x.2.cost + 60 + e.cost, x.2.edges ++ [e]⟩ : Path))
      else none
    match cand with
    | none => m
    | some c => mins m e.dst (pathMin c ((m.find? (fun x => x.1 == e.dst)).map (·.2)))

/-- Rounds of relaxation: as many as the database has nodes. -/
def relaxAll (db : List Lsr) (src : Nat) (es : List Edge) : Nat → List (Nat × Path) → List (Nat × Path)
  | 0, m => m
  | n + 1, m => relaxAll db src es n (es.foldl (relax db src) m)

/-- The least paths from `src` to every node, by serial, over the links `es`. -/
def pathsOver (db : List Lsr) (src : Nat) (es : List Edge) : List (Nat × Path) := relaxAll db src es db.length []

/-- The routes from `src` (R294). -/
def pathsFrom (db : List Lsr) (src : Nat) : List (Nat × Path) := pathsOver db src (edgesOf db)

/-- The path to a serial in a list of paths. -/
def pathTo (m : List (Nat × Path)) (dst : Nat) : Option Path := (m.find? (fun x => x.1 == dst)).map (·.2)

/-- The link of an edge in either direction. -/
def sameLink (a b : Edge) (db : List Lsr) : Bool :=
  (a.src == b.src && a.port == b.port)
    || (a.src == b.dst && a.dst == b.src && (match lsrOf db b.src with
        | some e => e.links.any (fun l => l.own == b.port && l.nbr == a.port && l.serial == a.src)
        | none => false))

/-- The alternate of a route (R295): the least path without any link of the primary, else without its first link. -/
def altPath (db : List Lsr) (src dst : Nat) (prim : Path) : Option Path :=
  let es := edgesOf db
  match pathTo (pathsOver db src (es.filter (fun e => !prim.edges.any (fun x => sameLink e x db)))) dst with
  | some p => some p
  | none => pathTo (pathsOver db src (es.filter (fun e => !(prim.edges.take 1).any (fun x => sameLink e x db)))) dst

/-! ## Node IDs (R293) -/

/-- An entry is put in its place by serial. -/
def lsrInsert (e : Lsr) : List Lsr → List Lsr
  | [] => [e]
  | f :: fs => if e.serial < f.serial then e :: f :: fs else if e.serial = f.serial then e :: fs else f :: lsrInsert e fs

/-- IDs that stand in a database. -/
def usedIds (db : List Lsr) : List Nat := db.filterMap (·.id)

/-- A fixed claim goes to the lowest serial that makes it; one that is taken makes a duplicate. -/
def assignFixed : List Lsr → List Nat → List Lsr
  | [], _ => []
  | e :: es, used =>
    if e.id.isSome || e.dup || decide (0x40 ≤ e.claim) then e :: assignFixed es used
    else if used.contains e.claim then { e with dup := true } :: assignFixed es used
    else { e with id := some e.claim } :: assignFixed es (e.claim :: used)

/-- The lowest free ID. -/
def lowestFree (used : List Nat) : Option Nat := (List.range 64).find? (fun i => !used.contains i)

/-- Nodes without a fixed claim take the lowest free IDs; beyond the 64th a node is a duplicate. -/
def assignFree : List Lsr → List Nat → List Lsr
  | [], _ => []
  | e :: es, used =>
    if e.id.isSome || e.dup then e :: assignFree es used
    else match lowestFree used with
      | some i => { e with id := some i } :: assignFree es (i :: used)
      | none => { e with dup := true } :: assignFree es used

/-- IDs from a database in order of serial; those already held stay. -/
def assignIds (held : Bool) (db : List Lsr) : List Lsr :=
  let d0 := if held then db else db.map (fun e => { e with id := none, dup := false })
  let d1 := assignFixed d0 (usedIds d0)
  assignFree d1 (usedIds d1)

/-- IDs of the nodes the graph connects to this one; the others are ignored and stand as they are (R291). -/
def assignNear (near : Lsr → Bool) (held : Bool) (db : List Lsr) : List Lsr :=
  let d := assignIds held (db.filter near)
  db.map (fun e => if near e then (lsrOf d e.serial).getD e else e)

end Sys2Proof.Machine
end

