-- ==== Sys2Proof/Machine/FabCore.lean ====
section
/-!
DEFINITION. Links and frames (R277 to R290, R306, R307): link states, frames, credits, replay, and what the loss of a link
does.
-/

namespace Sys2Proof.Machine

/-! ## Access -/

/-- Link `p` beside its objects. -/
def lk (s : State) (p : Nat) : Link := mget Link.reset s.fab.links p

/-- The fabric is changed. -/
def modFab (s : State) (f : Fab → Fab) : State := { s with fab := f s.fab }

/-- Link `p` is changed. -/
def modLk (s : State) (p : Nat) (f : Link → Link) : State :=
  modFab s (fun x => { x with links := mset Link.reset x.links p (f (lk s p)) })

/-- Link states (R288). -/
def lOff : Nat := 0
def lTrain : Nat := 1
def lHello : Nat := 2
def lJoin : Nat := 3
def lUp : Nat := 4
def lQuar : Nat := 5
def lDown : Nat := 6

/-- State of link `p`. -/
def lkState (s : State) (p : Nat) : Nat := rd s F.lkStat_STATE p

/-- Link `p` is UP. -/
def isUp (s : State) (p : Nat) : Bool := decide (lkState s p = lUp)

/-- The twin ports: one in a twin, two in a triad (R340). -/
def twinPorts (s : State) : List Nat :=
  match rd s F.devRedCfg_KIND 0 with
  | 1 => [rd s F.devRedCfg_PORT_A 0]
  | 2 => [rd s F.devRedCfg_PORT_A 0, rd s F.devRedCfg_PORT_B 0]
  | _ => []

/-- Port `p` is a twin port. -/
def isTwin (s : State) (p : Nat) : Bool := (twinPorts s).contains p

/-- Ports that carry the fabric now. -/
def upPorts (s : State) : List Nat := (List.range 8).filter (fun p => isUp s p && !isTwin s p)

/-- The fabric key in use (R41). -/
def fabKey (s : State) : Nat :=
  if bit s.nv.otpLock 1 then s.nv.fkey else s.load.fabKey.getD s.nv.fkey

/-- The selected key is the OTP key and OTP holds none: every link is held down (R41). -/
def noKey (s : State) : Bool := decide (s.nv.fkey = 0) && (bit s.nv.otpLock 1 || s.load.fabKey.isNone)

/-- Modes in which the link transmitters are active (R84): DISCOVER to LATCH. -/
def fabActive (s : State) : Bool := decide (mDiscover ≤ mode s) && !s.pwr.rst && !s.pwr.coreLost

/-- A link may train: enabled, a key to join with, transmitters active (R288). -/
def mayTrain (s : State) (p : Nat) : Bool := rdB s F.lkCfg_EN p && !noKey s && fabActive s

/-! ## Frames (R282, R283) -/

/-- The fields of a frame header (R282). -/
structure Hdr where
  ver : Nat
  cls : Nat
  bcast : Bool
  adj : Bool
  alt : Bool
  fctl : Bool
  resv : Nat
  dst : Nat
  src : Nat
  dstQ : Nat
  srcQ : Nat
  seq : Nat
  len : Nat
  hops : Nat
  time : Nat
  deriving DecidableEq, Repr

/-- The header at the front of a frame. -/
def hdrOf (bs : List Byte) : Hdr :=
  let v := fieldB bs 0 16
  { ver := bits v 0 4, cls := bits v 4 2, bcast := bit v 6, adj := bit v 7, alt := bit v 8, fctl := bit v 9,
    resv := bits v 10 6 + bits v 28 4 + bits v 94 2, dst := bits v 16 6, src := bits v 22 6, dstQ := bits v 32 16,
    srcQ := bits v 48 16, seq := bits v 64 16, len := bits v 80 8, hops := bits v 88 6, time := bits v 96 32 }

/-- The 16 bytes of a header. -/
def hdrBytes (h : Hdr) : List Byte :=
  leBytes 16 (h.ver + h.cls * 2 ^ 4 + b2n h.bcast * 2 ^ 6 + b2n h.adj * 2 ^ 7 + b2n h.alt * 2 ^ 8 + b2n h.fctl * 2 ^ 9
    + h.dst * 2 ^ 16 + h.src * 2 ^ 22 + h.dstQ * 2 ^ 32 + h.srcQ * 2 ^ 48 + h.seq * 2 ^ 64 + h.len * 2 ^ 80
    + h.hops * 2 ^ 88 + h.time * 2 ^ 96)

/-- Classes by number (R284). -/
def cRt : Nat := 0
def cCtl : Nat := 1
def cBulk : Nat := 2
def cMgmt : Nat := 3

/-- CTL and MGMT frames carry a MAC. -/
def hasMac (cls : Nat) : Bool := decide (cls = 1 ∨ cls = 3)

/-- A header of this node's own frame: 63 hops, no time yet. -/
def ownHdr (s : State) (cls dst dstQ srcQ seq len : Nat) : Hdr :=
  { ver := 1, cls := cls, bcast := false, adj := false, alt := false, fctl := false, resv := 0, dst := dst,
    src := rd s F.devFabStat_NODE_ID 0, dstQ := dstQ, srcQ := srcQ, seq := seq, len := len, hops := 63, time := 0 }

/-- The message a MAC is computed over: the header with HOPS taken as 0, then the payload. -/
def macInput (h : Hdr) (payload : List Byte) : List Byte := hdrBytes { h with hops := 0 } ++ payload

/-- A frame from header to MAC. HELLO carries a MAC field of 0. -/
def frameBytes (key : Nat) (h : Hdr) (payload : List Byte) : List Byte :=
  hdrBytes h ++ payload ++
    (if hasMac h.cls then
      (if h.fctl && decide (fieldB payload 0 1 = 1) then List.replicate 8 0 else frameMac key (macInput h payload))
     else [])

/-- The frame with its CRC. -/
def withCrc (bs : List Byte) : List Byte := bs ++ leBytes 4 (crc32 bs)

/-- Credits a frame needs, CRC included (R285). -/
def creditsOf (bs : List Byte) : Nat := (bs.length + 4 + 63) / 64

/-- Bits [31:0] of fabric time. -/
def time32 (s : State) : Nat := nowNs s % 2 ^ 32

/-! ## Link words (R281) -/

/-- A link word from its KIND and BODY. -/
def linkWord (kind body : Nat) : BitVec 24 :=
  let chk := kind ^^^ bits body 0 4 ^^^ bits body 4 4 ^^^ bits body 8 4 ^^^ bits body 12 4
  BitVec.ofNat 24 (kind + chk * 16 + body % 2 ^ 16 * 256)

/-- The BODY of a word of this kind with a right CHK. -/
def wordBody (kind : Nat) (w : BitVec 24) : Option Nat :=
  let v := w.toNat
  if linkWord kind (v / 256) = w then some (v / 256) else none

/-- Kind of a link word, and the class a CREDIT word is for. -/
def wordKey (w : BitVec 24) : Nat × Nat := let k := bits w.toNat 0 4; (k, if k = 3 then bits w.toNat 8 2 else 0)

/-- A word joins those in the gap; ACK and CREDIT carry running totals, so the newest of a kind and class stands for them all. -/
def joinWord (ws : List (BitVec 24)) (w : BitVec 24) : List (BitVec 24) := ws.filter (fun x => wordKey x != wordKey w) ++ [w]

/-- Words go into the gap of link `p`. -/
def putWords (s : State) (p : Nat) (ws : List (BitVec 24)) : State :=
  modLk s p (fun l => { l with words := ws.foldl joinWord l.words })

/-- One CREDIT word for each class. -/
def creditWords (l : Link) : List (BitVec 24) :=
  (List.range 4).map (fun c => linkWord 3 (c + l.given.getD c 0 % 2 ^ 14 * 4))

/-- Receive buffers of a port by class, in credits (R284). -/
def fullCredits : List Nat := [24, 16, 32, 16]

/-- `k` credits of a class return to the partner of link `p`. -/
def giveBack (s : State) (p cls k : Nat) : State :=
  if isUp s p then
    let s1 := modLk s p (fun l => { l with given := l.given.set cls ((l.given.getD cls 0 + k) % 2 ^ 14) })
    putWords s1 p (creditWords (lk s1 p))
  else s

/-- Credits of a class that link `p` holds (R285). -/
def creditsHeld (l : Link) (cls : Nat) : Nat := (l.grant.getD cls 0 + 2 ^ 14 - l.used.getD cls 0) % 2 ^ 14

/-! ## The transmit queues (R308) -/

/-- A frame of this node goes into the transmit queue of link `p`: a header record, then a payload record, both or
neither. -/
def queueFrame (s : State) (p : Nat) (h : Hdr) (payload : List Byte) : State × Bool :=
  let q := qLink p h.cls 0
  let a := qPushBytes s 4 q (hdrBytes h)
  if a.2 then
    let b := qPushBytes a.1 4 q payload
    if b.2 then b else (s, false)
  else (s, false)

/-- A fabric control frame of this node on link `p` (R283). -/
def sendFctl (s : State) (p cls : Nat) (bcast adj : Bool) (payload : List Byte) : State :=
  (queueFrame s p { ownHdr s cls 0 0xFFFF 0 0 payload.length with fctl := true, bcast := bcast, adj := adj } payload).1

/-! ## Node state (R293, R294, R298, R301) -/

/-- Own entry in the database. -/
def ownLsr (s : State) : Option Lsr := lsrOf s.fab.lsdb s.nv.serial

/-- Routes of this node, by serial. -/
def myPaths (s : State) : List (Nat × Path) := pathsFrom s.fab.lsdb s.nv.serial

/-- Nodes the graph connects to this one, itself included, over nodes of any kind (R291). A duplicate is a fabric of one. -/
def connected (s : State) : List Lsr :=
  let m := reachOf s.fab.lsdb s.nv.serial
  s.fab.lsdb.filter (fun e => decide (e.serial = s.nv.serial) || (!rdB s F.devFabStat_DUP 0 && !e.dup && m.contains e.serial))

/-- The node with an ID, among those connected. -/
def nodeById (s : State) (id : Nat) : Option Lsr := (connected s).find? (fun e => e.id == some id)

/-- Least of a list. -/
def minOf : List Nat → Option Nat
  | [] => none
  | x :: xs => match minOf xs with
    | none => some x
    | some y => some (min x y)

/-- ID of the grandmaster: the lowest present (R298). -/
def gmId (s : State) : Option Nat := minOf ((connected s).filterMap (·.id))

/-- The path to a node by its ID. -/
def pathToId (s : State) (id : Nat) : Option Path :=
  match nodeById s id with
  | some e => pathTo (myPaths s) e.serial
  | none => none

/-- First port of a path. -/
def firstPort (p : Path) : Option Nat := (p.edges.head?).map (·.port)

/-- FAB_STAT and the PARENT and neighbour fields of the links follow the database (R293, R298). -/
def showFab (s : State) : State :=
  let own := ownLsr s
  let s1 := match own with
    | some e =>
      let t := wrB s F.devFabStat_ID_VALID 0 e.id.isSome
      let t1 := match e.id with | some i => wr t F.devFabStat_NODE_ID 0 i | none => t
      let fresh := e.dup && !rdB s F.devFabStat_DUP 0
      let t2 := wrB t1 F.devFabStat_DUP 0 e.dup
      if fresh then raiseD t2 0x75 e.claim else t2
    | none => s
  let path := (gmId s1).bind (pathToId s1)
  let par := path.bind firstPort
  let s2 := wr (wr s1 F.devFabStat_NODES 0 (min 64 (connected s1).length)) F.devFabStat_HOPS_GM 0
    (match path with | some p => min 15 p.edges.length | none => 0)
  let s3 := match gmId s1 with | some g => wr s2 F.devFabStat_GM 0 g | none => s2
  (List.range 8).foldl (fun t p =>
    let t1 := wrB t F.lkStat_PARENT p (decide (par = some p))
    match (lsrOf t1.fab.lsdb (rd t1 F.lkNbr_SERIAL p)).bind (·.id) with
    | some i => wr t1 F.lkStat_NBR_NODE p i
    | none => t1) s3

/-- Grandmaster now and before: a lower one than before takes the node onto its time; one that has left makes no step; a
node that becomes the grandmaster runs at the nominal rate; one that cannot reach any holds (R298, R301). -/
def gmChange (old s : State) : State :=
  let g0 := rd old F.devFabStat_GM 0
  let g1 := rd s F.devFabStat_GM 0
  let own := rdB s F.devFabStat_ID_VALID 0 && decide (g1 = rd s F.devFabStat_NODE_ID 0)
  let s1 := if own then { s with ctl := { s.ctl with rate := 2 ^ 33 } }
    else if g1 < g0 ∨ !rdB old F.devFabStat_ID_VALID 0 then
      if g1 = g0 ∧ rdB old F.devFabStat_ID_VALID 0 then s
      else modFab (wr s F.devFabStat_TIME_LOCK 0 0) (fun x => { x with stepped := false, lockRun := 0 })
    else s
  let lost := !own && ((gmId s1).bind (pathToId s1)).isNone && rdB s1 F.devFabStat_ID_VALID 0
  let s2 := if lost && !rdB s1 F.devFabStat_TIME_HOLD 0 then raiseD s1 0x79 0 else s1
  wrB s2 F.devFabStat_TIME_HOLD 0 lost

/-- Settled (R292): neighbours known, database quiet for 10 ms, IDs assigned, TIME_LOCK or grandmaster. -/
def isSettled (s : State) : Bool :=
  (upPorts s).all (fun p => (lsrOf s.fab.lsdb (rd s F.lkNbr_SERIAL p)).isSome)
    && decide (s.fab.changeAt + 10000000 ≤ locNs s) && rdB s F.devFabStat_ID_VALID 0
    && (rdB s F.devFabStat_TIME_LOCK 0 || decide (rd s F.devFabStat_GM 0 = rd s F.devFabStat_NODE_ID 0))

/-- SETTLED follows; a node that settles in DISCOVER goes on to PLACE and its IDs stay (R78, R292, R293). -/
def settle (s : State) (yes : Bool) : State :=
  if yes && !rdB s F.devFabStat_SETTLED 0 then
    let s1 := modFab (wr s F.devFabStat_SETTLED 0 1) (fun x => { x with held := true })
    if mode s1 = mDiscover then trigger s1 mPlace 5 none else s1
  else wrB s F.devFabStat_SETTLED 0 yes

/-- The link states of a change of the set of ports: duplicates' neighbours are quarantined elsewhere; here the database
has been changed: IDs, routes, grandmaster. -/
def dbChanged (s : State) : State :=
  let near := fun (e : Lsr) => (reachOf s.fab.lsdb s.nv.serial).contains e.serial
  let s1 := modFab s (fun x =>
    { x with lsdb := assignNear near x.held x.lsdb, changeAt := locNs s, changes := x.changes + 1 })
  wr (gmChange s (showFab s1)) F.devFabStat_SETTLED 0 0

/-! ## Replay and loss (R286, R288, R296, R297) -/

/-- RT routes that leave through port `p` on the path in use. -/
def usesPort (r : RtRoute) (p : Nat) : Bool := if r.onAlt then r.alt == some p else r.prim == some p

/-- A route this node sources goes to its alternate; one without, or whose alternate is lost too, carries nothing. -/
def failOver (s : State) (r : RtRoute) : RtRoute :=
  if r.onAlt then { r with dead := true }
  else match r.alt with
    | some q => if isUp s q then { r with onAlt := true } else { r with onAlt := true, dead := true }
    | none => { r with dead := true }

/-- The routes this node sources and whose path in use leaves through the lost port (R296). -/
def switchRoutes (s : State) (p : Nat) : State :=
  let me := rd s F.devFabStat_NODE_ID 0
  let hit := fun (r : RtRoute) => r.src == me && usesPort r p && !r.dead
  let s1 := (s.fab.routes.filter hit).foldl (fun t r =>
    if (failOver s r).onAlt && !r.onAlt && !(failOver s r).dead then raiseD t 0x76 r.id else t) s
  modFab s1 (fun x => { x with routes := x.routes.map (fun r => if hit r then failOver s r else r) })

/-- ROUTE_FAIL goes to the source of every other route whose primary uses the lost port (R296); a node in LATCH sends none
(R290). -/
def reportRoutes (s : State) (p : Nat) : State :=
  let me := rd s F.devFabStat_NODE_ID 0
  (s.fab.routes.filter (fun r => decide (mode s ≠ mLatch) && r.src != me && r.prim == some p)).foldl (fun t r =>
    match (pathToId t r.src).bind firstPort with
    | some q =>
      let pay := [6#8, 0] ++ leBytes 2 r.id ++ leBytes 1 me ++ leBytes 1 p ++ [0, 0]
      if q = p then t
      else (queueFrame t q { ownHdr t cRt r.src 0xFFFF 0 0 8 with fctl := true } pay).1
    | none => t) s

/-- The frames a queue stream of halfwords holds, none of them begun: header, then payload. -/
def framesOf : Nat → List Byte → List (List Byte)
  | 0, _ => []
  | n + 1, bs =>
    if bs.length < 16 then []
    else
      let k := 16 + (hdrOf bs).len
      bs.take k :: framesOf n (bs.drop k)

/-- Halfwords of a popped word. -/
def popHw (x : Popped) : List (BitVec 16) :=
  if bit x.tag 2 || bit x.tag 3 then []
  else (List.range (if x.tag % 4 = 0 then 4 else x.tag % 4)).map (fun j => x.word.extractLsb' (16 * j) 16)

/-- Every word of a queue is popped: its bytes. -/
def drainQ : Nat → State → Nat → List Byte → State × List Byte
  | 0, s, _, acc => (s, acc)
  | n + 1, s, q, acc =>
    let r := qPop s q
    if bit r.2.tag 2 then (s, acc) else drainQ n r.1 q (acc ++ hwBytes (popHw r.2))

/-- Halfwords of transmit class `c` that link `p` has popped and not sent. -/
def txRest (s : State) (p c : Nat) : List Byte := (lk s p).rest.getD c []

/-- A frame held for a lost link goes out on its new route (R297); frames to a neighbour and frames without a route end. One that
has not begun takes its TIME and MAC when it does (R282). -/
def reroute (s : State) (cls : Nat) (x : List Byte × Bool) : State :=
  let bs := x.1
  let h := hdrOf bs
  if h.adj || h.bcast then s
  else match (pathToId s h.dst).bind firstPort with
    | some q => modFab s (fun f =>
        { f with transit := f.transit ++ [⟨8, q, f.uid, cls, bs, locNs s, x.2⟩], uid := f.uid + 1 })
    | none => incSat s F.devFabCnt_NO_ROUTE 0

/-- Frames the node still holds for link `p` of one class: its replay store, its transit frames, its transmit queue; and of each
whether it has yet to begin. -/
def heldFrames (s : State) (p c : Nat) : State × List (List Byte × Bool) :=
  let a := ((lk s p).unacked.filter (fun x => x.cls == c)).map (fun x => (x.bytes, false))
  let b := (s.fab.transit.filter (fun x => x.out == p && x.cls == c)).map (fun x => (x.bytes, x.fresh))
  let d := drainQ (levelOf s (qLink p c 0) + 1) s (qLink p c 0) (txRest s p c)
  (d.1, a ++ b ++ (framesOf (d.2.length / 16 + 1) d.2).map (fun bs => (bs, true)))

/-- Credits of transit frames that leave: those of a frame whose last copy goes. -/
def freeTransit (s : State) (xs : List Transit) : State :=
  let gone := fun (x : Transit) => xs.any (fun y => y.uid == x.uid && y.out == x.out)
  let s1 := modFab s (fun f => { f with transit := f.transit.filter (fun x => !gone x) })
  xs.foldl (fun t x =>
    if t.fab.transit.any (fun y => y.uid == x.uid) || decide (8 ≤ x.inPort) then t
    else giveBack t x.inPort x.cls (creditsOf x.bytes)) s1

/-- What the node holds for a lost link: RT frames end, counted in RT_EXP (R296); the others go out on the new routes in
their order (R297). -/
def dropHeld (s : State) (p : Nat) : State :=
  let rt := heldFrames s p 0
  let s1 := addSat rt.1 F.lkCnt_RT_EXP p rt.2.length
  let c1 := heldFrames s1 p 1
  let c2 := heldFrames c1.1 p 2
  let c3 := heldFrames c2.1 p 3
  let s2 := freeTransit c3.1 (c3.1.fab.transit.filter (fun x => x.out == p))
  let s3 := c1.2.foldl (fun t b => reroute t 1 b) s2
  let s4 := c2.2.foldl (fun t b => reroute t 2 b) s3
  c3.2.foldl (fun t b => reroute t 3 b) s4

/-- This node's own links as its LSR reports them: twice the median delay is halved, rounded up. -/
def sortedInsert (x : Int) : List Int → List Int
  | [] => [x]
  | y :: ys => if x ≤ y then x :: y :: ys else y :: sortedInsert x ys

/-- A list in rising order. -/
def sortInt : List Int → List Int
  | [] => []
  | x :: xs => sortedInsert x (sortInt xs)

/-- Median delay of link `p` in ns, rounded up (R299). Of an even number of exchanges it lies between the middle two,
which end being free. -/
def lkDelay (s : State) (p : Nat) : Nat :=
  let xs := sortInt (lk s p).delays
  let k := xs.length
  let d := if k % 2 = 1 ∨ k = 0 then xs.getD (k / 2) 0
    else if Config.freeBool (1000 * k + p) then xs.getD (k / 2) 0 else xs.getD (k / 2 - 1) 0
  ((d + 1) / 2).toNat

/-- The links this node reports. -/
def ownLinks (s : State) : List LsLink :=
  (upPorts s).map (fun p => ⟨p, rd s F.lkStat_NBR_PORT p, lkDelay s p, rd s F.lkNbr_SERIAL p⟩)

/-- Flags of the own LSR (R283). -/
def lsrFlags (s : State) : Nat :=
  b2n (decide (mode s = mLatch)) + 4 * b2n (rdB s F.devFabStat_DUP 0) + 8 * b2n (rdB s F.devFabStat_TIME_LOCK 0)

/-- The own entry in the database is brought up to date; IDs and routes follow a change. -/
def ownUpdate (s : State) : State :=
  let old := ownLsr s
  let e : Lsr :=
    { serial := s.nv.serial, claim := s.load.claim, flags := lsrFlags s, seq := s.fab.lsrSeq, finger := s.load.fingerprint,
      links := ownLinks s, id := old.bind (·.id), dup := (old.map (·.dup)).getD false, at_ := locNs s }
  let same := match old with
    | some o => o.claim == e.claim && o.flags % 8 == e.flags % 8 && o.links == e.links && o.finger == e.finger
    | none => false
  let s1 := modFab s (fun x => { x with lsdb := lsrInsert e x.lsdb })
  if same then s1 else dbChanged s1

/-- A link leaves its state for DOWN, QUAR or OFF: what an exit from UP does comes with it (R288, R296, R297). The twin
logic learns of a twin port from its state. -/
def leaveUp (s : State) (p why : Nat) : State :=
  if isUp s p then
    let s1 := raiseD (incSat s F.lkCnt_DOWNS p) 0x71 (p + 256 * why)
    if isTwin s p then wr s1 F.lkStat_STATE p lDown
    else
      let s2 := reportRoutes (switchRoutes (wr s1 F.lkStat_STATE p lDown) p) p
      dropHeld (ownUpdate s2) p
  else s

/-- A link's working state is cleared; what counts over time stays, and a DOWN word already in the gap. -/
def clearLink (l : Link) : Link :=
  { Link.reset with
    downs := l.downs, macAt := l.macAt, macEv := l.macEv, errMs := l.errMs, errCnt := l.errCnt,
    words := l.words.filter (fun w => decide ((wordKey w).1 = 4)) }

/-- Link `p` takes a state for a reason. -/
def setLink (s : State) (p st why : Nat) : State :=
  let s1 := modLk (wr (leaveUp s p why) F.lkStat_STATE p st) p clearLink
  wr (wr (wr s1 F.lkStat_DOWN_WHY p why) F.lkStat_CONGEST p 0) F.lkStat_TRAINED p 0

/-- DOWN: the eighth exit from UP within 10 s holds the port for 1 s (R288). -/
def linkDown (s : State) (p why : Nat) : State :=
  let l := lk s p
  let ds := if isUp s p then (locNs s :: l.downs).filter (fun t => decide (locNs s ≤ t + 10000000000)) else l.downs
  let flap := isUp s p && decide (8 ≤ ds.length)
  let s1 := setLink s p lDown (if flap then 11 else why)
  modLk s1 p (fun l => { l with downs := if flap then [] else ds })

/-- An UP link says with a DOWN word that this end takes it down for a reason of its own (R288). -/
def sayDown (s : State) (p why : Nat) : State := if isUp s p then putWords s p [linkWord 4 why] else s

/-- This end takes an UP link down for a reason of its own. -/
def takeDown (s : State) (p why : Nat) : State := linkDown (sayDown s p why) p why

/-- OFF, by this end. -/
def linkOff (s : State) (p why : Nat) : State := setLink (sayDown s p why) p lOff why

/-- QUAR, with its event (R288). -/
def linkQuar (s : State) (p why : Nat) : State := raiseD (setLink (sayDown s p why) p lQuar why) 0x72 (p + 256 * why)

/-- TRAIN begins (R278, R288). -/
def linkTrain (s : State) (p : Nat) : State :=
  modLk (wr (wr s F.lkStat_STATE p lTrain) F.lkStat_TRAINED p 0) p clearLink

/-- A replay round from frame `x` on (R286): eight rounds in a row without progress take the link down. -/
def replayFrom (s : State) (p : Nat) (from_ : List Sent) : State :=
  if from_.isEmpty then s
  else
    let s1 := addWrap (incSat s F.lkCnt_REPLAYS p) F.lkTot_REPLAY_TOT p 1
    let s2 := modLk s1 p (fun l => { l with again := from_.map (·.lseq), rounds := l.rounds + 1 })
    if 8 ≤ (lk s2 p).rounds then takeDown s2 p 6 else s2

/-- ACK(a) releases every frame up to `a`; anything released is progress. -/
def ackUpTo (s : State) (p a : Nat) : State :=
  let l := lk s p
  if l.unacked.any (fun x => x.lseq == a) then
    let keep := (l.unacked.dropWhile (fun x => x.lseq != a)).drop 1
    modLk s p (fun l => { l with unacked := keep, rounds := 0, again := l.again.filter (fun q => keep.any (fun x => x.lseq == q)) })
  else s

/-- A CRC error: counted; more than ERR_LIM within one millisecond take the link down (R286). -/
def crcError (s : State) (p : Nat) : State :=
  let s1 := addWrap (incSat s F.lkCnt_CRC_ERR p) F.lkTot_CRC_TOT p 1
  let ms := nowNs s / 1000000
  let l := lk s1 p
  let cnt := if l.errMs = ms then l.errCnt + 1 else 1
  let s2 := modLk s1 p (fun l => { l with errMs := ms, errCnt := cnt })
  if isUp s2 p && decide (rd s2 F.lkCfg_ERR_LIM p < cnt) then takeDown s2 p 5 else s2

/-- A MAC failure on a port: its event once a second, quarantine at MAC_LIM (R307). -/
def macFailure (s : State) (p : Nat) : State :=
  let s1 := incSat s F.lkCnt_MAC_FAIL p
  let now := locNs s
  let l := lk s1 p
  let ms := (now :: l.macAt).filter (fun t => decide (now < t + 1000000000))
  let ev := match l.macEv with | some t => decide (t + 1000000000 ≤ now) | none => true
  let s2 := modLk (if ev then raiseD s1 0x74 p else s1) p (fun l =>
    { l with macAt := ms, macEv := if ev then some now else l.macEv })
  if rd s2 F.lkCfg_MAC_LIM p ≤ ms.length ∧ isUp s2 p then modLk (linkQuar s2 p 8) p (fun l => { l with macAt := [] }) else s2

/-! ## One frame goes out (R280, R285, R286) -/

/-- The link prefix of a frame (R280). -/
def prefixOf (lseq ack cls : Nat) : Nat := lseq % 4096 + ack % 4096 * 2 ^ 12 + cls % 4 * 2 ^ 24

/-- The newest LSEQ received in order from the partner. -/
def ackOf (l : Link) : Nat := match l.rxNext with | some e => (e + 4095) % 4096 | none => 0

/-- A frame stands on the wire with its prefix; the words of the gap have gone before it. -/
def onWire (s : State) (p lseq cls : Nat) (bs : List Byte) : State :=
  modLk s p (fun l => { l with outPre := prefixOf lseq (ackOf l) cls, out := withCrc bs, outCut := false, words := [] })

/-- Credits of a class are used. -/
def useCredits (s : State) (p cls : Nat) (bs : List Byte) : State :=
  modLk s p (fun l => { l with used := l.used.set cls ((l.used.getD cls 0 + creditsOf bs) % 2 ^ 14) })

/-- The link holds the credits of a frame (R285). -/
def hasCredits (s : State) (p cls : Nat) (bs : List Byte) : Bool := decide (creditsOf bs ≤ creditsHeld (lk s p) cls)

/-- Frames sent and not acknowledged at which no new frame starts (R286). -/
def maxUnacked : Nat := 64

/-- A new frame takes the next LSEQ and is kept until it is acknowledged. -/
def sendNew (s : State) (p cls : Nat) (bs : List Byte) : State :=
  let q := ((lk s p).txSeq + 1) % 4096
  let s1 := modLk (useCredits s p cls bs) p (fun l => { l with txSeq := q, unacked := l.unacked ++ [⟨q, cls, bs⟩] })
  onWire s1 p q cls bs

/-- A frame is aborted: it leaves the replay store, and its LSEQ is used again (R286, R287). -/
def sendCut (s : State) (p cls : Nat) (bs : List Byte) : State :=
  let s1 := onWire (useCredits s p cls bs) p ((lk s p).txSeq + 1) cls bs
  modLk s1 p (fun l => { l with out := bs, outCut := true })

/-- A token of a class is taken from the bucket of port `p` (R307); the answer says whether one was there. -/
def takeToken (s : State) (p : Nat) (mgmt : Bool) : State × Bool :=
  let l := lk s p
  let dt := locNs s - l.tokAt
  let fill := fun (i rate : Nat) => min 64000000 (l.tokens.getD i 0 + rate * dt)
  let a := fill 0 (rd s F.devFabRate_CTL_RATE 0)
  let b := fill 1 (rd s F.devFabRate_MGMT_RATE 0)
  let have_ := if mgmt then decide (1000000 ≤ b) else decide (1000000 ≤ a)
  let a1 := if have_ && !mgmt then a - 1000000 else a
  let b1 := if have_ && mgmt then b - 1000000 else b
  (modLk s p (fun l => { l with tokens := [a1, b1], tokAt := locNs s }), have_)

end Sys2Proof.Machine
end

