-- ==== Sys2Proof/Machine/Twin.lean ====
section
/-!
DEFINITION. Twins and triads (R338, R343 to R349): device checkpoints and their comparison, the vote, release, handover,
resynchronisation, and the interlock.
-/

namespace Sys2Proof.Machine

/-! ## Members (R338, R340, R348) -/

/-- Effective roles. -/
def roleDriver : Nat := 1
def roleFollower : Nat := 2
def roleReleased : Nat := 3

/-- Node ID of the member behind port `k`: that of its serial, else its fixed claim, else open. -/
def memberNode (s : State) (k : Nat) : Nat :=
  let p := memberPort s k
  match (lsrOf s.fab.lsdb (rd s F.lkNbr_SERIAL p)).bind (·.id) with
  | some i => i
  | none => if (lk s p).nbrClaim < 64 then (lk s p).nbrClaim else Config.freeNat s.ctl.freeCnt % 64

/-- Node ID of member `k`, 2 being this one. -/
def voterNode (s : State) (k : Nat) : Nat := if k = 2 then rd s F.devFabStat_NODE_ID 0 else memberNode s k

/-- Members present now. -/
def present (s : State) : List Nat := (memberIds s).filter (fun k => (mem s k).present)

/-- This member is the driver: its role is shown, and who drives. -/
def setRole (s : State) (role : Nat) : State :=
  let s1 := modRed (wr s F.devRedStat_EROLE 0 role) (fun r => { r with drives := decide (role = roleDriver) })
  if role = roleDriver then wr s1 F.devRedStat_DRIVER 0 (rd s F.devFabStat_NODE_ID 0) else s1

/-- A member reports that it drives. -/
def driverOf (s : State) : Option Nat := (memberIds s).find? (fun k => decide ((mem s k).role = roleDriver))

/-- Axes with a binding. -/
def boundAxes (s : State) : List Nat := (List.range 48).filter (bound s)

/-! ## The interlock (R345) -/

/-- STRAP_ERR is clear and every bound axis has agreed 16 times in a row. -/
def ownInterlock (s : State) : Bool :=
  decide (redKind s = 0)
    || (!rdB s F.devRedStat_STRAP_ERR 0 && (boundAxes s).all (fun n => decide (16 ≤ rd s F.axCkStat_AGREE_RUN n)))

/-- The redundancy interlock of R80. -/
def redInterlock (s : State) : Bool :=
  ownInterlock s && (match redKind s with
    | 1 => rdB s F.devRedStat_OK_IN 0 && isUp s (memberPort s 0)
    | 2 => !(present s).isEmpty
    | _ => true)

/-- TWIN_OK_OUT: in STANDBY, RUN, HOLD and FOLLOW, while the member's own part of the interlock holds and no mismatch has
been found. -/
def okOut (s : State) : Bool :=
  let m := mode s
  decide (redKind s ≠ 0) && (decide (5 ≤ m ∧ m ≤ 7) || decide (m = mFollow)) && ownInterlock s && !s.red.bad

/-- The member whose TWIN_OK_OUT feeds TWIN_OK_IN: the peer of a twin; in a triad the next lower node, the lowest taking
the highest (R339). -/
def okSource (s : State) : Option Nat :=
  match redKind s with
  | 1 => some 0
  | 2 =>
    let me := voterNode s 2
    let a := voterNode s 0
    let b := voterNode s 1
    let low := fun x => decide (x < me)
    if low a && low b then some (if a < b then 1 else 0)
    else if low a then some 0
    else if low b then some 1
    else some (if a < b then 1 else 0)
  | _ => none

/-- The pins and the status follow. -/
def showRed (s : State) : State :=
  if redKind s = 0 then s
  else
    let s1 := wrB s F.devRedStat_OK_OUT 0 (okOut s)
    let s2 := match okSource s1 with | some k => wrB s1 F.devRedStat_OK_IN 0 (mem s1 k).okOut | none => s1
    let s3 := wrB s2 F.devRedStat_LINK_A 0 (isUp s2 (memberPort s2 0))
    wrB s3 F.devRedStat_LINK_B 0 (decide (redKind s3 = 2) && isUp s3 (memberPort s3 1))

/-- STATUS. -/
def recStatus (s : State) : List Byte :=
  [8] ++ leBytes 1 (mode s) ++ leBytes 1 (rd s F.devRedStat_EROLE 0)
    ++ leBytes 1 (b2n (okOut s) + 2 * rd s F.devRedStat_ODD 0 + 4 * rd s F.devRedStat_RESYNC 0) ++ [0, 0, 0, 0]

/-! ## Checkpoints (R332, R333, R343) -/

/-- State words of a PID loop. -/
def pidWords (p : Pid) : List Int := [p.i, p.df, p.ePrev, p.mPrev, p.u, p.sat, b2n p.fresh]

/-- State words of a loop. -/
def loopWords (st : LoopSt) : List Int :=
  [st.iD, st.iQ, st.satD, st.satQ, st.vD0, st.vQ0, st.vD, st.vQ, st.ffD, st.ffQ, b2n st.curFresh, st.id, st.iq, st.idRef,
    st.iqRef, st.ia, st.ib] ++ pidWords st.vel ++ pidWords st.pos ++ pidWords st.skew ++ pidWords st.velB
  ++ [st.iqRefB, st.limX, st.limV, st.limA, b2n st.limFresh, st.tgtA, st.tgtB, st.gearM0, st.gearG0, st.vh, st.resid,
    st.plCnt, b2n st.plDone, st.posErr]

/-- A PID loop from its words. -/
def pidOf (ws : List Int) : Pid :=
  let g := fun i => ws.getD i 0
  ⟨g 0, g 1, g 2, g 3, g 4, g 5, g 6 == 1⟩

/-- A loop from its words. -/
def loopOf (ws : List Int) : LoopSt :=
  let g := fun i => ws.getD i 0
  { iD := g 0, iQ := g 1, satD := g 2, satQ := g 3, vD0 := g 4, vQ0 := g 5, vD := g 6, vQ := g 7, ffD := g 8, ffQ := g 9,
    curFresh := g 10 == 1, id := g 11, iq := g 12, idRef := g 13, iqRef := g 14, ia := g 15, ib := g 16,
    vel := pidOf (ws.drop 17), pos := pidOf (ws.drop 24), skew := pidOf (ws.drop 31), velB := pidOf (ws.drop 38),
    iqRefB := g 45, limX := g 46, limV := g 47, limA := g 48, limFresh := g 49 == 1, tgtA := g 50, tgtB := g 51,
    gearM0 := g 52, gearG0 := g 53, vh := g 54, resid := g 55, plCnt := (g 56).toNat, plDone := g 57 == 1, posErr := g 58 }

/-- The device checkpoint set: the lane checkpoint set, then phi, ecount, omega and t_prev. A T3 axis has no loop. -/
def ckptWords (s : State) (n : Nat) : List Int :=
  let k := (ax s n).trk
  [(k.phi : Int), k.ecount, k.omega, k.tPrev] ++ (if template s n = 3 then [] else loopWords (ax s n).loop.st)

/-- An axis takes a device checkpoint set. -/
def loadCkpt (s : State) (n : Nat) (ws : List Int) : State :=
  let g := fun i => ws.getD i 0
  let s1 := setAx s n { ax s n with trk := { (ax s n).trk with
    phi := (g 0).toNat, ecount := g 1, omega := g 2, tPrev := g 3 } }
  if template s n = 3 then s1 else modLoop s1 n (fun l => { l with st := loopOf (ws.drop 4) })

/-! ## Reactions (R346 to R348) -/

/-- SAFESTOP with cause 13. -/
def redStop (s : State) : State := trigger s mSafestop 13 none

/-- A twin finds a mismatch. -/
def twinMismatch (s : State) (n : Nat) : State :=
  let s1 := twinAll (modRed s (fun r => { r with bad := true })) (recRelease 2)
  redStop (raiseD (incSat s1 F.devRedCnt_DEV_MM 0) 0x84 n)

/-- No majority. -/
def noMajority (s : State) : State := redStop (modRed s (fun r => { r with bad := true }))

/-- An odd driver is released: every axis trips, gates and DRV_EN go low (R348). -/
def releaseSelf (s : State) : State :=
  if s.red.drives then
    let s1 := forAxes (fun t n =>
      if axMode t n = aDisabled ∨ axMode t n = aTripped then t else lowGates (enterTripped t n 5) n) s
    wr (setRole (wantDrv s1 0) roleReleased) F.devRedStat_RELEASED 0 1
  else s

/-- Drive passes only from a driver in RUN or HOLD. -/
def driveModes (m : Nat) : Bool := decide (m = mRun ∨ m = mHold)

/-- The lowest-ID member of a list of members. -/
def lowestVoter (s : State) (ks : List Nat) : Option Nat :=
  match minOf (ks.map (voterNode s)) with
  | some i => ks.find? (fun k => voterNode s k == i)
  | none => none

/-- The device checkpoint set of every bound axis goes to a member, in chunks of 26 words, then its excitation mode, which the
member takes at its next boundary (R98, R344, R349). -/
def sendSnap (s : State) (k : Nat) : State :=
  (boundAxes s).foldl (fun t n =>
    let ws := ckptWords t n
    (List.range ((ws.length + 25) / 26)).foldl (fun u i =>
      twinPut u k (recSnap n ((ax u n).pwm.j % 65536) (26 * i) ((ws.drop (26 * i)).take 26)))
      t |> fun u => twinPut u k (recCtrl n (ax u n).pwm.j (objKey .axExcCtl n) (b2n (inSine u n)))) s

/-- This member begins to take drive: it holds what the old driver drove (R348). -/
def startHandover (s : State) (hold : Bool) : State :=
  let ms := ((List.range 48).filter (driving s)).map (fun n => (n, axMode s n))
  modRed s (fun r => { r with hand := some ⟨rd s F.devDrvStat_MON 0, [0, 0, 0, 0], ms, hold, false⟩ })

/-- The vote has found this member odd. -/
def selfOdd (s : State) : State :=
  let s1 := raiseD (wr s F.devRedStat_ODD 0 1) 0x86 (voterNode s 2)
  let s2 := forAxes (fun t n => wr t F.axCkStat_AGREE_RUN n 0) s1
  let s3 := if rdB s2 F.devRedStat_RESYNC 0 then raiseD s2 0x89 0 else s2
  let s4 := modRed (wr s3 F.devRedStat_RESYNC 0 1) (fun r => { r with snap := [], loaded := [], kept := [] })
  if s4.red.drives && driveModes (mode s4) then releaseSelf s4 else s4

/-- The vote has found another member odd: a driver is asked to release, and the lowest-ID member in agreement takes its
place and resynchronises it. -/
def otherOdd (s : State) (k : Nat) : State :=
  let wasDriver := decide ((mem s k).role = roleDriver) && driveModes (mem s k).mode
  let agreeing := 2 :: (memberIds s).filter (fun i => decide (i ≠ k) && (mem s i).present)
  let first := decide (lowestVoter s agreeing = some 2)
  let s1 := if wasDriver then twinPut s k (recRelease 1) else s
  let s2 := if wasDriver && first && decide (mode s1 = mFollow) then startHandover s1 (decide ((mem s k).mode = mHold)) else s1
  if first then sendSnap s2 k else s2

/-- A member is odd (R347). -/
def setOdd (s : State) (k : Nat) : State :=
  if s.red.hand.isSome && decide (k = 2) then redStop (modRed s (fun r => { r with hand := none }))
  else
    let s1 := modRed (incSat s F.devRedCnt_DEV_MM 0) (fun r => { r with odd := some k, bad := r.bad || decide (k = 2) })
    if k = 2 then selfOdd s1 else otherOdd s1 k

/-- One more agreeing comparison (R343). -/
def agreeRun (s : State) (n : Nat) : State := incSat s F.axCkStat_AGREE_RUN n

/-- A disagreeing one. -/
def disagree (s : State) (n : Nat) : State := wr (wr s F.axCkStat_AGREE_RUN n 0) F.axCkStat_CLASS n 4

/-- The resync of this member is done once every bound axis has agreed 16 times in a row (R349). -/
def resyncDone (s : State) : State :=
  if rdB s F.devRedStat_ODD 0 && (boundAxes s).all (fun n => decide (16 ≤ rd s F.axCkStat_AGREE_RUN n)) then
    let s1 := wr (wr s F.devRedStat_ODD 0 0) F.devRedStat_RESYNC 0 0
    raiseD (incSat (modRed s1 (fun r => { r with odd := none, bad := false, snap := [], loaded := [], kept := [] }))
      F.devRedCnt_RESYNCS 0) 0x88 0
  else s

/-- A comparison of a triad: who is counted are the members that are not odd. -/
def vote (s : State) (n : Nat) (votes : List (Nat × Nat)) : State :=
  let counted := votes.filter (fun v => s.red.odd != some v.1)
  let oddCrc := (votes.find? (fun v => s.red.odd == some v.1)).map (·.2)
  match counted with
  | [a, b, c] =>
    if a.2 = b.2 ∧ b.2 = c.2 then agreeRun s n
    else if a.2 = b.2 then setOdd (disagree s n) c.1
    else if a.2 = c.2 then setOdd (disagree s n) b.1
    else if b.2 = c.2 then setOdd (disagree s n) a.1
    else noMajority (disagree s n)
  | [a, b] =>
    if a.2 = b.2 then
      if s.red.odd = some 2 then
        (if oddCrc = some a.2 then resyncDone (agreeRun s n) else disagree s n)
      else agreeRun s n
    else if s.red.odd = some 2 then s
    else noMajority (disagree s n)
  | _ => s

/-- The checkpoint of (axis, j) a member has sent. -/
def ckOf (cks : List Ckpt) (n j : Nat) : Option Ckpt := cks.find? (fun c => c.axis == n && c.j == j)

/-- The records of one axis up to a comparison leave. -/
def dropCks (n : Nat) (c : Ckpt) (cks : List Ckpt) : List Ckpt :=
  cks.filter (fun x => x.axis != n || decide ((x.j + 65536 - c.j) % 65536 - 1 < 32767))

/-- A comparison is made once the records of every present member have arrived (R343). -/
def compareCk (s : State) (n j : Nat) : State :=
  let ps := present s
  match ckOf s.red.own n j with
  | none => s
  | some own =>
    let got := ps.filterMap (fun k => (ckOf (mem s k).cks n j).map (fun c => (k, c.crc)))
    if ps.isEmpty ∨ got.length ≠ ps.length then s
    else
      let s1 := modRed s (fun r => { r with own := dropCks n own r.own })
      let s2 := ps.foldl (fun t k => modMem t k (fun m => { m with cks := dropCks n own m.cks })) s1
      showRed (if redKind s2 = 1 then
          (if got.all (fun v => v.2 == own.crc) then agreeRun s2 n else twinMismatch (disagree s2 n) n)
        else vote s2 n (got ++ [(2, own.crc)]))

/-- Records kept for comparisons to come, at most. -/
def keepCks (cks : List Ckpt) : List Ckpt := cks.drop (cks.length - 4096)

/-- This member forms and sends the device checkpoint of axis `n` (R343). An odd member that has not loaded the axis yet
sends none. -/
def formCkpt (s : State) (n j : Nat) : State :=
  if redKind s = 0 || !bound s n || (rdB s F.devRedStat_RESYNC 0 && !s.red.loaded.contains n) then s
  else
    let c : Ckpt := ⟨n, j % 65536, Config.checkpoint (ckptWords s n) % 2 ^ 32⟩
    compareCk (twinAll (modRed s (fun r => { r with own := keepCks (r.own ++ [c]) })) (recCkpt c)) n (j % 65536)

/-- A member's checkpoint arrives. -/
def takeCkpt (s : State) (k : Nat) (c : Ckpt) : State :=
  compareCk (modMem s k (fun m => { m with cks := keepCks (m.cks ++ [c]) })) c.axis c.j

/-! ## What the driver sends at a load point (R341) -/

/-- The driver sends what an evaluation came to: the axis's mode where it has changed, the set-point taken, the
measurement and the outcome, then its checkpoint. -/
def twinSend (s : State) (n : Nat) (d : TwinDue) : State :=
  let v := getObj s .axMode n
  let s1 := if mget 0 s.red.sentMode n = v then s
    else modRed (tellObj s n d.j .axMode n) (fun r => { r with sentMode := mset 0 r.sentMode n v })
  let s2 := match d.take with
    | some (kind, val) => twinTell s1 (recInput n d.j 0 (leBytes 8 kind ++ leBytes 8 val))
    | none => s1
  let s3 := twinTell (modRed s2 (fun r => { r with due := mdel r.due n })) (recCur n d)
  formCkpt s3 n d.j

/-- Nothing of an evaluation is still to run. -/
def settled (s : State) (n : Nat) : Bool := (ax s n).loop.compl.isNone && (ax s n).loop.retry.isNone

/-- A load point of the driver passes (R341, R343). -/
def twinPass (s : State) (n : Nat) : State :=
  if isDriver s && bound s n then
    let j := (ax s n).pwm.j % 65536
    let d : TwinDue := { mget ⟨0, 6, 0, 0, 0, none, false⟩ s.red.due n with j := j, passed := true }
    if settled s n then twinSend s n d else noteDue s n d
  else s

/-- A completion that ran after its load point. -/
def twinLate (s : State) (n : Nat) : State :=
  match s.red.due.find? (fun x => x.1 == n) with
  | some (_, d) => if d.passed && settled s n then twinSend s n d else s
  | none => s

/-! ## Absence (R340, R343, R346, R347) -/

/-- A member is absent; in a triad whose other two are present and agree it is odd. -/
def memberAbsent (s : State) (k : Nat) : State :=
  if (mem s k).present then
    let s1 := modMem s k (fun m => { m with present := false, cks := [], out := [] })
    let s2 := s1.red.own.foldl (fun t c => compareCk t c.axis c.j) s1
    showRed (if redKind s2 = 2 ∧ s2.red.odd = none then
        (if (present s2).isEmpty then noMajority s2 else setOdd s2 k)
      else if redKind s2 = 2 ∧ s2.red.odd ≠ some k then noMajority s2
      else s2)
  else s

/-- A twin link is lost: its member is absent; a twin in RUN or HOLD stops, or its primary goes on unchecked. -/
def twinLost (s : State) (p : Nat) : State :=
  match (memberIds s).find? (fun k => memberPort s k == p) with
  | none => s
  | some k =>
    let s1 := memberAbsent s k
    if redKind s1 = 1 && driveModes (mode s1) then
      if rdB s1 F.devRedCfg_LINK_REACT 0 then raiseD (wr s1 F.devRedStat_UNCHECKED 0 1) 0x85 p
      else redStop s1
    else s1

/-- Twin links that were UP and are no longer (R340). -/
def twinCheck (old s : State) : State :=
  (twinPorts s).foldl (fun t p => if isUp old p && !isUp t p then twinLost t p else t) s

/-! ## Release and handover (R346, R348) -/

/-- A RELEASE: the old driver of a triad is released; a twin stops. -/
def takeRelease (s : State) (reason : Nat) : State :=
  if reason = 1 then
    (if redKind s = 2 ∧ s.red.drives ∧ driveModes (mode s) then releaseSelf s else s)
  else redStop s

/-- The designated member samples the driver monitor: release is verified once every group has read low twice in a row. -/
def handSample (s : State) (pins : Nat) : State :=
  match s.red.hand with
  | none => s
  | some h =>
    if h.verified then s
    else
      let low := (List.range 4).map (fun g => if bit pins g then 0 else h.low.getD g 0 + 1)
      let ok := (List.range 4).all (fun g => !bit h.groups g || decide (2 ≤ low.getD g 0))
      let s1 := modRed s (fun r => { r with hand := some { h with low := low, verified := ok } })
      if ok then trigger s1 mRun 13 none else s1

/-! ## Set-point pushes to a follower (R341) -/

/-- A set-point record of an axis whose pair task the plan has put on another device is forwarded there too (R28). -/
def forwardSet (s : State) (q : Nat) (r : List QWord) : State :=
  if isSetQ q then
    modFab s (fun f => { f with routes := f.routes.map (fun x =>
      if x.use = .setPoint ∧ x.src = rd s F.devFabStat_NODE_ID 0 ∧ x.srcAxis = (q - 0x100) / 4 then
        { x with wait := x.wait ++ [hwBytes (r.map Prod.fst)] } else x) })
  else s

/-- A record pushed for a set-point queue of a follower goes to its driver; every other push commits here. -/
def pushFor (s : State) (port q prio : Nat) (r : List QWord) : State × Bool :=
  if isFollower s && isSetQ q then
    match driverOf s with
    | some k =>
      let n := (q - 0x100) / 4
      (twinPut s k (recInput n (ax s n).pwm.j 0 (hwBytes (r.map Prod.fst))), true)
    | none => (s, false)
  else
    let p := qPush s port q prio r
    (if p.2 then forwardSet p.1 q r else p.1, p.2)

end Sys2Proof.Machine
end

