-- ==== Sys2Proof/Machine/Spec.lean ====
section
/-!
DEFINITION. Run-ahead commit (spec/08_run_ahead_commit.md, R194 to R217) with the lane comparators it meets (R330 to R335)
and the reactions of a committed evaluation (R167, R176, R190).
-/

namespace Sys2Proof.Machine

/-! ## Inputs of an evaluation (R169, R198, R201) -/

/-- The partner's data of this velocity period have arrived (R211). -/
def pairArrived (s : State) (n j : Nat) : Bool :=
  (pairLocal s n).isSome ||
    (match (ax s n).loop.remote with
     | some r => decide (2 * ((ax s n).pwm.loadAt - curTicks s n * vdivOf s n) ≤ r.got) || decide (j = 0)
     | none => false)

/-- What the evaluation that follows load point `j` does (R169). -/
def kindAt (s : State) (n j : Nat) : EvKind :=
  let m := parAxis s n
  { mode := axMode s n, doVel := decide (j % vdivOf s m = 0), doPos := decide (j % (vdivOf s m * pdivOf s m) = 0),
    held := rdB s F.axMode_HELD n, stopping := rdB s F.axMode_STOPPING n, j := j, pairOk := pairArrived s n j }

/-- The axis holds in the brake manner: no loop is evaluated (R166, R194). -/
def braked (s : State) (n : Nat) : Bool := rdB s F.axMode_HELD n && rdB s F.axLoopCfg_HOLD_KIND (parAxis s n)

/-- HOLD_KIND changed from brake to zero current in a hold: the current loop of the axis, and of the partner it serves, starts from
rest (R166, R183). -/
def unbrake (s : State) (n : Nat) : State :=
  (pairAxes s n).foldl (fun t k =>
    if (ax t k).pwm.brake && rdB t F.axMode_HELD k && !braked t k then
      modLoop t k (fun l => { l with st := { l.st with vD := 0, vQ := 0, curFresh := true } })
    else t) s

/-- Axis `n` has evaluations now (R194). -/
def evaluates (s : State) (n : Nat) : Bool :=
  driving s n && (ax s n).pwm.active && decide ((ax s n).pwm.loadAt ≠ 0) && decide (template s n ≠ 3) && !braked s n

/-- Fabric time of a tick in ns. -/
def tickNs (s : State) (t : Nat) : Nat := ((t * 2 ^ 34 : Nat) + s.ctl.ofs : Int).toNat / (3 * 2 ^ 32)

/-! ## Misses (R209 to R211) -/

/-- Counters and event of a missed deadline. -/
def countMiss (s : State) (n cause : Nat) : State :=
  let s1 := addWrap (incSat s F.axSpecCnt_MISSES n) F.devSpecTot_MISS_TOT 0 1
  raise (wr s1 F.axSpecStat_MS_CAUSE n cause) 0x44 n cause

/-- An evaluation misses: nothing advances, the run is counted, and the limit trips (R209, R210). -/
def missEval (s : State) (n cause load : Nat) : State :=
  let s1 := modLoop s n (fun l => { l with spec := none, slow := none, decided := load, wasLate := false })
  let s2 := noteDue (wr (incSat (countMiss s1 n cause) F.axSpecStat_MISS_RUN n) F.axSpecStat_LAST_MISS n 1) n
    ⟨0, cause + 1, 0, 0, 0, none, false⟩
  let s3 := settlePresets s2 n
  if rd s3 F.axSpecCtl_MISS_LIMIT n ≤ rd s3 F.axSpecStat_MISS_RUN n then laneTrip s3 n 4 else s3

/-- The pair part of an evaluation whose exchange is missing (R211). -/
def pairMiss (s : State) (n : Nat) (k : EvKind) : State :=
  if roleOf s n = 1 && k.outer && k.doVel && !k.pairOk then
    let s1 := incSat (countMiss s n 4) F.axSpecStat_PAIR_RUN n
    if rd s1 F.axSpecCtl_MISS_LIMIT n ≤ rd s1 F.axSpecStat_PAIR_RUN n then laneTrip s1 n 4 else s1
  else s

/-! ## Lane comparators (R330, R334, R335) -/

/-- Lane of an axis in the accepted plan; without one, its twelve neighbours share a lane. -/
def laneOf (s : State) (n : Nat) : Nat := mget (n / 12) s.place.lanes n

/-- Class of a disagreement: found at a commit compare, or at a lane checkpoint (R334). -/
def mismatchClass (commit : Bool) (c : Cmp) : Nat := if c = .parity then 3 else if commit then 1 else 2

/-- A comparison disagrees (R330, R335). -/
def laneMismatch (s : State) (n : Nat) (commit : Bool) (c : Cmp) : State :=
  let k := mismatchClass commit c
  let s1 := if c = .fault then trigger (raiseD s 0x80 (laneOf s n)) mSafestop 10 none else s
  let s2 := if k = 3 then incSat s1 F.axCkStat_DRP_CNT n else incSat s1 F.axCkStat_MM_CNT n
  let s3 := raise (wr (incSat s2 F.axCkStat_MM_RUN n) F.axCkStat_CLASS n k) 0x81 n k
  if 3 ≤ rd s3 F.axCkStat_MM_RUN n then laneTrip s3 n 5 else s3

/-- An agreeing lane checkpoint ends the run (R335). -/
def laneAgree (s : State) (n : Nat) : State := wr s F.axCkStat_MM_RUN n 0

/-! ## The precompute (R196 to R200) -/

/-- Predicted dq currents for the next evaluation (R197): v_d is applied before the circle limit of v_q, v_q before that limit. -/
def predCur (s : State) (n : Nat) (p : LoopPar) : Int × Int :=
  let st := (ax s n).loop.st
  let e := min 4 ((ax s n).loop.since + 1)
  let km := rdS s F.axSpecModel_KM n
  let kr := rdS s F.axSpecModel_KR n
  let a := rd s F.axSpecModel_SH_KM n
  let b := rd s F.axSpecModel_SH_KR n
  (curModel km kr a b st.vD st.ffD e st.id, if p.isT1 then 0 else curModel km kr a b st.vQ0 st.ffQ e st.iq)

/-- The free remainder coefficients from number `k` on. -/
def Remainder.free (k : Nat) : Remainder :=
  ⟨Config.freeNat k, Config.freeNat (k + 1), Config.freeNat (k + 2), Config.freeNat (k + 3)⟩

/-- The load point that follows the last one. -/
def loadAfter (s : State) (n : Nat) : Nat := nextLoad (ax s n).pwm ((ax s n).pwm.loadAt + 1)

/-- The speculation record of the evaluation that commits at the next load point, with the parameters in force at the last. -/
def precomputed (s : State) (n : Nat) : Spec :=
  let pw := (ax s n).pwm
  let load := loadAfter s n
  let k := kindAt s n pw.j
  let p := (ax s n).loop.par
  let c := predCur s n p
  let m := evIn s n (strobeFor s n load) c.1 c.2 0
  let t := spRun s n k (tickNs s pw.loadAt)
  let o := evalDq p k m c t.value (ax s n).loop.st
  let g := evalL (loopPP s n p) p k m c t.value (ax s n).loop.st []
  { load := load, kind := k, par := p, pred := m, take := t, wU := o.w.1, wV := o.w.2.1, wW := o.w.2.2,
    sU := rowOf g.1.1, sV := rowOf g.1.2.1, sW := rowOf g.1.2.2, guards := g.2, rem := Remainder.free s.ctl.freeCnt,
    st := o.st, step := (ax s n).loop.steps }

/-- A precompute may run: the axis evaluates, the load point before has passed, and nothing of its evaluation is still to run
(R196, R206). -/
def mayPrecompute (s : State) (n : Nat) : Bool :=
  let l := (ax s n).loop
  evaluates s n && l.compl.isNone && l.slow.isNone && l.retry.isNone
    && decide (l.decided + curTicks s n / 2 < loadAfter s n)

/-- PRECOMPUTE: the lane fills its speculation record (R196). -/
def execPrecompute (n : Fin 48) (s : State) : Out := clocked s <|
  if mayPrecompute s n then
    let r := precomputed s n
    done (pairMiss (modLoop (draws s 4) n (fun l => { l with spec := some r })) n r.kind)
  else done s

/-! ## Deadlines (R195, R206) -/

/-- Largest shortening of `c` cycles that the spread allows (R223). -/
def sscShort (s : State) (c : Nat) : Nat :=
  match s.prot.ssc with
  | 1 => (c + 399) / 400
  | 2 => (c + 199) / 200
  | 3 => (c + 99) / 100
  | _ => 0

/-- Load points from the last one to `load`; a lengthened period (R221) is one. -/
def loadsTo (s : State) (n load : Nat) : Nat :=
  let h := max 1 (curTicks s n)
  1 + (load - loadAfter s n + h / 2) / h

/-- P̂ of R195, in cycles: the token arrives 2 to 3 cycles after its load point. -/
def pHat (s : State) (n load : Nat) : State × Int :=
  let b := drawBool s
  let c := 2 * curTicks s n * loadsTo s n load
  (b.1, (2 * (ax s n).pwm.loadAt : Nat) - (b2n b.2 : Int) + (c - sscShort s c : Nat))

/-- A mailbox write that starts at cycle `c` meets the deadline (R195). -/
def meets (s : State) (n load : Nat) (c : Int) : State × Bool :=
  let p := pHat s n load
  (p.1, decide (c + 24 ≤ p.2))

/-! ## Committed evaluations (R199, R213, R214) -/

/-- A commit enters the mailbox, or replaces one for its load point (R22). -/
def putBox (c : Commit) : List Commit → List Commit
  | [] => [c]
  | x :: xs => if x.load = c.load then c :: xs else x :: putBox c xs

/-- An evaluation commits: duties into the mailbox, runs of misses end (R22, R210). What it replaces is kept until the timer has
taken it. -/
def commit (s : State) (n : Nat) (e : Eval) (late : Bool) : State :=
  let s1 := modPwm s n (fun p => { p with box := putBox ⟨e.du, e.dv, e.dw, e.load, e.take⟩ p.box })
  let s2 := modLoop s1 n (fun l =>
    { l with
      spec := none, slow := none, decided := e.load, wasLate := late,
      back := some ⟨l.st, l.du, l.dv, l.dw, l.wasLate, l.last, getObj s .axLoopStat n % 16⟩ })
  wr (wr s2 F.axSpecStat_MISS_RUN n 0) F.axSpecStat_LAST_MISS n 0

/-- The plausibility count has been reached: counter, flag, event and reaction (R190). A T2 partner takes PL_REACT from its own
LOOP_CFG, as its other fields come from the primary's (DESIGN CHOICE, log 96). -/
def plausReact (s : State) (n : Nat) (r : Int) : State :=
  let s1 := raise (stick (incSat s F.axLoopStat_PLAUS_CNT n) F.axLoopStat_PLAUS n) 0x43 n (tc 32 r)
  match rd s F.axLoopCfg_PL_REACT n with
  | 1 => trigger s1 mHold 10 none
  | 2 => trigger s1 mSafestop 10 none
  | _ => s1

/-- A pair that has been evaluated: PAIR_RUN ends, and a skew beyond SKEW_MAX trips both motors (R176, R211). It is judged where the
velocity loops ran, not in MANUAL or CURRENT (DESIGN CHOICE, log 97). -/
def pairReact (s : State) (n : Nat) (p : LoopPar) (o : EvOut) : State :=
  if p.role = 1 && o.ranVel then
    let s1 := wr s F.axSpecStat_PAIR_RUN n 0
    if p.l 15 < (absN o.skew : Int) then laneTrip (raise (stick s1 F.axLoopStat_SKEW n) 0x41 n 0) n 7 else s1
  else s

/-- What a pair's evaluation gives its partner on this device (R161, R176): the target of a record that fell due in MANUAL or
CURRENT, and iq_ref of the velocity loop. Until a record is due each motor stays at its own preset (R183, R184). -/
def pairShare (s : State) (n : Nat) (e : Eval) (o : EvOut) : State :=
  match pairLocal s n with
  | none => s
  | some b =>
    if e.par.role ≠ 1 then s
    else modLoop s b (fun l =>
      { l with
        st := if e.kind.mode ≤ 3 then
            (if e.take.value.isSome then { l.st with tgtA := o.st.tgtA, tgtB := o.st.tgtB } else l.st)
          else if o.ranVel then { l.st with idRef := 0, iqRef := o.st.iqRefB }
          else l.st })

/-- The state words an evaluation from `old` leaves where the pair task gave the partner `now` in the meantime: references and
targets given since it began stand. -/
def keepShared (old now new : LoopSt) : LoopSt :=
  let pick := fun (f : LoopSt → Int) => if f now = f old then f new else f now
  { new with idRef := pick (·.idRef), iqRef := pick (·.iqRef), tgtA := pick (·.tgtA), tgtB := pick (·.tgtB) }

/-- Stop completion: eight velocity boundaries in a row at rest, or both current references at 0 (R167). -/
def stopReact (s : State) (n : Nat) (p : LoopPar) (k : EvKind) (m : EvIn) (o : EvOut) : State :=
  if !k.stopping || !driving s n || decide (p.role = 2) then s
  else if k.mode = 3 then (if o.st.idRef = 0 ∧ o.st.iqRef = 0 then stopPair s n 8 else s)
  else if o.ranVel then
    let c := if o.st.limV = 0 ∧ (absN (loopV p m) : Int) ≤ p.l 14 then (ax s n).loop.stopCnt + 1 else 0
    let s1 := modLoop s n (fun l => { l with stopCnt := c })
    if 8 ≤ c then stopPair s1 n 8 else s1
  else s

/-- Flags of LOOP_STAT after an evaluation. -/
def loopFlags (s : State) (n : Nat) (k : EvKind) (o : EvOut) : State :=
  let s1 := wrB s F.axLoopStat_U_SAT n o.uSat
  let s2 := wrB s1 F.axLoopStat_V_SAT n (k.outer && decide (o.st.vel.sat ≠ 0))
  let s3 := wrB s2 F.axLoopStat_P_SAT n (k.posMode && decide (o.st.pos.sat ≠ 0))
  if (k.posMode && k.doPos) || (k.outer && !k.posMode && k.doVel) then wrB s3 F.axLoopStat_LIM_ACT n o.limAct else s3

/-- The state words advance with a committed evaluation, and what follows from it happens (R213). -/
def advance (s : State) (n : Nat) (e : Eval) (o : EvOut) : State :=
  let pl := if e.kind.doVel && !e.kind.held then plausible e.par e.inp o.st else (o.st, false)
  let s1 := modLoop s n (fun l =>
    { l with
      st := if e.par.role = 2 then keepShared e.st0 l.st pl.1 else pl.1, du := e.du, dv := e.dv, dw := e.dw, last := e.inp,
      spSeen := l.spSeen || e.take.value.isSome })
  let late := (ax s n).loop.wasLate || (ax s n).loop.exact
  let sp := e.take.value.map (fun v => (e.kind.mode - 2, v))
  let d : TwinDue := ⟨0, b2n late, e.inp.range + 4 * e.inp.range, e.inp.ia, e.inp.ib, sp, false⟩
  let s2 := noteDue (pairShare (loopFlags s1 n e.kind o) n e o) n d
  let s3 := if pl.2 then plausReact s2 n pl.1.resid else s2
  settlePresets (stopReact (pairReact s3 n e.par o) n e.par e.kind e.inp o) n

/-- The evaluation of a decided record on the committed state words it started from (R206, R213). -/
def evalOf (e : Eval) : EvOut := evalFull e.par e.kind e.inp e.take.value e.st0

/-! ## Telemetry (R30, R406) -/

/-- Bytes of a telemetry record for load point `j` at `ns`. -/
def telRecord (s : State) (n j ns : Nat) : List Byte :=
  let l := (ax s n).loop
  let drv := driving s n
  let pos := if drv then l.last.pos else posNow s n
  let spd := if drv then l.last.speed else (ax s n).trk.v
  let err := if 5 ≤ axMode s n ∧ axMode s n ≤ 6 then l.st.posErr else 0
  let flags := b2n (drv && rdB s F.axSpecStat_LAST_MISS n) + 2 * b2n (drv && l.wasLate) + 4 * b2n (tracked s n)
    + 8 * b2n (hasRef s n) + 16 * rd s F.axTrkStat_COASTING n + 32 * rd s F.axMode_HELD n
    + 64 * rd s F.axLoopStat_U_SAT n + 128 * rd s F.axLoopStat_LIM_ACT n + 256 * rd s F.axSpecStat_EXACT_ACT n
  leBytes 1 n ++ leBytes 1 (axMode s n) ++ leBytes 2 flags ++ leBytes 4 j ++ leBytes 8 ns
    ++ leBytes 6 (tc 64 pos / 2 ^ 16) ++ leBytes 2 0 ++ leBytes 4 (tc 32 spd) ++ leBytes 4 (tc 32 l.st.id)
    ++ leBytes 4 (tc 32 l.st.iq) ++ leBytes 2 l.du ++ leBytes 2 l.dv ++ leBytes 2 l.dw ++ leBytes 2 0
    ++ leBytes 4 (tc 32 err)

/-- A telemetry record is pushed. -/
def pushTel (s : State) (n j ns : Nat) : State := (qPushBytes s (laneOf s n % 4) (qTel n) (telRecord s n j ns)).1

/-- One period counts towards the decimation; a record that is due waits for a completion still to run (R30). -/
def telCount (s : State) (n j ns : Nat) : State :=
  if rdB s F.axTelCfg_EN n then
    let c := (ax s n).loop.telCnt + 1
    if rd s F.axTelCfg_D n ≤ c then
      let s1 := modLoop s n (fun l => { l with telCnt := 0 })
      if (ax s n).loop.compl.isSome then modLoop s1 n (fun l => { l with tel := some (j, ns) }) else pushTel s1 n j ns
    else modLoop s n (fun l => { l with telCnt := c })
  else s

/-- A record that waited for its completion is pushed. -/
def telFlush (s : State) (n : Nat) : State :=
  match (ax s n).loop.tel with
  | some (j, ns) => pushTel (modLoop s n (fun l => { l with tel := none })) n j ns
  | none => s

/-! ## The decision (R203 to R208, R216, R217) -/

/-- An output of a current chain is a measurement: valid, with the Clamp tag clear (R105, R126). -/
def curGood (y : Smp) : Bool := tValid y.tag && !tClamp y.tag

/-- The currents of the strobe a load point selects: IA, IB in fine LSB, the larger range code, and validity (R105,
R122). A T1 axis does not use IB (R172). -/
def selCurrents (s : State) (n : Nat) : Int × Int × Nat × Bool :=
  let f := (ax s n).flt
  match f.selA with
  | none => (0, 0, 0, false)
  | some a =>
    let one := decide (template s n = 1)
    (fine false a, fine false f.outB, if one then tRange a.tag else max (tRange a.tag) (tRange f.outB.tag),
      curGood a && (one || curGood f.outB) && !curRaw f.cfgCu)

/-- The measurement of an evaluation is valid: current, except in MANUAL, and angle, except for T1 in MANUAL and CURRENT
(R165, R208). -/
def measured (s : State) (n : Nat) (k : EvKind) (curOk : Bool) : Bool :=
  ((decide (k.mode = 2) && !k.held) || curOk) && ((decide (template s n = 1) && decide (k.mode ≤ 3)) || tracked s n)

/-- δ against a speculation record (R201): with no observer step since the precompute, dth and dv are 0 by its observer
identity. -/
def deviation (s : State) (n : Nat) (r : Spec) (m : EvIn) : Dev :=
  let dq := dqOf r.par m
  let manual := decide (r.kind.mode = 2) && !r.kind.held
  let still := decide (r.step = (ax s n).loop.steps)
  { d := if manual then 0 else wrapS 32 (dq.1 - r.pred.ia),
    q := if manual || r.par.isT1 then 0 else wrapS 32 (dq.2 - r.pred.ib),
    x := if still then 0 else wrapS 32 (wrapS 64 (m.praw - r.pred.praw) * loopPP s n r.par),
    s := if still then 0 else wrapS 32 (m.speed - r.pred.speed) }

/-- The pre-floor duties of the fast path (R203). -/
def fastWs (r : Spec) (δ : Dev) : Int × Int × Int := (fastW r.wU r.sU δ, fastW r.wV r.sV δ, fastW r.wW r.sW δ)

/-- Largest distance between the pre-floor duties of the fast and of the full evaluation. -/
def fastGap (a b : Int × Int × Int) : Nat := max (absN (a.1 - b.1)) (max (absN (a.2.1 - b.2.1)) (absN (a.2.2 - b.2.2)))

/-- ρ + q for a deviation (R204): what the free coefficients give, and at least the error they bound (R202, R217). -/
def remainderOf (r : Spec) (δ : Dev) (full : Int × Int × Int) : Nat := max (r.rem.gives δ) (fastGap (fastWs r δ) full)

/-- The cause of a squash in table order, 0 for none (R204); a disagreement of the copies comes first (R215). `full` holds the
pre-floor duties of the full evaluation. -/
def squashCause (s : State) (n : Nat) (spec : Option Spec) (m : EvIn) (full : Int × Int × Int) (cmp : Cmp) : Nat :=
  match spec with
  | none => if cmp = .agree then 1 else 6
  | some r =>
    let δ := deviation s n r m
    let lim : Int := (rd s F.axSpecWin_IWIN n / 2 ^ m.range : Nat)
    let manual := decide (r.kind.mode = 2) && !r.kind.held
    if cmp ≠ .agree then 6
    else if !manual && (decide (lim < absN δ.d) || decide (lim < absN δ.q)) then 2
    else if (rd s F.axSpecWin_AWIN n * 65536 : Nat) < absN δ.x then 3
    else if !r.guards.all (guardHolds δ) then 4
    else if 2 ^ 15 ≤ remainderOf r δ full then 5
    else 0

/-- The data of a pair's partner and of a master are those the precompute took (R211). -/
def mateInputs (spec : Option Spec) (m : EvIn) : EvIn :=
  match spec with
  | some r => { m with xB := r.pred.xB, vB := r.pred.vB, mast := r.pred.mast }
  | none => m

/-- The slow path starts, or is a miss at once where it could not meet its load point (R206, R216). Its write would start
at `c`. -/
def startSlow (s : State) (n : Nat) (e : Eval) (c : Int) : State :=
  let t := meets s n e.load c
  if t.2 then modLoop t.1 n (fun l => { l with spec := none, slow := some e, decided := e.load })
  else missEval t.1 n 1 e.load

/-- A squash is counted (R206). -/
def countSquash (s : State) (n cause : Nat) : State :=
  wr (addWrap (incSat s F.axSpecCnt_SQUASHES n) F.devSpecTot_SQUASH_TOT 0 1) F.axSpecStat_SQ_CAUSE n cause

/-- The commit unit decides the evaluation of load point `load` from the strobe at `t` (R203 to R208, R216). -/
def decideEval (s : State) (n load : Nat) (t : Nat) (cmp : Cmp) : State :=
  let l := (ax s n).loop
  let spec := l.spec.filter (fun r => r.load == load)
  let k := match spec with
    | some r => r.kind
    | none => kindAt s n ((ax s n).pwm.j + loadsTo s n load - 1)
  let p := match spec with | some r => r.par | none => l.par
  let cur := selCurrents s n
  let m := mateInputs spec (evIn s n t cur.1 cur.2.1 cur.2.2.1)
  let c0 : Int := nowCyc s
  if !measured s n k cur.2.2.2 then missEval s n 2 load
  else
    let take := match spec with
      | some r => r.take
      | none => spRun s n k (tickNs s (ax s n).pwm.loadAt)
    let o := evalFull p k m take.value l.st
    let e : Eval :=
      { load := load, kind := k, par := p, inp := m, take := take, du := o.du, dv := o.dv, dw := o.dw, count := !l.exact,
        st0 := l.st }
    let s0 := if spec.isNone then pairMiss s n k else s
    if !driving s0 n then s0
    else if l.exact then startSlow s0 n e (c0 + 212)
    else
      match spec, squashCause s0 n spec m o.w cmp with
      | some r, 0 =>
        let w := fastWs r (deviation s0 n r m)
        let g := meets s0 n load (c0 + 32)
        let e1 := { e with du := dutyOf w.1, dv := dutyOf w.2.1, dw := if p.isT1 then 0 else dutyOf w.2.2 }
        if g.2 then modLoop (commit g.1 n e1 false) n (fun l => { l with compl := some e1 }) else missEval g.1 n 1 load
      | _, cause =>
        let s1 := countSquash s0 n cause
        let s2 := if cause = 6 then laneMismatch s1 n true cmp else s1
        if driving s2 n then startSlow s2 n e (c0 + 212) else s2

/-- FILTER_SLOT_READ: the filter engine takes a slot (R13 to R15, R116); a slot that a shortened frame left out has no read (R117).
The read of IB is cycle 0 of the evaluation whose
load point selects the strobe (R194). -/
def execFilterSlotRead (slot : Fin 200) (cmp : Cmp) (s : State) : Out := clocked s <|
  let r := slotRead s slot
  let n := slot.val / 4
  if noRead s slot then done s
  else if slot.val < 192 ∧ slot.val % 4 = 3 then
    match (ax r.1 n).loop.sel with
    | some load =>
      let s1 := modLoop r.1 n (fun l => { l with selAt := r.2.at_ })
      let given := (ax s1 n).loop.spec.any (fun x => x.load == load)
      if evaluates s1 n || (given && driving s1 n) then done (decideEval s1 n load r.2.at_ cmp) else done s1
    | none => done r.1
  else done r.1

/-- SLOW_PATH_DONE: the result is written if it still meets its load point, and the state has advanced; the copies
disagree: both are restored and the slow path runs again (R206, R207, R213, R334). -/
def execSlowPathDone (n : Fin 48) (cmp : Cmp) (s : State) : Out := clocked s <|
  let l := (ax s n).loop
  match l.slow with
  | none => done s
  | some e =>
    if l.compl.isSome || l.retry.isSome then done s
    else if cmp ≠ .agree then
      let s1 := laneMismatch s n true cmp
      done (if driving s1 n then startSlow s1 n e (nowCyc s + 180) else s1)
    else
      let t := meets s n e.load (nowCyc s)
      if t.2 then
        let o := evalOf e
        let e1 := { e with du := o.du, dv := o.dv, dw := o.dw }
        let s1 := if e.count then incSat t.1 F.axSpecCnt_LATE n else t.1
        done (laneAgree (advance (commit s1 n e1 true) n e1 o) n)
      else done (missEval t.1 n 1 e.load)

/-- The completion check: a duty that differs by more than 1 LSB from the committed one (R214). -/
def checkEquiv (s : State) (n : Nat) (e : Eval) (o : EvOut) : State :=
  let far := fun (a b : Nat) => decide (1 < absN ((a : Int) - b))
  if far e.du o.du || far e.dv o.dv || far e.dw o.dw then
    raise (incSat (stick s F.axSpecStat_EQV n) F.axSpecCnt_EQV_ERR n) 0x45 n 0
  else s

/-- COMPLETION: the state words advance, or both copies are restored and the run is repeated (R213, R214, R334). -/
def execCompletion (n : Fin 48) (cmp : Cmp) (s : State) : Out := clocked s <|
  match (ax s n).loop.compl with
  | none => done s
  | some e =>
    let o := evalOf e
    let s1 := modLoop s n (fun l => { l with compl := none })
    if cmp ≠ .agree then
      let s2 := laneMismatch s1 n false cmp
      done (if driving s2 n then modLoop s2 n (fun l => { l with retry := some e }) else s2)
    else done (twinLate (telFlush (laneAgree (advance (checkEquiv s1 n e o) n e o) n) n) n)

/-- LANE_RETRY: a completion run again after a disagreement (R334, R335). -/
def execLaneRetry (n : Fin 48) (cmp : Cmp) (s : State) : Out := clocked s <|
  match (ax s n).loop.retry with
  | none => done s
  | some e =>
    if cmp ≠ .agree then done (laneMismatch s n false cmp)
    else
      let o := evalOf e
      let s1 := modLoop s n (fun l => { l with retry := none })
      done (twinLate (telFlush (laneAgree (advance (checkEquiv s1 n e o) n e o) n) n) n)

/-- LATE_FLAG: the timer did not load a result that came too late: a miss with cause 3, and the lane discards its state
updates (R19, R209). -/
def execLateFlag (n : Fin 48) (s : State) : Out := clocked s <|
  match (ax s n).pwm.box with
  | [] => done s
  | c :: cs =>
    let s1 := modPwm s n (fun p => { p with box := cs })
    let s2 := modLoop (undoCommit s1 n) n (fun l =>
      { l with
        compl := l.compl.filter (fun e => e.load ≠ c.load), retry := l.retry.filter (fun e => e.load ≠ c.load),
        tel := none })
    done (missEval s2 n 3 c.load)

end Sys2Proof.Machine
end

