-- ==== Sys2Proof/Machine/Timer.lean ====
section
/-!
DEFINITION. The PWM timers at their load points, the axis events that fall on boundaries, the events of the trip logic
and of the driver monitor, and the samples of the crumb trace (spec/07_control_loops.md R164, R177, R178, R185, R191;
spec/09_pwm_protection.md; spec/14_redundancy.md R332).
-/

namespace Sys2Proof.Machine

/-! ## Timers (R219, R222, R224, R225, R228) -/

/-- Modes in which timers run: from STANDBY on until the device leaves the modes that may switch gates (R219). -/
def timerMode (m : Nat) : Bool := decide (5 ≤ m ∧ m ≤ 8)

/-- The configuration objects of a timer as they stand. -/
def loadConfig (s : State) (n : Nat) (p : AxPwm) : AxPwm :=
  { p with
    half := rd s F.axPwmTim_HALF n, phase := rd s F.axPwmTim_PHASE n, dual := rdB s F.axPwmCfg_DUAL n,
    dt := rd s F.axPwmCfg_DT n, minp := rd s F.axPwmCfg_MINP n }

/-- The timer of axis `n` becomes active; its first valley is the next of its grid (R219, R220). -/
def startTimer (s : State) (n : Nat) : State :=
  if (ax s n).pwm.active || !bound s n || decide (template s n = 3) then s
  else modPwm s n (fun p =>
    { loadConfig s n p with active := true, valley := nowTick s + gridGap s n (nowTick s), extra := 0, j := 0, loadAt := 0 })

/-- The timer stops: a safe gate state stays, other gates are low (R219, R232). -/
def stopTimer (s : State) (n : Nat) : State :=
  let s1 := modPwm s n (fun p => { p with active := false, box := [], brake := false, fed := false })
  if (ax s n).pwm.safe then s1 else lowGates s1 n

/-- Timers follow the device mode. -/
def updTimers (s : State) : State :=
  forAxes (fun t n => if timerMode (mode t) then startTimer t n else if (ax t n).pwm.active then stopTimer t n else t) s

/-- Compare value of a duty word (R225). -/
def compareOf (half duty : Nat) : Nat := duty * 4 * half / 2 ^ 16

/-- The low-side interval around a valley, between the falling edge of one high-side interval and the rising edge of the
next, is shorter than `lim` steps (R228). A compare value of 0 bounds no interval. -/
def shortLow (top lim fall rise : Nat) : Bool :=
  decide (0 < fall) && decide (0 < rise) && decide ((top - fall) + (top - rise) < lim)

/-- A half-bridge at a load point: new compare values and the decisions on the intervals they bound (R224, R228). `c` is
the value loaded; with none, the compare value that is active stays: that of the load point before (R225). -/
def phaseLoad (p : AxPwm) (peak : Bool) (c : Option Nat) (x : Phase) : Phase :=
  let top := 4 * p.half
  let lim := p.dt + p.minp
  if !p.dual then
    let v := c.getD x.fall
    { rise := v, fall := v, last := x.fall, removed := decide (2 * v < lim), filled := shortLow top lim x.fall v }
  else if peak then
    let v := c.getD x.rise
    { x with fall := v, removed := decide (x.rise + v < lim) }
  else
    let v := c.getD x.fall
    { x with rise := v, last := x.fall, filled := shortLow top lim x.fall v }

/-- The mailbox entry this load point takes: the first, unless it is for a later load point (R22). -/
def takeBox (p : AxPwm) (now : Nat) : Option Commit × List Commit :=
  match p.box with
  | c :: cs => if c.load ≤ now + p.half / 2 then (some c, cs) else (none, c :: cs)
  | [] => (none, [])

/-- What a load point does to the timer. -/
def timerLoad (s : State) (n : Nat) (peak : Bool) : State × Option Commit :=
  let now := nowTick s
  let p0 := (ax s n).pwm
  let p1 := if peak then p0
    else { loadConfig s n p0 with valley := now, extra := if s.prot.ssc = 0 then gridGap s n now else 0 }
  let b := takeBox p1 now
  let p2 := { p1 with
    box := b.2, j := if p1.loadAt = 0 then 0 else p1.j + 1, loadAt := now,
    u := phaseLoad p1 peak (b.1.map (fun c => compareOf p1.half c.du)) p1.u,
    v := phaseLoad p1 peak (b.1.map (fun c => compareOf p1.half c.dv)) p1.v,
    w := phaseLoad p1 peak (b.1.map (fun c => compareOf p1.half c.dw)) p1.w,
    fed := p1.fed || b.1.isSome }
  (modPwm s n (fun _ => p2), b.1)

/-! ## Words a template or mode does not use (R332) -/

/-- An unused loop's words. -/
def clearPid (_x : Pid) : Pid := Pid.reset

/-- The unused words of an axis are 0; words frozen by HOLD or TRIPPED stay. -/
def zeroUnused (s : State) (n : Nat) : State :=
  if rdB s F.axMode_HELD n || decide (axMode s n = aTripped) then s
  else
    let m := axMode s n
    let role := roleOf s n
    modLoop s n (fun l =>
      let a := if template s n = 1 then { l.st with iQ := 0, ffQ := 0, satQ := 0 } else l.st
      let b := if role = 1 then a else { a with skew := Pid.reset, velB := Pid.reset }
      let c := if role = 2 then { b with pos := Pid.reset } else b
      let d := if m = 2 ∨ m = 3 then { c with vel := Pid.reset, pos := Pid.reset, limX := 0, limV := 0 } else c
      { l with st := if m = 4 then { d with pos := Pid.reset, limX := 0 } else d })

/-! ## The load point of an axis -/

/-- A position set of a pair applies at a velocity boundary with both motors tracking; the position of a partner on another device
goes there with the next record of the pair (R177). -/
def pairApply (s : State) (n : Nat) : State :=
  match (ax s n).loop.pairSet with
  | none => s
  | some (a, b) =>
    if decide ((ax s n).pwm.j % vdivOf s n = 0) && allTracked s n then
      let at_ : Int := (ax s n).loop.selAt
      let set := fun (t : State) (k p : Nat) =>
        let q := predict t k at_
        let o := wrapS 64 (sx 64 p - posOf t k q.praw 0)
        wr (modTrk t k (fun x => { x with ofs := o })) F.axTrkStat_REF k 1
      let told := twinTell (twinTell s (recCtrl n (ax s n).pwm.j (objKey .axPairSet n) a))
        (recCtrl n (ax s n).pwm.j (objKey .axPairSet n) b)
      let s1 := modLoop (set told n a) n (fun l => { l with pairSet := none })
      match pairLocal s n with
      | some k => set s1 k b
      | none => modLoop s1 n (fun l => { l with pairSend := some b })
    else s

/-- The commit a load point took has taken effect: its records leave, its state stands (R199, R213). -/
def taken (s : State) (n : Nat) (c : Option Commit) : State :=
  match c with
  | none => modLoop s n (fun l => { l with since := l.since + 1 })
  | some x => spTake (modLoop s n (fun l => { l with since := 0, back := none })) n x.take

/-- An evaluation was due at this load point and none was decided: its strobe was not issued or not read (R117, R208). -/
def overdue (s : State) (n now : Nat) : Bool :=
  evaluates s n && decide ((ax s n).loop.decided + curTicks s n / 2 < now)

/-- A brake whose hold has ended, or has changed to zero current, gives way to the first duty committed after it (R166, R183). -/
def brakeEnds (s : State) (n : Nat) (took : Bool) : State :=
  if took && (ax s n).pwm.brake && !braked s n then modPwm s n (fun p => { p with brake := false }) else s

/-- The brake shows at the load point where the first evaluation that is not made would commit (R166, R215). -/
def brakeAt (s : State) (n now : Nat) : State :=
  if driving s n && braked s n && decide ((ax s n).loop.decided + curTicks s n / 2 < now) then
    dropEvals (modPwm s n (fun p => { p with brake := true })) n
  else s

/-- SHADOW_LOAD: a load point, or a peak in single update, of the timer of axis `n` (R169, R224, R225). -/
def execShadowLoad (n : Fin 48) (peak : Bool) (s : State) : Out := clocked s <|
  let p := (ax s n).pwm
  if !p.active || (peak && !p.dual) || s.prot.sscWait || s.pwr.pwmLost || s.pwr.coreLost then done s
  else
    let now := nowTick s
    let was := evaluates s n
    let r := timerLoad s n peak
    let s1 := if was || r.2.isSome then taken r.1 n r.2 else r.1
    let s2 := if was && overdue s1 n now then missEval s1 n 2 now else brakeEnds (brakeAt s1 n now) n r.2.isSome
    let s3 := if peak then s2 else curPeriod s2 n
    let ex := rdB s3 F.axSpecCtl_EXACT n
    let par := loopPar s3 n
    let s4 := wrB (modLoop s3 n (fun l => { l with exact := ex, par := par })) F.axSpecStat_EXACT_ACT n ex
    let s5 := telCount s4 n (ax s4 n).pwm.j (tickNs s4 now)
    done (twinPass (pairApply (zeroUnused s5 n) n) n)

/-! ## Events on boundaries -/

/-- AXIS_MODE_CHANGE: a granted request takes effect, or is refused where a condition has lapsed (R164). -/
def execAxisModeChange (n : Fin 48) (s : State) : Out := clocked s <|
  match (ax s n).loop.req with
  | none => done s
  | some (m, src) =>
    if mayEnter s n m then
      let s1 := modLoop s n (fun l => { l with req := none })
      done (answer (enterMode s1 n m 1) src .axMode n 0)
    else done (refuseReq s n)

/-- Loops a parameter word may belong to (R185). -/
inductive LoopName where
  | cur | vel | pos | lim
  deriving DecidableEq, Repr

/-- Loop of COEF[j]. -/
def coefLoop (j : Nat) : LoopName := if j < 4 then .cur else if j < 8 then .vel else if j < 12 then .pos else .vel

/-- Loop of a parameter word: the index tables of R185. -/
def wordLoop : ParamWord → LoopName
  | .coef j => coefLoop j.val
  | .shift g => coefLoop (4 * g.val + 3)
  | .lim j =>
    if j.val < 2 then .cur else if j.val < 6 then .vel else if j.val < 10 then .pos
    else if j.val < 12 then .lim else if j.val = 12 then .cur else .vel

/-- Object and instance of a parameter word of axis `n`. -/
def wordObj (n : Nat) : ParamWord → ObjId × Nat
  | .coef j => (.axCoef, coefIx n j.val)
  | .shift g => (.axShift, shiftIx n g.val)
  | .lim j => (.axLim, limIx n j.val)

/-- The loop that a word lands with in the mode of axis `n`; none where its loop is not evaluated (R185). -/
def landLoop (s : State) (n : Nat) (w : ParamWord) : Option LoopName :=
  let m := axMode s n
  let stop := rdB s F.axMode_STOPPING n
  let pos := decide (m = 5 ∨ m = 6) && !stop
  if !evaluates s n || rdB s F.axMode_HELD n then none
  else match wordLoop w with
    | .cur => if 3 ≤ m then some .cur else none
    | .vel => if 4 ≤ m then some .vel else none
    | .pos => if pos then some .pos else none
    | .lim => if pos then some .pos else if 4 ≤ m then some .vel else none

/-- Load point `j` is a boundary of the loop (R169). -/
def onBoundary (s : State) (n : Nat) (l : LoopName) (j : Nat) : Bool :=
  match l with
  | .cur => true
  | .vel => decide (j % vdivOf s n = 0)
  | _ => decide (j % (vdivOf s n * pdivOf s n) = 0)

/-- The head of the list may land now: at a boundary of its loop at least 1 µs after it became head; at a frame boundary
where its loop is not evaluated (R185). -/
def mayLand (s : State) (n : Nat) (w : PWrite) : Bool :=
  match landLoop s n w.word with
  | none => true
  | some l => onBoundary s n l (ax s n).pwm.j && decide (w.headAt.getD (nowNs s) + 1000 ≤ nowNs s)

/-- The parameters in force are those of now, for an axis and the partner it serves: a word has landed at a load point (R169). -/
def parNow (s : State) (n : Nat) : State :=
  (pairAxes s n).foldl (fun t k => let p := loopPar t k; modLoop t k (fun l => { l with par := p })) s

/-- PARAM_LANDING: the head of the list lands; the next becomes head (R185). At a boundary of its loop the word is in force for the
evaluation that follows; at a frame boundary from the next load point on (R169). -/
def execParamLanding (n : Fin 48) (s : State) : Out := clocked s <|
  match (ax s n).loop.pend with
  | [] => done s
  | w :: ws =>
    if mayLand s n w then
      let o := wordObj n w.word
      let s0 := setObj s o.1 o.2 w.val.toNat
      let s1 := tellObj (if (landLoop s n w.word).isSome then parNow s0 n else s0) n (ax s n).pwm.j o.1 o.2
      let ws1 := match ws with
        | x :: xs => { x with headAt := some (nowNs s) } :: xs
        | [] => []
      done (answer (modLoop s1 n (fun l => { l with pend := ws1 })) w.src o.1 o.2 0)
    else done s

/-- GEAR_DATA_LOST: a follower without data of its remote master takes its HOLD manner (R178). -/
def execGearDataLost (n : Fin 48) (s : State) : Out := clocked s <|
  if axMode s n = aGear ∧ !gearLocal s n ∧ !(ax s n).loop.gearHeld then
    let s1 := modLoop s n (fun l => { l with gearHeld := true, remote := none })
    done (raise (wr (wr s1 F.axMode_HELD n 1) F.axMode_GEAR_LOST n 1) 0x42 n 0)
  else done s

/-- OBSERVER_STEP: the step of one half-period becomes live (R141, R144); a T3 axis counts it for its telemetry and
its checkpoint (R30, R343). A follower runs on the driver's pairs, and keeps its own for the comparison (R342). -/
def execObserverStep (n : Fin 48) (s : State) : Out := clocked s <|
  if isFollower s then
    let p := takePair s n
    done (match p.2 with
      | some (m, _) => modRed p.1 (fun r => { r with pairs := mins r.pairs n (m.sin, m.cos) })
      | none => p.1)
  else if obsRuns s n then
    let s1 := if template s n = 3 then (let t := obsStep s n; formCkpt t n (ax t n).loop.steps) else obsStep s n
    done (if template s n = 3 then telCount s1 n (ax s1 n).loop.steps (nowNs s1) else s1)
  else done s

/-! ## Spread spectrum, trips, driver monitor -/

/-- SSC_SETTLED: a written spread takes effect (R223). -/
def execSscSettled (s : State) : Out := clocked s <|
  done { s with prot := { s.prot with ssc := rd s F.devPwmCfg_SSC 0, sscWait := false } }

/-- Bit of TRIP_STAT.CW_LIVE of a comparator edge. -/
def cwBit : TripSrc → Nat
  | .iaHi => 1
  | .iaLo => 2
  | .ibHi => 4
  | .ibLo => 8
  | .ext _ => 0

/-- The trip logic has no clock: it acts unless the internal reset holds everything (R12, R68). -/
def unclocked (s : State) (o : Out) : Out := if s.pwr.rst then done s else o

/-- TRIP_SOURCE_ONSET: a comparator or a TRIP input becomes active (R229 to R233). An input acts on every axis of its
mask. -/
def execTripSourceOnset (n : Fin 48) (kind : TripSrc) (s : State) : Out := unclocked s <|
  match kind with
  | .ext k =>
    done (forAxes (fun t m => if bit (rd t F.devTripIn_AXES k) m then tripCheck t m else t) (wr s F.devTripIn_LEVEL k 1))
  | c => done (tripCheck (wr s F.axTripStat_CW_LIVE n (rd s F.axTripStat_CW_LIVE n ||| cwBit c)) n)

/-- TRIP_SOURCE_END: a source is no longer active; a latch stays (R234). -/
def execTripSourceEnd (n : Fin 48) (kind : TripSrc) (s : State) : Out := unclocked s <|
  match kind with
  | .ext k => done (wr s F.devTripIn_LEVEL k 0)
  | c =>
    let v := rd s F.axTripStat_CW_LIVE n
    done (wr s F.axTripStat_CW_LIVE n (v &&& (15 - cwBit c)))

/-- SAFE_LOW_SIDE_ON: TDT after the latch, the low sides of an axis with SAFE = 1 turn on (R232). -/
def execSafeLowSideOn (n : Fin 48) (s : State) : Out := clocked s <|
  done (if (ax s n).pwm.safe && decide (rd s F.axPwmCfg_SAFE n = 1) then modPwm s n (fun p => { p with lowOn := true })
    else s)

/-- One group of the driver monitor: a difference that has lasted more than 10 µs is flagged (R236). -/
def monGroup (pins : Nat) (s : State) (g : Nat) : State :=
  if bit pins g = bit (rd s F.devDrvStat_EN 0) g then
    { s with prot := { s.prot with differ := mset 0 s.prot.differ g 0 } }
  else
    let c := min 13 (mget 0 s.prot.differ g + 1)
    let s1 := { s with prot := { s.prot with differ := mset 0 s.prot.differ g c } }
    if c = 12 then raiseD (stickMask s1 F.devDrvStat_MON_ERR 0 (2 ^ g)) 0x48 g else s1

/-- DRV_MON_SAMPLE: the driver monitor inputs, once in 1 µs (R236). -/
def execDrvMonSample (pins : BitVec 4) (s : State) : Out := clocked s <|
  done (handSample ((List.range 4).foldl (monGroup pins.toNat) (wr s F.devDrvStat_MON 0 pins.toNat)) pins.toNat)

/-! ## Trace samples (R191) -/

/-- The last output word of a filter slot. -/
def slotOut (s : State) (slot : Nat) : Int :=
  if slot < 192 then
    let f := (ax s (slot / 4)).flt
    match slot % 4 with
    | 0 => f.outS.x
    | 1 => f.outC.x
    | 2 => f.outA.x
    | _ => f.outB.x
  else (auxCh s (slot - 192)).out.x

/-- v_cmd of an axis: the position loop's output, or the limiter's speed. -/
def vCmd (s : State) (n : Nat) : Int :=
  let st := (ax s n).loop.st
  if runsPos (axMode s n) && !rdB s F.axMode_STOPPING n then st.pos.u else st.limV

/-- The value of a node of axis `i`, as a 32-bit word (R191). -/
def nodeVal (s : State) (node i : Nat) : Int :=
  let l := (ax s i).loop
  let st := l.st
  let pos := rdS s F.axMotion_POS i
  match node with
  | 0 => sx 32 (rd s F.axMotion_ANGLE i)
  | 1 => rdS s F.axMotion_SPEED i
  | 2 => sx 32 (tc 64 pos / 2 ^ 32)
  | 3 => sx 32 (tc 64 pos)
  | 4 => st.ia
  | 5 => st.ib
  | 6 => st.id
  | 7 => st.iq
  | 8 => st.idRef
  | 9 => st.iqRef
  | 10 => st.vD
  | 11 => st.vQ
  | 12 => l.du
  | 13 => l.dv
  | 14 => l.dw
  | 15 => st.posErr
  | 16 => vCmd s i
  | 17 => st.vel.i
  | 18 => st.resid
  | 19 => sx 32 (tc 64 st.limX / 2 ^ 32)
  | 20 => st.limV
  | 21 => rdS s F.axTrkMeas_S i
  | 22 => rdS s F.axTrkMeas_C i
  | _ => slotOut s i

/-- A sample of a node: 32 bits; or 16, saturated, but for angles and resolver words, which give their top bits, and
filter words, which have 16 (R191). -/
def nodeSample (s : State) (node i : Nat) (w32 : Bool) : Int :=
  let v := nodeVal s node i
  if w32 then v
  else if node = 0 ∨ node = 21 ∨ node = 22 then asr v 16
  else sat16 v

/-- The clock of a probe ticks now: a boundary of the axis its INDEX names, with the timer at that load point; an observer step; a
frame (R191). -/
def probeTicks (s : State) (j : Nat) : Bool :=
  let n := rd s F.devTrcProbe_INDEX j
  let p := (ax s n).pwm
  let m := parAxis s n
  match rd s F.devTrcProbe_CLK j with
  | 0 => p.active
  | 1 => p.active && decide (p.j % vdivOf s m = 0)
  | 2 => p.active && decide (p.j % (vdivOf s m * pdivOf s m) = 0)
  | 3 => obsRuns s n
  | _ => true

/-- TRACE_SAMPLE: a tick of the clock of probe `j`; one in DIV_M1 + 1 of them takes a sample, the first after ARM among them (R191,
R192). -/
def execTraceSample (j : Fin 64) (s : State) : Out := clocked s <|
  if !probeTicks s j then done s
  else if 0 < (probe s j).skip then done (setProbe s j { probe s j with skip := (probe s j).skip - 1 })
  else
    let s1 := setProbe s j { probe s j with skip := rd s F.devTrcProbe_DIV_M1 j }
    done (trcSample s1 j
      (nodeSample s (rd s F.devTrcProbe_NODE j) (rd s F.devTrcProbe_INDEX j) (rdB s F.devTrcProbe_W32 j)))

end Sys2Proof.Machine
end

