-- ==== Sys2Proof/Machine/Dac.lean ====
section
/-!
DEFINITION. Detectors of the excitation drivers and the monitor outputs (spec/10_dac_outputs.md, R243 to R252).
-/

namespace Sys2Proof.Machine

/-! ## Detectors (R243 to R245) -/

/-- The detectors of a driver are idle: sense, FOLLOW, or a driver that does not excite (R244). -/
def detIdle (s : State) (n : Nat) : Bool :=
  senseOn s n || (!(ax s n).exc.drive && decide (mode s ≠ mTest))

/-- Counts and live bits of idle detectors read 0. -/
def detClear (s : State) (n : Nat) : State :=
  wr (wr (wr (wr (wr s F.axExcDstat_OPEN n 0) F.axExcDstat_COMPL n 0) F.axExcDstat_ILIM_ACT n 0) F.axExcDstat_OW_CNT n 0)
    F.axExcDstat_CMP_CNT n 0

/-- EXC_DRV as the detectors use it: the value the half-period in progress found; in TEST, where no group runs, the object as it
stands (R242). -/
def detWord (s : State) (n : Nat) : Nat := if mode s = mTest then getObj s .axExcDrv n else (ax s n).exc.det

/-- The peak current, in units of 0.2 mA, has reached the current limit in force: 10 mA for each step of ILIM (R245). -/
def atLimit (s : State) (n peak : Nat) : Bool := decide (50 * ((ax s n).exc.ilim + 1) ≤ peak)

/-- A detector onset in TEST marks the axis failed (R72, R245). -/
def failAxis (s : State) (n : Nat) : State :=
  if testFailed s n then s else { s with ctl := { s.ctl with testFail := s.ctl.testFail ++ [n] } }

/-- One detector at an interval: count, live bit, and at its onset the sticky bit and the event. The answer says whether
it has set (R245). -/
def detStep (s : State) (n : Nat) (bad : Bool) (cnt live seen : Fld) (lim code : Nat) : State × Bool :=
  if bad then
    let c := rd s cnt n + 1
    let s1 := incSat s cnt n
    if lim ≤ c ∧ !rdB s live n then
      (raise (stick (wr s1 live n 1) seen n) code n (rd s F.axExcDstat_I_PEAK n), true)
    else (s1, false)
  else (wr (wr s cnt n 0) live n 0, false)

/-- EXC_DETECTOR_INTERVAL: one interval of the driver of axis `n`, its peak current in units of 0.2 mA and whether it was
in limit or saturation (R245). -/
def execExcDetectorInterval (n : Fin 48) (peak : BitVec 16) (limited : Bool) (s : State) : Out := clocked s <|
  if detIdle s n then done (detClear s n)
  else
    let d := detWord s n
    let s1 := wrB (wr s F.axExcDstat_I_PEAK n (min 255 peak.toNat)) F.axExcDstat_ILIM_ACT n (limited && atLimit s n peak.toNat)
    let open_ := decide (peak.toNat < fget d F.axExcDrv_OPEN_MIN) && !rdB s F.axExcDrv_BOOST n
    let a := detStep s1 n open_ F.axExcDstat_OW_CNT F.axExcDstat_OPEN F.axExcDstat_OPEN_SEEN (fget d F.axExcDrv_OW_N) 0x23
    let b := detStep a.1 n limited F.axExcDstat_CMP_CNT F.axExcDstat_COMPL F.axExcDstat_COMPL_SEEN
      (fget d F.axExcDrv_CMP_N) 0x24
    if a.2 || b.2 then
      if mode s = mTest then done (failAxis b.1 n)
      else if fget d F.axExcDrv_REACT = 1 then done (wr (stopDriver b.1 n) F.axExcDstat_STOPPED n 1)
      else done b.1
    else done b.1

/-! ## Monitor outputs (R246 to R252) -/

/-- Monitor output `c`. -/
def mon (s : State) (c : Nat) : Mon := mget Mon.reset s.mons c

/-- The state with monitor output `c` replaced. -/
def setMon (s : State) (c : Nat) (x : Mon) : State := { s with mons := mset Mon.reset s.mons c x }

/-- States of MON.STAT. -/
def monSafe : Nat := 0
def monPu : Nat := 1
def monFed : Nat := 2
def monFault : Nat := 3
def monSpan : Nat := 4

/-- An image has been loaded (R49). -/
def hasImage (s : State) : Bool := decide (rd s F.devBootStatus_BOOTED 0 ≠ 0)

/-- The state R84 and R247 give a monitor output now, a span change apart. SAFESTOP by the watchdog's reaction (cause 15) is one
entered by fault reaction too (R11, R377). -/
def monState (s : State) (c : Nat) : Nat :=
  let m := mode s
  if s.pwr.rst || s.pwr.coreLost || s.pwr.pwmLost || decide (m ≤ mLoad) then monSafe
  else if m ≤ mPlace then monPu
  else if m = mLatch then (if hasImage s then monFault else monSafe)
  else if m = mSafestop ∧ (rd s F.devMode_CAUSE 0 = 10 ∨ rd s F.devMode_CAUSE 0 = 15) then monFault
  else if rdB s F.monCtl_EN c then monFed
  else monPu

/-- An output shows a value in a state. -/
def monShow (s : State) (c state v : Nat) : State :=
  wrB (wr (wr s F.monStat_STATE c state) F.monStat_LAST c v) F.monStat_SAFE c (decide (state = monSafe ∨ state = monSpan))

/-- The 16-bit words of a popped word, lowest first (R248). -/
def monWords (x : Popped) : List Nat :=
  let k := if x.tag % 4 = 0 then 4 else x.tag % 4
  (List.range k).map (fun i => bits x.word.toNat (16 * i) 16)

/-- What a sample instant finds: a word, a poisoned word, or nothing. -/
inductive MonTake where
  | word (v : Nat)
  | poison
  | none
  deriving DecidableEq, Repr

/-- The next 16-bit word of a channel; markers on the way are counted and skipped (R248, R249). -/
def monTake (c : Nat) : Nat → State → State × MonTake
  | 0, s => (s, .none)
  | f + 1, s =>
    match (mon s c).buf with
    | v :: vs => (setMon s c { mon s c with buf := vs }, .word v)
    | [] =>
      let r := qPop s (rd s F.monCtl_QID c)
      if bit r.2.tag 3 then monTake c f (incSat r.1 F.monCnt_GAPS c)
      else if r.2.tag % 8 = 4 ∧ r.2 = popEmpty then (r.1, .none)
      else if bit r.2.tag 4 then (r.1, .poison)
      else monTake c f (setMon r.1 c { mon r.1 c with buf := monWords r.2 })

/-- An instant without a word: counted once a word has been taken (R249). -/
def monUnder (s : State) (c : Nat) : State :=
  let m := mon s c
  if !m.took then s
  else
    let s1 := incSat (stick s F.monStat_UNDER c) F.monCnt_UNDERS c
    if m.armed then raiseD (setMon s1 c { m with armed := false }) 0x50 c else s1

/-- A sample instant of a queue-fed output (R248, R249). -/
def monFeed (s : State) (c : Nat) : State :=
  let st := rd s F.monStat_STATE c
  let s1 := if st = monFed then s
    else setMon s c { mon s c with took := false, armed := false, holdFault := decide (st = monFault) }
  let m := mon s1 c
  let shown := if m.took then rd s1 F.monStat_LAST c
    else if m.holdFault then rd s1 F.monVal_FAULT_VAL c else rd s1 F.monVal_PU_VAL c
  let s2 := monShow s1 c monFed shown
  let r := monTake c 8 s2
  match r.2 with
  | .word v => monShow (setMon r.1 c { mon r.1 c with took := true, armed := true, holdFault := false }) c monFed v
  | .poison => monUnder (stick r.1 F.monStat_POISON c) c
  | .none => monUnder r.1 c

/-- A monitor output goes to a state that is not queue-fed, with the value that state shows (R247). -/
def monGo (s : State) (c st : Nat) : State :=
  monShow (setMon s c { mon s c with took := false, armed := false }) c st
    (if st = monPu then rd s F.monVal_PU_VAL c else if st = monFault then rd s F.monVal_FAULT_VAL c else 0)

/-- MON_SAMPLE: a sample instant of monitor output `c`; a written PERIOD is in force from it (R247 to R249). -/
def execMonSample (c : Fin 16) (s : State) : Out := clocked s <|
  let s0 := setMon s c { mon s c with period := rd s F.monCtl_PERIOD c }
  if rd s F.monStat_STATE c = monSpan then done s0
  else
    let t := monState s c
    if t = monFed then done (monFeed s0 c) else done (monGo s0 c t)

/-- A span change is in progress; after a loss of the PWM clock its output is safe already (R247, R250). -/
def monChanging (s : State) (c : Nat) : Bool := decide (rd s F.monStat_STATE c = monSpan) || (mon s c).wait.isSome

/-- MON_SPAN_DONE: the new span is applied and drives PU_VAL, or FAULT_VAL after a fault reaction, or stays safe without the PWM
clock; the reply to the write is sent (R247, R250, R252). -/
def execMonSpanDone (c : Fin 16) (s : State) : Out := clocked s <|
  if !monChanging s c then done s
  else
    let m := mon s c
    let s1 := setMon s c { m with span := rd s F.monCtl_SPAN c, holdFault := false, wait := none }
    let t := monState s c
    let s2 := monGo s1 c (if t = monFed then monPu else t)
    match m.wait with
    | some src => done (answer s2 src .monCtl c 0)
    | none => done s2

/-- A span change starts: the safe switch opens and the live bits clear (R250, R251). -/
def monSpanStart (s : State) (c : Nat) (src : Option Src) : State :=
  let s1 := setMon s c { mon s c with wait := src }
  monShow (wr (wr s1 F.monStat_OPEN c 0) F.monStat_COMPL c 0) c monSpan 0

/-- Every output goes to its safe level at once (R23, R68). -/
def monAllSafe (s : State) : State :=
  (List.range 16).foldl (fun t c => monShow (setMon t c { mon t c with took := false, armed := false }) c monSafe 0) s

/-- At the end of LOAD every output shows its power-up value in the span of the image; without an image, or without the PWM
clock, it stays safe (R247). -/
def monPowerUp (s : State) : State :=
  let st := if hasImage s && !s.pwr.pwmLost then monPu else monSafe
  (List.range 16).foldl (fun t c =>
    monGo (setMon t c { Mon.reset with span := rd t F.monCtl_SPAN c, period := rd t F.monCtl_PERIOD c }) c st) s

/-- MON_DETECT: a condition of R251 has stood, or has been absent, for 100 µs. -/
def execMonDetect (c : Fin 16) (compl onset : Bool) (s : State) : Out := clocked s <|
  let live := if compl then F.monStat_COMPL else F.monStat_OPEN
  let seen := if compl then F.monStat_COMPL_SEEN else F.monStat_OPEN_SEEN
  if !onset then done (wr s live c 0)
  else if rdB s F.monStat_SAFE c || rdB s live c || (!compl && decide ((mon s c).span ≠ 3))
      || (compl && rdB s F.monStat_OPEN c) then done s
  else done (raiseD (stick (wr s live c 1) seen c) (if compl then 0x52 else 0x51) c)

/-- Trim of a monitor channel in its span: gain and offset (R56, R237). -/
def monTrim (s : State) (c : Nat) : Int × Int :=
  let o := 0xCE0 + 8 * (48 + c) + (if (mon s c).span = 3 then 4 else 0)
  (trimS16 s o, trimS16 s (o + 2))

/-- Output code of a monitor channel for the value it shows (R246). -/
def monCode (s : State) (c : Nat) : Int :=
  let two := decide ((mon s c).span = 2)
  let v : Int := if two then sx 16 (rd s F.monStat_LAST c) else (rd s F.monStat_LAST c : Nat)
  let x := asr (v * (65536 + (monTrim s c).1)) 16 + (monTrim s c).2
  if two then clampS (-32768) 32767 x else clampS 0 65535 x

end Sys2Proof.Machine
end

