-- ==== Sys2Proof/Machine/FabIn.lean ====
section
/-!
DEFINITION. A frame taken off a link (R286, R287, R303, R304): the link's own checks, the checks of delivery in their
order, forwarding, the flow table, and the destination.
-/

namespace Sys2Proof.Machine

/-! ## Frames on their own (R282, R283) -/

/-- The CRC at the end of a frame is that of the bytes before it. -/
def crcGood (bs : List Byte) : Bool :=
  decide (20 ≤ bs.length ∧ fieldB bs (bs.length - 4) 4 = crc32 (bs.take (bs.length - 4)))

/-- The payload of a frame. -/
def payloadOf (h : Hdr) (bs : List Byte) : List Byte := (bs.drop 16).take h.len

/-- Type of a fabric control frame. -/
def fctlType (pl : List Byte) : Nat := fieldB pl 0 1

/-- One link of a received LSR. -/
def lsLinkAt (pl : List Byte) (i : Nat) : LsLink :=
  let o := 24 + 16 * i
  ⟨fieldB pl o 1, fieldB pl (o + 1) 1, fieldB pl (o + 4) 4, fieldB pl (o + 8) 8⟩

/-- A received LSR. -/
def lsrOfBytes (s : State) (pl : List Byte) : Lsr :=
  { serial := fieldB pl 8 8, claim := fieldB pl 1 1, flags := fieldB pl 2 1, seq := fieldB pl 4 4, finger := fieldB pl 16 8,
    links := (List.range (fieldB pl 3 1)).map (lsLinkAt pl), id := none, dup := false, at_ := locNs s }

/-- A received LSR replaces the held one of its serial: it is newer, or the first (R291). -/
def lsrNews (s : State) (e : Lsr) : Bool :=
  decide (e.serial ≠ s.nv.serial) && (match lsrOf s.fab.lsdb e.serial with | some o => seqNewer e.seq o.seq | none => true)

/-- Class, flags and payload length of a fabric control frame are those of R283; a TWIN frame stands on a twin port. -/
def fctlFits (s : State) (p : Nat) (h : Hdr) (pl : List Byte) : Bool :=
  match fctlType pl with
  | 1 => decide (h.cls = cMgmt ∧ h.len = 40) && h.adj && !h.bcast
  | 2 => decide (h.cls = cMgmt ∧ h.len = 56) && h.adj && !h.bcast
  | 3 => decide (h.cls = cMgmt ∧ h.len ≤ 152 ∧ h.len = 24 + 16 * fieldB pl 3 1) && !h.adj && h.bcast
  | 4 => decide (h.cls = cCtl ∧ h.len = 32) && h.adj && !h.bcast
  | 5 => decide (h.cls = cRt ∧ h.len = 16) && !h.adj && h.bcast
  | 6 => decide (h.cls = cRt ∧ h.len = 8) && !h.adj && !h.bcast
  | 7 => decide (h.cls = cRt ∧ 8 ≤ h.len) && h.adj && !h.bcast && isTwin s p
  | _ => false

/-- Step 1 of R303. -/
def frameFits (s : State) (p : Nat) (bs : List Byte) : Bool :=
  let h := hdrOf bs
  decide (20 ≤ bs.length ∧ h.ver = 1 ∧ h.resv = 0 ∧ h.len ≤ 240
    ∧ bs.length = 16 + h.len + (if hasMac h.cls then 8 else 0) + 4)
  && (!h.fctl || (decide (1 ≤ h.len) && fctlFits s p h (payloadOf h bs)))

/-- The MAC of a frame verifies under the fabric key (R283). -/
def macGood (s : State) (h : Hdr) (bs : List Byte) : Bool :=
  (bs.drop (16 + h.len)).take 8 == frameMac (fabKey s) (macInput h (payloadOf h bs))

/-- Which command a frame comes with: the type of its fabric control payload, 0 for any other frame. -/
def frameKind (f : Frame) : Nat :=
  let h := hdrOf f.bytes
  let t := fieldB f.bytes 16 1
  if h.fctl && decide (17 ≤ f.bytes.length ∧ 1 ≤ t ∧ t ≤ 7) then t else 0

/-! ## The link's checks (R286) -/

/-- A NAK for the expected sequence; before any frame has been taken that sequence is not known to the model. -/
def sendNak (s : State) (p : Nat) : State :=
  match (lk s p).rxNext with
  | some e => putWords (modLk s p (fun l => { l with nakOut := true })) p [linkWord 2 e]
  | none =>
    let d := drawBelow s 4096
    putWords (modLk d.1 p (fun l => { l with nakOut := true })) p [linkWord 2 d.2]

/-- A sequence is older than the expected one. -/
def lseqOlder (e q : Nat) : Bool := decide (1 ≤ (e + 4096 - q) % 4096 ∧ (e + 4096 - q) % 4096 ≤ 2048)

/-- The receiver of R286 on an UP link; the answer says whether the frame is accepted. Whatever becomes of it, its buffer
credits return, unless it waits to be forwarded. -/
def arqIn (s : State) (p : Nat) (f : Frame) : State × Bool :=
  let n := (f.bytes.length + 63) / 64
  let c := f.cls.toNat
  match f.fate with
  | .aborted => (giveBack s p c n, false)
  | .truncated =>
    let s1 := crcError (giveBack s p c n) p
    (if isUp s1 p && !(lk s p).nakOut then sendNak s1 p else s1, false)
  | .complete =>
    if !crcGood f.bytes then
      let s1 := crcError (giveBack s p c n) p
      (if isUp s1 p && !(lk s p).nakOut then sendNak s1 p else s1, false)
    else
      let s1 := ackUpTo s p f.ack.toNat
      let q := f.lseq.toNat
      let e := (lk s1 p).rxNext.getD q
      if q = e then
        let s2 := modLk s1 p (fun l => { l with rxNext := some ((e + 1) % 4096), nakOut := false })
        (putWords s2 p [linkWord 1 e], true)
      else if lseqOlder e q then (putWords (giveBack s1 p c n) p [linkWord 1 ((e + 4095) % 4096)], false)
      else (sendNak (giveBack s1 p c n) p, false)

/-! ## Flows (R304) -/

/-- Entries of the flow table. -/
def flowMax : Nat := 16384

/-- The flow of a frame. -/
def flowKey (h : Hdr) : FlowKey := ⟨h.src, h.srcQ, h.dstQ, h.cls⟩

/-- The entry of a flow. -/
def flowOf (s : State) (k : FlowKey) : Option Flow := s.fab.flows.find? (fun x => x.key == k)

/-- The entry of a flow takes a sequence. -/
def putFlow (s : State) (k : FlowKey) (h : Nat) : State :=
  modFab s (fun x => { x with flows := x.flows.filter (fun y => y.key != k) ++ [⟨k, h, locNs s⟩] })

/-- The entry unused longest, if it has been idle for at least 10 ms, leaves a full table. Entries stand in the order of
their last use. -/
def evictFlow (s : State) : Option State :=
  match s.fab.flows with
  | [] => none
  | x :: xs => if x.at_ + 10000000 ≤ locNs s then some (modFab s (fun f => { f with flows := xs })) else none

/-- A record that the router reports as dropped counts as a dropped push of its queue (R267, R304). -/
def reportDrop (s : State) (q : Nat) : State :=
  if !isPool q then s
  else if (qd s q).resetting.isSome then dropReset s q
  else if (qd s q).quota = 0 then incSat (setQd s q { qd s q with full := true }) F.devQmCnt_DROPS 0
  else dropGap s q

/-- `k` dropped records; for the message engine they are counted only, in GAPS. -/
def reportDrops (s : State) (q k : Nat) : State :=
  if q = 0xFFFF then addSat s F.devFabCnt_BAD_Q 0 k else (List.range k).foldl (fun t _ => reportDrop t q) s

/-- Step 8: the flow sequence; the answer says whether the frame is accepted. -/
def flowIn (s : State) (h : Hdr) : State × Bool :=
  let k := flowKey h
  match flowOf s k with
  | none =>
    if s.fab.flows.length < flowMax then (putFlow s k h.seq, true)
    else match evictFlow s with
      | some t => (putFlow t k h.seq, true)
      | none => (incSat s F.devFabCnt_FLOW_FULL 0, false)
  | some x =>
    let d := (h.seq + 65536 - x.h) % 65536
    if 1 ≤ d ∧ d ≤ 32767 then (putFlow (reportDrops s h.dstQ (d - 1)) k h.seq, true)
    else
      let s1 := putFlow s k x.h
      if h.cls = cRt then (reportDrops s1 h.dstQ 1, false) else (incSat s1 F.devFabCnt_DUP 0, false)

/-! ## Loop inputs over RT routes (R176, R178, R318) -/

/-- The plan's flow whose records come to queue `q`. -/
def planFlow (s : State) (h : Hdr) : Option RtRoute :=
  s.fab.routes.find? (fun r =>
    r.src == h.src && r.dst == rd s F.devFabStat_NODE_ID 0 && r.dst != r.src && r.srcQ == h.srcQ && r.dstQ == h.dstQ)

/-- A 16-byte exchange: position, speed, the instant in ns of fabric time by its low 24 bits, and what the device says of the axis:
tracking valid, REF, TRIPPED, failed TEST. The spec names the first three and no layout (DESIGN CHOICE, log 98). -/
def exchBytes (s : State) (n : Nat) (pos speed : Int) (t : Nat) : List Byte :=
  let word := b2n (tracked s n) + 2 * b2n (hasRef s n) + 4 * b2n (decide (axMode s n = aTripped)) + 8 * b2n (testFailed s n)
  leBytes 8 (tc 64 pos) ++ leBytes 4 (tc 32 speed) ++ leBytes 3 t ++ leBytes 1 word

/-- The instant in cycles that bits [23:0] of fabric time name: the last one before now. -/
def cycOf24 (s : State) (t : Nat) : Int :=
  let back : Nat := (time32 s + 2 ^ 32 - t) % 2 ^ 24
  (nowCyc s : Int) - (back * 3 / 2 : Nat)

/-- Committed data of a partner or a master arrive: a pair trips with its partner, and its position set is discarded where that
axis no longer tracks (R165, R177). -/
def takeExch (s : State) (n : Nat) (pl : List Byte) : State :=
  let s := twinTell s (recInput n (ax s n).pwm.j 1 pl)
  let f := fieldB pl 15 1
  let r : Remote :=
    ⟨sx 64 (fieldB pl 0 8), sx 32 (fieldB pl 8 4), cycOf24 s (fieldB pl 12 3), nowCyc s, bit f 0, bit f 1, bit f 2, bit f 3⟩
  let s1 := modLoop s n (fun l => { l with remote := some r })
  if roleOf s n = 1 then
    let s2 := if r.valid then s1 else modLoop s1 n (fun l => { l with pairSet := none })
    if r.tripped && driving s2 n then laneTrip s2 n 3 else s2
  else s1

/-- The parameter words of an axis in the order a primary sends them: COEF, SHIFT, LIM. -/
def pairObj (n k : Nat) : ObjId × Nat :=
  if k < 16 then (.axCoef, coefIx n k) else if k < 20 then (.axShift, shiftIx n (k - 16)) else (.axLim, limIx n (k - 20))

/-- Words of one round. -/
def pairWords : Nat := 38

/-- A pair's 16-byte record to its partner on another device: iq_ref, or the target of MANUAL or CURRENT; mode and cause of the
primary; one parameter word of the primary, the next each time; or the position a PAIR_SET gives the partner. The spec names iq_ref
and no layout (DESIGN CHOICE, log 98). -/
def pairBytes (s : State) (n : Nat) : List Byte :=
  let l := (ax s n).loop
  let m := axMode s n
  let w := pairObj n (l.pairWord % pairWords)
  let flags := m + 8 * b2n (l.spSeen || decide (4 ≤ m)) + 16 * b2n l.pairSend.isSome
  let head := match l.pairSend with
    | some p => leBytes 8 p
    | none =>
      if 4 ≤ m then leBytes 4 (tc 32 l.st.iqRefB) ++ leBytes 4 0
      else leBytes 4 (tc 32 l.st.tgtB) ++ leBytes 4 (tc 32 l.st.tgtA)
  head ++ leBytes 1 flags ++ leBytes 1 (l.pairWord % pairWords) ++ leBytes 1 (rd s F.axMode_CAUSE n) ++ leBytes 1 0
    ++ leBytes 4 (getObj s w.1 w.2)

/-- A record of the pair has left. -/
def pairSent (s : State) (n : Nat) : State :=
  modLoop s n (fun l => { l with pairWord := (l.pairWord + 1) % pairWords, pairSend := none })

/-- The partner follows the mode of a primary on another device (R164, R165, R168). -/
def pairMode (s : State) (n m cause : Nat) : State :=
  if m = axMode s n then s
  else if m = aTripped then (if driving s n then laneTrip s n cause else s)
  else if testFailed s n || notRearmable s n then s
  else if isDriving m then
    (if decide (mode s = mRun) && tracked s n && !s.place.unplaced.contains n && !curRaw (ax s n).flt.cfgCu then
      takeMode s n m 1 else s)
  else takeMode s n m 1

/-- The position a pair's record sets on the partner, if it tracks (R177). -/
def pairSetHere (s : State) (n p : Nat) : State :=
  if tracked s n then
    let q := predict s n (ax s n).loop.selAt
    let o := wrapS 64 (sx 64 p - posOf s n q.praw 0)
    wr (modTrk s n (fun x => { x with ofs := o })) F.axTrkStat_REF n 1
  else s

/-- A record of the pair arrives at the partner motor. -/
def takeIqRef (s : State) (n : Nat) (pl : List Byte) : State :=
  let s := twinTell s (recInput n (ax s n).pwm.j 1 pl)
  let f := fieldB pl 8 1
  let w := pairObj n (fieldB pl 9 1 % pairWords)
  let s1 := setObj s w.1 w.2 (fieldB pl 12 4)
  if bit f 4 then pairSetHere s1 n (fieldB pl 0 8)
  else
    let m := f % 8
    let s2 := pairMode s1 n m (fieldB pl 10 1)
    let a := sx 32 (fieldB pl 0 4)
    if !bit f 3 || decide (axMode s2 n ≠ m) then s2
    else modLoop s2 n (fun l =>
      { l with st := if 4 ≤ m then { l.st with idRef := 0, iqRef := a }
                     else { l.st with tgtA := sx 32 (fieldB pl 4 4), tgtB := a } })

/-- The lane takes what its plan queue holds: the queue is emptied, and the record just accepted is used. Set-point records of a
pair whose task the plan has put here end here: R318 gives that task no flow from or to the primary motor, so it runs beside the
primary (DESIGN CHOICE, log 98). -/
def usePlan (s : State) (r : RtRoute) (pl : List Byte) : State :=
  let s1 := (drainQ (levelOf s r.dstQ + 2) s r.dstQ []).1
  match r.use with
  | .iqRef => takeIqRef s1 r.dstAxis pl
  | .exchange => takeExch s1 r.dstAxis pl
  | .gear => takeExch s1 r.dstAxis pl
  | .setPoint => s1

/-! ## Destinations (R303 step 9) -/

/-- A malformed frame is counted at its port. -/
def malformed (s : State) (p : Nat) : State := incSat s F.lkCnt_MALFORMED p

/-- The class of a number. -/
def clsOf (c : Nat) : Cls := match c with | 0 => .rt | 1 => .ctl | 2 => .bulk | _ => .mgmt

/-- TYPE, OP and length of a request fit R409; on the fabric a PUSH is no message (R407). -/
def msgFits (fab : Bool) (pl : List Byte) : Bool :=
  let n := pl.length
  let op := fieldB pl 5 1
  match fieldB pl 0 1 with
  | 1 => decide (1 ≤ op ∧ op ≤ 56 ∧ n = 12)
  | 2 => decide (op = 0 ∧ 12 ≤ n)
      && (match locate (fieldB pl 8 4) with | some (o, _) => decide (n = 12 + 4 * objWords o) | none => true)
  | 3 => decide (op = 0 ∧ n = 16)
  | 4 => decide (op = 0 ∧ 24 ≤ n ∧ n ≤ 232 ∧ n % 16 = 8)
  | 5 => !fab && decide (op = 0 ∧ 14 ≤ n ∧ n ≤ 240 ∧ n % 2 = 0)
  | 6 => decide (op = 0 ∧ n = 16)
  | 7 => (match op with
    | 1 => decide (n = 16)
    | 2 => decide (17 ≤ n ∧ n ≤ 240)
    | 3 => decide (n = 9)
    | 4 => decide (n = 9)
    | _ => false)
  | 8 => (match op with
    | 1 => decide (n = 9)
    | 2 => decide (17 ≤ n ∧ n ≤ 240)
    | 3 => decide (n = 16)
    | 4 => decide (n = 8)
    | _ => false)
  | _ => false

/-- A message of at least a header joins the message engine's queue. A malformed one is answered so, an EVENT not at all
(R407, R408). -/
def takeIn (s : State) (src : Src) (pl : List Byte) : State :=
  let fab := match src with | .fabric .. => true | _ => false
  if msgFits fab pl then { s with msg := { s.msg with inbox := s.msg.inbox ++ [⟨src, pl⟩] } }
  else if fieldB pl 0 1 = 4 then s
  else reply s src (fieldB pl 0 1) (fieldB pl 5 1) (if maxWaiting ≤ s.msg.waiting then 3 else 4) []

/-- A fabric message for the message engine; one shorter than its header is malformed (R407). -/
def toEngine (s : State) (p : Fin 8) (h : Hdr) (pl : List Byte) : State :=
  if pl.length < 8 then malformed s p
  else takeIn s (.fabric p h.src (BitVec.ofNat 16 h.srcQ) (clsOf h.cls) (BitVec.ofNat 16 (fieldB pl 2 2))) pl

/-- A data frame reaches its destination. -/
def toDest (s : State) (p : Fin 8) (h : Hdr) (pl : List Byte) : State :=
  if h.dstQ = 0xFFFF then
    if h.cls = cCtl ∨ h.cls = cMgmt then toEngine s p h pl else malformed s p
  else if h.cls = cMgmt ∨ h.len % 2 = 1 ∨ h.len < 2 then malformed s p
  else if !isPool h.dstQ then incSat s F.devFabCnt_BAD_Q 0
  else
    let r := pushFor s 4 h.dstQ 0 (halfwords pl)
    if r.2 then (match planFlow r.1 h with | some x => usePlan r.1 x pl | none => r.1) else r.1

/-! ## Forwarding (R284, R287, R290, R293, R295) -/

/-- This node forwards no frame. -/
def noTransit (s : State) : Bool := decide (mode s = mLatch) || rdB s F.devFabStat_DUP 0

/-- The RT route a frame travels on, by its ends. -/
def routeOf (s : State) (h : Hdr) : Option RtRoute :=
  if h.cls = cRt then
    s.fab.routes.find? (fun r => r.src == h.src && r.dst == h.dst && r.srcQ == h.srcQ && r.dstQ == h.dstQ)
  else none

/-- The port a transit frame leaves through: the entry of its RT route on the path its ALT flag names, else the current
route. -/
def outPort (s : State) (h : Hdr) : Option Nat :=
  match routeOf s h with
  | some r => if h.alt then r.alt else r.prim
  | none => (pathToId s h.dst).bind firstPort

/-- The bytes of a frame with one hop fewer, without its CRC. -/
def hopBytes (h : Hdr) (bs : List Byte) : List Byte :=
  hdrBytes { h with hops := h.hops - 1 } ++ (bs.take (bs.length - 4)).drop 16

/-- A transit frame waits at its outputs; its credits return when the last copy has left. -/
def putTransit (s : State) (p c : Nat) (outs : List Nat) (bs : List Byte) : State :=
  match outs with
  | [] => giveBack s p c (creditsOf bs)
  | _ :: _ => modFab s (fun x =>
      { x with transit := x.transit ++ outs.map (fun o => ⟨p, o, x.uid, c, bs, locNs s, false⟩), uid := x.uid + 1 })

/-- Step 5: an RT frame has outlived RT_LIFE. -/
def rtExpired (s : State) (h : Hdr) : Bool :=
  decide (h.cls = cRt ∧ rd s F.devFabCfg_RT_LIFE 0 * 1000 < (time32 s + 2 ^ 32 - h.time) % 2 ^ 32)

/-- First transit frame of a class that waits for link `p`. -/
def transitFront (s : State) (p c : Nat) : Option Transit := s.fab.transit.find? (fun x => x.out == p && x.cls == c)

/-- A frame can go through output `o` by cut-through: credits for the whole of it, room in the window of R286, none of its class
that must go first, and not expired. -/
def mayCut (s : State) (o c : Nat) (h : Hdr) (bs : List Byte) : Bool :=
  hasCredits s o c bs && (lk s o).again.isEmpty && decide ((lk s o).unacked.length < maxUnacked)
    && (transitFront s o c).isNone && !rtExpired s h

/-- Cut-through is chosen (R287): no other frame is in progress on the output as the header arrives. A frame stands in this model at
one instant, so whether one is in progress is free (log 99). -/
def cutNow (s : State) (o c : Nat) (h : Hdr) (bs : List Byte) : State × Bool :=
  if mayCut s o c h bs then drawBool s else (s, false)

/-- A frame for another node: forwarded by cut-through or whole, or discarded and counted (R287). -/
def forward (s : State) (p c : Nat) (h : Hdr) (bs : List Byte) : State :=
  let n := (bs.length + 63) / 64
  match (if noTransit s then none else outPort s h) with
  | none => giveBack (incSat s F.devFabCnt_NO_ROUTE 0) p c n
  | some o =>
    if h.hops = 0 then giveBack (malformed s p) p c n
    else if isUp s o then
      let x := cutNow s o c h (hopBytes h bs)
      if x.2 then giveBack (sendNew x.1 o c (hopBytes h bs)) p c n else putTransit x.1 p c [o] (hopBytes h bs)
    else giveBack (incSat s F.devFabCnt_NO_ROUTE 0) p c n

/-- A flooded frame goes on through every UP link of the fabric but the one it came by. -/
def flood (s : State) (p c : Nat) (h : Hdr) (bs : List Byte) : State :=
  let n := (bs.length + 63) / 64
  if noTransit s then giveBack s p c n
  else if h.hops = 0 then giveBack (malformed s p) p c n
  else putTransit s p c ((upPorts s).filter (· ≠ p)) (hopBytes h bs)

/-! ## The checks in their order (R303) -/

/-- What a flooded frame is known by: its sender, type and sequence or number (R284). -/
def seenKey (h : Hdr) (pl : List Byte) : Nat × Nat × Nat :=
  if h.fctl && decide (fctlType pl = 3) then (fieldB pl 8 8, 3, fieldB pl 4 4)
  else if h.fctl then (h.src, fctlType pl, fieldB pl 2 2)
  else (h.src, 256 + h.dstQ, h.seq)

/-- A copy of this frame has been taken within the last second. -/
def seenBefore (s : State) (k : Nat × Nat × Nat) : Bool :=
  s.fab.seen.any (fun x => x.who == k.1 && x.typ == k.2.1 && x.num == k.2.2 && decide (locNs s ≤ x.at_ + 1000000000))

/-- The frame has been taken. -/
def markSeen (s : State) (k : Nat × Nat × Nat) : State :=
  modFab s (fun x =>
    { x with seen := x.seen.filter (fun y => decide (locNs s ≤ y.at_ + 1000000000)) ++ [⟨k.1, k.2.1, k.2.2, locNs s⟩] })

/-- The node holds fabric time: it has stepped onto its parent's, or its own is the fabric's (R298, R299). -/
def hasTime (s : State) : Bool :=
  s.fab.stepped || (s.fab.held && decide (rd s F.devFabStat_GM 0 = rd s F.devFabStat_NODE_ID 0))

/-- The time the window of step 7 stands at: fabric time, or the TIME of the partner's latest JOIN advanced by the own
clock. -/
def windowTime (s : State) (p : Nat) : Nat :=
  if hasTime s then time32 s
  else match (lk s p).joinTime with
    | some (t, at_) => (t + (locNs s - at_)) % 2 ^ 32
    | none => time32 s

/-- Step 7: the frame lies in the time window. -/
def timeWindow (s : State) (p : Nat) (h : Hdr) : Bool :=
  decide ((sx 32 (windowTime s p + 2 ^ 32 - h.time)).natAbs ≤ rd s F.devFabCfg_TWIN 0 * 100000)

/-- A frame has passed every check. -/
structure Taken where
  hdr : Hdr
  payload : List Byte
  deriving DecidableEq, Repr

/-- A control frame of MGMT addresses queue 0xFFFF (R303 step 9). -/
def fctlAddressed (h : Hdr) : Bool := decide (h.cls ≠ cMgmt ∨ h.dstQ = 0xFFFF)

/-- Steps 5 to 8 for a frame for this node, and step 9 of a control frame: HELLO carries no MAC, and HELLO and JOIN come before any
time is shared, so R289 alone says when they are accepted (DEDUCED, log 100). Other control frames go to the fabric by their
type. -/
def ownIn (s : State) (p : Nat) (h : Hdr) (bs : List Byte) : State × Option Taken :=
  let pl := payloadOf h bs
  let t := if h.fctl then fctlType pl else 0
  if rtExpired s h then (incSat s F.lkCnt_RT_EXP p, none)
  else if hasMac h.cls && t != 1 && !macGood s h bs then (macFailure s p, none)
  else if hasMac h.cls && t != 1 && t != 2 && !timeWindow s p h then (incSat s F.devFabCnt_REPLAY_REJ 0, none)
  else if h.fctl then if fctlAddressed h then (s, some ⟨h, pl⟩) else (malformed s p, none)
  else
    let r := flowIn s h
    (r.1, if r.2 then some ⟨h, pl⟩ else none)

/-- The frame is for this node alone. -/
def forMe (s : State) (h : Hdr) : Bool :=
  h.adj || (rdB s F.devFabStat_ID_VALID 0 && decide (h.dst = rd s F.devFabStat_NODE_ID 0))

/-- A flooded frame goes on: an LSR only where it replaces the held one (R291). -/
def goesOn (s : State) (x : Taken) : Bool := !(x.hdr.fctl && decide (fctlType x.payload = 3)) || lsrNews s (lsrOfBytes s x.payload)

/-- A flooded frame: a copy already taken ends here; a new one is checked, and goes on if it passes. -/
def bcastIn (s : State) (p c : Nat) (h : Hdr) (bs : List Byte) : State × Option Taken :=
  let n := (bs.length + 63) / 64
  let k := seenKey h (payloadOf h bs)
  if seenBefore s k then (giveBack s p c n, none)
  else
    let r := ownIn s p h bs
    match r.2 with
    | none => (giveBack r.1 p c n, none)
    | some x => (if goesOn r.1 x then flood (markSeen r.1 k) p c h bs else giveBack (markSeen r.1 k) p c n, some x)

/-- The rate limit of step 3. -/
def rateIn (s : State) (p : Nat) (h : Hdr) : State × Bool :=
  if hasMac h.cls then takeToken s p (decide (h.cls = cMgmt)) else (s, true)

/-- A frame that an UP link has accepted. HELLO and JOIN end there. A twin port takes no other control frame than its
own. -/
def upIn (s : State) (p c : Nat) (bs : List Byte) : State × Option Taken :=
  let n := (bs.length + 63) / 64
  let h := hdrOf bs
  if !frameFits s p bs then (giveBack (malformed s p) p c n, none)
  else
    let r := rateIn s p h
    let t := if h.fctl then fctlType (payloadOf h bs) else 0
    if !r.2 then (giveBack (incSat r.1 F.lkCnt_RATE_DROP p) p c n, none)
    else if t = 1 ∨ t = 2 ∨ (isTwin s p ∧ t ≠ 7) then (giveBack r.1 p c n, none)
    else if h.bcast then bcastIn r.1 p c h bs
    else if forMe r.1 h then
      let x := ownIn r.1 p h bs
      (giveBack x.1 p c n, x.2)
    else (forward r.1 p c h bs, none)

/-- A frame on a link that is not UP: HELLO and JOIN only, in HELLO and JOIN. -/
def joinIn (s : State) (p : Nat) (f : Frame) : State × Option Taken :=
  let h := hdrOf f.bytes
  let t := if h.fctl then fctlType (payloadOf h f.bytes) else 0
  if lkState s p ≠ lHello ∧ lkState s p ≠ lJoin then (s, none)
  else match f.fate with
    | .aborted => (s, none)
    | .truncated => (crcError s p, none)
    | .complete =>
      if !crcGood f.bytes then (crcError s p, none)
      else if !frameFits s p f.bytes then (malformed s p, none)
      else if t = 1 ∨ t = 2 then if fctlAddressed h then (s, some ⟨h, payloadOf h f.bytes⟩) else (malformed s p, none)
      else (s, none)

/-- A frame proves aborted, truncated or bad in its CRC. -/
def frameBad (f : Frame) : Bool := decide (f.fate ≠ .complete) || !crcGood f.bytes

/-- A frame for another node that cut-through has begun to send, and that then proves bad, is aborted on its way out (R287). -/
def cutAbort (s : State) (p : Nat) (f : Frame) : State :=
  let h := hdrOf f.bytes
  let c := f.cls.toNat
  if frameBad f && decide (16 ≤ f.bytes.length ∧ h.ver = 1 ∧ h.resv = 0 ∧ h.len ≤ 240 ∧ h.hops ≠ 0)
      && decide ((lk s p).rxNext.getD f.lseq.toNat = f.lseq.toNat) && !h.bcast && !forMe s h && !noTransit s then
    match outPort s h with
    | some o =>
      let bs := hdrBytes { h with hops := h.hops - 1 } ++ f.bytes.drop 16
      let x := cutNow s o c h bs
      if isUp s o && x.2 then sendCut x.1 o c bs else s
    | none => s
  else s

/-- A frame taken off link `p`: what it does on its way through the checks, and the frame if it passes them all. HELLO and
JOIN stand outside the sequence of R286. -/
def frameIn (s : State) (p : Nat) (f : Frame) : State × Option Taken :=
  if !isUp s p then joinIn s p f
  else if frameKind f = 1 ∨ frameKind f = 2 then (s, none)
  else
    let a := arqIn (cutAbort s p f) p f
    if a.2 then upIn a.1 p f.cls.toNat f.bytes else (a.1, none)

end Sys2Proof.Machine
end

