-- ==== Sys2Proof/Machine/FabOut.lean ====
section
/-!
DEFINITION. Frames put on a link (R284 to R287, R299, R306, R308): what the transmit queues and the transit buffers hold,
the choice of the next frame, and the frames of bring-up, discovery and SYNC.
-/

namespace Sys2Proof.Machine

/-! ## One frame goes out -/

/-- A bring-up frame stands outside the sequence: its LSEQ is open (R286, R288). -/
def sendRaw (s : State) (p : Nat) (bs : List Byte) : State :=
  let d := drawBelow s 4096
  onWire d.1 p d.2 cMgmt bs

/-! ## Waiting frames -/

/-- Frames of a queue are taken up to one whole frame: header record, then payload record. A marker ends what was half
taken. -/
def pullFrame : Nat → State → Nat → List Byte → State × List Byte
  | 0, s, _, acc => (s, acc)
  | n + 1, s, q, acc =>
    if decide (16 ≤ acc.length) && decide (16 + (hdrOf acc).len ≤ acc.length) then (s, acc)
    else
      let r := qPop s q
      if bit r.2.tag 2 then (s, acc)
      else if bit r.2.tag 3 then pullFrame n r.1 q []
      else pullFrame n r.1 q (acc ++ hwBytes (popHw r.2))

/-- Words a whole frame can stand in, with room for markers. -/
def pullFuel : Nat := 80

/-- The first frame of transmit class `c` of link `p`: header and payload, and the state once it is taken. -/
def ownFront (s : State) (p c : Nat) : Option (State × Hdr × List Byte) :=
  let r := pullFrame pullFuel s (qLink p c 0) (txRest s p c)
  let h := hdrOf r.2
  if 16 ≤ r.2.length ∧ 16 + h.len ≤ r.2.length then
    some (modLk r.1 p (fun l => { l with rest := l.rest.set c (r.2.drop (16 + h.len)) }), h, (r.2.drop 16).take h.len)
  else none

/-- An instant in ns as a stamp takes it: accurate within 0.3 ns (R299). -/
def stampNs (s : State) : State × Nat :=
  let d := drawWithin s 3
  (d.1, ((((s.ctl.time : Int) + s.ctl.ofs) * 10 / (3 * 2 ^ 32 : Nat) + d.2) / 10).toNat)

/-- Bytes `off` and on of a payload replaced by a little-endian value. -/
def patchB (pl : List Byte) (off n v : Nat) : List Byte := pl.take off ++ leBytes n v ++ pl.drop (off + n)

/-- A TSYNC frame takes its stamp as it leaves: t1 of a request, t3 of a response (R299). -/
def stampTx (s : State) (p : Nat) (h : Hdr) (pl : List Byte) : State × List Byte :=
  if h.fctl && decide (fctlType pl = 4) then
    let d := stampNs s
    if fieldB pl 1 1 = 1 then (modLk d.1 p (fun l => { l with t1 := some d.2 }), patchB pl 8 8 d.2)
    else (d.1, patchB pl 0x18 8 d.2)
  else (s, pl)

/-- An own frame is finished as its transmission begins: TIME, stamps, MAC. -/
def finish (s : State) (p : Nat) (h : Hdr) (pl : List Byte) : State × List Byte :=
  let x := stampTx s p h pl
  (x.1, frameBytes (fabKey s) { h with time := time32 s } x.2)

/-- Transit RT frames that have expired leave before they are started (R303, R308). -/
def expireTransit (s : State) (p : Nat) : State :=
  let xs := s.fab.transit.filter (fun x => x.out == p && rtExpired s (hdrOf x.bytes))
  freeTransit (addSat s F.lkCnt_RT_EXP p xs.length) xs

/-- A transit frame begins; one of this node that has not begun yet is finished first. -/
def transitGo (s : State) (p : Nat) (x : Transit) : State × List Byte :=
  let t := freeTransit s [x]
  if x.fresh then let h := hdrOf x.bytes; finish t p h ((x.bytes.drop 16).take h.len) else (t, x.bytes)

/-- The frame a class would start next on link `p`, and the state once it has begun: an own frame or a transit frame. A frame held
for a lost link goes ahead of any later one (R297); which of two others comes first is free. -/
def classNext (s : State) (p c : Nat) : Option (State × List Byte) :=
  let own := (ownFront s p c).map (fun x => finish x.1 p x.2.1 x.2.2)
  let tr := (transitFront s p c).map (transitGo s p)
  let held := (transitFront s p c).any (fun x => decide (x.inPort = 8))
  match own, tr with
  | some a, some b => if Config.freeBool s.ctl.freeCnt && !held then some a else some b
  | some a, none => some a
  | none, b => b

/-- The next frame of a class can start: its credits are held. -/
def classReady (s : State) (p c : Nat) : Bool :=
  match classNext s p c with
  | some x => hasCredits s p c x.2
  | none => false

/-- Congestion of a class ends when its first frame has its credits or none waits (R306). -/
def easeCong (s : State) (p c : Nat) : State :=
  let waits := match classNext s p c with | some x => !hasCredits s p c x.2 | none => false
  if waits then s
  else
    let s1 := modLk s p (fun l => { l with cong := l.cong.filter (· ≠ c) })
    wrB s1 F.lkStat_CONGEST p (!(lk s1 p).cong.isEmpty)

/-- A class starts its next frame. -/
def startClass (s : State) (p c : Nat) : State :=
  match classNext (draw s) p c with
  | some x => easeCong (sendNew x.1 p c x.2) p c
  | none => s

/-- The weights of a round of the weighted round robin, by class number (R284). -/
def wrrRound : List Nat := [0, 4, 1, 2]

/-- One of the ready classes that has weight left in the round; which of several comes first is free. -/
def wrrPick (s : State) (p : Nat) (rs : List Nat) : Nat × List Nat :=
  let w := (lk s p).wrr
  let left := rs.filter (fun c => decide (0 < w.getD c 0))
  let w1 := if left.isEmpty then wrrRound else w
  let cs := if left.isEmpty then rs else left
  let c := cs.getD (Config.freeNat s.ctl.freeCnt % cs.length) (cs.headD 0)
  (c, w1.set c (w1.getD c 0 - 1))

/-- A frame of CTL, BULK or MGMT starts. -/
def startWrr (s : State) (p : Nat) : State :=
  match [cCtl, cBulk, cMgmt].filter (classReady s p) with
  | [] => s
  | r :: rs =>
    let x := wrrPick s p (r :: rs)
    startClass (modLk (draw s) p (fun l => { l with wrr := x.2 })) p x.1

/-- A frame of a replay round goes out again (R286). -/
def sendAgain (s : State) (p q : Nat) (qs : List Nat) : State :=
  match (lk s p).unacked.find? (fun x => x.lseq == q) with
  | some x =>
    if hasCredits s p x.cls x.bytes then
      onWire (modLk (useCredits s p x.cls x.bytes) p (fun l => { l with again := qs })) p q x.cls x.bytes
    else s
  | none => modLk s p (fun l => { l with again := qs })

/-- A frame starts on an UP link: a replay round first, then RT, then the other classes. -/
def startFrame (s : State) (p : Nat) : State :=
  match (lk s p).again with
  | q :: qs => sendAgain s p q qs
  | [] =>
    if maxUnacked ≤ (lk s p).unacked.length then s
    else if classReady s p cRt then startClass s p cRt
    else startWrr s p

/-! ## Flows this node sources (R304, R308) -/

/-- The next SEQ of a flow; the flow counts on. A flow is this node, its two queues and its class (R304): frames to several nodes
under the same queues share its numbers. -/
def nextSeq (s : State) (srcQ dstQ cls : Nat) : State × Nat :=
  let is := fun (x : SrcFlow) => x.srcQ == srcQ && x.dstQ == dstQ && x.cls == cls
  match s.fab.src.find? is with
  | some x => (modFab s (fun f =>
      { f with src := f.src.map (fun y => if is y then { y with next := (y.next + 1) % 65536 } else y) }),
      x.next)
  | none => (modFab s (fun f => { f with src := f.src ++ [⟨srcQ, dstQ, cls, 1⟩] }), 0)

/-- The transmit queue of a class can take a whole frame. -/
def txRoom (s : State) (p c : Nat) : Bool := decide (33 ≤ qFree (qd s (qLink p c 0)))

/-- A frame of a flow of this node goes into the transmit queue of the first link of its route. -/
def sendFlow (s : State) (p cls dst srcQ dstQ : Nat) (alt : Bool) (pl : List Byte) : State :=
  let q := nextSeq s srcQ dstQ cls
  (queueFrame q.1 p { ownHdr q.1 cls dst dstQ srcQ q.2 pl.length with alt := alt } pl).1

/-- Words of 0x0003 are popped until `n` bytes are at hand. -/
def pullBytes : Nat → State → Nat → Nat → List Byte → State × List Byte
  | 0, s, _, _, acc => (s, acc)
  | k + 1, s, q, n, acc =>
    if n ≤ acc.length then (s, acc)
    else
      let r := qPop s q
      if bit r.2.tag 2 then (s, acc) else pullBytes k r.1 q n (acc ++ hwBytes (popHw r.2))

/-- The first reply in 0x0003 becomes a frame once its route leads through link `p` (R308, R408); one without a route is
counted. A node in LATCH answers MGMT only (R290). -/
def sendReply (s : State) (p : Nat) : State :=
  match s.msg.replies with
  | [] => s
  | m :: ms =>
    let c := match m.cls with | .rt => 0 | .ctl => 1 | .bulk => 2 | .mgmt => 3
    let take_ := fun (t : State) =>
      let n := 2 * ((m.bytes.length + 1) / 2)
      let r := pullBytes 64 t 3 n t.msg.repHead
      ({ r.1 with msg := { r.1.msg with replies := ms, repHead := r.2.drop n } }, r.2.take m.bytes.length)
    match (pathToId s m.node).bind firstPort with
    | none => if isUp s p && !isTwin s p then incSat (take_ s).1 F.devFabCnt_NO_ROUTE 0 else s
    | some q =>
      if q = p then
        if decide (mode s = mLatch) && decide (c ≠ cMgmt) then (take_ s).1
        else if txRoom s p c then
          let x := take_ s
          sendFlow x.1 p c m.node 3 m.queue.toNat false x.2
        else s
      else s

/-- Bits [31:0] of fabric time at a cycle. -/
def cyc32 (s : State) (c : Nat) : Nat := ((c * 2 ^ 33 : Nat) + s.ctl.ofs : Int).toNat / (3 * 2 ^ 32) % 2 ^ 32

/-- The record a plan flow carries now: committed values of an axis that drives, those of the observer otherwise (R176, R178,
R318). -/
def flowRecord (s : State) (r : RtRoute) : Option (List Byte) :=
  match r.use with
  | .iqRef => some (pairBytes s r.srcAxis)
  | .setPoint => r.wait.head?
  | _ =>
    let n := r.srcAxis
    if template s n ≠ 3 ∧ driving s n then
      some (exchBytes s n (ax s n).loop.last.pos (ax s n).loop.last.speed (cyc32 s (ax s n).loop.selAt))
    else some (exchBytes s n (predict s n (nowCyc s)).pos (ax s n).trk.v (time32 s))

/-- A flow has something to send: a record of its period is due, or a set-point record waits (R28, R176, R178). -/
def flowDue (s : State) (r : RtRoute) : Bool :=
  match r.use with
  | .setPoint => !r.wait.isEmpty
  | _ => decide (r.sentAt + r.period ≤ nowCyc s)

/-- What a flow's record leaves behind as it goes. -/
def flowSent (s : State) (r : RtRoute) : State :=
  let s1 := modFab s (fun x => { x with routes := x.routes.map (fun y =>
    if y.id = r.id then { y with sentAt := nowCyc s, wait := y.wait.drop 1 } else y) })
  match r.use with
  | .iqRef => pairSent s1 r.srcAxis
  | _ => s1

/-- Exchanges fall due once per period of their flow and go out on the path in use (R176, R178, R296); forwarded set-point records
go at once (R28). A node in LATCH sends none (R290). -/
def sendExch (s : State) (p : Nat) : State :=
  if mode s = mLatch then s
  else
    let me := rd s F.devFabStat_NODE_ID 0
    (s.fab.routes.filter (fun r => r.src == me && usesPort r p && !r.dead && flowDue s r)).foldl
      (fun t r => match flowRecord t r with
        | some pl => if txRoom t p cRt then flowSent (sendFlow t p cRt r.dst r.srcQ r.dstQ r.onAlt pl) r else t
        | none => t) s

/-! ## Bring-up frames (R283, R288, R289) -/

/-- A header of a bring-up or discovery frame: its sender is named in the payload. -/
def hdr0 (s : State) (bcast adj : Bool) (len : Nat) : Hdr :=
  { ownHdr s cMgmt 0 0xFFFF 0 0 len with src := 0, fctl := true, bcast := bcast, adj := adj }

/-- HELLO. -/
def helloBytes (s : State) (p : Nat) : List Byte :=
  let flags := b2n (decide (rd s F.devBootStatus_BOOTED 0 = 0)) + 2 * b2n (decide (mode s = mLatch))
    + 4 * b2n s.load.standalone
  leBytes 1 1 ++ leBytes 1 p ++ leBytes 1 s.load.claim ++ leBytes 1 flags ++ leBytes 2 (rd s F.devId_PRODUCT 0)
    ++ leBytes 2 (rd s F.devId_REVISION 0) ++ leBytes 8 s.nv.serial ++ leBytes 8 s.load.fingerprint
    ++ leBytes 16 (lk s p).nonce

/-- JOIN. -/
def joinBytes (s : State) (p : Nat) : List Byte :=
  leBytes 8 2 ++ leBytes 8 s.nv.serial ++ leBytes 8 (rd s F.lkNbr_SERIAL p) ++ leBytes 16 (lk s p).nonce
    ++ leBytes 16 (lk s p).nbrNonce

/-- A bring-up frame goes out at once. -/
def sendBring (s : State) (p : Nat) (pl : List Byte) : State :=
  sendRaw s p (frameBytes (fabKey s) { hdr0 s false true pl.length with time := time32 s } pl)

/-! ## Discovery and SYNC (R291, R302) -/

/-- The LSR of a node. -/
def lsrBytes (e : Lsr) : List Byte :=
  leBytes 1 3 ++ leBytes 1 e.claim ++ leBytes 1 e.flags ++ leBytes 1 e.links.length ++ leBytes 4 e.seq
    ++ leBytes 8 e.serial ++ leBytes 8 e.finger
    ++ e.links.flatMap (fun l => leBytes 1 l.own ++ leBytes 1 l.nbr ++ [0, 0] ++ leBytes 4 l.delay ++ leBytes 8 l.serial)

/-- A frame of this node is flooded; its copies that come back are known. -/
def floodOwn (s : State) (h : Hdr) (pl : List Byte) : State :=
  markSeen ((upPorts s).foldl (fun t p => (queueFrame t p h pl).1) s) (seenKey h pl)

/-- The least T = E + m × `step` that lies at least 50 µs ahead (R302). -/
def syncT (s : State) (step : Nat) : Nat :=
  let d : Int := (nowNs s : Int) + 50000 - s.fab.epoch
  ((s.fab.epoch : Int) + (d + step - 1) / step * step).toNat

/-- The grandmaster sends a SYNC and waits for its T itself (R302). -/
def sendSync (s : State) (step : Nat) : State :=
  let no := (s.fab.syncNo + 1) % 65536
  let t := syncT s step
  let pl := leBytes 2 5 ++ leBytes 2 no ++ [0, 0, 0, 0] ++ leBytes 8 t
  let h := { ownHdr s cRt 0 0xFFFF 0 0 16 with fctl := true, bcast := true }
  modFab (floodOwn s h pl) (fun x => { x with syncNo := no, syncPend := some (no, t) })

/-- Step of a SYNC on request or after a plan. -/
def syncStep : Nat := 400

end Sys2Proof.Machine
end

