-- ==== Sys2Proof/Machine/Reset.lean ====
section
/-!
DEFINITION. The internal reset (R67 to R70): what it keeps, and what it cuts off.
-/

namespace Sys2Proof.Machine

/-- First address of an image slot in the flash (R34). -/
def slotBase (slot : Nat) : Nat := if slot = 0 then 0x100000 else 0x800000

/-- Bytes of the sectors that cover a length (R53). -/
def sectorBytes (len : Nat) : Nat := (len + 4095) / 4096 * 4096

/-- `n` bytes of undefined content, by the number drawn for them. -/
def freeBytes (k n : Nat) : List Byte := (List.range n).map (Config.freeByte k)

/-- An operation cut off by a reset leaves what it was writing undefined (R55, R62); an OTP bit being programmed may have
been programmed or not. -/
def cutJob (k : Nat) (v : Nv) : Job → Nv
  | .erase _ slot len => { v with flash := memWrite 0xFF v.flash (slotBase slot) (freeBytes k (sectorBytes len)) }
  | .program _ slot off bs => { v with flash := memWrite 0xFF v.flash (slotBase slot + off) (freeBytes k bs.length) }
  | .readback _ _ => v
  | .trim _ => { v with trim := memWrite 0 [] 0 (freeBytes k 16384) }
  | .otp _ .lock x => { v with otpLock := v.otpLock ||| (x &&& Config.freeNat k) }
  | .otp _ .khash x => { v with khash := v.khash ||| (x &&& Config.freeNat k) }
  | .otp _ .fkey x => { v with fkey := v.fkey ||| (x &&& Config.freeNat k) }

/-- What a reset leaves of the memories: operations in progress are cut off, a ledger slot being written is torn (R388). -/
def cutNv (s : State) : Nv :=
  let v := s.load.jobs.foldl (cutJob s.ctl.freeCnt) s.nv
  match s.ledg.write with
  | some w => { v with ledgTorn := w.slot :: v.ledgTorn.filter (· ≠ w.slot) }
  | none => v

/-- RESET_CAUSE (R69): a reset sets the bits of its own causes and clears the others; a cause that arrives while the reset
is asserted joins it. CLOCK records a reset that ends a CORE clock loss. -/
def resetCause (s : State) (bits : Nat) : Nat :=
  if s.pwr.rst then s.nv.cause ||| bits else bits + 2048 * b2n s.pwr.coreLost

/-- RED_CFG after a reset: what was written in MAINT, unless a supply reset has lost it; else its reset value. -/
def redCfgNext (s : State) (bits : Nat) : List (Nat × Nat) :=
  match s.red.cfgNext with
  | some v => if bits % 4 = 0 then mset (objReset .devRedCfg 0) [] (objKey .devRedCfg 0) v else []
  | none => []

/-- The internal reset is asserted (R68): everything returns to its reset value but the RTC, the OTP, the trim store, the
flash, the ledger memory and RESET_CAUSE. -/
def assertReset (s : State) (bits : Nat) : State :=
  { State.reset with
    pending := s.pending
    regs := redCfgNext s bits
    pwr := { s.pwr with
      rst := true, locked := false, coreLost := false, pwmLost := false, convLost := false, twinRole := 0 }
    nv := { cutNv s with cause := resetCause s bits }
    ctl := { Ctl.reset with freeCnt := s.ctl.freeCnt + 1 } }

/-- RESET_CAUSE bits. -/
def rcPowerOn : Nat := 1
def rcSupply : Nat := 2
def rcPorst : Nat := 128
def rcRequest : Nat := 256
def rcWatchdog : Nat := 512
def rcJtag : Nat := 1024

/-- Bit of a rail in BELOW_WARN, and its bit of RESET_CAUSE.RAILS above bit 2 (R69, R85). -/
def railBit : Rail → Nat
  | .core => 1
  | .ser => 2
  | .a => 4
  | .io => 8
  | .a5 => 16

end Sys2Proof.Machine
end

