-- ==== Sys2Proof/Machine/Ledger.lean ====
section
/-!
DEFINITION. The ledger and the calendar (R380 to R395). The data phase of a write is one step from its trigger to its
completion: the snapshot is taken at the trigger, the slot holds its new record from the completion on.
-/

namespace Sys2Proof.Machine

/-! ## Records (R381) -/

/-- The counters of a snapshot as the record's bytes 0x020 to 0x69F. -/
def ledgData (s : State) : List Byte :=
  leBytes 32 (getObj s .devLedger 0) ++ (List.range 8).flatMap (fun p => leBytes 8 (getObj s .lkLedger p))
    ++ List.replicate 32 0 ++ (List.range 48).flatMap (fun n => leBytes 32 (getObj s .axLedger n))

/-- A record without its CRC. -/
def ledgBody (serial : Nat) (w : LedgWrite) : List Byte :=
  leBytes 4 0x47444C43 ++ leBytes 2 1 ++ leBytes 2 0x800 ++ leBytes 4 w.seq ++ leBytes 8 serial ++ leBytes 4 w.cal
    ++ leBytes 1 w.cause ++ List.replicate 7 0 ++ w.data ++ List.replicate 348 0

/-- A record. -/
def ledgRecord (serial : Nat) (w : LedgWrite) : List Byte :=
  let b := ledgBody serial w
  b ++ leBytes 4 (crc32 b)

/-- The bytes of slot `k` of the ledger memory. -/
def ledgSlot (s : State) (k : Nat) : List Byte := memBytes 0 s.nv.ledgMem (k * 0x800) 0x800

/-- A slot holds a record of some device: magic, version, length and CRC are correct (R389). -/
def ledgIntact (s : State) (k : Nat) : Bool :=
  let b := ledgSlot s k
  !s.nv.ledgTorn.contains k && decide (fieldB b 0 4 = 0x47444C43) && decide (fieldB b 4 2 = 1)
    && decide (fieldB b 6 2 = 0x800) && decide (fieldB b 0x7FC 4 = crc32 (b.take 0x7FC))

/-- The record carries the device serial. -/
def ledgOwn (s : State) (k : Nat) : Bool := decide (fieldB (ledgSlot s k) 12 8 = s.nv.serial)

/-- Sequence of the record in a slot. -/
def ledgSeq (s : State) (k : Nat) : Nat := fieldB (ledgSlot s k) 8 4

/-- Valid slots (R389). -/
def ledgValid (s : State) : List Nat := (List.range 8).filter (fun k => ledgIntact s k && ledgOwn s k)

/-- The newest valid slot: the one to which no other valid record is newer. -/
def ledgNewest (s : State) : Option Nat :=
  let vs := ledgValid s
  vs.find? (fun k => !vs.any (fun j => seqNewer (ledgSeq s j) (ledgSeq s k)))

/-- The memory does not respond: every byte of every slot reads 0x00, or every one 0xFF. -/
def ledgSilent (s : State) : Bool :=
  s.nv.ledgTorn.isEmpty
    && (s.nv.ledgMem.all (fun c => decide (0x4000 ≤ c.1))
      || (List.range 0x4000).all (fun a => mget 0#8 s.nv.ledgMem a == 0xFF#8))

/-! ## Device counters (R383, R384) -/

/-- A device or link counter advances by `k`; one that would pass its largest value stays there and sets its SAT bit `b`
once. -/
def ledgDev (s : State) (f : Fld) (i b k : Nat) : State :=
  let v := rd s f i + k
  if v < 2 ^ f.w then wr s f i v
  else
    let s1 := wr s f i (2 ^ f.w - 1)
    let m := rd s F.devLedger_SAT 0
    if bit m b then s1 else raiseD (wr s1 F.devLedger_SAT 0 (m ||| 2 ^ b)) 0xA0 b

/-! ## Writing (R386 to R388) -/

/-- A write can be made: the ledger is loaded, its memory answers and has not failed. -/
def ledgCanWrite (s : State) : Bool :=
  rdB s F.devLedgStat_LOADED 0 && !rdB s F.devLedgStat_NOMEM 0 && !rdB s F.devLedgStat_MEM_FAIL 0

/-- Slot and sequence of the next write: after those of the newest valid record, else slot 0 with sequence 1. -/
def ledgNext (s : State) : Nat × Nat :=
  match s.ledg.newest with
  | none => (0, 1)
  | some (k, q) => ((k + 1) % 8, (q + 1) % 2 ^ 32)

/-- The record in slot `k` with sequence `q` is the newest: LEDG_STAT shows it. -/
def ledgNote (s : State) (k q : Nat) : State :=
  wr (wr { s with ledg := { s.ledg with newest := some (k, q) } } F.devLedgStat_SLOT 0 k) F.devLedgStat_SEQ 0 q

/-- BUSY and SNAP_BUSY. -/
def ledgBusy (s : State) (b : Bool) : State := wrB (wrB s F.devLedgStat_BUSY 0 b) F.devSupply_SNAP_BUSY 0 b

/-- A write starts: the counters and the calendar are taken (R387). -/
def ledgStart (s : State) (cause : Nat) (forReset bo : Bool) : State :=
  let n := ledgNext s
  let w : LedgWrite :=
    { cause := cause, slot := n.1, seq := n.2, cal := if s.nv.rtc.valid then s.nv.rtc.sec else 0, data := ledgData s,
      retry := false, forReset := forReset, bo := bo }
  ledgBusy { s with ledg := { s.ledg with write := some w } } true

/-- A trigger of R386: a write starts, or waits for the end of the one in progress. -/
def ledgTrigger (s : State) (cause : Nat) (forReset : Bool) : State :=
  if !ledgCanWrite s then s
  else match s.ledg.write with
    | some _ => { s with ledg := { s.ledg with waiting := s.ledg.waiting ++ [cause] } }
    | none => ledgStart s cause forReset (decide (cause = 2))

/-- A warning crossing asks for a snapshot unless one for a brown-out runs, waits or completed within 100 ms (R86). -/
def ledgBrown (s : State) : State :=
  let recent := match s.ledg.lastBo with
    | some t => decide (locNs s ≤ t + 100000000)
    | none => false
  let running := match s.ledg.write with
    | some w => w.bo
    | none => false
  if recent || running || s.ledg.waiting.contains 2 then s else ledgTrigger s 2 false

/-- A granted reset: the ledger snapshot first, then the internal reset with RESET_CAUSE bit `bits` (R70, R377). Without a
ledger to write the reset is asserted at once. -/
def grantReset (s : State) (bits cause : Nat) : State :=
  if ledgCanWrite s then
    ledgTrigger { s with ctl := { s.ctl with resetWait := some (s.ctl.resetWait.getD 0 ||| bits) } } cause true
  else assertReset s bits

/-- Lowest of the waiting causes. -/
def minCause : List Nat → Nat → Nat
  | [], c => c
  | x :: xs, c => minCause xs (min x c)

/-- A write has ended: a reset that waited for it is asserted; else waiting triggers merge into one write (R388). -/
def ledgEnd (s : State) (w : LedgWrite) : State :=
  let s1 := ledgBusy { s with ledg := { s.ledg with write := none,
                                                    lastBo := if w.bo then some (locNs s) else s.ledg.lastBo } } false
  if w.forReset then assertReset s1 (s1.ctl.resetWait.getD rcRequest)
  else match s1.ledg.waiting with
    | [] => s1
    | c :: cs =>
      let s2 := { s1 with ledg := { s1.ledg with waiting := [] } }
      if ledgCanWrite s2 then ledgStart s2 (minCause cs c) s2.ctl.resetWait.isSome ((c :: cs).contains 2)
      else if s2.ctl.resetWait.isSome then assertReset s2 (s2.ctl.resetWait.getD rcRequest)
      else s2

/-- The slot of a write that compared well holds its record. -/
def ledgStore (s : State) (w : LedgWrite) : State :=
  { s with nv := { s.nv with ledgMem := memWrite 0 s.nv.ledgMem (w.slot * 0x800) (ledgRecord s.nv.serial w),
                             ledgTorn := s.nv.ledgTorn.filter (· ≠ w.slot) } }

/-- A write compared well: its record is the newest (R386). -/
def ledgOk (s : State) (w : LedgWrite) : State :=
  let s1 := ledgNote (ledgStore s w) w.slot w.seq
  incSat { s1 with ledg := { s1.ledg with fails := 0 } } F.devLedgStat_WRITES 0

/-- A compare failed: counted, with EV_LEDGER_WRITE. What the slot holds is open: the record, or nothing valid. -/
def ledgBad (s : State) (w : LedgWrite) : State :=
  let d := drawBool s
  let s1 := if d.2 then ledgStore d.1 w
            else { d.1 with nv := { d.1.nv with ledgTorn := w.slot :: d.1.nv.ledgTorn.filter (· ≠ w.slot) } }
  raiseD (incSat s1 F.devLedgStat_ERRS 0) 0xA1 w.slot

/-- LEDGER_WRITE_DONE: completion, the retry with the next sequence in the next slot, or the end of a failed write; three
of these in a row stop the writing (R387). -/
def execLedgerWriteDone (ok : Bool) (s : State) : Out := clocked s <|
  match s.ledg.write with
  | none => done s
  | some w =>
    if ok then done (ledgEnd (ledgOk s w) w)
    else
      let s1 := ledgBad s w
      if w.retry then
        let f := s1.ledg.fails + 1
        let s2 := { s1 with ledg := { s1.ledg with fails := f } }
        done (ledgEnd (if 3 ≤ f then wr s2 F.devLedgStat_MEM_FAIL 0 1 else s2) w)
      else
        let w2 := { w with slot := (w.slot + 1) % 8, seq := (w.seq + 1) % 2 ^ 32, retry := true }
        done { s1 with ledg := { s1.ledg with write := some w2 } }

/-- LEDGER_INTERVAL_EXPIRY: cause 1. One that falls due during a brown-out snapshot merges with it (R386, R388). -/
def execLedgerIntervalExpiry (s : State) : Out := clocked s <|
  match s.ledg.write with
  | some w => done (if w.bo then s else ledgTrigger s 1 false)
  | none => done (ledgTrigger s 1 false)

/-! ## Loading (R389) -/

/-- The counters, SAT bits and sequence of the record in slot `k`. -/
def ledgRestore (s : State) (k : Nat) : State :=
  let b := ledgSlot s k
  let s1 := setObj s .devLedger 0 (fieldB b 0x20 32)
  let s2 := (List.range 8).foldl (fun t p => setObj t .lkLedger p (fieldB b (0x40 + 8 * p) 8)) s1
  let s3 := forAxes (fun t n => setObj t .axLedger n (fieldB b (0xA0 + 32 * n) 32 % 2 ^ 230)) s2
  ledgNote s3 k (ledgSeq s k)

/-- The counts from before the load are added, and the power cycle (R383). -/
def ledgAdd (old s : State) : State :=
  let s1 := ledgDev s F.devLedger_POWER_ON 0 0 (rd old F.devLedger_POWER_ON 0)
  let s2 := ledgDev s1 F.devLedger_BROWNOUTS 0 2 (rd old F.devLedger_BROWNOUTS 0)
  if bit s.nv.cause 0 then ledgDev s2 F.devLedger_POWER_CYCLES 0 1 1 else s2

/-- LEDGER_LOAD: once after a reset, the newest valid record is loaded; none found is NEW, FOREIGN or NOMEM. -/
def execLedgerLoad (s : State) : Out := clocked s <|
  if rdB s F.devLedgStat_LOADED 0 || s.pwr.rst || decide (mode s < mTest) then done s
  else
    let s0 := wr s F.devLedgStat_LOADED 0 1
    if ledgSilent s then
      done (raiseD (wr (ledgAdd s (setObj s0 .devLedger 0 0)) F.devLedgStat_NOMEM 0 1) 0xA3 0)
    else match ledgNewest s with
      | some k => done (ledgAdd s (ledgRestore s0 k))
      | none =>
        let s1 := ledgAdd s (setObj s0 .devLedger 0 0)
        let s2 := if (List.range 8).any (fun k => ledgIntact s k) then wr s1 F.devLedgStat_FOREIGN 0 1 else s1
        done (raiseD (wr s2 F.devLedgStat_NEW 0 1) 0xA2 0)

/-! ## Time counters and the fold (R382, R385) -/

/-- The output of an auxiliary channel is valid and above a limit. -/
def auxAbove (s : State) (ch : Nat) (lim : Int) : Bool :=
  decide (ch < 8) && tValid (auxCh s ch).out.tag && decide (lim < (auxCh s ch).out.x)

/-- Axis `n` is energised: a driving mode with DRV_EN of its group high, not held with brake. -/
def energised (s : State) (n : Nat) : Bool :=
  driving s n && bit (rd s F.devDrvStat_EN 0) (n / 12) && !(rdB s F.axMode_HELD n && (ax s n).pwm.brake)

/-- Accumulators of axis `n`: ENERGISED, ILIM_S and OT_S; the device's POWER_ON has its own. -/
def accPower : Nat := 0
def accAxis (n c : Nat) : Nat := 1 + 3 * n + c

/-- A millisecond passes for an accumulator whose condition holds. -/
def accMs (s : State) (k : Nat) (on : Bool) : State :=
  if on then { s with ledg := { s.ledg with acc := mset 0 s.ledg.acc k (mget 0 s.ledg.acc k + 1) } } else s

/-- The accumulators of axis `n` take a millisecond. -/
def accAxisMs (s : State) (n : Nat) : State :=
  accMs (accMs (accMs s (accAxis n 0) (energised s n)) (accAxis n 1) (rdB s F.axLoopStat_V_SAT n)) (accAxis n 2)
    (auxAbove s (rd s F.axLedgCfg_OT_CH n) (rdS s F.axLedgCfg_OT_LIM n))

/-- One raw counter is folded: the ledger counter advances by its difference since the last fold. -/
def foldOne (s : State) (raw f : Fld) (i key b : Nat) : State :=
  let v := rd s raw i
  let d := (v + 2 ^ 32 - mget 0 s.ledg.base key) % 2 ^ 32
  ledgDev { s with ledg := { s.ledg with base := mset 0 s.ledg.base key v } } f i b d

/-- Every raw counter is folded (R385). -/
def foldAll (s : State) : State :=
  let s1 := foldOne s F.devSpecTot_SQUASH_TOT F.devLedger_SQUASH 0 0 3
  let s2 := foldOne s1 F.devSpecTot_MISS_TOT F.devLedger_MISS 0 1 4
  (List.range 8).foldl (fun t p =>
    foldOne (foldOne t F.lkTot_CRC_TOT F.lkLedger_CRC p (2 + p) (8 + p)) F.lkTot_REPLAY_TOT F.lkLedger_REPLAYS p (10 + p)
      (16 + p)) s2

/-- LEDGER_FOLD: every millisecond of CORE time. The time accumulators take the same millisecond (R382, R385). -/
def execLedgerFold (s : State) : Out := clocked s <|
  if s.pwr.rst then done s else done (foldAll (forAxes accAxisMs (accMs s accPower true)))

/-- A full second leaves an accumulator. -/
def accTake (s : State) (k : Nat) : Option State :=
  let v := mget 0 s.ledg.acc k
  if 1000 ≤ v then some { s with ledg := { s.ledg with acc := mset 0 s.ledg.acc k (v - 1000) } } else none

/-- A time counter of an axis takes a second where its accumulator holds one. -/
def secAxis (s : State) (n c b : Nat) (f : Fld) : State :=
  match accTake s (accAxis n c) with
  | some t => ledgAxis t f n b 1
  | none => s

/-- LEDGER_SECOND: each accumulator that has reached 1,000 ms adds one to its counter (R382, R383). -/
def execLedgerSecond (s : State) : Out := clocked s <|
  let s1 := match accTake s accPower with
    | some t => ledgDev t F.devLedger_POWER_ON 0 0 1
    | none => s
  done (forAxes (fun t n =>
    secAxis (secAxis (secAxis t n 0 2 F.axLedger_ENERGISED) n 1 4 F.axLedger_ILIM_S) n 2 5 F.axLedger_OT_S) s1)

/-- CLR_AXIS: the six counters and the SAT bits of an axis (R390). -/
def ledgClear (s : State) (n : Nat) : State := setObj s .axLedger n 0

/-! ## The calendar (R391 to R395) -/

/-- The RTC domain is changed. -/
def setRtc (s : State) (r : Rtc) : State := { s with nv := { s.nv with rtc := r } }

/-- The RTC domain has neither supply: VDD_IO is below its reset level and VBAT below 2.00 V (R391, R395). -/
def rtcDead (s : State) : Bool := s.pwr.vbatLow && !bit s.pwr.inRange 3

/-- A domain that has lost both supplies loses its state: VALID clear, the count 0 (R391). -/
def rtcSupply (s : State) : State := if rtcDead s then setRtc s Rtc.reset else s

/-- A second begins at count `c`: its length, with the trim that a multiple of 64 takes (R392). -/
def rtcBegin (s : State) (r : Rtc) (c : Nat) : Rtc :=
  let tr := if c % 64 = 0 then rdS s F.devCalCfg_TRIM 0 else r.trim
  { r with sec := c, trim := tr, clocks := if c % 64 = 0 then ((32768 : Int) - tr).toNat else 32768 }

/-- CAL_EDGE shows the fabric time of the second's edge. -/
def calEdge (s : State) : State := if !coreRuns s then s else wr s F.devCalEdge_EDGE 0 (nowNs s)

/-- CALENDAR_SECOND: the count advances and may wrap; a stopped oscillator or a domain without supply advances
nothing (R391, R392). -/
def execCalendarSecond (s : State) : Out :=
  let r := s.nv.rtc
  if r.running && !rtcDead s then
    let c := (r.sec + 1) % 2 ^ 32
    done (calEdge (setRtc s (rtcBegin s { r with wrapped := r.wrapped || decide (c = 0) } c)))
  else done s

/-- A value of CAL_SET starts through C10 (R393). -/
def calSend (s : State) (v : Nat) : State := setRtc s { s.nv.rtc with sets := s.nv.rtc.sets ++ [v] }

/-- CAL_SET_APPLY: the value reaches the RTC: the count, the second's restart, VALID; LAGGED clears (R393, R395). -/
def execCalSetApply (s : State) : Out :=
  match s.nv.rtc.sets with
  | [] => done s
  | v :: vs =>
    let r := rtcBegin s { s.nv.rtc with sets := vs, valid := true, lagged := false } v
    done (if rtcDead s then s else calEdge (setRtc s r))

/-- Whether this node is the grandmaster (R298): FAB_STAT.GM names it; a node that has no ID yet leads itself. -/
def isGm (s : State) : Bool :=
  !rdB s F.devFabStat_ID_VALID 0 || decide (rd s F.devFabStat_GM 0 = rd s F.devFabStat_NODE_ID 0)

/-- CALENDAR_FOLLOW: `gm` carries the grandmaster's DEV.CAL below its DEV.CAL_EDGE. A follower that is not valid or
differs sends the count after the grandmaster's, to take effect at its next edge (R394). -/
def execCalendarFollow (gm : Nat) (s : State) : Out := clocked s <|
  let sec := gm % 2 ^ 32
  let edge := gm / 2 ^ 64
  let count := (sec + (nowNs s - edge) / 1000000000) % 2 ^ 32
  if rdB s F.devCalCfg_CAL_SRC 0 && !isGm s && rdB s F.devFabStat_TIME_LOCK 0 && bit gm 32
      && (!s.nv.rtc.valid || decide (s.nv.rtc.sec ≠ count)) then
    done (calSend s ((count + 1) % 2 ^ 32))
  else done s

/-- RTC_OSCILLATOR_STOP: the count holds, EV_RTC_STOP is raised, LAGGED stays (R23, R395). -/
def execRtcOscillatorStop (s : State) : Out :=
  let s1 := if rtcDead s then s else setRtc s { s.nv.rtc with running := false, lagged := true }
  done (if coreRuns s then raiseD s1 0x17 0 else s1)

/-- RTC_OSCILLATOR_RESTART: the calendar resumes from its held value, LAGGED still set (R395). -/
def execRtcOscillatorRestart (s : State) : Out := done (setRtc s { s.nv.rtc with running := true })

end Sys2Proof.Machine
end

