-- ==== Sys2Proof/Machine/Fabric.lean ====
section
/-!
DEFINITION. The fabric's commands: links through their states (R278, R279, R288, R289), link words (R281), frames in and
out (R284 to R287, R303), discovery (R291 to R293), fabric time (R299), SYNC (R302), and the fabric's timers.
-/

namespace Sys2Proof.Machine

/-! ## What follows every change -/

/-- Ports towards a duplicate go into QUAR with reason 9 (R293). -/
def quarDups (s : State) : State :=
  (upPorts s).foldl (fun t p =>
    match lsrOf t.fab.lsdb (rd t F.lkNbr_SERIAL p) with
    | some e => if e.dup then linkQuar t p 9 else t
    | none => t) s

/-- What follows a fabric command: duplicates' ports, lost twin links, settling. -/
def fabEnd (old s : State) : State :=
  let t := quarDups (twinCheck old s)
  showRed (if isSettled t then settle t true else t)

/-- The end of a fabric command. -/
def fabDone (old s : State) : Out := done (fabEnd old s)

/-! ## Training (R278, R279, R288) -/

/-- A link trains again, or rests where it may not. -/
def retrain (s : State) (p : Nat) : State :=
  if mayTrain s p then linkTrain s p else setLink s p lOff (rd s F.lkStat_DOWN_WHY p)

/-- LINK_TRAIN_START: OFF to TRAIN where the link may train; without a fabric key the link stays OFF and says so. -/
def execLinkTrainStart (p : Fin 8) (s : State) : Out := clocked s <|
  if lkState s p = lOff ∨ lkState s p = lDown then
    if mayTrain s p then done (linkTrain s p)
    else if rdB s F.lkCfg_EN p && noKey s && fabActive s then done (setLink s p lOff 12)
    else done s
  else done s

/-- Clause 72 training runs: preset 0 and not timed out. -/
def clause72 (s : State) (p : Nat) : Bool := decide (rd s F.lkCfg_PRESET p = 0) && !(lk s p).preset3

/-- LINK_TRAINING_TIMEOUT: the link goes on at preset 3 (R278). -/
def execLinkTrainingTimeout (p : Fin 8) (s : State) : Out := clocked s <|
  done (if lkState s p = lTrain ∧ clause72 s p then modLk s p (fun l => { l with preset3 := true }) else s)

/-- LINK_BLOCK_LOCK: TRAIN to HELLO, with a fresh nonce; training that completed shows in TRAINED (R278, R288, R289). -/
def execLinkBlockLock (p : Fin 8) (s : State) : Out := clocked s <|
  if lkState s p = lTrain then
    let d := drawBelow s (2 ^ 128)
    let s1 := modLk (wr d.1 F.lkStat_STATE p lHello) p (fun l => { l with nonce := d.2 })
    done (wrB s1 F.lkStat_TRAINED p (clause72 s p))
  else done s

/-- TRAIN_LOCK_TIMEOUT: DOWN for no signal or no lock; which of the two the partner's silence is, is free (R288, R306). -/
def execTrainLockTimeout (p : Fin 8) (s : State) : Out := clocked s <|
  if lkState s p = lTrain then
    let d := drawBool s
    done (linkDown d.1 p (if d.2 then 2 else 3))
  else done s

/-! ## Joining (R288, R289) -/

/-- HELLO_SEND. -/
def execHelloSend (p : Fin 8) (s : State) : Out := clocked s <|
  done (if lkState s p = lHello then sendBring s p (helloBytes s p) else s)

/-- HELLO_RECEIVE: the partner's HELLO is accepted unless the cable comes back to this device (R289). -/
def execHelloReceive (p : Fin 8) (f : Frame) (s : State) : Out := clocked s <|
  if frameKind f ≠ 1 then done s
  else
    let r := frameIn s p f
    match r.2 with
    | none => fabDone s r.1
    | some x =>
      let pl := x.payload
      if fieldB pl 8 8 = s.nv.serial then fabDone s (linkDown r.1 p 10)
      else
        let s1 := wr r.1 F.lkNbr_SERIAL p (fieldB pl 8 8)
        let s2 := modLk (wr s1 F.lkStat_NBR_PORT p (fieldB pl 1 1 % 8)) p (fun l =>
          { l with
            nbrClaim := fieldB pl 2 1, nbrFlags := fieldB pl 3 1, nbrFinger := fieldB pl 16 8, nbrNonce := fieldB pl 24 16 })
        fabDone s (if lkState s2 p = lHello then wr s2 F.lkStat_STATE p lJoin else s2)

/-- JOIN_SEND. -/
def execJoinSend (p : Fin 8) (s : State) : Out := clocked s <|
  done (if lkState s p = lJoin then sendBring s p (joinBytes s p) else s)

/-- A join fails: counted, QUAR with reason 7. -/
def joinFail (s : State) (p : Nat) : State := linkQuar (incSat s F.lkCnt_AUTH_FAIL p) p 7

/-- A link goes UP: full buffers granted, the first LSEQ open, buckets full; a port of the fabric changes the own links. -/
def linkUp (s : State) (p : Nat) : State :=
  let d := drawBelow s 4096
  let s1 := raiseD (wr d.1 F.lkStat_STATE p lUp) 0x70 p
  let s2 := modLk s1 p (fun l =>
    { l with
      txSeq := d.2, unacked := [], again := [], rounds := 0, rxNext := none, nakOut := false, grant := [0, 0, 0, 0],
      used := [0, 0, 0, 0], given := fullCredits, wrr := wrrRound, tokens := [64000000, 64000000], tokAt := locNs s,
      xno := 0, t1 := none, delays := [], cong := [] })
  let s3 := putWords s2 p (creditWords (lk s2 p))
  if isTwin s3 p then s3 else ownUpdate s3

/-- A partner's JOIN is valid (R289): MAC, both serials' and both nonces' fields that name this device. -/
def joinValid (s : State) (p : Nat) (h : Hdr) (bs pl : List Byte) : Bool :=
  macGood s h bs && decide (fieldB pl 0x10 8 = s.nv.serial ∧ fieldB pl 0x28 16 = (lk s p).nonce)

/-- JOIN_RECEIVE: in JOIN the link goes UP on a valid JOIN and into QUAR on any other (R288, R289). -/
def execJoinReceive (p : Fin 8) (f : Frame) (s : State) : Out := clocked s <|
  if frameKind f ≠ 2 then done s
  else
    let r := frameIn s p f
    match r.2 with
    | none => fabDone s r.1
    | some x =>
      if lkState r.1 p ≠ lJoin then fabDone s r.1
      else if joinValid r.1 p x.hdr f.bytes x.payload then
        fabDone s (linkUp (modLk r.1 p (fun l => { l with joinTime := some (x.hdr.time, locNs s) })) p)
      else fabDone s (joinFail (if macGood r.1 x.hdr f.bytes then r.1 else macFailure r.1 p) p)

/-- JOIN_TIMEOUT: 10 ms in JOIN without a valid JOIN. -/
def execJoinTimeout (p : Fin 8) (s : State) : Out := clocked s <| done (if lkState s p = lJoin then joinFail s p else s)

/-- QUAR_TIMEOUT: back to TRAIN. -/
def execQuarTimeout (p : Fin 8) (s : State) : Out := clocked s <| done (if lkState s p = lQuar then retrain s p else s)

/-- DOWN_TIMEOUT: back to TRAIN. -/
def execDownTimeout (p : Fin 8) (s : State) : Out := clocked s <| done (if lkState s p = lDown then retrain s p else s)

/-- DOWN_WHY of a loss. -/
def lossWhy : LossWhy → Nat
  | .noSignal => 2
  | .lockLost => 3
  | .silent => 4

/-- LINK_LOSS: an UP link is lost (R279, R288, R296, R297). -/
def execLinkLoss (p : Fin 8) (why : LossWhy) (s : State) : Out := clocked s <|
  if isUp s p then fabDone s (linkDown s p (lossWhy why)) else done s

/-! ## Link words (R281, R285, R286) -/

/-- ACK_RECEIVE. -/
def execAckReceive (p : Fin 8) (word : BitVec 24) (s : State) : Out := clocked s <|
  match wordBody 1 word with
  | some b => done (if isUp s p then ackUpTo s p (b % 4096) else s)
  | none => done s

/-- NAK_RECEIVE: a replay round from the sequence named. -/
def execNakReceive (p : Fin 8) (word : BitVec 24) (s : State) : Out := clocked s <|
  match wordBody 2 word with
  | some b =>
    if isUp s p then fabDone s (replayFrom s p ((lk s p).unacked.dropWhile (fun x => x.lseq != b % 4096))) else done s
  | none => done s

/-- CREDIT_RECEIVE: the running total of a class. -/
def execCreditReceive (p : Fin 8) (word : BitVec 24) (s : State) : Out := clocked s <|
  match wordBody 3 word with
  | some b =>
    if isUp s p then
      done (easeCong (modLk s p (fun l => { l with grant := l.grant.set (b % 4) (b / 4) })) p (b % 4))
    else done s
  | none => done s

/-- DOWN_WORD_RECEIVE: the partner takes the link down for the reason it names. -/
def execDownWordReceive (p : Fin 8) (word : BitVec 24) (s : State) : Out := clocked s <|
  match wordBody 4 word with
  | some b => if isUp s p then fabDone s (linkDown s p (b % 16)) else done s
  | none => done s

/-- CREDIT_SEND_TIMER: a CREDIT word for each class. -/
def execCreditSendTimer (p : Fin 8) (s : State) : Out := clocked s <|
  done (if isUp s p then putWords s p (creditWords (lk s p)) else s)

/-- REPLAY_TIMEOUT: a replay round from the oldest unacknowledged frame. -/
def execReplayTimeout (p : Fin 8) (s : State) : Out := clocked s <|
  if isUp s p then fabDone s (replayFrom s p (lk s p).unacked) else done s

/-! ## Frames (R284, R303) -/

/-- FRAME_TRANSMIT: waiting exchanges and replies of this node come first into the transmit queues; then a frame starts. -/
def execFrameTransmit (p : Fin 8) (s : State) : Out := clocked s <|
  if isUp s p then done (startFrame (sendReply (sendExch (expireTransit s p) p) p) p) else done s

/-- FRAME_RECEIVE: a frame that carries no fabric control payload of R283. -/
def execFrameReceive (p : Fin 8) (f : Frame) (s : State) : Out := clocked s <|
  if frameKind f ≠ 0 then done s
  else
    let r := frameIn s p f
    match r.2 with
    | none => fabDone s r.1
    | some x => if x.hdr.fctl then fabDone s r.1 else fabDone s (toDest r.1 p x.hdr x.payload)

/-- CONGESTION_ONSET: the first waiting frame of a class has lacked credits for 10 µs (R306). -/
def execCongestionOnset (p : Fin 8) (cls : Cls) (s : State) : Out := clocked s <|
  let c := match cls with | .rt => 0 | .ctl => 1 | .bulk => 2 | .mgmt => 3
  let waits := match classNext s p c with | some x => !hasCredits s p c x.2 | none => false
  if isUp s p && waits && !(lk s p).cong.contains c then
    done (raiseD (wr (modLk s p (fun l => { l with cong := c :: l.cong })) F.lkStat_CONGEST p 1) 0x73 (p + 256 * c))
  else done s

/-- STALE_DISCARD: transit frames held 1 ms in the receive buffer of port `p` end, RT frames aside (R306). -/
def execStaleDiscard (p : Fin 8) (cls : Cls) (s : State) : Out := clocked s <|
  let c := match cls with | .rt => 0 | .ctl => 1 | .bulk => 2 | .mgmt => 3
  let xs := if c = cRt then []
    else s.fab.transit.filter (fun x => x.inPort == p.val && x.cls == c && decide (x.at_ + 1000000 ≤ locNs s))
  done (freeTransit (addSat s F.lkCnt_STALE p xs.length) xs)

/-- FLOW_ENTRY_EXPIRY: an entry idle for its lifetime, 1 s or twice the time window, is freed (R304). -/
def execFlowEntryExpiry (key : FlowKey) (s : State) : Out := clocked s <|
  let life := if key.cls = cCtl ∨ key.cls = cMgmt then max 1000000000 (2 * rd s F.devFabCfg_TWIN 0 * 100000) else 1000000000
  done (modFab s (fun x =>
    { x with flows := x.flows.filter (fun y => y.key != key || decide (locNs s < y.at_ + life)) }))

/-! ## Discovery (R291, R292) -/

/-- LSR_SEND: the own link state, under the next sequence, on every port of the fabric. -/
def execLsrSend (s : State) : Out := clocked s <|
  if fabActive s then
    let s1 := ownUpdate (modFab s (fun x => { x with lsrSeq := (x.lsrSeq + 1) % 2 ^ 32 }))
    match ownLsr s1 with
    | some e =>
      let pl := lsrBytes e
      fabDone s (floodOwn s1 (hdr0 s1 true false pl.length) pl)
    | none => fabDone s s1
  else done s

/-- A received LSR changes what routes and IDs are computed from. -/
def lsrDiffers (a b : Lsr) : Bool :=
  !(a.claim == b.claim && a.flags % 8 == b.flags % 8 && a.links == b.links && a.finger == b.finger)

/-- A newer LSR replaces the held one (R291). -/
def takeLsr (s : State) (e : Lsr) : State :=
  if !lsrNews s e then s
  else match lsrOf s.fab.lsdb e.serial with
    | none => dbChanged (modFab s (fun x => { x with lsdb := lsrInsert e x.lsdb }))
    | some o =>
      let s1 := modFab s (fun x => { x with lsdb := lsrInsert { e with id := o.id, dup := o.dup } x.lsdb })
      if lsrDiffers o e then dbChanged s1 else s1

/-- LSR_RECEIVE. -/
def execLsrReceive (p : Fin 8) (f : Frame) (s : State) : Out := clocked s <|
  if frameKind f ≠ 3 then done s
  else
    let r := frameIn s p f
    match r.2 with
    | none => fabDone s r.1
    | some x => fabDone s (takeLsr r.1 (lsrOfBytes r.1 x.payload))

/-- LSR_EXPIRY: a node not refreshed for 350 ms leaves the database (R291). -/
def execLsrExpiry (serial : BitVec 64) (s : State) : Out := clocked s <|
  match lsrOf s.fab.lsdb serial.toNat with
  | some e =>
    if e.serial ≠ s.nv.serial ∧ e.at_ + 350000000 ≤ locNs s then
      fabDone s (dbChanged (modFab s (fun x => { x with lsdb := x.lsdb.filter (fun y => y.serial != e.serial) })))
    else done s
  | none => done s

/-- Every enabled port of the fabric stays in TRAIN, DOWN or OFF: a node settles alone (R292). -/
def aloneNow (s : State) : Bool :=
  (List.range 8).all (fun p => !rdB s F.lkCfg_EN p || isTwin s p || decide (lkState s p = lTrain ∨ lkState s p = lDown
    ∨ lkState s p = lOff))

/-- SETTLE_QUIET_TIMEOUT: the database has been quiet for 10 ms, or every link without a partner for 50 ms (R292). -/
def execSettleQuietTimeout (s : State) : Out := clocked s <|
  if fabActive s then
    let s1 := if aloneNow s then ownUpdate s else s
    done (if isSettled s1 || aloneNow s1 then settle s1 true else s1)
  else done s

/-- ROUTE_FAIL_RECEIVE: a source switches the route to its alternate, once (R296). -/
def execRouteFailReceive (p : Fin 8) (f : Frame) (s : State) : Out := clocked s <|
  if frameKind f ≠ 6 then done s
  else
    let r := frameIn s p f
    match r.2 with
    | none => fabDone s r.1
    | some x =>
      let id := fieldB x.payload 2 2
      let me := rd s F.devFabStat_NODE_ID 0
      match r.1.fab.routes.find? (fun y => y.id == id && y.src == me && !y.onAlt) with
      | none => fabDone s r.1
      | some y =>
        let z := failOver r.1 y
        let s1 := modFab r.1 (fun g => { g with routes := g.routes.map (fun w => if w.id = id then z else w) })
        fabDone s (if z.dead then s1 else raiseD s1 0x76 id)

/-! ## Fabric time (R299, R301) -/

/-- TSYNC_REQUEST_SEND: a request for each UP link of the fabric; a node in LATCH sends none (R290). -/
def execTsyncRequestSend (p : Fin 8) (s : State) : Out := clocked s <|
  if isUp s p && !isTwin s p && decide (mode s ≠ mLatch) then
    let x := ((lk s p).xno + 1) % 65536
    let pl := [4, 1] ++ leBytes 2 x ++ List.replicate 28 0
    done (sendFctl (modLk s p (fun l => { l with xno := x, t1 := none })) p cCtl false true pl)
  else done s

/-- TSYNC_REQUEST_RECEIVE: t2 is taken and a response queued; t3 is stamped as it leaves. -/
def execTsyncRequestReceive (p : Fin 8) (f : Frame) (s : State) : Out := clocked s <|
  if frameKind f ≠ 4 ∨ fieldB f.bytes 17 1 = 2 then done s
  else
    let r := frameIn s p f
    match r.2 with
    | none => fabDone s r.1
    | some x =>
      if mode s = mLatch ∨ fieldB x.payload 1 1 ≠ 1 then fabDone s r.1
      else
        let t := stampNs r.1
        let pl := [4, 2] ++ (x.payload.drop 2).take 14 ++ leBytes 8 t.2 ++ leBytes 8 0
        fabDone s (sendFctl t.1 p cCtl false true pl)

/-- Largest deviation of the rate of fabric time, 200 ppm of the nominal 2^33 (R298). -/
def rateSpan : Nat := 1717986

/-- The node steps its time by half of `o2` ns (R299). -/
def stepTime (s : State) (o2 : Int) : State :=
  let s1 := { s with ctl := { s.ctl with ofs := s.ctl.ofs + o2 * (3 * 2 ^ 31 : Nat) } }
  let s2 := modFab s1 (fun x => { x with stepped := true })
  if s.fab.locked then raiseD s2 0x78 (tc 32 (sat32 (o2.tdiv 2))) else s2

/-- The rate after steering: the PI law's gains are not given, so it is free within its span. -/
def steer (s : State) : State :=
  let d := drawWithin s rateSpan
  { d.1 with ctl := { d.1.ctl with rate := ((2 ^ 33 : Nat) + d.2 : Int).toNat } }

/-- An exchange with the parent: the first steps, the others steer; 16 in a row within 4 ns lock (R299). -/
def parentExch (s : State) (p : Nat) (o2 : Int) : State :=
  let s1 := if s.fab.stepped then steer s else stepTime s o2
  let run := if absN o2 ≤ 8 then min 16 (s1.fab.lockRun + 1) else 0
  let s2 := modFab s1 (fun x => { x with lockRun := run })
  if 16 ≤ run ∧ rd s2 F.devFabStat_TIME_LOCK 0 = 0 then
    raiseD (modFab (wr s2 F.devFabStat_TIME_LOCK 0 1) (fun x => { x with locked := true })) 0x77 p
  else s2

/-- A node steers and steps unless it is the grandmaster or holds (R298, R301). -/
def follows (s : State) : Bool :=
  !rdB s F.devFabStat_TIME_HOLD 0 && rdB s F.devFabStat_ID_VALID 0
    && decide (rd s F.devFabStat_GM 0 ≠ rd s F.devFabStat_NODE_ID 0)

/-- TSYNC_RESPONSE_RECEIVE: delay and offset, kept doubled; the link's delay, and the node's time (R299). -/
def execTsyncResponseReceive (p : Fin 8) (f : Frame) (s : State) : Out := clocked s <|
  if frameKind f ≠ 4 ∨ fieldB f.bytes 17 1 ≠ 2 then done s
  else
    let r := frameIn s p f
    match r.2 with
    | none => fabDone s r.1
    | some x =>
      let pl := x.payload
      let t1 := fieldB pl 8 8
      if (lk r.1 p).t1 ≠ some t1 ∨ fieldB pl 2 2 ≠ (lk r.1 p).xno then fabDone s r.1
      else
        let t := stampNs r.1
        let t4 : Int := t.2
        let t2 : Int := fieldB pl 0x10 8
        let t3 : Int := fieldB pl 0x18 8
        let d2 := (t4 - t1) - (t3 - t2)
        let o2 := (t2 - t1) - (t4 - t3)
        let s1 := modLk t.1 p (fun l => { l with t1 := none, delays := (d2 :: l.delays).take 16 })
        let s2 := wr s1 F.lkStat_LAT p (min 8191 (lkDelay s1 p))
        let s3 := if rdB s2 F.lkStat_PARENT p && follows s2 then parentExch s2 p o2 else s2
        fabDone s (ownUpdate s3)

/-! ## SYNC (R302) -/

/-- SYNC_PERIOD_EXPIRY: the grandmaster's periodic SYNC. -/
def execSyncPeriodExpiry (s : State) : Out := clocked s <|
  let per := rd s F.devFabCfg_SYNC_PER 0
  if fabActive s && isGm s && decide (per ≠ 0) && decide (mode s ≠ mLatch) then done (sendSync s (per * 1000000)) else done s

/-- A SYNC waits for its T; the later number stands. One that comes after its T is counted (R302). -/
def takeSync (s : State) (no t : Nat) : State :=
  let newer := match s.fab.syncPend with
    | some (k, _) => decide (1 ≤ (no + 65536 - k) % 65536 ∧ (no + 65536 - k) % 65536 ≤ 32767)
    | none => true
  let s1 := if t < nowNs s then incSat s F.devFabCnt_SYNC_LATE 0 else s
  if newer then modFab s1 (fun x => { x with syncNo := no, syncPend := some (no, t) }) else s1

/-- SYNC_RECEIVE. -/
def execSyncReceive (p : Fin 8) (f : Frame) (s : State) : Out := clocked s <|
  if frameKind f ≠ 5 then done s
  else
    let r := frameIn s p f
    match r.2 with
    | none => fabDone s r.1
    | some x => fabDone s (takeSync r.1 (fieldB x.payload 2 2) (fieldB x.payload 8 8))

end Sys2Proof.Machine
end

