-- ==== Sys2Proof/Machine/Plan.lean ====
section
/-!
DEFINITION. The placement computation (spec/13_placement.md, R311 to R319, R323, R328): work items, their costs, the
algorithm, flows and routes, the feasibility tests and the plan encoding.
-/

namespace Sys2Proof.Machine

/-! ## Exact fractions -/

/-- A fraction in lowest terms. -/
def fracOf (n d : Nat) : Frac := let g := max 1 (Nat.gcd n d); ⟨n / g, d / g⟩

/-- The sum of two fractions. -/
def fracAdd (a b : Frac) : Frac := fracOf (a.n * b.d + b.n * a.d) (a.d * b.d)

/-- `a ≤ b`. -/
def fracLe (a b : Frac) : Bool := decide (a.n * b.d ≤ b.n * a.d)

/-- `a < b`. -/
def fracLt (a b : Frac) : Bool := decide (a.n * b.d < b.n * a.d)

/-- The quotient of a fraction and a whole number. -/
def fracDiv (a : Frac) (k : Nat) : Frac := fracOf a.n (a.d * k)

/-- A fraction times a whole number, rounded up. -/
def fracCeil (a : Frac) (k : Nat) : Nat := (a.n * k + a.d - 1) / max 1 a.d

def frac0 : Frac := ⟨0, 1⟩

/-- The sum of a list. -/
def fracSum (xs : List Frac) : Frac := xs.foldl fracAdd frac0

/-! ## Inputs (R310) -/

/-- Redundancy roles. -/
def roleSecondary : Nat := 2

/-- The inputs of a node. -/
def inputOf (ps : List PeerInput) (node : Nat) : Option PeerInput := ps.find? (fun p => p.node == node)

/-- The settings of an axis; those of R398 where the inputs name none. -/
def axisInput (ps : List PeerInput) (node axis : Nat) : AxisInput :=
  ((inputOf ps node).bind (fun p => p.axes.find? (fun a => a.axis == axis))).getD
    ⟨axis, 3750, 0, false, 139, 4, 4, false, false⟩

/-- Current period of an axis in cycles (R314). -/
def periodOf (a : AxisInput) : Nat := (if a.dual then 2 else 4) * a.half

/-! ## Items (R312, R314, R315) -/

/-- Cost of a loop item: the current loop, the outer loops' shares, a remote master (R314). -/
def loopCost (base : Nat) (a : AxisInput) (remote : Bool) : Frac :=
  fracOf (base * (a.vdiv * a.pdiv) + 176 * a.pdiv + 256 + (if remote then 32 else 0)) (a.vdiv * a.pdiv)

/-- The loop item of a T0 or T1 record. -/
def loopItem (ps : List PeerInput) (node : Nat) (b : Binding) : Item :=
  let a := axisInput ps node b.axis
  let remote := decide (b.kind = 2 ∧ b.node ≠ node)
  let base := if b.template = 0 then 340 else 160
  { node := node, task := b.task, part := 0, kind := if b.template = 0 then .t0 else .t1, axis := b.axis, home := node,
    far := none, farAxis := b.axis, period := periodOf a,
    cost := if a.exact then loopCost 180 a false else loopCost base a remote,
    sched := some (if a.exact then loopCost 0 a false else loopCost base a remote), winT := periodOf a, lead := a.lead,
    failed := a.failed, exact := a.exact, unplaced := false, device := none, lane := none }

/-- The gear-send item of a follower. -/
def gearItem (ps : List PeerInput) (node : Nat) (b : Binding) : Item :=
  let a := axisInput ps node b.axis
  let m := axisInput ps b.node b.paxis
  { loopItem ps node b with
    part := 3, kind := .gear, axis := b.paxis, home := b.node, far := some node, farAxis := b.axis,
    period := periodOf a * a.vdiv * a.pdiv, cost := ⟨32, 1⟩, sched := some ⟨32, 1⟩, winT := periodOf m, lead := m.lead,
    exact := false }

/-- The four items of a T2 record. The partner's motor item has the period and the window of its own axis. -/
def pairItems (ps : List PeerInput) (node : Nat) (b : Binding) : List Item :=
  let a := axisInput ps node b.axis
  let m := axisInput ps b.node b.paxis
  let t := if (inputOf ps b.node).isSome then periodOf m else Config.absentPeriod node b.task
  let p : Item := { loopItem ps node b with
    kind := .motor, far := some b.node, farAxis := b.paxis, cost := ⟨340, 1⟩, sched := some ⟨340, 1⟩, exact := false }
  [p,
    { p with part := 1, axis := b.paxis, home := b.node, far := some node, farAxis := b.axis,
             period := t, winT := t, lead := m.lead, failed := m.failed },
    { p with part := 2, kind := .pair, period := periodOf a * a.vdiv, cost := fracOf (416 * a.pdiv + 256) a.pdiv,
             sched := none },
    { p with part := 3, kind := .exchange, axis := b.paxis, home := b.node, far := some node, farAxis := b.axis,
             period := periodOf a * a.vdiv, cost := ⟨32, 1⟩, sched := some ⟨32, 1⟩ }]

/-- The items of a record (R312). -/
def expandOne (ps : List PeerInput) (node : Nat) (b : Binding) : List Item :=
  if b.template = 3 then
    [{ loopItem ps node b with kind := .t3, period := 0, cost := frac0, sched := none, exact := false }]
  else if b.template = 2 then pairItems ps node b
  else if b.kind = 2 ∧ b.node ≠ node then [loopItem ps node b, gearItem ps node b]
  else [loopItem ps node b]

/-- Nodes that add work: a secondary mirrors its primary. -/
def drivingNodes (ps : List PeerInput) : List PeerInput := ps.filter (fun p => decide (p.role ≠ roleSecondary))

/-- A device an item names is absent (R316). -/
def absentDev (ps : List PeerInput) (x : Item) : Bool :=
  (x.home :: x.far.toList).any (fun d => (inputOf (drivingNodes ps) d).isNone)

/-- The partner of a record is absent: all its items are unplaced (R313). -/
def absentPartner (ps : List PeerInput) (b : Binding) : Bool :=
  decide (b.kind ≠ 0) && (inputOf (drivingNodes ps) b.node).isNone

/-- Every item of the bindings, those of a record with an absent partner and those that name an absent device marked. -/
def expandAll (ps : List PeerInput) : List Item :=
  (drivingNodes ps).flatMap (fun p => p.bindings.flatMap (fun b =>
    (expandOne ps p.node b).map (fun x => { x with unplaced := absentPartner ps b || absentDev ps x })))

/-! ## Conflicts (R311, R313, R316) -/

/-- The axes a record names. -/
def namedAxes (node : Nat) (b : Binding) : List (Nat × Nat) :=
  (node, b.axis) :: (if b.template = 2 then [(b.node, b.paxis)] else [])

/-- A list names something twice. -/
def hasTwice : List (Nat × Nat) → Bool
  | [] => false
  | x :: xs => xs.contains x || hasTwice xs

/-- The bindings are in conflict. -/
def conflict (db : List Lsr) (ps : List PeerInput) : Bool :=
  let ds := drivingNodes ps
  hasTwice (ds.flatMap (fun p => p.bindings.flatMap (namedAxes p.node)))
    || ds.any (fun p => p.bindings.any (fun b =>
        decide (b.kind ≠ 0) && db.any (fun e => e.id == some b.node && bit e.flags 1)))

/-- Two nodes report the same settings for the axes their bindings name. -/
def sameAxes (ps : List PeerInput) (p q : PeerInput) : Bool :=
  p.bindings.all (fun b => axisInput ps p.node b.axis == axisInput ps q.node b.axis)

/-- The inputs of every secondary equal those of a primary. -/
def rolesAgree (ps : List PeerInput) : Bool :=
  ps.all (fun p => decide (p.role ≠ roleSecondary)
    || ps.any (fun q => decide (q.role = 1) && q.bindings == p.bindings && sameAxes ps p q && q.ssc == p.ssc))

/-! ## Orders -/

/-- Lexicographic order of keys. -/
def keyLt : List Nat → List Nat → Bool
  | a :: as, b :: bs => if a = b then keyLt as bs else decide (a < b)
  | _, _ => false

/-- An element is put in its place by a key. -/
def insertBy {α : Type} (key : α → List Nat) (x : α) : List α → List α
  | [] => [x]
  | y :: ys => if keyLt (key x) (key y) then x :: y :: ys else y :: insertBy key x ys

/-- A list sorted by a key; equal keys keep their order. -/
def sortBy {α : Type} (key : α → List Nat) (xs : List α) : List α := xs.foldl (fun a x => insertBy key x a) []

/-- Sort order of items (R316). -/
def itemOrder (x : Item) : List Nat := [x.period, x.node, x.task, x.part]

/-- Key of an item. -/
def itemKey (x : Item) : List Nat := [x.node, x.task, x.part]

/-! ## Lanes (R316, R319) -/

/-- Load an item puts on its lane. -/
def itemLoad (x : Item) : Frac := fracDiv x.cost (max 1 x.period)

/-- Load of a lane. -/
def laneLoad (xs : List Item) (dev lane : Nat) : Frac :=
  fracSum ((xs.filter (fun x => x.device == some dev && x.lane == some lane)).map itemLoad)

/-- The least-loaded lane of a device, the lowest of equals. -/
def leastLane (xs : List Item) (dev : Nat) : Nat × Frac :=
  (List.range 4).foldl (fun m l =>
    let f := laneLoad xs dev l
    if fracLt f m.2 then (l, f) else m) (0, laneLoad xs dev 0)

/-- 85 %. -/
def laneLimit : Frac := ⟨17, 20⟩

/-- Window length of an item (R315); 0 where it would not be positive. -/
def window (x : Item) : Nat := x.winT + 15 - 2 * x.lead

/-- Density an item puts on its lane. -/
def itemDensity (x : Item) : Frac :=
  match x.sched with
  | some c => if window x = 0 then ⟨1, 1⟩ else fracDiv (fracAdd c ⟨64, 1⟩) (window x)
  | none => frac0

/-- Density of a lane. -/
def laneDensity (xs : List Item) (dev lane : Nat) : Frac :=
  fracSum ((xs.filter (fun x => x.device == some dev && x.lane == some lane)).map itemDensity)

/-- The density limit. -/
def densityLimit : Frac := ⟨19, 20⟩

/-- A lane passes its two tests. -/
def laneFits (xs : List Item) (dev lane : Nat) : Bool :=
  fracLe (laneLoad xs dev lane) laneLimit && fracLe (laneDensity xs dev lane) densityLimit

/-- Hops from node to node along the route of R294. -/
def hopsBetween (db : List Lsr) (ps : List PeerInput) (a b : Nat) : Nat :=
  if a = b then 0
  else match inputOf ps a, inputOf ps b with
    | some x, some y => match pathTo (pathsFrom db x.serial) y.serial with
      | some p => p.edges.length
      | none => 64
    | _, _ => 64

/-- The devices a pair item may go to, best first (R316). Loads are compared exactly, as sums over a common period. -/
def pairCands (db : List Lsr) (ps : List PeerInput) (xs : List Item) (x : Item) : List Nat :=
  let ds := (drivingNodes ps).map (fun p =>
    (p.node, max (hopsBetween db ps p.node x.home) (hopsBetween db ps p.node (x.far.getD x.home)), (leastLane xs p.node).2))
  let better := fun (a b : Nat × Nat × Frac) =>
    if (a.1 = x.home) ≠ (b.1 = x.home) then decide (a.1 = x.home)
    else if a.2.1 ≠ b.2.1 then decide (a.2.1 < b.2.1)
    else if fracLt a.2.2 b.2.2 then true
    else if fracLt b.2.2 a.2.2 then false
    else decide (a.1 < b.1)
  (ds.foldl (fun acc d => (acc.takeWhile (fun y => !better d y)) ++ d :: acc.dropWhile (fun y => !better d y)) []).map (·.1)

/-- The first device whose least-loaded lane takes the item. -/
def firstFit (xs : List Item) (x : Item) : List Nat → Option (Nat × Nat)
  | [] => none
  | d :: ds =>
    let l := leastLane xs d
    if fracLe (fracAdd l.2 (itemLoad x)) laneLimit then some (d, l.1) else firstFit xs x ds

/-- An item goes onto a lane; none that takes it is fault 1. Items without work stay without a lane. -/
def placeItem (db : List Lsr) (ps : List PeerInput) (acc : Option (List Item)) (x : Item) : Option (List Item) :=
  match acc with
  | none => none
  | some xs =>
    if x.unplaced then some (xs ++ [x])
    else if x.cost.n = 0 then some (xs ++ [{ x with device := some x.home }])
    else match firstFit xs x (if x.kind = .pair then pairCands db ps xs x else [x.home]) with
      | some (d, l) => some (xs ++ [{ x with device := some d, lane := some l }])
      | none => none

/-- The item of the same key. -/
def sameItem (xs : List Item) (x : Item) : Option Item := xs.find? (fun y => itemKey y == itemKey x)

/-- What the plan before gave an item, if the item is not affected by its own case (R323): it was placed, is still
placeable, and its device stays. -/
def keptItem (prev : List Item) (ps : List PeerInput) (x : Item) : Option Item :=
  match sameItem prev x with
  | some y =>
    match y.device with
    | some d =>
      if x.unplaced || y.unplaced || (inputOf (drivingNodes ps) d).isNone
          || (decide (x.kind ≠ .pair) && decide (d ≠ x.home)) then none
      else some { x with device := some d, lane := y.lane }
    | none => none
  | none => none

/-- The items that keep device and lane: a lane that no longer passes loses all of its items. -/
def keptItems (prev : List Item) (ps : List PeerInput) (xs : List Item) : List Item :=
  let ks := xs.filterMap (keptItem prev ps)
  ks.filter (fun x => match x.device, x.lane with
    | some d, some l => laneFits ks d l
    | _, _ => true)

/-- Items onto lanes, those kept first; the answer is in sort order. -/
def placeAll (db : List Lsr) (ps : List PeerInput) (prev : List Item) : Option (List Item) :=
  let xs := sortBy itemOrder (expandAll ps)
  let ks := keptItems prev ps xs
  let rest := xs.filter (fun x => (sameItem ks x).isNone)
  (rest.foldl (placeItem db ps) (some ks)).map (sortBy itemOrder)

/-! ## Flows and routes (R318) -/

/-- A flow between two devices before it has a route. -/
def flowOfItem (use : FlowUse) (x : Item) (src dst srcAxis dstAxis period bytes : Nat) : PlanRoute :=
  { id := 0, src := src, dst := dst, srcQ := 0, dstQ := 0, use := use, keyNode := x.node, keyTask := x.task,
    srcAxis := srcAxis, dstAxis := dstAxis, period := period, bytes := bytes, prim := none, alt := none }

/-- The flows of an item (R318); those that stay on one device take no route. -/
def flowsOf (ps : List PeerInput) (xs : List Item) (x : Item) : List PlanRoute :=
  if x.unplaced then []
  else
    let pairDev := ((sameItem xs { x with part := 2 }).bind (·.device)).getD x.home
    let all := match x.kind with
      | .pair =>
        let a := axisInput ps x.node x.axis
        [flowOfItem .iqRef x pairDev (x.far.getD x.home) x.axis x.farAxis x.period 36,
          flowOfItem .setPoint x x.home pairDev x.axis x.axis (x.period * a.pdiv) 84]
      | .exchange => [flowOfItem .exchange x x.home pairDev x.axis x.farAxis x.period 36]
      | .gear => [flowOfItem .gear x x.home (x.far.getD x.home) x.axis x.farAxis x.period 36]
      | _ => []
    all.filter (fun r => decide (r.src ≠ r.dst))

/-- The flow a plan before had: by its item and use, or, in a plan read from its encoding, by its ends (R323). -/
def sameFlow (prev : List PlanRoute) (r : PlanRoute) : Option PlanRoute :=
  prev.find? (fun q => q.src == r.src && q.dst == r.dst
    && ((q.keyNode == r.keyNode && q.keyTask == r.keyTask && q.use == r.use) || q.keyNode == 64))

/-- The lowest number from `n` up that is not used. -/
def lowestFrom (used : List Nat) : Nat → Nat → Nat
  | 0, n => n
  | k + 1, n => if used.contains n then lowestFrom used k (n + 1) else n

/-- Queues of a node that routes have taken. -/
def takenQs (rs : List PlanRoute) (node : Nat) : List Nat :=
  rs.flatMap (fun r => (if r.dst = node then [r.dstQ] else []) ++ (if r.src = node then [r.srcQ] else []))

/-- The lowest queue from 0x1000 up that the node's image leaves unused and no route has taken. -/
def freeQueue (ps : List PeerInput) (rs : List PlanRoute) (node : Nat) (more : List Nat) : Nat :=
  let used := (match inputOf ps node with | some p => p.queues | none => []) ++ takenQs rs node ++ more
  lowestFrom used 65536 0x1000

/-- A new flow takes the lowest free route ID, its destination queue and its source queue. -/
def newRoute (ps : List PeerInput) (rs : List PlanRoute) (r : PlanRoute) : PlanRoute :=
  let d := freeQueue ps rs r.dst []
  { r with id := lowestFrom (rs.map (·.id)) 65536 0, dstQ := d,
           srcQ := freeQueue ps rs r.src (if r.src = r.dst then [d] else []) }

/-- Flows that existed before keep ID and queues; the others follow in order. -/
def allocate (ps : List PeerInput) (prev fs : List PlanRoute) : List PlanRoute :=
  let old := fs.filterMap (fun r => (sameFlow prev r).map (fun q => { r with id := q.id, srcQ := q.srcQ, dstQ := q.dstQ }))
  fs.foldl (fun rs r => if (sameFlow prev r).isSome then rs else rs ++ [newRoute ps rs r]) old

/-- The two paths of a route over a database (R295). -/
def routePaths (db : List Lsr) (ps : List PeerInput) (r : PlanRoute) : Option Path × Option Path :=
  match inputOf ps r.src, inputOf ps r.dst with
  | some a, some b =>
    match pathTo (pathsFrom db a.serial) b.serial with
    | some p => (some p, altPath db a.serial b.serial p)
    | none => (none, none)
  | _, _ => (none, none)

/-- A path as a route record shows it: latency is serialisation, cables and forwarding, rounded up (R287, R328). -/
def routeEnd (bytes : Nat) (p : Path) : RouteEnd :=
  ⟨(p.edges.head?.map (·.port)).getD 0, p.edges.length, p.cost + (8 * bytes + 9) / 10⟩

/-- A route with its paths. -/
def withPaths (db : List Lsr) (ps : List PeerInput) (r : PlanRoute) : PlanRoute :=
  let p := routePaths db ps r
  { r with prim := p.1.map (routeEnd r.bytes), alt := p.2.map (routeEnd r.bytes) }

/-! ## Feasibility (R319) -/

/-- RT load a flow puts on a link: wire time over its period. -/
def flowLoad (r : PlanRoute) : Frac := fracOf (3 * (8 * r.bytes + 128)) (20 * max 1 r.period)

/-- Every directed link that a flow uses on either path, with its load. -/
def linkUses (db : List Lsr) (ps : List PeerInput) (rs : List PlanRoute) : List (Nat × Nat × Frac) :=
  rs.flatMap (fun r =>
    let p := routePaths db ps r
    (p.1.toList ++ p.2.toList).flatMap (fun q => q.edges.map (fun e => (e.src, e.port, flowLoad r))))

/-- The highest load of a link. -/
def linkMax (us : List (Nat × Nat × Frac)) : Frac :=
  us.foldl (fun m u =>
    let f := fracSum ((us.filter (fun v => v.1 == u.1 && v.2.1 == u.2.1)).map (·.2.2))
    if fracLt m f then f else m) frac0

/-- Limit of the RT load of a link. -/
def linkLimit : Frac := ⟨7, 10⟩

/-- Quotas of a pool, in units of 8 cells (R255). -/
def quotaLimit : Nat := 6112

/-- A cross-device item binds an axis on a device with spread spectrum (R24). -/
def spreadBad (ps : List PeerInput) (rs : List PlanRoute) : Bool :=
  rs.any (fun r => [r.src, r.dst, r.keyNode].any (fun d => match inputOf ps d with
    | some p => decide (p.ssc ≠ 0)
    | none => false))

/-- The first test a plan fails, 0 for none. -/
def infeasible (db : List Lsr) (ps : List PeerInput) (xs : List Item) (rs : List PlanRoute) : Nat :=
  if ps.any (fun p => (List.range 4).any (fun l => !fracLe (laneDensity xs p.node l) densityLimit)) then 2
  else if !fracLe (linkMax (linkUses db ps rs)) linkLimit then 3
  else if ps.any (fun p => decide (quotaLimit < p.quotaSum + (takenQs rs p.node).length)) then 4
  else if spreadBad ps rs then 6
  else if rs.any (fun r => r.prim.isNone) then 7
  else 0

/-! ## The plan (R316) -/

/-- A plan, or the reason of a placement fault. `no` is the number it would take. -/
def computePlan (db : List Lsr) (ps : List PeerInput) (prev : Option Plan) (no : Nat) : Plan ⊕ Nat :=
  let old := match prev with | some p => p | none => ⟨0, [], [], []⟩
  if conflict db ps then .inr 5
  else if 32 < (drivingNodes ps).length then .inr 12
  else if !rolesAgree ps then .inr 10
  else match placeAll db ps old.items with
    | none => .inr 1
    | some xs =>
      let rs := (allocate ps old.routes (xs.flatMap (flowsOf ps xs))).map (withPaths db ps)
      match infeasible db ps xs rs with
      | 0 => .inl { no := no, nodes := sortBy (fun n => [n.1]) (ps.map (fun p => (p.node, p.role, p.serial))),
                    items := xs, routes := sortBy (fun r => [r.id]) rs }
      | r => .inr r

/-! ## The encoding (R328) -/

/-- Number of an item kind. -/
def kindNo : ItemKind → Nat
  | .t0 => 0
  | .t1 => 1
  | .motor => 2
  | .pair => 3
  | .exchange => 4
  | .gear => 5
  | .t3 => 6

/-- An item kind by its number. -/
def kindOf : Nat → ItemKind
  | 0 => .t0
  | 1 => .t1
  | 2 => .motor
  | 3 => .pair
  | 4 => .exchange
  | 5 => .gear
  | _ => .t3

/-- A node record. -/
def nodeBytes (n : Nat × Nat × Nat) : List Byte :=
  leBytes 1 n.1 ++ leBytes 1 n.2.1 ++ leBytes 2 0 ++ leBytes 8 n.2.2 ++ leBytes 4 0

/-- An item record. -/
def itemBytes (x : Item) : List Byte :=
  let flags := b2n x.unplaced + 2 * b2n x.failed + 4 * b2n (x.sched.isNone && decide (x.kind ≠ .t3)) + 8 * b2n x.exact
  leBytes 1 x.node ++ leBytes 1 x.part ++ leBytes 2 x.task ++ leBytes 1 (kindNo x.kind) ++ leBytes 1 x.axis
    ++ leBytes 1 (x.device.getD 0xFF) ++ leBytes 1 (x.lane.getD 0xFF) ++ leBytes 4 x.period
    ++ leBytes 2 (fracCeil x.cost 1) ++ leBytes 2 flags

/-- A route record. -/
def routeBytes (r : PlanRoute) : List Byte :=
  let f := fun (e : Option RouteEnd) (g : RouteEnd → Nat) (d : Nat) => (e.map g).getD d
  leBytes 2 r.id ++ leBytes 1 r.src ++ leBytes 1 r.dst ++ leBytes 2 r.srcQ ++ leBytes 2 r.dstQ
    ++ leBytes 1 (f r.prim (·.port) 0xFF) ++ leBytes 1 (f r.alt (·.port) 0xFF) ++ leBytes 1 (f r.prim (·.hops) 0)
    ++ leBytes 1 (f r.alt (·.hops) 0) ++ leBytes 2 (f r.prim (·.latency) 0xFFFF) ++ leBytes 2 (f r.alt (·.latency) 0xFFFF)

/-- The queue records: node, use, queue, route. -/
def queueRecs (rs : List PlanRoute) : List (Nat × Nat × Nat × Nat) :=
  sortBy (fun q => [q.1, q.2.2.1]) (rs.flatMap (fun r => [(r.dst, 0, r.dstQ, r.id), (r.src, 1, r.srcQ, r.id)]))

/-- A queue record. -/
def queueBytes (q : Nat × Nat × Nat × Nat) : List Byte :=
  leBytes 1 q.1 ++ leBytes 1 q.2.1 ++ leBytes 2 q.2.2.1 ++ leBytes 2 1 ++ leBytes 2 q.2.2.2

/-- The plan encoding. -/
def planBytes (p : Plan) : List Byte :=
  let qs := queueRecs p.routes
  leBytes 4 0x4E4C5043 ++ leBytes 2 1 ++ leBytes 2 p.no ++ leBytes 1 p.nodes.length ++ [0]
    ++ leBytes 2 p.items.length ++ leBytes 2 p.routes.length ++ leBytes 2 qs.length
    ++ p.nodes.flatMap nodeBytes ++ (sortBy itemKey p.items).flatMap itemBytes ++ p.routes.flatMap routeBytes
    ++ qs.flatMap queueBytes

/-- DEV.PLAN_HASH: digest byte 0 in bits [7:0]. -/
def planHash (p : Plan) : Nat := leVal (sha256 (planBytes p))

/-- An item record read back: key, device and lane are what a re-placement uses of it. -/
def itemOfBytes (bs : List Byte) : Item :=
  let f := fieldB bs
  { node := f 0 1, task := f 2 2, part := f 1 1, kind := kindOf (f 4 1), axis := f 5 1, home := f 6 1, far := none,
    farAxis := 0, period := f 8 4, cost := ⟨f 12 2, 1⟩, sched := none, winT := 0, lead := 0, failed := bit (f 14 2) 1,
    exact := bit (f 14 2) 3, unplaced := bit (f 14 2) 0, device := if f 6 1 = 0xFF then none else some (f 6 1),
    lane := if f 7 1 = 0xFF then none else some (f 7 1) }

/-- A route record read back: its flow is known by its ends only. -/
def routeOfBytes (bs : List Byte) : PlanRoute :=
  let f := fieldB bs
  { id := f 0 2, src := f 2 1, dst := f 3 1, srcQ := f 4 2, dstQ := f 6 2, use := .exchange, keyNode := 64, keyTask := 0,
    srcAxis := 0, dstAxis := 0, period := 0, bytes := 36, prim := none, alt := none }

/-- A plan read from its encoding (R321). -/
def planOfBytes (bs : List Byte) : Plan :=
  let n := fieldB bs 8 1
  let k := fieldB bs 10 2
  let m := fieldB bs 12 2
  let at_ := fun (base : Nat) (i : Nat) => sliceB bs (base + 16 * i) 16
  { no := fieldB bs 6 2,
    nodes := (List.range n).map (fun i => let r := at_ 16 i; (fieldB r 0 1, fieldB r 1 1, fieldB r 4 8)),
    items := (List.range k).map (fun i => itemOfBytes (at_ (16 + 16 * n) i)),
    routes := (List.range m).map (fun i => routeOfBytes (at_ (16 + 16 * n + 16 * k) i)) }

end Sys2Proof.Machine
end

