-- ==== Sys2Proof/Machine/Place.lean ====
section
/-!
DEFINITION. Placement attempts and re-placements (spec/13_placement.md, R310, R317, R320 to R325).
-/

namespace Sys2Proof.Machine

/-! ## Inputs (R310) -/

/-- Placement is changed. -/
def modPlace (s : State) (f : Place → Place) : State := { s with place := f s.place }

/-- This node's ID. -/
def ownNode (s : State) : Nat := rd s F.devFabStat_NODE_ID 0

/-- Redundancy role as placement reads it: 0 none, 1 primary, 2 secondary. -/
def ownRole (s : State) : Nat :=
  if redKind s = 0 then 0 else if rdB s F.devRedCfg_ROLE 0 then 1 else 2

/-- The settings of an axis. -/
def ownAxis (s : State) (n : Nat) : AxisInput :=
  { axis := n, half := rd s F.axPwmTim_HALF n, phase := rd s F.axPwmTim_PHASE n, dual := rdB s F.axPwmCfg_DUAL n,
    lead := rd s F.axPwmLead_L n, vdiv := vdivOf s n, pdiv := pdivOf s n, exact := rdB s F.axSpecCtl_EXACT n,
    failed := testFailed s n }

/-- Queues of the plan in force on this node. -/
def planQueues (s : State) : List Nat :=
  match s.place.plan with | some p => takenQs p.routes (ownNode s) | none => []

/-- The inputs of this node. -/
def ownInput (s : State) : PeerInput :=
  { node := ownNode s, serial := s.nv.serial, role := ownRole s, ssc := rd s F.devPwmCfg_SSC 0,
    planNo := rd s F.devPlaceStat_PLAN_NO 0, hash := rd s F.devPlanHash_HASH 0, bindings := s.load.bindings,
    axes := (List.range 48).map (ownAxis s),
    queues := (s.load.qcfg.filter (fun q => decide (0x1000 ≤ q.1 ∧ q.2 % 2 ^ 13 ≠ 0))).map (·.1),
    quotaSum := (quotaSum s.qm - (planQueues s).length).toNat, planRec := [] }

/-- Nodes whose inputs a plan reads beside this one's: every connected Corah that is not marked LATCH, HOST or DUP. -/
def placingNodes (s : State) : List Nat :=
  (connected s).filterMap (fun e =>
    if e.serial = s.nv.serial then none else if e.flags % 8 = 0 ∧ !e.dup then e.id else none)

/-- Inputs of all placing nodes, if the command brings those of every peer. -/
def allInputs (s : State) (ps : List PeerInput) : Option (List PeerInput) :=
  let ids := placingNodes s
  let qs := ps.filter (fun p => ids.contains p.node)
  if ids.all (fun i => (inputOf qs i).isSome) then some (ownInput s :: qs) else none

/-! ## Attempts (R321) -/

/-- A placement fault: STATE 4, REASON, ATTEMPTS; the tenth in a row in PLACE goes to LATCH. -/
def placeFault (s : State) (reason : Nat) : State :=
  let k := min 10 (rd s F.devPlaceStat_ATTEMPTS 0 + 1)
  let s1 := wr (wr (wr s F.devPlaceStat_STATE 0 4) F.devPlaceStat_REASON 0 reason) F.devPlaceStat_ATTEMPTS 0 k
  let s2 := modPlace s1 (fun x => { x with run := none, next := none })
  if mode s2 = mPlace ∧ 10 ≤ k then trigger s2 mLatch 8 none else s2

/-- A change of the database abandons an attempt without a fault. -/
def placeAbandon (s : State) : State :=
  modPlace (wr s F.devPlaceStat_STATE 0 (if s.place.since.isSome then 3 else 0)) (fun x =>
    { x with run := none, next := none })

/-- An attempt runs over the database as it stands. A node whose links are all without partners has itself in it. -/
def placeRun (s : State) (st : Nat) : State :=
  let s1 := if (ownLsr s).bind (·.id) = none then ownUpdate s else s
  modPlace (wr s1 F.devPlaceStat_STATE 0 st) (fun x => { x with run := some s1.fab.changes, next := none })

/-- The plan before: the own one, or that of the lowest-numbered holder of another (R321, R322). -/
def prevPlan (s : State) (ps : List PeerInput) : Option Plan :=
  let holders := ps.filter (fun p => decide (p.planNo ≠ 0))
  let top := holders.foldl (fun m p => max m p.planNo) 0
  let cands := if s.place.plan.isSome then holders else holders.filter (fun p => p.planNo == top)
  match minOf (cands.map (·.node)) with
  | none => s.place.plan
  | some i => match inputOf cands i with
    | none => s.place.plan
    | some p =>
      if s.place.plan.isSome ∧ (i = ownNode s ∨ p.hash = rd s F.devPlanHash_HASH 0) then s.place.plan
      else some (planOfBytes p.planRec)

/-! ## Moved axes (R324) -/

/-- An item stands elsewhere than before. -/
def itemMoved (prev : Option Plan) (x : Item) : Bool :=
  match prev.bind (fun p => sameItem p.items x) with
  | some y => !(y.device == x.device && y.lane == x.lane)
  | none => false

/-- The axes of an item that are on a device. -/
def itemAxes (me : Nat) (x : Item) : List Nat :=
  (if x.home = me then [x.axis] else []) ++ (if x.kind = .pair ∧ x.far = some me then [x.farAxis] else [])

/-- Axes of this device that a new plan moves. -/
def movedAxes (s : State) (prev : Option Plan) (p : Plan) : List Nat :=
  (p.items.filter (itemMoved prev)).flatMap (itemAxes (ownNode s))

/-- HOLDING follows. -/
def showHolding (s : State) : State :=
  wrB s F.devPlaceStat_HOLDING 0 (anyAxis (fun n => (ax s n).loop.moveHeld))

/-- Moved axes that drive hold in the manner of HOLD. -/
def holdMoved (s : State) (ns : List Nat) : State :=
  showHolding (ns.foldl (fun t n =>
    if driving t n then modLoop (wr t F.axMode_HELD n 1) n (fun l => { l with moveHeld := true }) else t) s)

/-- At T the held axes resume where the device is in RUN; a trip in between stands. -/
def resumeMoved (s : State) : State :=
  showHolding (forAxes (fun t n =>
    if (ax t n).loop.moveHeld then
      let t1 := modLoop t n (fun l => { l with moveHeld := false })
      if driving t1 n ∧ rdB t1 F.axMode_HELD n ∧ mode t1 = mRun ∧ !(ax t1 n).loop.gearHeld then resumeAxis t1 n else t1
    else t) s)

/-! ## A plan takes effect (R316 to R319, R328) -/

/-- The node whose items this device runs: itself, or the primary that a secondary mirrors. -/
def planNode (s : State) (p : Plan) : Nat :=
  if ownRole s = 2 then
    let sers := (memberIds s).map (fun k => rd s F.lkNbr_SERIAL (memberPort s k))
    match p.nodes.find? (fun n => n.2.1 == 1 && sers.contains n.2.2) with
    | some n => n.1
    | none => ownNode s
  else ownNode s

/-- The next port of this node on a path. -/
def portOn (s : State) (p : Option Path) : Option Nat :=
  p.bind (fun q => (q.edges.find? (fun e => e.src == s.nv.serial)).map (·.port))

/-- A route of the plan as this node holds it: its paths are those of the database the plan was computed from (R295). -/
def holdRoute (s : State) (p : Plan) (r : PlanRoute) : RtRoute :=
  let ser := fun (i : Nat) => (p.nodes.find? (fun n => n.1 == i)).map (fun n => n.2.2)
  let db := s.place.db
  let prim := match ser r.src, ser r.dst with
    | some a, some b => pathTo (pathsFrom db a) b
    | _, _ => none
  let alt := match ser r.src, ser r.dst, prim with
    | some a, some b, some q => altPath db a b q
    | _, _, _ => none
  let old := s.fab.routes.find? (fun x => x.id == r.id)
  { id := r.id, src := r.src, dst := r.dst, srcQ := r.srcQ, dstQ := r.dstQ, use := r.use, srcAxis := r.srcAxis,
    dstAxis := r.dstAxis, period := r.period, prim := portOn s prim, alt := portOn s alt, onAlt := false,
    dead := prim.isNone, sentAt := (old.map (·.sentAt)).getD (nowCyc s), wait := (old.map (·.wait)).getD [] }

/-- The quota of a queue is set. -/
def setQuota (s : State) (q k : Nat) : State := setQd s q { qd s q with quota := k }

/-- Quotas of the plan's queues on this node: one unit each; a queue no plan uses any more gives its unit back. -/
def planQuotas (s : State) (p : Plan) : State :=
  let new := takenQs p.routes (ownNode s)
  let s1 := ((planQueues s).filter (fun q => !new.contains q)).foldl (fun t q => setQuota t q 0) s
  new.foldl (fun t q => setQuota t q 1) s1

/-- Axes of this device whose binding has an unplaced item (R317). -/
def unplacedAxes (me : Nat) (p : Plan) : List Nat :=
  let bad := (p.items.filter (·.unplaced)).map (fun x => (x.node, x.task))
  ((p.items.filter (fun x => bad.contains (x.node, x.task))).flatMap (fun x =>
    (if x.home = me then [x.axis] else []) ++ (if x.far = some me then [x.farAxis] else []))).eraseDups

/-- Lanes of the axes of this device. -/
def laneTable (me : Nat) (p : Plan) : List (Nat × Nat) :=
  p.items.foldl (fun m x => match x.lane with
    | some l => if x.home = me ∧ x.device = some me ∧ x.part ≤ 1 ∧ x.kind ≠ .pair then mins m x.axis l else m
    | none => m) []

/-- Axes that are the second motor of a pair of another device. -/
def partAxes (me : Nat) (p : Plan) : List Nat :=
  (p.items.filter (fun x => decide (x.kind = .motor ∧ x.part = 1 ∧ x.home = me ∧ x.node ≠ me ∧ !x.unplaced))).map (·.axis)

/-- PLAN_LOAD and LANE_MAX. -/
def showLanes (s : State) (me : Nat) (xs : List Item) : State :=
  let s1 := (List.range 4).foldl (fun t l =>
    let k := (xs.filter (fun x => x.device == some me && x.lane == some l)).length
    wr (wr t F.devPlanLoad_LOAD l (fracCeil (laneLoad xs me l) 65536)) F.devPlanLoad_ITEMS l k) s
  wr s1 F.devPlaceStat_LANE_MAX 0 ((List.range 4).foldl (fun m l => max m (fracCeil (laneLoad xs me l) 100)) 0)

/-- A second motor without a binding of its own shows the template of its pair (R161). -/
def partnerTemplates (s : State) (me : Nat) (p : Plan) : State :=
  let part := fun (n : Nat) => p.items.any (fun x => decide (x.kind = .motor ∧ x.part = 1 ∧ x.home = me ∧ x.axis = n))
  forAxes (fun t n => if (bindingOf t n).isNone then wr t F.axLoopCfg_TEMPLATE n (if part n then 2 else 0) else t) s

/-- A plan is in force. -/
def takePlan (s : State) (p : Plan) : State :=
  let me := planNode s p
  let s1 := planQuotas s p
  let s2 := modFab s1 (fun x => { x with routes := p.routes.map (holdRoute s1 p) })
  let s3 := modPlace s2 (fun x =>
    { x with plan := some p, next := none, unplaced := unplacedAxes me p, lanes := laneTable me p, parts := partAxes me p })
  let s4 := wr (showLanes s3 me p.items) F.devPlaceStat_UNPLACED 0 (min 255 (p.items.filter (·.unplaced)).length)
  wr (partnerTemplates s4 me p) F.devPlaceStat_PLAN_NO 0 p.no

/-- An accepted plan: STATE 2, no faults in a row. -/
def acceptPlan (s : State) (p : Plan) : State :=
  wr (wr (takePlan s p) F.devPlaceStat_STATE 0 2) F.devPlaceStat_ATTEMPTS 0 0

/-- The grandmaster sends the SYNC that follows a plan (R302). -/
def planSync (s : State) : State := if isGm s then sendSync s syncStep else s

/-! ## The commands -/

/-- PLACE_ATTEMPT_START: reading of inputs begins (R321). -/
def execPlaceAttemptStart (s : State) : Out := clocked s <|
  if mode s = mPlace ∧ s.place.run = none ∧ rd s F.devPlaceStat_STATE 0 ≠ 4 then done (placeRun s 1) else done s

/-- PLACE_RETRY_TIMER: the attempt after a failed one (R321, R324). -/
def execPlaceRetryTimer (s : State) : Out := clocked s <|
  if rd s F.devPlaceStat_STATE 0 ≠ 4 then done s
  else if mode s = mPlace then done (placeRun s 1)
  else if s.place.plan.isSome then
    done (modPlace (placeRun s 3) (fun x => { x with since := some (x.since.getD (locNs s)) }))
  else done s

/-- Highest link load of a plan over the inputs, in percent. -/
def linkPercent (s : State) (ps : List PeerInput) (p : Plan) : Nat := fracCeil (linkMax (linkUses s.fab.lsdb ps p.routes)) 100

/-- PLAN_COMPUTED: with every input read, the plan is computed and its hash published; a re-placement holds the axes that
move (R316, R320, R324). -/
def execPlanComputed (peers : List PeerInput) (s : State) : Out := clocked s <|
  match s.place.run with
  | none => done s
  | some k =>
    if k ≠ s.fab.changes then done (placeAbandon s)
    else match allInputs s peers with
      | none => done (placeFault s 8)
      | some ps =>
        let prev := prevPlan s ps
        match computePlan s.fab.lsdb ps prev (((prev.map (·.no)).getD 0 + 1) % 65536) with
        | .inr reason => done (placeFault s reason)
        | .inl p =>
          let s1 := wr (modPlace s (fun x => { x with next := some p, db := s.fab.lsdb })) F.devPlanHash_HASH 0 (planHash p)
          let s2 := wr s1 F.devPlaceStat_LINK_MAX 0 (linkPercent s ps p)
          done (if s.place.since.isSome then holdMoved s2 (movedAxes s prev p) else s2)

/-- PLACE_INPUT_TIMEOUT: the inputs of a placing node cannot be read. -/
def execPlaceInputTimeout (node : Nat) (s : State) : Out := clocked s <|
  match s.place.run with
  | none => done s
  | some k =>
    if k ≠ s.fab.changes then done (placeAbandon s)
    else if s.place.next.isNone ∧ (placingNodes s).contains node then done (placeFault s 8)
    else done s

/-- A plan every hash agrees on: in PLACE it is in force at once and the device goes on; a re-placement waits for T. -/
def agreed (s : State) (p : Plan) : State :=
  let s1 := modPlace s (fun x => { x with run := none })
  if mode s1 = mPlace then
    let s2 := acceptPlan (modPlace s1 (fun x => { x with since := none })) p
    let s3 := if s.load.standalone then s2 else planSync s2
    trigger s3 (if isFollower s3 then mFollow else mStandby) 7 none
  else planSync (modPlace s1 (fun x => { x with moving := true }))

/-- PLACE_HASH_COMPARE: every other placing node has published the same hash, or the attempt faults (R320). -/
def execPlaceHashCompare (hashes : List PeerHash) (s : State) : Out := clocked s <|
  match s.place.run, s.place.next with
  | some k, some p =>
    if k ≠ s.fab.changes then done (placeAbandon s)
    else
      let h := rd s F.devPlanHash_HASH 0
      if (placingNodes s).all (fun i => hashes.any (fun x => x.node == i && x.hash == h)
          && hashes.all (fun x => x.node != i || x.hash == h)) then done (agreed s p)
      else done (placeFault s 9)
  | _, _ => done s

/-- REPLACEMENT_START: after a topology change, with the database unchanged for 1 ms (R322, R325). -/
def execReplacementStart (s : State) : Out := clocked s <|
  if s.place.plan.isSome ∧ mode s ≠ mPlace ∧ mode s ≠ mLatch ∧ s.fab.changeAt + 1000000 ≤ locNs s then
    done (modPlace (placeRun s 3) (fun x => { x with since := some (x.since.getD (locNs s)), moving := false }))
  else done s

/-- REPLACEMENT_TIMEOUT: T has not passed within 5 ms of the start. The held axes keep holding, and REPL_REACT applies
(R324). -/
def execReplacementTimeout (s : State) : Out := clocked s <|
  match s.place.since with
  | none => done s
  | some t =>
    if t + 5000000 ≤ locNs s then
      let s1 := modPlace (placeFault s 11) (fun x => { x with since := none, moving := false })
      done (trigger s1 (if rdB s F.devPlaceCfg_REPL_REACT 0 then mSafestop else mHold) 10 none)
    else done s

/-! ## The epoch T (R16, R132, R133, R302, R324) -/

/-- A chain is cleared at the slot read of its first strobe in F1. -/
def clearMark (c : Chain) : Chain := { c with clearNext := true }

/-- Every chain of the device is cleared from frame F1, which starts at cycle `f1`, and the half-periods in progress are
discarded (R132). -/
def clearAll (s : State) (f1 : Nat) : State :=
  let s1 := forAxes (fun t n =>
    modExc (modFlt t n (fun f =>
      { f with
        sqS := clearMark f.sqS, sqC := clearMark f.sqC, snS := clearMark f.snS, snC := clearMark f.snC,
        cuA := clearMark f.cuA, cuB := clearMark f.cuB })) n (fun e => { e with nPl := 1000, nextPt := 1000 })) s
  let s2 := (List.range 8).foldl (fun t k => setAux t k { auxCh t k with chain := clearMark (auxCh t k).chain }) s1
  stick { s2 with ctl := { s2.ctl with clearFrom := f1 } } F.devFltStat_REALIGNED 0

/-- Groups whose edges move hold their polarity until the first positive edge of the new grid (R133). -/
def holdGroups (s : State) (old new : Nat) : State :=
  (List.range 4).foldl (fun t g =>
    let x := grp t g
    if x.running && decide (((new : Int) - old) % (2 * max 1 x.half : Nat) ≠ 0) then holdGroup t g true else t) s

/-- A re-placement is effective at T. -/
def placeAt (s : State) : State :=
  match s.place.moving, s.place.next with
  | true, some p => resumeMoved (modPlace (acceptPlan s p) (fun x => { x with moving := false, since := none }))
  | _, _ => s

/-- The frame boundary at which a SYNC is acted on: that of the frame in progress where it has just begun, else the next (R16). -/
def realignAt (s : State) : Nat :=
  if s.ctl.frameStart = nowCyc s then nowCyc s else max (nowCyc s) (s.ctl.frameStart + s.ctl.frameLen)

/-- A boundary of the new grid. -/
def onFrameGrid (e b : Nat) : Bool := decide (((b : Int) - e) % 200 = 0)

/-- Start of F1, the first frame on the new grid (R132). -/
def firstFrame (s : State) (e : Nat) : Nat := let b := realignAt s; if onFrameGrid e b then b else b + fitFrame e b

/-- The realignment moves a frame boundary: the frame that ends at F1 does not last 200 cycles (R132). -/
def framesMove (s : State) (e : Nat) : Bool :=
  let b := realignAt s
  !onFrameGrid e b
    || (if b = s.ctl.frameStart then decide (s.ctl.prevLen ≠ 200) else decide ((b - s.ctl.frameStart) % 200 ≠ 0))

/-- A SYNC takes effect: its epoch holds, frames, groups and chains follow (R16, R132, R133, R302). A frame that has not begun yet
is fitted to the epoch as it begins. -/
def realign (s : State) (no t : Nat) : State :=
  let e := epochCyc s t
  let late := !onFrameGrid e (realignAt s) && decide (realignAt s ≠ s.ctl.frameStart)
  let s1 := if framesMove s e then clearAll s (firstFrame s e) else s
  let s2 := holdGroups s1 s.ctl.epoch e
  let s3 := { s2 with ctl := { s2.ctl with epoch := e, gridAt := if late then some e else none } }
  let s4 := modFab s3 (fun x => { x with epoch := t, syncPend := none })
  placeAt (wr (wr s4 F.devFabEpoch_EPOCH 0 (t % 2 ^ 48)) F.devFabEpoch_SYNC_NO 0 no)

/-- FRAME_REALIGN: the pending SYNC's T has come. -/
def execFrameRealign (s : State) : Out := clocked s <|
  match s.fab.syncPend with
  | some (no, t) => if t ≤ nowNs s then done (realign s no t) else done s
  | none => done s

end Sys2Proof.Machine
end

