-- ==== Sys2Proof/Machine/SvCore.lean ====
section
/-!
DEFINITION. The supervisor core's shared operations (R351 to R379): registers, SRAM, control registers, faults, interrupts,
the watchdog, halt and start. The instructions themselves stand in Machine/Supervisor.lean.
-/

namespace Sys2Proof.Machine

/-- The supervisor core is changed. -/
def modSv (s : State) (f : Sv → Sv) : State := { s with sv := f s.sv }

/-! ## Registers and SRAM (R351, R352, R365) -/

/-- Register `r`. -/
def svReg (s : State) (r : Fin 16) : Word := s.sv.w[r]

/-- Register `r` takes `v`. -/
def svSet (s : State) (r : Fin 16) (v : Word) : State := modSv s (fun c => { c with w := c.w.set r v })

/-- Byte `a` of the SRAM. -/
def svByte (s : State) (a : Nat) : Byte := mget 0#8 s.sv.mem a

/-- `n` bytes from address `a` as a value. -/
def svRead (s : State) (a n : Nat) : Nat := leVal (memBytes 0 s.sv.mem a n)

/-- The words that `n` bytes from address `a` touch. -/
def svWords (a n : Nat) : List Nat := ((List.range n).map (fun i => (a + i) / 4)).eraseDups

/-- The first word that fails its parity among those a read touches. -/
def svParity (s : State) (a n : Nat) : Option Nat := (svWords a n).find? (fun k => s.sv.badPar.contains k)

/-- A store writes its bytes and the parity of the words it touches. -/
def svWrite (s : State) (a n v : Nat) : State :=
  modSv s (fun c => { c with mem := memWrite 0 c.mem a (leBytes n v),
                             badPar := c.badPar.filter (fun k => !(svWords a n).contains k) })

/-- A control register as it is held. -/
def svCsr (s : State) (n : Nat) : Nat := mget (Sv.csr0 n) s.sv.csr n

/-- A control register is set. -/
def svSetCsr (s : State) (n v : Nat) : State := modSv s (fun c => { c with csr := mset (Sv.csr0 n) c.csr n v })

/-- Whether an address range meets the protected range (R354). -/
def svProtected (s : State) (a n : Nat) : Bool :=
  decide (svCsr s 5 < svCsr s 6 ∧ a < svCsr s 6 ∧ svCsr s 5 < a + n)

/-- The core executes: it has started and is not halted. -/
def svRunning (s : State) : Bool := rdB s F.devSvStat_RUNNING 0 && !s.pwr.coreLost

/-! ## Status and sources (R353, R368, R369) -/

/-- SR as a word. -/
def srWord (cp : Nat) (ie inf : Bool) (mask : Nat) : Nat := cp + 16 * b2n ie + 32 * b2n inf + 256 * mask

/-- SR of the core. -/
def svSr (s : State) : Nat := srWord s.sv.cp s.sv.ie s.sv.inf s.sv.mask

/-- CP, IE, INF and MASK. -/
structure SvSr where
  cp : Nat
  ie : Bool
  inf : Bool
  mask : Nat
  deriving DecidableEq, Repr

/-- Fields of an SR word. -/
def srOf (v : Nat) : SvSr := ⟨min (bits v 0 4) 8, bit v 4, bit v 5, min (bits v 8 4) 8⟩

/-- SR takes these fields. -/
def svSetSr (s : State) (r : SvSr) : State :=
  modSv s (fun c => { c with cp := r.cp, ie := r.ie, inf := r.inf, mask := r.mask })

/-- Edge sources (R368). -/
def svEdge (n : Nat) : Bool := [0, 1, 2, 3, 5, 14, 15].contains n

/-- Pending bits of the edge sources, in one word of 32 as IP0 holds them. -/
def svPendEdge (s : State) (n : Nat) : State :=
  if svRunning s then svSetCsr s 0x12 (svCsr s 0x12 ||| 2 ^ n) else s

/-- Whether source `n` is pending (R368). -/
def svPending (s : State) (n : Nat) : Bool :=
  if svEdge n then bit (svCsr s 0x12) n
  else if n = 4 then decide (0 < levelOf s 0)
  else if 6 ≤ n ∧ n ≤ 13 then
    let q := svCsr s (0x20 + (n - 6))
    isQueue q && decide (0 < levelOf s q)
  else decide (16 ≤ n) && decide (0 < levelOf s (qAxEv (n - 16)))

/-- Whether source `n` is enabled. -/
def svEnabled (s : State) (n : Nat) : Bool := bit (svCsr s (0x10 + n / 32)) (n % 32)

/-- Level of source `n`. -/
def svLevel (s : State) (n : Nat) : Nat := bits (svCsr s (0x14 + n / 8)) (4 * (n % 8)) 3

/-- The best of the sources in a list: lowest level, then lowest number. -/
def svBest (s : State) : List Nat → Option Nat
  | [] => none
  | n :: ns => match svBest s ns with
    | none => some n
    | some m => if svLevel s n ≤ svLevel s m then some n else some m

/-- The source to take under a status (R369). -/
def svEligible (s : State) (r : SvSr) : Option Nat :=
  if r.ie && !r.inf then
    svBest s ((List.range 64).filter (fun n =>
      svPending s n && svEnabled s n && decide (svLevel s n < r.cp ∧ svLevel s n < r.mask)))
  else none

/-- Whether WFI ends: a source pending and enabled with a level below MASK, or the watchdog has expired (R373). -/
def svWake (s : State) : Bool :=
  bit (svCsr s 0x12) 0
    || (List.range 64).any (fun n => svPending s n && svEnabled s n && decide (svLevel s n < s.sv.mask))

/-! ## Halt (R377) -/

/-- The reaction to halt causes 2 and 3. -/
def svReact (s : State) : State :=
  match rd s F.devSvCtl_REACT 0 with
  | 1 => trigger s mHold 15 none
  | 2 => trigger s mSafestop 15 none
  | 3 => grantReset s rcWatchdog 4
  | _ => s

/-- HALTED, HALT_CAUSE and HALT_PC. -/
def svStop (s : State) (cause : Nat) : State :=
  let s1 := wr (wr s F.devSvStat_RUNNING 0 0) F.devSvStat_HALTED 0 1
  wr (wr s1 F.devSvStat_HALT_CAUSE 0 cause) F.devSvStat_HALT_PC 0 s.sv.pc.toNat

/-- The core halts: it stops at the boundary, EV_SV_HALT is raised, and causes 2 and 3 apply REACT. -/
def svHalt (s : State) (cause : Nat) : State :=
  let s1 := raiseD (svStop s cause) 0x91 cause
  let s2 := modSv s1 (fun c => { c with wfi := false, late := none })
  if cause = 2 ∨ cause = 3 then svReact s2 else s2

/-- A watchdog expiry: the first warns, one with WARN set halts the core (R376). -/
def svExpire (s : State) : State :=
  if rdB s F.devSvStat_WARN 0 then svHalt s 3
  else
    let s1 := incSat (wr s F.devSvStat_WARN 0 1) F.devSvStat_WARNS 0
    raiseD (modSv (svPendEdge s1 0) (fun c => { c with wdAt := nowNs s })) 0x90 0

/-- The watchdog counts. -/
def svWatching (s : State) : Bool := svRunning s && decide (rd s F.devSvCtl_WD_PER 0 ≠ 0)

/-- WD_PER has been changed: the count starts, or the watchdog stops and WARN clears (R376). -/
def svWdWritten (s : State) : State :=
  if rd s F.devSvCtl_WD_PER 0 = 0 then wr s F.devSvStat_WARN 0 0 else modSv s (fun c => { c with wdAt := nowNs s })

/-! ## Stacking and faults (R366, R367, R370) -/

/-- The words of a frame, in order. -/
def svFrame (s : State) (ret : Word) : List Nat :=
  [svReg s 0, svReg s 1, svReg s 2, svReg s 3, svReg s 4, svReg s 15, ret].map BitVec.toNat ++ [svSr s]

/-- FCAUSE and FADDR record a fault, and FAULTS counts it. -/
def svNoteFault (s : State) (cause addr : Nat) : State :=
  incSat (svSetCsr (svSetCsr s 3 cause) 4 (addr % 2 ^ 32)) F.devSvStat_FAULTS 0

/-- Stack a frame below w14: the frame, or the fault of R367. -/
def svStack (s : State) (ret : Word) : State ⊕ State :=
  let sp := (svReg s 14).toNat + 2 ^ 32 - 32
  let a := sp % 2 ^ 32
  if svSize < a + 32 then .inr (svNoteFault s 4 a)
  else if a % 4 ≠ 0 ∨ a < svCsr s 2 then .inr (incSat s F.devSvStat_FAULTS 0)
  else if svProtected s a 32 then .inr (svNoteFault s 5 a)
  else
    .inl (svSet (((svFrame s ret).zipIdx).foldl (fun t (x : Nat × Nat) => svWrite t (a + 4 * x.2) 4 x.1) s) 14
      (BitVec.ofNat 32 a))

/-- The address a vector holds, or the fault that reading it or going there meets. -/
def svVector (s : State) (va : Nat) : Nat ⊕ (Nat × Nat) :=
  if svSize < va + 4 then .inr (4, va)
  else match svParity s va 4 with
    | some k => .inr (6, 4 * k)
    | none =>
      let t := svRead s va 4
      if t % 4 ≠ 0 ∨ svSize ≤ t then .inr (4, t) else .inl t

/-- A fault is taken at once; a second one before its handler has returned is a double fault (R367). -/
def svFault (s : State) (cause addr : Nat) (ret : Word) : State :=
  let s1 := modSv (svNoteFault s cause addr) (fun c => { c with wfi := false, late := none })
  if s.sv.inf then svHalt s1 2
  else match svStack s1 ret with
    | .inr t => svHalt t 2
    | .inl t =>
      let t1 := modSv t (fun c => { c with inf := true })
      match svVector t1 (svCsr t1 1 + 0x100) with
      | .inl a => modSv t1 (fun c => { c with pc := BitVec.ofNat 32 a, clocks := c.clocks + 12 })
      | .inr f => svHalt (svNoteFault t1 f.1 f.2) 2

/-- A fault of the instruction at PC: every fault but a TRAP returns to it. -/
def svFaultHere (s : State) (cause addr : Nat) : State := svFault s cause addr s.sv.pc

/-- The handler of source `n` starts under status `r` (R370): its vector, its level, its edge pending state. -/
def svTake (s : State) (r : SvSr) (n : Nat) : State :=
  let s1 := svSetSr s { r with cp := svLevel s n }
  let s2 := if svEdge n then svSetCsr s1 0x12 (svCsr s1 0x12 &&& (2 ^ 32 - 1 - 2 ^ n)) else s1
  match svVector s2 (svCsr s2 1 + 4 * n) with
  | .inl a => modSv s2 (fun c => { c with pc := BitVec.ofNat 32 a, wfi := false, late := none })
  | .inr f => svFault s2 f.1 f.2 s2.sv.pc

/-- The frame at w14 is taken back (R372). -/
def svUnstack (s : State) : State :=
  let a := (svReg s 14).toNat
  let s1 := (List.range 5).foldl (fun t i => svSet t (Fin.ofNat 16 i) (BitVec.ofNat 32 (svRead s (a + 4 * i) 4))) s
  let s2 := svSet (svSet s1 15 (BitVec.ofNat 32 (svRead s (a + 20) 4))) 14 (svReg s 14 + 32)
  let s3 := svSetSr s2 (srOf (svRead s (a + 28) 4))
  modSv s3 (fun c => { c with pc := BitVec.ofNat 32 (svRead s (a + 24) 4), late := none, clocks := c.clocks + 10 })

/-! ## Start (R378, R379) -/

/-- The SRAM with a program's body loaded: code and data from the load offset, all else cleared. -/
def svLoad (off : Nat) (body : List Byte) : List Host.Cell := memWrite 0 [] off body

/-- The core starts a loaded program: `hd` is its container header (R44, R379). -/
def svStart (s : State) (hd : List Nat) : State :=
  let c : Sv := { Sv.reset with
    mem := s.sv.mem
    w := Sv.reset.w.set 14 (BitVec.ofNat 32 (hd.getD 5 0))
    pc := BitVec.ofNat 32 (hd.getD 1 0)
    csr := mset 0 (mset 0 [] 5 (hd.getD 0 0)) 6 (hd.getD 0 0 + hd.getD 2 0)
    wdAt := nowNs s
    clocks := s.sv.clocks }
  let s1 := wr (wr { s with sv := c } F.devSvStat_RUNNING 0 1) F.devSvStat_HALTED 0 0
  wr (wr (wr s1 F.devSvStat_HALT_CAUSE 0 0) F.devSvStat_WARN 0 0) F.devSvStat_RELOADING 0 0

/-- The end of LOAD: the core starts, or stays halted with cause 1 where the image holds no program. -/
def svLoadEnd (s : State) : State :=
  match s.load.svHead with
  | [] => wr (wr s F.devSvStat_HALTED 0 1) F.devSvStat_HALT_CAUSE 0 1
  | hd => svStart s hd

end Sys2Proof.Machine
end

