-- ==== Sys2Proof/Machine/Modes.lean ====
section
/-!
DEFINITION. Supplies, reset, clocks and the twelve device modes (spec/03_power_reset_modes.md R63 to R87; spec/01_architecture.md
R23; R338 and R348 for the roles of a redundant member).
-/

namespace Sys2Proof.Machine

/-! ## Supplies and reset (R63 to R69, R85 to R87) -/

/-- EXC_LOW of every axis follows the warning of VDD_A5 (R86). -/
def showExcLow (s : State) : State := forAxes (fun t n => wrB t F.axFeStat_EXC_LOW n (bit s.pwr.below 4)) s

/-- PORST_ASSERT: a low pulse of `lowNs`. Between 1 µs and 2 µs it may or may not act (R67). -/
def execPorstAssert (lowNs : Nat) (s : State) : Out :=
  let d := drawBool s
  let acts := decide (2000 ≤ lowNs) || (decide (1000 ≤ lowNs) && d.2)
  if acts then
    let s1 := assertReset d.1 rcPorst
    done { s1 with pwr := { s1.pwr with porstLow := true } }
  else done d.1

/-- RAIL_RESET_CROSSING (R64, R69); VDD_IO lost beside VBAT takes the calendar with it (R391). -/
def execRailResetCrossing (rail : Rail) (s : State) : Out :=
  let s1 := assertReset s (rcSupply + 4 * railBit rail)
  done (rtcSupply { s1 with pwr := { s1.pwr with inRange := s1.pwr.inRange &&& (31 - railBit rail) } })

/-- RAIL_IN_RANGE: VDD_IO coming back may have risen from below 1.0 V, which is a power-on and clears RESET_CAUSE (R65, R69). -/
def execRailInRange (rail : Rail) (s : State) : Out :=
  let s1 := { s with pwr := { s.pwr with inRange := s.pwr.inRange ||| railBit rail } }
  if rail = .io ∧ s.pwr.rst ∧ !bit s.pwr.inRange 3 then
    let d := drawBool s1
    done (if d.2 then { d.1 with nv := { d.1.nv with cause := rcPowerOn } } else d.1)
  else done s1

/-- Flags, event and counts of a warning crossing: BROWNOUTS at each, to be added at the load of the ledger where that is
still to come, WARN_COUNT from the end of LOAD on (R86, R87, R383). -/
def warnNote (s : State) (b : Nat) : State :=
  let s1 := raiseD (stickMask s F.devSupply_WARN_SEEN 0 b) 0x11 b
  let s2 := ledgDev s1 F.devLedger_BROWNOUTS 0 2 1
  if mTest ≤ mode s then incSat s2 F.devSupply_WARN_COUNT 0 else s2

/-- Snapshot and reaction of R86; neither before the ledger is loaded (R87). -/
def brownOut (s : State) : State :=
  if rdB s F.devLedgStat_LOADED 0 then
    let s1 := ledgBrown s
    if mode s1 = mRun ∧ rdB s1 F.devModeCfg_BO_HOLD 0 then trigger s1 mHold 12 none else s1
  else s

/-- RAIL_WARNING_CROSSING (R86, R87): in OFF too; with CORE lost only BELOW_WARN follows. -/
def execRailWarningCrossing (rail : Rail) (s : State) : Out :=
  let b := railBit rail
  let s0 := { s with pwr := { s.pwr with below := s.pwr.below ||| b } }
  if s.pwr.coreLost then done s0
  else
    let s1 := warnNote s0 b
    done (if coreRuns s then showExcLow (brownOut (svPendEdge s1 14)) else s1)

/-- WARNING_RELEASE (R63, R85). -/
def execWarningRelease (rail : Rail) (s : State) : Out :=
  let s1 := { s with pwr := { s.pwr with below := s.pwr.below &&& (31 - railBit rail) } }
  done (if coreRuns s then showExcLow s1 else s1)

/-- VBAT_LOW_CHANGE (R87); VBAT lost while VDD_IO is absent takes the calendar with it (R391, R395). -/
def execVbatLowChange (low : Bool) (s : State) : Out :=
  done (rtcSupply { s with pwr := { s.pwr with vbatLow := low } })

/-- INTERNAL_RESET_RELEASE: PORST_N is high and every rail in range; TWIN_ROLE is sampled (R65, R67, R338). The time since
PORST_N rose is free, at least 10 µs. -/
def execInternalResetRelease (twinRole : BitVec 1) (s : State) : Out :=
  if s.pwr.rst ∧ s.pwr.inRange = 31 then
    let p := { s.pwr with
      rst := false, porstLow := false, twinRole := twinRole.toNat, extest := none
      porstGap := 10000 + Config.freeNat s.ctl.freeCnt }
    done (showExcLow (wr (draw { s with pwr := p }) F.devRedStat_STRAP 0 twinRole.toNat))
  else done s

/-- JTAG_RESET (R69, R78). -/
def execJtagReset (s : State) : Out := done (assertReset s rcJtag)

/-! ## The trim store at the start (R59, R60) -/

/-- Header of a trim set, as bytes. -/
def trimGood (serial : Nat) (bs : List Byte) : Bool :=
  decide (fieldB bs 0 4 = 0x4D495443) && decide (fieldB bs 4 2 = 1) && decide (fieldB bs 6 1 ≤ 2)
    && decide (fieldB bs 0x14 8 = serial)
    && decide (fieldB bs 0x3C 4 = crc32 (bs.take 0x3C ++ [0, 0, 0, 0] ++ bs.drop 0x40))

/-- The stored trim set. -/
def trimStore (s : State) : List Byte := memBytes 0 s.nv.trim 0 16384

/-- The checks of R59: the stored values are used, or identity values with TRIM_BAD. -/
def checkTrim (s : State) : State :=
  let bs := trimStore s
  let s0 := wrB s F.devTrimCtl_WEAR_OUT 0 (decide (10000 ≤ fieldB bs 8 4))
  if trimGood s.nv.serial bs then
    let s1 := { s0 with load := { s0.load with trimUse := some s.nv.trim } }
    wr (wr s1 F.devTrimCtl_TRIM_BAD 0 0) F.devTrimCtl_ORIGIN 0 (fieldB bs 6 1)
  else
    let s1 := { s0 with load := { s0.load with trimUse := none } }
    raiseD (wr (wr s1 F.devTrimCtl_TRIM_BAD 0 1) F.devTrimCtl_ORIGIN 0 3) 0x15 0

/-! ## The mode register (R75, R368) -/

/-- DEV.MODE takes a mode; EV_MODE, and the supervisor's MODE interrupt. -/
def setDevMode (s : State) (m cause : Nat) : State :=
  let s1 := wr (wr (wr s F.devMode_PREV 0 (mode s)) F.devMode_MODE 0 m) F.devMode_CAUSE 0 cause
  svPendEdge (raiseD s1 0x10 (m + 256 * cause)) 5

/-- PLL_LOCK: the clock monitors arm and the device enters LOAD (R78). -/
def execPllLock (s : State) : Out :=
  if !s.pwr.rst && !s.pwr.locked then
    let s1 := { s with pwr := { s.pwr with locked := true } }
    done (checkTrim (setDevMode s1 mLoad 0))
  else done s

/-! ## Clock loss (R23) -/

/-- The clock monitors are armed. -/
def armed (s : State) : Bool := s.pwr.locked && !s.pwr.rst && !s.pwr.coreLost

/-- CORE stops: the latches set, gates and DRV_EN are low through the trip logic, monitor outputs at the safe level. -/
def coreLoss (s : State) : State :=
  monAllSafe (clockTrip { s with pwr := { s.pwr with coreLost := true } })

/-- CORE_CLOCK_LOSS. -/
def execCoreClockLoss (s : State) : Out := done (if armed s then coreLoss s else s)

/-- REFERENCE_CLOCK_LOSS: as loss of CORE PLL lock. -/
def execReferenceClockLoss (s : State) : Out := done (if armed s then coreLoss s else s)

/-- PWM_CLOCK_LOSS. -/
def execPwmClockLoss (s : State) : Out :=
  if armed s && !s.pwr.pwmLost then
    let s1 := clockTrip { s with pwr := { s.pwr with pwmLost := true } }
    done (trigger (raiseD (monAllSafe s1) 0x12 1) mLatch 11 none)
  else done s

/-- CONV_CLOCK_LOSS. -/
def execConvClockLoss (s : State) : Out :=
  if armed s && !s.pwr.convLost then
    let s1 := { s with pwr := { s.pwr with convLost := true } }
    let s2 := forAxes (fun t n => if decide (3 ≤ axMode t n ∧ axMode t n ≤ 6) then trip t n 3 0 else t) s1
    done (trigger (raiseD s2 0x12 2) mLatch 11 none)
  else done s

/-! ## What a mode allows (R70, R78 to R80) -/

/-- BLK_PLACE: no accepted plan, or a re-placement in progress (R75, R80, R324). -/
def placeBlocks (s : State) : Bool := decide (rd s F.devPlaceStat_STATE 0 ≠ 2) || s.place.moving

/-- The RUN conditions of R80. -/
def runAllowed (s : State) : Bool :=
  !rdB s F.devTrimCtl_TRIM_BAD 0 && decide (s.pwr.below = 0) && !placeBlocks s && redInterlock s

/-- The table of R78: a trigger is allowed from the current mode. -/
def modeAllows (s : State) (target cause : Nat) : Bool :=
  let m := mode s
  let req := decide (cause = 9)
  if target = mLatch then decide (mLoad ≤ m ∧ m ≠ mLatch) && !req
  else if target = mTest then (if req then decide (m = mStandby ∨ m = mMaint) else decide (m = mLoad))
  else if target = mDiscover then decide (m = mTest) && !req
  else if target = mPlace then (decide (m = mTest ∧ cause = 3) || decide (m = mDiscover)) && !req
  else if target = mStandby then
    if cause = 7 then decide (m = mPlace)
    else if cause = 14 then decide (m = mTest)
    else req && ((decide (m = mSafestop) && allSafe s) || (decide (m = mMaint) && !rdB s F.devMode_FROM_LATCH 0))
  else if target = mFollow then decide (m = mPlace ∧ cause = 7)
  else if target = mMaint then (if cause = 14 then decide (m = mTest) else req && decide (m = mStandby ∨ m = mLatch))
  else if target = mRun then
    if cause = 13 then decide (m = mFollow) && !rdB s F.devTrimCtl_TRIM_BAD 0
    else req && decide (m = mStandby ∨ m = mHold) && runAllowed s
  else if target = mHold then decide (m = mRun)
  else if target = mSafestop then decide (m = mRun ∨ m = mHold ∨ m = mFollow)
  else false

/-- A reset request is granted (R70). -/
def resetAllowed (s : State) : Bool :=
  let m := mode s
  decide (m = mStandby ∨ m = mMaint ∨ m = mLatch ∨ m = mFollow) || (decide (m = mSafestop) && allSafe s)

/-! ## What leaving and entering a mode does -/

/-- Roles of a redundant member at the end of LOAD (R338). -/
def startRole (s : State) : State :=
  if redKind s = 0 then s
  else
    let prim := decide (rd s F.devRedCfg_ROLE 0 = 1)
    let s1 := setRole s (if prim then roleDriver else roleFollower)
    if decide (s.pwr.twinRole = 1) = prim then s1
    else raiseD (wr s1 F.devRedStat_STRAP_ERR 0 1) 0x82 s.pwr.twinRole

/-- LOAD ends: LOAD_TIME, the events held so far, power-up values, the supervisor (R49, R247, R379, R403). -/
def leaveLoad (s : State) : State :=
  let t := (s.pwr.porstGap + locNs s) / 10000
  startRole (svLoadEnd (monPowerUp (openEvents (wr s F.devBootStatus_LOAD_TIME 0 (min 65535 t)))))

/-- MAINT is left: BYPASS returns to 0, an image or trim session is abandoned (R53, R60). -/
def leaveMaint (s : State) : State :=
  { wr s F.devTrimCtl_BYPASS 0 0 with load := { s.load with img := none, trimKind := none } }

/-- Tracking restarts on an axis that is not DISABLED: the observer, and the starting range of both pairs (R102, R149). -/
def restartAxis (s : State) (n : Nat) : State :=
  let s1 := clearRanging (clearRanging (startRange (startRange s n false) n true) n false) n true
  if axMode s n = aDisabled then s1 else obsClear s1 n

/-- The DC stages of a chain preset themselves at their next valid input (R128). -/
def dcRestart (c : Chain) : Chain :=
  { c with s1 := { c.s1 with dcInit := 2 }, s2 := { c.s2 with dcInit := 2 }, s3 := { c.s3 with dcInit := 2 } }

/-- The chains of an axis are changed alike. -/
def allChains (f : Chain → Chain) (x : AxFlt) : AxFlt :=
  { x with sqS := f x.sqS, sqC := f x.sqC, snS := f x.snS, snC := f x.snC, cuA := f x.cuA, cuB := f x.cuB }

/-- Every chain of the device is changed alike. -/
def everyChain (s : State) (f : Chain → Chain) : State :=
  let s1 := forAxes (fun t n => modFlt t n (allChains f)) s
  (List.range 8).foldl (fun t k => setAux t k { auxCh t k with chain := f (auxCh t k).chain }) s1

/-- A bound axis in DISABLED that passed TEST goes to TRACK, with a cleared observer; one that failed shows why it stays
(R149, R162). -/
def leaveDisabled (s : State) : State :=
  forAxes (fun t n =>
    if axMode t n = aDisabled ∧ bound t n then
      (if testFailed t n then wr t F.axMode_CAUSE n 10 else obsClear (setMode t n aTrack 9) n)
    else t) s

/-- The device starts to track: entry to STANDBY or FOLLOW from PLACE (R136, R149, R162). -/
def startTracking (s : State) : State :=
  forAxes restartAxis
    (leaveDisabled (everyChain { s with ctl := { s.ctl with clearFrom := nowCyc s } } clearMark))

/-- Gates are low again where SAFESTOP or LATCH left a safe state that no trip of the axis holds (R84, R167, R232). -/
def dropSafe (s : State) : State := forAxes (fun t n => if keepsSafe t n then t else lowGates t n) s

/-- Excitation stops: every group (R74, R84). -/
def stopExc (s : State) : State := (List.range 4).foldl stopGroup s

/-- Encoder and analog outputs go low in a mode that does not feed them (R84). -/
def outputsLow (s : State) : State := (List.range 8).foldl auxoLow ((List.range 16).foldl encStop s)

/-- TEST sets the sources of every pair itself: source 2, the short, to begin with (R72, R100). -/
def testSources (s : State) : State := forAxes (fun t n => setSource (setSource t n false 2) n true 2) s

/-- The sources are those written again (R100). -/
def ownSources (s : State) : State := forAxes (fun t n => switchMux (switchMux t n false) n true) s

/-- TEST. A requested one: excitation and tracking stop, links go to electrical idle (R74, R84). -/
def enterTest (s : State) (old : Nat) : State :=
  let s0 := testSources { s with ctl := { s.ctl with testWas := s.ctl.testFail.length } }
  if old = mLoad then s0
  else
    let s1 := forAxes obsStop { s0 with ctl := { s0.ctl with testFrom := some old } }
    (List.range 8).foldl (fun t p => linkOff t p 1) s1

/-- PLACE: a member whose peers report a driver is a follower (R321, R338). -/
def enterPlace (s : State) : State :=
  let s1 := modPlace (wr s F.devPlaceStat_STATE 0 0) (fun x => { x with run := none, next := none })
  if redKind s1 ≠ 0 ∧ (driverOf s1).isSome then setRole s1 roleFollower else s1

/-- STANDBY: at every entry the bound axes that passed TEST leave DISABLED (R162). -/
def enterStandby (s : State) (old : Nat) : State :=
  let s0 := everyChain s dcRestart
  let s1 := if old = mPlace then
      startTracking (if s.load.standalone then { s0 with ctl := { s0.ctl with epoch := nowCyc s } } else s0)
    else if old = mTest then
      leaveDisabled (forAxes restartAxis (everyChain { s0 with ctl := { s0.ctl with clearFrom := nowCyc s } } clearMark))
    else leaveDisabled s0
  modRed (wantDrv (dropSafe s1) 0) (fun r => { r with bad := false })

/-- A handover takes drive: the axes wait in TRACK for DRV_SETTLE (R348). -/
def takeDrive (s : State) (h : Handover) : State :=
  let s1 := incSat (setRole s roleDriver) F.devRedCnt_HANDOVERS 0
  h.modes.foldl (fun t m => if axMode t m.1 = m.2 then lowGates (setMode t m.1 aTrack 2) m.1 else t) s1

/-- RUN: from HOLD the axes resume at once; otherwise DRV_EN rises and DRV_SETTLE runs (R81, R348). -/
def enterRun (s : State) (old : Nat) : State :=
  if old = mHold then resumeAxes s
  else
    let s1 := match s.red.hand with | some h => if old = mFollow then takeDrive s h else s | none => s
    wantDrv { s1 with prot := { s1.prot with settling := true } } (runGroups s1)

/-- DRV_EN in LATCH: low, unless an axis of the group that held it uses low-side on (R84). -/
def latchDrv (s : State) : State :=
  if !hasImage s then wantDrv s 0
  else wantDrv s (((List.range 4).map (fun g =>
    if (List.range 12).any (fun i => decide (rd s F.axPwmCfg_SAFE (12 * g + i) = 1) && bound s (12 * g + i)
        && decide (template s (12 * g + i) ≠ 3)) && bit s.prot.want g then 2 ^ g else 0)).sum)

/-- What entry to mode `m` from `old` does beside DEV.MODE. -/
def enterEffects (s : State) (old m : Nat) : State :=
  let s1 := if excTiming m then s else outputsLow (stopExc s)
  let s2 :=
    if m = mTest then wantDrv (dropSafe (enterTest s1 old)) 0
    else if m = mPlace then enterPlace s1
    else if m = mStandby then enterStandby s1 old
    else if m = mRun then enterRun s1 old
    else if m = mHold then holdAxes s1
    else if m = mSafestop then stopAxes { s1 with prot := { s1.prot with settling := false } }
    else if m = mMaint then wantDrv (dropSafe (if old = mStandby then s1 else forAxes restartAxis s1)) 0
    else if m = mFollow then modRed (forAxes detClear (startTracking s1)) (fun r => { r with bad := false })
    else if m = mLatch then
      forAxes obsStop (latchDrv (latchAxes { s1 with prot := { s1.prot with settling := false } }))
    else s1
  updTimers s2

/-- The device takes mode `m`. -/
def takeDevMode (s : State) (m cause : Nat) : State :=
  let old := mode s
  let s0 := if old = mLoad then leaveLoad s else if old = mMaint then leaveMaint s else s
  let s1 := setDevMode (if old = mTest then ownSources s0 else s0) m cause
  let s2 := if m = mMaint ∧ old = mLatch then wr s1 F.devMode_FROM_LATCH 0 1 else s1
  showRed (enterEffects s2 old m)

/-! ## MODE_TRANSITION (R78, R79) -/

/-- Rank of a target (R79). -/
def targetRank (t : Nat) : Nat := if t = mLatch then 1 else if t = mSafestop then 2 else if t = mHold then 3 else 4

/-- The trigger that ranks first among those allowed; of equals the first. -/
def bestTrig (s : State) : List Trig → Option Trig
  | [] => none
  | t :: ts => match bestTrig s ts with
    | none => if modeAllows s t.target t.cause then some t else none
    | some u => if modeAllows s t.target t.cause && decide (targetRank t.target ≤ targetRank u.target) then some t else some u

/-- Reply to a mode request. -/
def replyMode (s : State) (t : Trig) (status : Nat) : State :=
  match t.src with
  | some src => answer s src .devModeReq 0 status
  | none => s

/-- The triggers that did not win: requests for the mode taken are granted with it, others refused; a fault trigger that was
allowed from the mode left, `old`, and lost stays for the next boundary, another lapses (R79). -/
def settleTrigs (old s : State) (won : Trig) : State :=
  let rest := s.ctl.trigs.erase won
  let keep := rest.filter (fun t => t.src.isNone && decide (t.target ≠ won.target) && modeAllows old t.target t.cause)
  rest.foldl (fun u t => if t.src.isSome then replyMode u t (if t.target = won.target then 0 else 2) else u)
    { s with ctl := { s.ctl with trigs := keep } }

/-- No trigger is allowed: requests are refused and fault triggers lapse. -/
def lapseTrigs (s : State) : State :=
  s.ctl.trigs.foldl (fun u t => replyMode u t 2) { s with ctl := { s.ctl with trigs := [] } }

/-- MODE_TRANSITION: the frame boundary at which the pending triggers are weighed. -/
def execModeTransition (s : State) : Out := clocked s <|
  match bestTrig s s.ctl.trigs with
  | none => done (lapseTrigs s)
  | some t => done (settleTrigs s (replyMode (takeDevMode s t.target t.cause) t 0) t)

/-! ## Requests (R70, R76, R78) -/

/-- A request is accepted, with its effect, or refused with a status. `src` waits for the reply of a granted one. -/
def modeRequest (s : State) (src : Src) (target confirm : Nat) : State × Nat :=
  if src = .supervisor ∧ (target = mMaint ∨ target = mOff) then (s, 1)
  else if target = mOff ∧ confirm ≠ 0x0C5A then (s, 1)
  else if 11 < target then (s, 1)
  else if target = mOff then
    (if resetAllowed s then (grantReset (replyWrite s src (ownAddr s .devModeReq 0) 0) rcRequest 3, 8) else (s, 2))
  else if target = mStandby ∧ mode s = mMaint ∧ rdB s F.devMode_FROM_LATCH 0 then
    (grantReset (replyWrite s src (ownAddr s .devModeReq 0) 0) rcRequest 3, 8)
  else if modeAllows s target 9 then (trigger (hold s src) target 9 (some src), 8)
  else (s, 2)

/-! ## Timed commands of the modes -/

/-- Axes that failed the excitation open test: with OPEN_MIN = 0, or boosted, it passes unmeasured (R72, R243). -/
def openFailures (s : State) (r : TestResult) : List Nat :=
  (List.range 48).filter (fun n =>
    rdB s F.axExcCtl_EN n && !senseOn s n && !rdB s F.axExcDrv_BOOST n && decide (rd s F.axExcDrv_OPEN_MIN n ≠ 0)
      && decide (mget 0 r.loads n < rd s F.axExcDrv_OPEN_MIN n))

/-- Axes of the failed channels and of the axis-level checks of a run (R72). -/
def runFailures (s : State) (r : TestResult) : List Nat :=
  let chan := (r.refFail ++ r.shortFail).map (fun c => c.val / 4)
  let open_ := openFailures s r
  (List.range 48).filter (fun n => chan.contains n || r.tripFail.any (fun t => t.val == n) || open_.contains n)

/-- DEV.TEST_RESULT of a run (R73). -/
def testWord (s : State) (r : TestResult) (failed : Nat) : Nat :=
  b2n r.sramFail + 2 * b2n r.cmpFail + 4 * b2n (!r.refFail.isEmpty) + 8 * b2n (!r.shortFail.isEmpty)
    + 16 * b2n (!r.tripFail.isEmpty) + 32 * b2n (!(openFailures s r).isEmpty) + 64 * b2n (!r.auxFail.isEmpty)
    + 256 * failed + 65536 * min 65535 r.time

/-- Axes a run has failed stay DISABLED until the next reset. -/
def disableFailed (s : State) (ns : List Nat) : State :=
  ns.foldl (fun t n =>
    if axMode t n = aDisabled then t else obsStop (lowGates (setMode t n aDisabled 10) n) n) s

/-- TEST_RUN_DONE (R72 to R74): an axis that a detector stopped during the run has failed with the others (R245); the event
tells of every run with a new failure. -/
def execTestRunDone (r : TestResult) (s : State) : Out := clocked s <|
  if mode s ≠ mTest then done s
  else
    let fs := runFailures s r
    let all := (List.range 48).filter (fun n => fs.contains n || testFailed s n)
    let s1 := { s with ctl := { s.ctl with testFail := all } }
    let s2 := (openFailures s r).foldl (fun t n => modExc t n (fun e => { e with openFail := true })) (disableFailed s1 all)
    let w := testWord s r all.length
    let s3 := setObj s2 .devTestResult 0 w
    let s4 := if w % 128 = 0 ∧ all.length = s.ctl.testWas then s3 else raiseD s3 0x13 (w % 2 ^ 16)
    let d := drawBelow s4 4
    let s5 := if r.cmpFail then raiseD d.1 0x80 d.2 else s4
    if r.sramFail || r.cmpFail then done (trigger s5 mLatch 4 none)
    else match s.ctl.testFrom with
      | some m => done (trigger { s5 with ctl := { s5.ctl with testFrom := none } } m 14 none)
      | none => done (trigger s5 (if s.load.standalone then mPlace else mDiscover) 3 none)

/-- DISCOVER_TIMEOUT: on to PLACE; the IDs assigned so far stay (R78, R293). -/
def execDiscoverTimeout (s : State) : Out := clocked s <|
  if mode s = mDiscover then done (trigger (modFab s (fun x => { x with held := true })) mPlace 6 none) else done s

/-- An axis resumes the mode it held before a handover, with the presets of a re-arm (R348). -/
def resumeDrive (s : State) (n m : Nat) : State :=
  if bound s n && !testFailed s n && decide (axMode s n = aTrack) && !rdB s F.axTripStat_LATCH n then
    tripCheck (modeGates (setMode (applyPreset s n aTripped m false true) n m 2) n m false) n
  else s

/-- DRV_SETTLE_EXPIRY: start modes, or the modes a handover resumes (R81, R348). Where RUN was left for HOLD before DRV_SETTLE had
run, the spec does not say whether the start modes are still taken: they are, at an expiry after the return to RUN (DESIGN CHOICE,
log 102). -/
def execDrvSettleExpiry (s : State) : Out := clocked s <|
  if mode s = mRun ∧ s.prot.settling then
    let s1 := { s with prot := { s.prot with settling := false } }
    match s1.red.hand with
    | some h =>
      let s2 := h.modes.foldl (fun t m => resumeDrive t m.1 m.2) (modRed s1 (fun r => { r with hand := none }))
      done (if h.hold then trigger s2 mHold 13 none else s2)
    | none => done (startAxes s1)
  else done s

/-- STOP_LIMIT_EXPIRY (R83, R437). -/
def execStopLimitExpiry (s : State) : Out := clocked s <|
  if mode s = mSafestop then
    let k := ((List.range 48).filter (fun n => driving s n && rdB s F.axMode_STOPPING n)).length
    done (if k = 0 then s else raiseD (stopLimit s) 0x14 k)
  else done s

/-! ## The flash's select pin (R68, R84) -/

/-- FL_CS_N is high: under reset always, else but while the image is read, the ledger memory is written or an image session runs. -/
def flCsHigh (s : State) : Bool :=
  s.pwr.rst || !(decide (mode s = mLoad) || s.ledg.write.isSome || s.load.img.isSome)

end Sys2Proof.Machine
end

