-- ==== Sys2Proof/Machine/View.lean ====
section
/-!
DEFINITION. Reading objects (R7, R9, R396, R400): the values that are computed from other state, and what a read clears.
-/

namespace Sys2Proof.Machine

/-! ## Computed values -/

/-- Some axis satisfies `p`. -/
def someAxis (s : State) (p : State → Nat → Bool) : Bool := (List.range 48).any (p s)

/-- DEV.STATUS (R400). -/
def devStatusVal (s : State) : Nat :=
  mode s + 16 * b2n (hasImage s) + 2 ^ 5 * rd s F.devTrimCtl_TRIM_BAD 0
    + 2 ^ 6 * b2n (decide (rd s F.devPlaceStat_STATE 0 = 2 ∨ rd s F.devPlaceStat_STATE 0 = 3))
    + 2 ^ 7 * b2n (rdB s F.devFabStat_TIME_LOCK 0 || (rdB s F.devFabStat_ID_VALID 0 && isGm s)) + 2 ^ 8 * rd s F.devSvStat_RUNNING 0
    + 2 ^ 9 * rd s F.devLedgStat_LOADED 0 + 2 ^ 10 * b2n (someAxis s (fun t n => decide (axMode t n = aTripped)))
    + 2 ^ 11 * b2n (someAxis s (fun t n => rdB t F.axSpecStat_LAST_MISS n))
    + 2 ^ 12 * b2n ((List.range 8).any (fun p => rdB s F.lkCfg_EN p && !isUp s p)) + 2 ^ 13 * b2n (redInterlock s)

/-- AX[n].STATUS (R400). -/
def axStatusVal (s : State) (n : Nat) : Nat :=
  axMode s n + 8 * b2n (bound s n) + 16 * template s n + 2 ^ 6 * b2n (testFailed s n)
    + 2 ^ 7 * rd s F.axTrkStat_VALID n + 2 ^ 8 * rd s F.axTrkStat_REF n + 2 ^ 9 * rd s F.axTripStat_LATCH n
    + 2 ^ 10 * rd s F.axMode_HELD n + 2 ^ 11 * rd s F.axMode_STOPPING n + 2 ^ 12 * rd s F.axSpecStat_LAST_MISS n
    + 2 ^ 13 * rd s F.axFeStat_EXC_SINE n + 2 ^ 14 * b2n (decide (rd s F.axFeStat_CM n ≠ 0))
    + 2 ^ 15 * b2n (rdB s F.axExcDstat_OPEN n || rdB s F.axExcDstat_COMPL n)
    + 2 ^ 16 * b2n (s.place.unplaced.contains n)

/-- DEV.MODE: the BLK bits stand in STANDBY and HOLD only (R80). -/
def devModeVal (s : State) : Nat :=
  let m := mode s
  let blk := decide (m = mStandby ∨ m = mHold)
  rd s F.devMode_MODE 0 + 16 * rd s F.devMode_PREV 0 + 256 * rd s F.devMode_CAUSE 0 + 2 ^ 12 * b2n s.load.standalone
    + 2 ^ 13 * rd s F.devMode_FROM_LATCH 0
    + 2 ^ 14 * b2n (blk && rdB s F.devTrimCtl_TRIM_BAD 0) + 2 ^ 15 * b2n (blk && decide (s.pwr.below ≠ 0))
    + 2 ^ 16 * b2n (blk && placeBlocks s) + 2 ^ 17 * b2n (blk && !redInterlock s)

/-- A DC-blocking stage of a chain is frozen: by FREEZE, by an input with Settling, or by an excitation switch (R128). -/
def dcFrozen (cfg : Nat) (c : Chain) : Bool :=
  (List.range 3).any (fun i =>
    decide (stResp cfg i = 28) && (c.frozen || bit (stParam cfg i) 5 || (stageAt c i).held))

/-- AX[n].FLT_STAT: settling of the chains in use, a waiting switch, frozen DC blocks (R135). -/
def axFltStatVal (s : State) (n : Nat) : Nat :=
  let x := (ax s n).flt
  setBits (getObj s .axFltStat n) 0 4
    (b2n (resSettling s n) + 2 * b2n (x.cuA.settling || x.cuB.settling) + 4 * b2n (switchWaits s n)
      + 8 * b2n (dcFrozen (resCfg s n) (chainS s n) || dcFrozen (resCfg s n) (chainC s n)))

/-- DEV.FLT_STAT: settling of the auxiliary chains (R135). -/
def devFltStatVal (s : State) : Nat :=
  setBits (getObj s .devFltStat 0) 0 8 ((List.range 8).map (fun k => b2n (auxCh s k).chain.settling * 2 ^ k)).sum

/-- AX[n].TRIP_STAT: ACTIVE and REARMABLE as the sources stand now (R229, R234). -/
def axTripStatVal (s : State) (n : Nat) : Nat :=
  let a := tripActive s n
  setBits (getObj s .axTripStat n) 1 2 (b2n a + 2 * b2n (!a && !rdB s F.axTripStat_LATCH n))

/-- DEV.CAL (R391). -/
def calVal (s : State) : Nat :=
  let r := s.nv.rtc
  r.sec + 2 ^ 32 * b2n r.valid + 2 ^ 33 * b2n r.lagged + 2 ^ 34 * b2n r.wrapped

/-- One word of the placement report: 0 beyond its end, or without a plan (R327). -/
def planRecVal (s : State) (i : Nat) : Nat :=
  match s.place.plan with
  | some p => fieldB (planBytes p) (4 * i) 4
  | none => 0

/-- One word of DEV.SHADOW: the starter shadow, above it the trim staging buffer (R52, R402). -/
def shadowVal (s : State) (i : Nat) : Nat :=
  if i < 126976 then leVal (memBytes 0 s.load.shadow (4 * i) 4) else leVal (memBytes 0 s.load.staging (4 * (i - 126976)) 4)

/-- OTP_LOCK bits as programmed (R46). -/
def otpBit (s : State) (i : Nat) : Bool := bit s.nv.otpLock i

/-- The value of an object as an access reads it. WO fields and reserved bits read 0 (R7, R8). Q[q].POP has no value of its own:
its read pops. -/
def viewObj (s : State) (o : ObjId) (i : Nat) : Nat :=
  match o with
  | .axStatus => axStatusVal s i
  | .devId => 0xB04896 + s.nv.serial % 2 ^ 64 * 2 ^ 32 + s.nv.grade % 256 * 2 ^ 96
  | .devMode => devModeVal s
  | .devResetCause => s.nv.cause
  | .devSupply => setBits (setBits (getObj s .devSupply 0) 0 5 s.pwr.below) 16 1 (b2n s.pwr.vbatLow)
  | .devTrimCtl =>
    setBits (getObj s .devTrimCtl 0) 2 1 (b2n (s.load.jobs.any (fun j => match j with | .trim _ => true | _ => false)))
  | .devStatus => devStatusVal s
  | .devOtpLock => s.nv.otpLock % 16
  | .devOtpSerial => s.nv.serial
  | .devOtpKhash => s.nv.khash
  | .devOtpFkey => if otpBit s 3 then 0 else s.nv.fkey
  | .devQmStat => qmStatVal s
  | .devEvStat => setBits (getObj s .devEvStat 0) 0 13 s.ctl.evLog.length
  | .devFabTime => nowNs s % 2 ^ 64
  | .axExcCtl => setBits (getObj s .axExcCtl i) 3 1 (b2n (senseOn s i))
  | .axFltStat => axFltStatVal s i
  | .devFltStat => devFltStatVal s
  | .axLoopStat => setBits (getObj s .axLoopStat i) 8 4 (ax s i).loop.pend.length
  | .axTripStat => axTripStatVal s i
  | .qCfg => qCfgVal s i
  | .qStat => qStatVal s i
  | .qNotice => qNoticeVal s i
  | .qPop => 0
  | .devPlanRec => planRecVal s i
  | .devRedCfg => s.red.cfgNext.getD (getObj s .devRedCfg 0)
  | .devCal => calVal s
  | .devShadow => shadowVal s i
  | .devTrim => leVal (memBytes 0 s.nv.trim (4 * i) 4)
  | o => getObj s o i

/-! ## Reads -/

/-- The fields of an object that a read clears. -/
def clearRc (o : ObjId) (v : Nat) : Nat :=
  (objRow o).fields.foldl (fun a f => if f.acc = .rc then setBits a f.lo f.w 0 else a) v

/-- An object holds a field that a read clears. -/
def hasRc (o : ObjId) : Bool := (objRow o).fields.any (fun f => decide (f.acc = .rc))

/-- Objects of a queue that does not exist do not exist (R253). -/
def objThere (o : ObjId) (i : Nat) : Bool :=
  match o with
  | .qCfg => isQueue i
  | .qStat => isQueue i
  | .qNotice => isQueue i
  | .qPop => isQueue i
  | _ => true

/-- An access to an object of queue `q` finds a descriptor word that fails parity (R272). The spec does not say what the access then
answers: a read gives the fields as they stand and clears none, a write is answered busy (DESIGN CHOICE, log 105). -/
def parityFault (s : State) (q : Nat) : Bool := isPool q && (qd s q).bad && (qd s q).resetting.isNone

/-- One read of a whole object: its value, and the state after what the read clears (R7, R10). A read of Q[q].POP pops through
read port 2 (R262). -/
def readObj (s : State) (o : ObjId) (i : Nat) : State × Nat :=
  match o with
  | .qPop =>
    let r := qPop s i
    (portOut r.1 2 r.2, r.2.word.toNat + r.2.tag * 2 ^ 64)
  | .qNotice => if parityFault s i then (startReset s i 3, viewObj s o i) else (qNoticeClear s i, viewObj s o i)
  | .qCfg => (if parityFault s i then startReset s i 3 else s, viewObj s o i)
  | .qStat => (if parityFault s i then startReset s i 3 else s, viewObj s o i)
  | o => (if hasRc o then setObj s o i (clearRc o (getObj s o i)) else s, viewObj s o i)

/-- A read at an address: the value, its width in words, or none where nothing stands there (R396). -/
def readAt (s : State) (addr : Nat) : Option (State × Nat × Nat) :=
  match locate addr with
  | some (o, i) => if objThere o i then let r := readObj s o i; some (r.1, r.2, objWords o) else none
  | none => none

end Sys2Proof.Machine
end

