-- ==== Sys2Proof/Machine/Rules.lean ====
section
/-!
DEFINITION. What a write of an object is held against (R7, R434, R435): the ranges of the field maps, the rules that relate
fields and objects, and the rules that allow a write in some modes only. Each rule names the bits of the object it is
attached to: it counts where the write changes one of them; a rule attached to the whole object counts always.
-/

namespace Sys2Proof.Machine

/-- A rule: the bits it is attached to (0 for the whole object), and whether it is kept. -/
structure WRule where
  mask : Nat
  ok : Bool
  deriving DecidableEq, Repr

/-- The bits of a field. -/
def fmask (f : Fld) : Nat := (2 ^ f.w - 1) * 2 ^ f.lo

/-- A rule attached to some fields. -/
def ruleOf (fs : List Fld) (ok : Bool) : WRule := ⟨(fs.map fmask).sum, ok⟩

/-- A rule attached to the whole object. -/
def ruleAll (ok : Bool) : WRule := ⟨0, ok⟩

/-- The range of a field. -/
def rng (s : State) (f : Fld) (i lo hi : Nat) : WRule := ruleOf [f] (decide (lo ≤ rd s f i ∧ rd s f i ≤ hi))

/-- A rule breaks a write from value `old` to `v`. -/
def broken (old v : Nat) (r : WRule) : Bool := !r.ok && (decide (r.mask = 0) || decide ((old ^^^ v) &&& r.mask ≠ 0))

/-! ## Rules that relate objects -/

/-- Written half-period of the group an axis is written to. -/
def hpWritten (s : State) (n : Nat) : Nat := rd s F.devExcGrp_HALF_PERIOD (rd s F.axExcCtl_GROUP n)

/-- R92: proof window and plateau fit the half-period, for MODE 0 and 1. In thirds of a nanosecond. -/
def fitsHalf (s : State) (n : Nat) : Bool :=
  decide (rd s F.axExcCtl_MODE n = 2)
    || decide (25 * rd s F.axExcCtl_PROOF n + 400 * plateauN (getObj s .axFltSq n) ≤ 2 * hpWritten s n)

/-- R125: 128 phase points only from a half-period of 12,800 cycles on. -/
def fitsCorr (s : State) (n : Nat) : Bool :=
  decide (corrK (getObj s .axFltSine n) ≠ 128) || decide (12800 ≤ hpWritten s n)

/-- The axes of a group keep R92 and R125. -/
def groupFits (s : State) (g : Nat) : Bool :=
  (List.range 48).all (fun n => decide (rd s F.axExcCtl_GROUP n ≠ g) || (fitsHalf s n && fitsCorr s n))

/-- R106: the proof window of a current range change and the lead fit half a carrier period. -/
def fitsCarrier (s : State) (n : Nat) : Bool :=
  decide (25 * rd s F.axFeCtl_RNG_PW n + 4 * rd s F.axPwmLead_L n ≤ 4 * rd s F.axPwmTim_HALF n)

/-- R216: exact mode needs a lead of 229 ticks. -/
def exactFits (s : State) (n : Nat) : Bool := !rdB s F.axSpecCtl_EXACT n || decide (229 ≤ rd s F.axPwmLead_L n)

/-- Pole pairs of a T0 or T2 motor are a whole multiple of the resolver's (R170). -/
def polesFit (s : State) (n : Nat) : Bool :=
  let t := template s n
  !(decide (t = 0) || decide (t = 2)) || !bound s n || decide (rd s F.axMotor_MOT_PP n % resPP s n = 0)

/-- The PHASE of a group lies below a whole excitation period (R89, R90). -/
def phaseFits (s : State) (g : Nat) : Bool := decide (rd s F.devExcPhase_PHASE g < 2 * rd s F.devExcGrp_HALF_PERIOD g)

/-! ## Chains (R122) -/

/-- How many stages of a chain hold a response between `lo` and `hi`. -/
def respCount (cfg lo hi : Nat) : Nat :=
  ((List.range 3).filter (fun i => decide (lo ≤ stResp cfg i ∧ stResp cfg i ≤ hi))).length

/-- PARAM and SHIFT of one stage (R122, R134). -/
def stageFits (cfg i : Nat) : Bool :=
  let r := stResp cfg i
  let p := stParam cfg i
  if r = 28 then decide (8 ≤ p % 32 ∧ p % 32 ≤ 20 ∧ p < 64)
  else if r = 31 then decide (1 ≤ p ∧ p ≤ 64)
  else if r = 30 then decide (p = 0 ∧ stShift cfg i = 0)
  else decide (p = 0)

/-- A chain holds allowed responses only: one main response at most between `lo` and `hi`, and those of `more`. -/
def chainFits (cfg lo hi : Nat) (more : List Nat) : Bool :=
  (List.range 3).all (fun i =>
      (decide (lo ≤ stResp cfg i ∧ stResp cfg i ≤ hi) || more.contains (stResp cfg i)) && stageFits cfg i)
    && decide (respCount cfg lo hi ≤ 1)

/-- The auxiliary chain: one CIC and one block average at most. -/
def auxFits (cfg : Nat) : Bool := chainFits cfg 24 27 [28, 30, 31] && decide (respCount cfg 31 31 ≤ 1)

/-! ## Limits (R187) -/

/-- Limit `j` of axis `n` as it will stand once the writes pending have landed. -/
def limThen (s : State) (n j : Nat) : Int :=
  let ws := (ax s n).loop.pend.filter (fun w => match w.word with | .lim k => k.val == j | _ => false)
  match ws.getLast? with
  | some w => w.val.toInt
  | none => sx 32 (getObj s .axLim (limIx n j))

/-- Limits that are marked not negative. -/
def limUnsigned (j : Nat) : Bool := decide (j < 2) || decide (10 ≤ j)

/-- The other limit of a minimum and maximum pair, and whether `j` is the minimum. -/
def limMate (j : Nat) : Option (Nat × Bool) :=
  if 2 ≤ j ∧ j ≤ 9 then some (if j % 2 = 0 then (j + 1, true) else (j - 1, false)) else none

/-- Value `v` is allowed for limit `j`. -/
def limFits (s : State) (n j : Nat) (v : Int) : Bool :=
  !(limUnsigned j && decide (v < 0))
    && !(decide (j = 0) && bound s n && (decide (template s n = 0) || decide (template s n = 2)) && decide (1239850262 < v))
    && (match limMate j with
      | some (k, isMin) => if isMin then decide (v ≤ limThen s n k) else decide (limThen s n k ≤ v)
      | none => true)

/-! ## The plan's lanes (R326) -/

/-- An item with the settings of this device as they stand in `s`; settings of other devices' axes stay as planned. -/
def itemNow (s : State) (me : Nat) (x : Item) : Item :=
  let ps := [{ ownInput s with node := me }]
  if x.node = me then
    match (s.load.bindings.flatMap (expandOne ps me)).find? (fun y => itemKey y == itemKey x) with
    | some y =>
      let z := { x with period := y.period, cost := y.cost, sched := y.sched, exact := y.exact }
      if x.kind = .motor ∧ x.home ≠ me then x
      else if x.kind = .gear ∧ x.home ≠ me then z else { z with winT := y.winT, lead := y.lead }
    | none => x
  else if x.kind = .gear ∧ x.home = me then
    { x with winT := periodOf (axisInput ps me x.axis), lead := (axisInput ps me x.axis).lead }
  else if x.kind = .motor ∧ x.home = me then
    let a := axisInput ps me x.axis
    { x with period := periodOf a, winT := periodOf a, lead := a.lead }
  else x

/-- The items of the plan with the device's settings as they stand. -/
def itemsNow (s : State) : List Item :=
  match s.place.plan with
  | some p => p.items.map (itemNow s (planNode s p))
  | none => []

/-- The lanes of this device that carry an item of axis `n` keep the limits of R319. -/
def lanesFit (s : State) (n : Nat) : Bool :=
  match s.place.plan with
  | some p =>
    let me := planNode s p
    let xs := itemsNow s
    (List.range 4).all (fun l =>
      !xs.any (fun x => x.device == some me && x.lane == some l
          && ((x.home == me && x.axis == n) || (x.node == me && x.farAxis == n)))
        || laneFits xs me l)
  | none => true

/-! ## Queues (R253 to R255, R275) -/

/-- A configuration of queue `q`: `w` as written, `old` the quota before. -/
def qCfgFits (s : State) (q old w : Nat) : List WRule :=
  let k := bits w 0 13
  if isSorted q then
    [ruleAll (decide (k = 0)), ruleOf [F.qCfg_WM_HI] (decide (bits w 16 8 ≤ 32)), ruleOf [F.qCfg_WM_LO] (decide (bits w 24 8 ≤ 32))]
  else [ruleOf [F.qCfg_QUOTA] (decide (quotaSum s.qm - (old : Int) + k ≤ 6112))]

/-! ## Access rules: ranges and relations -/

/-- Ranges and relations of excitation and front end (chapter 04). -/
def rulesFront (s : State) (o : ObjId) (i : Nat) : List WRule :=
  match o with
  | .axExcCtl =>
    [rng s F.axExcCtl_MODE i 0 2, rng s F.axExcCtl_PROOF i 0 240, rng s F.axExcCtl_FAIL_N i 1 255,
      ruleOf [F.axExcCtl_PROOF, F.axExcCtl_MODE, F.axExcCtl_GROUP] (fitsHalf s i), ruleOf [F.axExcCtl_GROUP] (fitsCorr s i)]
  | .devExcGrp =>
    [rng s F.devExcGrp_HALF_PERIOD i 7500 300000,
      ruleOf [F.devExcGrp_HALF_PERIOD] (groupFits s i && phaseFits s i)]
  | .devExcPhase => [ruleOf [F.devExcPhase_PHASE] (phaseFits s i)]
  | .axFeCtl =>
    [rng s F.axFeCtl_MUX_PW i 0 240, rng s F.axFeCtl_RNG_PW i 0 240, ruleOf [F.axFeCtl_RNG_PW] (fitsCarrier s i)]
  | .axFeCm =>
    [rng s F.axFeCm_CM_LO i 10 90, rng s F.axFeCm_CM_QUAL i 1 255, rng s F.axFeCm_I_DN_N i 8 255,
      ruleOf [F.axFeCm_CM_LO, F.axFeCm_CM_HI] (decide (rd s F.axFeCm_CM_LO i < rd s F.axFeCm_CM_HI i))]
  | .devAuxCtl => [rng s F.devAuxCtl_PW i 0 240]
  | .devAuxoCtl =>
    [rng s F.devAuxoCtl_KIND i 0 3,
      ruleOf [F.devAuxoCtl_KIND, F.devAuxoCtl_INDEX]
        (decide (rd s F.devAuxoCtl_INDEX i < (if rd s F.devAuxoCtl_KIND i = 0 then 8 else 48)))]
  | .devAuxoPar => [rng s F.devAuxoPar_PERIOD i 7500 750000]
  | _ => []

/-- Ranges and relations of filter, tracking and encoder (chapters 05 and 06). The chain rules hold for the object as a
whole (R122). -/
def rulesTrack (s : State) (old : State) (o : ObjId) (i : Nat) : List WRule :=
  match o with
  | .axFltSq => [ruleAll (chainFits (getObj s o i) 0 7 [28, 30]), ⟨2 ^ 48 - 1, fitsHalf s i⟩]
  | .axFltSine => [ruleAll (chainFits (getObj s o i) 8 15 [28, 30]), ⟨2 ^ 48 - 1, fitsCorr s i⟩]
  | .axFltCur => [ruleAll (chainFits (getObj s o i) 16 23 [30])]
  | .devFltAux => [ruleAll (auxFits (getObj s o i))]
  | .axTrkCtl =>
    [rng s F.axTrkCtl_RES_PP i 1 16, rng s F.axTrkCtl_BW i 10 1000, rng s F.axTrkCtl_COAST i 1 255,
      rng s F.axTrkCtl_ACC_K i 0 8, rng s F.axTrkCtl_TE_N i 1 255, rng s F.axTrkCtl_LOCK_N i 1 255,
      rng s F.axTrkCtl_TE_WIN i 1 8192, ruleOf [F.axTrkCtl_RES_PP] (polesFit s i),
      ruleOf [F.axTrkCtl_BW] (decide (80 * rd s F.axTrkCtl_BW i * hpWritten s i ≤ 1500000000))]
  | .axTrkAmp =>
    [ruleOf [F.axTrkAmp_AMP_LO, F.axTrkAmp_AMP_HI] (decide (rd s F.axTrkAmp_AMP_LO i < rd s F.axTrkAmp_AMP_HI i))]
  | .devEncCtl =>
    [rng s F.devEncCtl_AXIS i 0 47, rng s F.devEncCtl_SEP i 75 3000,
      ruleOf [F.devEncCtl_AXIS, F.devEncCtl_INV, F.devEncCtl_LINES_M1]
        (!rdB old F.devEncCtl_EN i || !rdB s F.devEncCtl_EN i)]
  | _ => []

/-- Ranges and relations of loops, run-ahead commit, trace and PWM (chapters 07 to 09, R326, R402). -/
def rulesLoop (s : State) (o : ObjId) (i : Nat) : List WRule :=
  match o with
  | .axLoopCfg =>
    [rng s F.axLoopCfg_START i 1 6, rng s F.axLoopCfg_PL_REACT i 0 2, ruleOf [F.axLoopCfg_VDIV, F.axLoopCfg_PDIV] (lanesFit s i)]
  | .axMotor =>
    [rng s F.axMotor_MOT_PP i 1 31, rng s F.axMotor_PL_N i 1 255, ruleOf [F.axMotor_MOT_PP] (polesFit s i)]
  | .axGear => [rng s F.axGear_M_AXIS i 0 47]
  | .axSpecCtl =>
    [rng s F.axSpecCtl_MISS_LIMIT i 1 255, ruleOf [F.axSpecCtl_EXACT] (exactFits s i && lanesFit s i)]
  | .axSpecWin => [rng s F.axSpecWin_IWIN i 1 65535, rng s F.axSpecWin_AWIN i 1 4096]
  | .axTelCfg => [rng s F.axTelCfg_D i 1 65535]
  | .devTrcCtl => [rng s F.devTrcCtl_DEPTH i 1 2048]
  | .devTrcTrig => [rng s F.devTrcTrig_KIND i 0 2, rng s F.devTrcTrig_EDGE i 0 2]
  | .devTrcProbe =>
    let node := rd s F.devTrcProbe_NODE i
    [rng s F.devTrcProbe_CLK i 0 4, rng s F.devTrcProbe_NODE i 0 23,
      ruleOf [F.devTrcProbe_NODE, F.devTrcProbe_CLK] (decide (node ≠ 23 ∨ rd s F.devTrcProbe_CLK i = 4)),
      ruleOf [F.devTrcProbe_NODE, F.devTrcProbe_INDEX]
        (decide (rd s F.devTrcProbe_INDEX i < (if node = 23 then 200 else 48)))]
  | .axPwmTim =>
    [rng s F.axPwmTim_HALF i 1875 75000, ruleOf [F.axPwmTim_HALF] (fitsCarrier s i && lanesFit s i),
      ruleOf [F.axPwmTim_HALF, F.axPwmTim_PHASE] (decide (rd s F.axPwmTim_PHASE i < 2 * rd s F.axPwmTim_HALF i))]
  | .axPwmLead =>
    [rng s F.axPwmLead_L i 139 65535, ruleOf [F.axPwmLead_L] (fitsCarrier s i && exactFits s i && lanesFit s i)]
  | .axPwmCfg =>
    [rng s F.axPwmCfg_SAFE i 0 2, rng s F.axPwmCfg_DT i 0 6000, ruleOf [F.axPwmCfg_DUAL] (lanesFit s i)]
  | _ => []

/-- Ranges and relations of the device's other objects (chapters 03, 10 to 17). -/
def rulesDevice (s : State) (old : State) (o : ObjId) (i w : Nat) : List WRule :=
  match o with
  | .axExcDrv => [rng s F.axExcDrv_SINE_AMP i 0 320, rng s F.axExcDrv_OW_N i 1 255, rng s F.axExcDrv_CMP_N i 1 255]
  | .monCtl => [rng s F.monCtl_PERIOD i 1 1000, rng s F.monCtl_QID i 0x1000 0xFFFE]
  | .qCfg => qCfgFits old i (qd old i).quota w
  | .lkCfg => [rng s F.lkCfg_ERR_LIM i 1 255, rng s F.lkCfg_QUAR_T i 1 255, rng s F.lkCfg_MAC_LIM i 1 255]
  | .devFabCfg => [rng s F.devFabCfg_RT_LIFE i 1 255, rng s F.devFabCfg_TWIN i 1 255]
  | .devFabRate => [rng s F.devFabRate_CTL_RATE i 1 65535, rng s F.devFabRate_MGMT_RATE i 1 65535]
  | .devRedCfg =>
    [rng s F.devRedCfg_KIND i 0 2, rng s F.devRedCfg_ROLE i 0 2, rng s F.devRedCfg_TMO i 10 255,
      ruleOf [F.devRedCfg_PORT_A, F.devRedCfg_PORT_B] (decide (rd s F.devRedCfg_PORT_A i ≠ rd s F.devRedCfg_PORT_B i))]
  | .devLedgCfg => [rng s F.devLedgCfg_INTERVAL i 10 3600]
  | .devTrcCtl => [ruleAll (!bit w 0 || decide (trcBytes s ≤ traceBytes))]
  | .axTripCfg =>
    [ruleOf [F.axTripCfg_CW_HI, F.axTripCfg_CW_LO] (decide (rdS s F.axTripCfg_CW_LO i < rdS s F.axTripCfg_CW_HI i))]
  | .devModeCfg => [rng s F.devModeCfg_DRV_SETTLE i 0 1000, rng s F.devModeCfg_STOP_LIMIT i 1 65535]
  | .devEvRaise =>
    [ruleAll (decide (0xF000 ≤ bits w 0 16) && (decide (bits w 16 8 < 48) || decide (bits w 16 8 = 0xFF)))]
  | .devLedgCmd => [ruleAll (decide (bits w 2 6 < 48))]
  | .axMode => [ruleAll (decide (bits w 4 3 ≠ 7))]
  | .axPairSet => [ruleAll (decide (roleOf s i = 1))]
  | .axLim => [ruleAll (decide (limThen old (i / 18) (i % 18) = sx 32 w) || limFits old (i / 18) (i % 18) (sx 32 w))]
  | .devOtpKhash => [ruleAll (!otpBit s 2)]
  | .devOtpFkey => [ruleAll (!otpBit s 3)]
  | _ => []

/-- Every access rule of an object: `s` holds the value written, `old` is the state before, `w` the word as carried. -/
def accessRules (s old : State) (o : ObjId) (i w : Nat) : List WRule :=
  rulesFront s o i ++ rulesTrack s old o i ++ rulesLoop s o i ++ rulesDevice s old o i w

/-! ## Mode rules -/

/-- The axis is DISABLED or TRACK. -/
def atRest (s : State) (n : Nat) : Bool := decide (axMode s n = aDisabled ∨ axMode s n = aTrack)

/-- Positions can be set on an axis (R153). -/
def posSetOk (s : State) (n : Nat) : Bool :=
  tracked s n && decide (axMode s n ≠ aPosition ∧ axMode s n ≠ aGear) && decide (roleOf s n = 0)

/-- Positions can be set on a pair (R177). -/
def pairSetOk (s : State) (n : Nat) : Bool :=
  allTracked s n && (pairAxes s n).all (fun k => decide (axMode s k ≠ aPosition ∧ axMode s k ≠ aGear))

/-- Fields of LOOP_CFG that may be written only outside the driving modes. -/
def loopCfgFixed : List Fld :=
  [F.axLoopCfg_VDIV, F.axLoopCfg_PDIV, F.axLoopCfg_VD_MEAS, F.axLoopCfg_PD_MEAS, F.axLoopCfg_VDF_K, F.axLoopCfg_PDF_K,
    F.axLoopCfg_AW, F.axLoopCfg_PL_REACT]

/-- A probe or trigger object may be written: outside a capture (R192). -/
def trcFree (s : State) : Bool := decide (trcState s = trcIdle ∨ trcState s = trcDone)

/-- The rules that allow a write only in some device or axis modes: `s` is the state before, `v` the new value. -/
def modeRules (s : State) (o : ObjId) (i v w : Nat) : List WRule :=
  match o with
  | .axFeCtl =>
    [ruleOf [F.axFeCtl_RSRC] (decide (bits v 0 2 = 0) || atRest s i),
      ruleOf [F.axFeCtl_ISRC] (decide (bits v 2 2 = 0) || atRest s i)]
  | .axFltSq => [ruleAll (!driving s i)]
  | .axFltSine => [ruleAll (!driving s i)]
  | .axFltCur => [ruleAll (!driving s i)]
  | .axTrkCtl =>
    [ruleOf [F.axTrkCtl_RTRIM_OFF] (atRest s i), ruleOf [F.axTrkCtl_RES_PP] (decide (axMode s i = aDisabled))]
  | .axPosSet => [ruleAll (posSetOk s i)]
  | .axMode => [ruleAll (mayEnter s i (bits w 4 3))]
  | .axLoopCfg => [ruleOf loopCfgFixed (!driving s i)]
  | .axMotor => [ruleAll (atRest s i)]
  | .axGear => [ruleAll (decide (axMode s i ≠ aGear))]
  | .axPairSet => [ruleAll (pairSetOk s i)]
  | .devTrcTrig => [ruleAll (trcFree s)]
  | .devTrcProbe => [ruleAll (trcFree s)]
  | .axPwmTim => [ruleOf [F.axPwmTim_HALF, F.axPwmTim_PHASE] (!driving s i && decide (axMode s i ≠ aTripped))]
  | .axPwmLead => [ruleOf [F.axPwmLead_L] (!driving s i)]
  | .axPwmCfg =>
    [⟨2 ^ 32 - 1, !driving s i && decide (axMode s i ≠ aTripped)⟩,
      ruleOf [F.axPwmCfg_SAFE] (atRest s i && !rdB s F.axTripStat_LATCH i)]
  | .axExcDrv => [ruleOf [F.axExcDrv_BOOST] (!rdB s F.axExcCtl_EN i)]
  | .monCtl =>
    [ruleOf [F.monCtl_QID] (!rdB s F.monCtl_EN i),
      ruleOf [F.monCtl_SPAN] (decide (2 ≤ mode s) && decide (rd s F.monStat_STATE i ≠ monFault) && !(mon s i).holdFault)]
  | .devPwmCfg =>
    [ruleOf [F.devPwmCfg_SSC] (!someAxis s (fun t n => driving t n))]
  | .devFabCmd => [ruleAll (!bit w 0 || isGm s)]
  | .devLedgCmd => [ruleAll (!bit w 1 || decide (mode s = mMaint))]
  | .devCalSet => [ruleAll (decide (2 ≤ mode s) && (isGm s || !rdB s F.devCalCfg_CAL_SRC 0))]
  | .axTripCmd => [ruleAll (!bit w 0 || (!tripActive s i && decide (rd s F.devRedStat_EROLE 0 ≠ roleReleased)))]
  | .devSvCmd => [ruleAll (!bit w 0 || (decide (2 ≤ mode s) && !s.load.svHead.isEmpty))]
  | _ => []

/-! ## Busy rules -/

/-- The rules that make a write wait: a full list, cells in use, a span change, an open image session. -/
def busyRules (s : State) (o : ObjId) (i v w : Nat) : List WRule :=
  match o with
  | .qCfg => [ruleOf [F.qCfg_QUOTA] (isSorted i || decide ((qd s i).held ≤ 8 * bits v 0 13))]
  | .monCtl => [ruleOf [F.monCtl_SPAN] (decide (rd s F.monStat_STATE i ≠ monSpan))]
  | .devSvCmd => [ruleAll (!bit w 0 || (s.load.img.isNone && !rdB s F.devSvStat_RELOADING 0))]
  | _ => []

end Sys2Proof.Machine
end

