-- ==== Sys2Proof/Machine/Sampling.lean ====
section
/-!
DEFINITION. Excitation edges, hold strobes, conversions and the other events of the front end: meanings of the commands
of spec/04_front_end_excitation.md and spec/05_filter_chain.md that no access makes.
-/

namespace Sys2Proof.Machine

/-! ## Excitation -/

/-- EXC_EDGE: a half-period boundary of group `g` (R89 to R98, R131). -/
def execExcEdge (g : Fin 4) (s : State) : Out := clocked s <| done (if s.pwr.rst then s else groupEdge s g)

/-- SINE_DRIVER_UPDATE: every sine driver that excites takes a new output; a held group holds its phase (R239, R133). -/
def execSineDriverUpdate (s : State) : Out := clocked s <|
  let t := nowCyc s
  done (forAxes (fun u n =>
    let g := grp u (ax u n).exc.grp
    if (ax u n).exc.drive && inSine u n && !g.holding then
      modExc u n (fun e => { e with out := drvSine u n (excPhase g t) })
    else u) s)

/-! ## Strobes (R6, R13, R91, R100, R113, R125) -/

/-- A proof window still open at this instant. -/
def winOpen (s : State) (w : Nat) : Bool := decide (nowHalf s < w)

/-- A multiplexer window opens at the first strobe under the new source (R100). -/
def openMux (s : State) (n : Nat) : State :=
  modFe s n (fun f =>
    { f with
      rWin := (match f.rMux with | some l => max f.rWin (nowHalf s + 25 * l) | none => f.rWin), rMux := none,
      iWin := (match f.iMux with | some l => max f.iWin (nowHalf s + 25 * l) | none => f.iWin), iMux := none })

/-- The class of the strobe of axis `n` at this instant (R91); sine mode knows no plateau. A proof window of a multiplexer
switch that reaches beyond that of the half-period is part of it (R100, R107). -/
def strobeCls (s : State) (n : Nat) : StrobeCls :=
  let e := (ax s n).exc
  let g := grp s e.grp
  if !g.running then .none
  else if inSine s n then .tail
  else if decide (2 * (nowCyc s - g.edgeAt) < 25 * e.pw) || winOpen s (ax s n).fe.rWin then .proof
  else if e.nPl < plateauN (ax s n).flt.cfgSq then .plateau
  else .tail

/-- The phase point the strobe serves in sine mode: the next one, once its instant has come (R125). -/
def strobePoint (s : State) (n : Nat) : Option Nat :=
  let e := (ax s n).exc
  let g := grp s e.grp
  let k := corrK (ax s n).flt.cfgSn
  if g.running && inSine s n && decide (e.nextPt < (if g.pos then k / 2 else k))
      && decide (e.nextPt * 2 * g.half ≤ (nowCyc s - g.posAt) * k) then some e.nextPt
  else none

/-- Tag of the strobe for channel `q` (SIN, COS, IA, IB): range, polarity, clamp, settling, common mode, source (R6). DESIGN
CHOICE (log 87): Clamp and Common-mode are those of the converter's own pair, with the crossed source too. -/
def strobeTag (s : State) (n : Nat) (cls : StrobeCls) (q : Nat) : Nat :=
  let f := (ax s n).fe
  let cur := decide (2 ≤ q)
  let g := grp s (ax s n).exc.grp
  rangeOf s n cur + 4 * b2n (g.running && !g.pos) + 8 * b2n (bit f.clamp q)
    + 16 * b2n (if cur then winOpen s f.iWin else decide (cls = .proof) || winOpen s f.rWin)
    + 32 * b2n (bit (rd s F.axFeStat_CM n) q) + 64 * b2n (decide (srcOf s n cur ≠ 0))

/-- A strobe's conversion starts in a slot. -/
def startConv (s : State) (slot : Nat) (st : Strobe) : State :=
  { s with conv := mset [] s.conv slot (mget [] s.conv slot ++ [st]) }

/-- A strobe's conversion starts in a slot, unless the slot lies beyond a shortened frame (R117). -/
def startSlot (s : State) (slot : Nat) (st : Strobe) : State :=
  if slot < s.ctl.frameLen then startConv s slot st else s

/-- The strobe of axis `n` closes its four track-and-hold circuits. -/
def axisStrobe (s : State) (n : Nat) : State :=
  let s1 := openMux s n
  let cls := strobeCls s1 n
  let pt := strobePoint s1 n
  let e := (ax s1 n).exc
  let g := grp s1 e.grp
  let t := nowCyc s1
  let st : Strobe :=
    { at_ := t, cls := cls, h := g.count, neg := g.running && !g.pos, edge := g.edgeAt,
      last := decide (cls = .plateau) && decide (e.nPl + 1 = plateauN (ax s1 n).flt.cfgSq), point := pt,
      ph := excPhase g t,
      tags := [strobeTag s1 n cls 0, strobeTag s1 n cls 1, strobeTag s1 n cls 2, strobeTag s1 n cls 3] }
  let s2 := modExc s1 n (fun e =>
    { e with nPl := e.nPl + b2n (decide (cls = .plateau)), nextPt := e.nextPt + b2n pt.isSome })
  let s3 := modFe s2 n (fun f => { f with clamp := 0 })
  (List.range 4).foldl (fun u q => startSlot u (4 * n + q) st) s3

/-- Auxiliary channel `k` takes its strobe; a written source takes effect and opens its window (R113). -/
def auxStrobe (s : State) (k : Nat) : State :=
  let a := auxCh s k
  let src := rd s F.devAuxCtl_SRC k
  let win := if src = a.src then a.win else nowHalf s + 25 * rd s F.devAuxCtl_PW k
  let tag := rd s F.devAuxCtl_RANGE k + 8 * b2n a.clamp + 16 * b2n (decide (nowHalf s < win))
    + 64 * b2n (decide (3 ≤ src))
  let st : Strobe := ⟨nowCyc s, .none, 0, false, 0, false, none, 0, [tag]⟩
  startSlot (setAux s k { a with src := src, win := win, clamp := false }) (192 + k) st

/-- A frame starts, with the length that a SYNC gives it: results that were late in the frame before are reported once (R13,
R15, R16). -/
def frameMark (s : State) : State :=
  let late := s.ctl.lateInFrame
  let len := frameLenAt s (nowCyc s)
  let s1 := { s with ctl :=
    { s.ctl with
      frameStart := nowCyc s, frameLen := len, prevLen := s.ctl.frameLen,
      short := if len < 200 then some (nowCyc s, len) else s.ctl.short, gridAt := none, lateInFrame := 0 } }
  if late = 0 then s1 else raiseD s1 0x16 late

/-- A hold strobe at its frame cycle: that of axis 0 falls on the frame start; one at or beyond the end of a shortened frame is
not issued (R13, R117). -/
def strobeAt (s : State) (n : Nat) : State :=
  if n = 0 then axisStrobe (frameMark s) 0
  else if !hasStrobe n s.ctl.frameLen then s
  else if n = 48 then (List.range 8).foldl auxStrobe s
  else axisStrobe s n

/-- HOLD_STROBE: the strobe of axis `n`, or of the auxiliary channels for n = 48 (R13). -/
def execHoldStrobe (n : Fin 49) (s : State) : Out := clocked s <|
  if s.pwr.rst || s.pwr.coreLost then done s else done (strobeAt s n)

/-- Tag of a converter's result (R6, R23, R57, R105): the Clamp bit also where the code clips at full scale or the trim
saturates; Valid, but not after the loss of the CONV clock. -/
def resultTag (s : State) (tag : Nat) (raw : Int) (sat : Bool) : Nat :=
  (tag ||| (if sat || decide (raw = 32767) || decide (raw = -32768) then 8 else 0)) + 128 * b2n (!s.pwr.convLost)

/-- CONVERSION_DONE: the result takes its trim and enters C1, two entries deep, with its tag (R6, R21, R57). DESIGN CHOICE (log
88): a result that finds both entries taken is dropped. -/
def execConversionDone (slot : Fin 200) (raw : BitVec 16) (s : State) : Out := clocked s <|
  match mget [] s.conv slot with
  | [] => done s
  | st :: sts =>
    let tag := slotTagOf st slot
    let y := applyTrim raw.toInt (convTrim s slot (tRange tag))
    let e : C1Ent := ⟨y.1, resultTag s tag raw.toInt y.2, st⟩
    let q := mget [] s.c1 slot
    let s1 := { s with conv := mset [] s.conv slot sts }
    done (if q.length < 2 then { s1 with c1 := mset [] s1.c1 slot (q ++ [e]) } else s1)

/-! ## Ranges, sources, detectors -/

/-- RANGE_CHANGE: an allowed instant of a pair (R104, R107). A current pair without an active timer keeps its range. -/
def execRangeChange (n : Fin 48) (current : Bool) (s : State) : Out := clocked s <|
  done (if current && !(ax s n).pwm.active then s else changeRange s n current)

/-- MUX_SWITCH: the written source of a pair takes effect (R100, R102). -/
def execMuxSwitch (n : Fin 48) (current : Bool) (s : State) : Out := clocked s <| done (switchMux s n current)

/-- CM_FAULT_ONSET: a pair is in common-mode fault; IA and IB trip a driving axis (R109, R110). -/
def execCmFaultOnset (slot : Fin 192) (s : State) : Out := clocked s <|
  let n := slot.val / 4
  let q := slot.val % 4
  let m := rd s F.axFeStat_CM n ||| 2 ^ q
  let s1 := raise (wr s F.axFeStat_CM n m) 0x21 n m
  done (if 2 ≤ q then tripCheck s1 n else s1)

/-- CM_FAULT_END: the common mode is back in its window (R109). -/
def execCmFaultEnd (slot : Fin 192) (s : State) : Out := clocked s <|
  let n := slot.val / 4
  let m := rd s F.axFeStat_CM n
  done (if bit m (slot.val % 4) then wr s F.axFeStat_CM n (m - 2 ^ (slot.val % 4)) else s)

/-- CLAMP_CONDUCTION: the next strobe of the pair carries the Clamp tag, and the sticky bit sets; its change raises
EV_FE_CLAMP (R111). An auxiliary pair sets its own bit (R113). -/
def execClampConduction (slot : Fin 200) (s : State) : Out := clocked s <|
  if slot.val < 192 then
    let n := slot.val / 4
    let q := slot.val % 4
    let s1 := modFe s n (fun f => { f with clamp := f.clamp ||| 2 ^ q })
    let m := rd s F.axFeStat_CLAMP n
    done (if bit m q then s1 else raise (wr s1 F.axFeStat_CLAMP n (m ||| 2 ^ q)) 0x22 n (m ||| 2 ^ q))
  else
    let k := slot.val - 192
    done (stick (setAux s k { auxCh s k with clamp := true }) F.devAuxCtl_CLAMP k)

/-- FILTER_CHAIN_SWITCH: a written chain takes effect (R123): a resolver chain in use as an excitation switch, a current
or auxiliary chain with its histories cleared. -/
def execFilterChainSwitch (chain : ChainId) (s : State) : Out := clocked s <|
  match chain with
  | .sq n => done (if inSine s n then s else edgeSwitch s n false (grp s (ax s n).exc.grp).pos)
  | .sine n => done (if inSine s n then edgeSwitch s n false (grp s (ax s n).exc.grp).pos else s)
  | .cur n =>
    let v := getObj s .axFltCur n
    done (if (ax s n).flt.cfgCu = v then s
      else
        let s1 := modFlt s n (fun f =>
          { f with cfgCu := v, cuA := newChain f.cfgCu v f.cuA, cuB := newChain f.cfgCu v f.cuB })
        incSat s1 F.axFltStat_CLEARS n)
  | .aux k =>
    let v := getObj s .devFltAux k
    let a := auxCh s k
    done (if a.cfg = v then s else setAux s k { a with cfg := v, chain := newChain a.cfg v a.chain })

/-! ## AUXO (R114, R115) -/

/-- The source value of AUXO output `k` (R114). DEDUCED (log 90): the committed current, a word of 32 bits, saturates to the int16
of the rule, as a 16-bit trace sample of it does (R191). -/
def auxoSource (s : State) (k : Nat) : Int :=
  let i := rd s F.devAuxoCtl_INDEX k
  match rd s F.devAuxoCtl_KIND k with
  | 0 => (auxCh s i).out.x
  | 1 => (rd s F.axMotion_ANGLE i / 2 ^ 16 : Nat)
  | 2 => rdS s F.axMotion_SPEED i
  | _ => sat16 (ax s i).loop.st.iq

/-- Whether the source of AUXO output `k` is valid (R115). -/
def auxoValid (s : State) (k : Nat) : Bool :=
  let i := rd s F.devAuxoCtl_INDEX k
  match rd s F.devAuxoCtl_KIND k with
  | 0 => tValid (auxCh s i).out.tag
  | 1 => rdB s F.axTrkStat_VALID i
  | 2 => rdB s F.axTrkStat_VALID i
  | _ => true

/-- High ticks of a duty word, or the increment of a frequency in 1/16 Hz (R114). -/
def auxoWord (s : State) (k : Nat) (x : Nat) : Nat :=
  if rdB s F.devAuxoCtl_MODE k then x * 2 ^ 32 / 12000000000 else x * rd s F.devAuxoPar_PERIOD k / 2 ^ 16

/-- The output for a valid source (R114). -/
def auxoLive (s : State) (k : Nat) : Auxo :=
  let t := (auxoSource s k - rdS s F.devAuxoPar_OFFSET k) * rdS s F.devAuxoPar_GAIN k
  let x := asr t (rd s F.devAuxoCtl_SHIFT k)
  let freq := rdB s F.devAuxoCtl_MODE k
  let lo : Int := rd s F.devAuxoPar_LIM_LO k
  let hi : Int := rd s F.devAuxoPar_LIM_HI k
  let x1 := if freq then min (max x (max lo 16)) (min hi 16000000) else min (max x lo) (min hi 65536)
  { value := auxoWord s k x1.toNat, freq := freq, bad := 0,
    level := if freq then 1 else if x1 = 0 then 0 else if x1 = 65536 then 2 else 1 }

/-- The output in its FAULT behaviour (R115). DESIGN CHOICE (log 89): a FAULT_WORD beyond the range of its mode is capped at the
largest word of the mode, and has no lower bound. -/
def auxoFault (s : State) (k bad : Nat) : Auxo :=
  let a := auxo s k
  let freq := rdB s F.devAuxoCtl_MODE k
  match rd s F.devAuxoCtl_FAULT k with
  | 0 => { a with bad := bad }
  | 1 => { a with bad := bad, level := 0 }
  | 2 => { a with bad := bad, level := 2 }
  | _ =>
    let w := rd s F.devAuxoPar_FAULT_WORD k
    let x := if freq then min w 16000000 else min w 65536
    { value := auxoWord s k x, freq := freq, bad := bad,
      level := if freq then 1 else if x = 0 then 0 else if x = 65536 then 2 else 1 }

/-- AUXO_UPDATE: an output takes a new value; the second update in a row whose source is not valid brings the FAULT
behaviour (R114, R115). -/
def execAuxoUpdate (k : Fin 8) (s : State) : Out := clocked s <|
  if !rdB s F.devAuxoCtl_EN k || !excTiming (mode s) then done (auxoLow s k)
  else if auxoValid s k then done (setAuxo (wr s F.devAuxoCtl_FAULTED k 0) k (auxoLive s k))
  else
    let bad := (auxo s k).bad + 1
    if 2 ≤ bad then done (setAuxo (wr s F.devAuxoCtl_FAULTED k 1) k (auxoFault s k 2))
    else done (setAuxo s k { auxo s k with bad := bad })

end Sys2Proof.Machine
end

