-- ==== Sys2Proof/Machine/Access.lean ====
section
/-!
DEFINITION. Writing objects (R7 to R10, R341, R356, R411, R434, R435): what a write makes of each field, the order in which
it is judged, and its effect. Every write command goes through `writeCmd`.
-/

namespace Sys2Proof.Machine

/-! ## Fields (R7, R434) -/

/-- The fields of an object that a write can take. -/
def takesWrite (a : Acc) : Bool := decide (a = .rw ∨ a = .rwm ∨ a = .w1c ∨ a = .wo)

/-- An object has a field that a write can take. -/
def writable (o : ObjId) : Bool := (objRow o).fields.any (fun f => takesWrite f.acc)

/-- The bits of an object's fields of one access code. -/
def accMask (o : ObjId) (a : Acc) : Nat :=
  (((objRow o).fields.filter (fun f => decide (f.acc = a))).map (fun f => (2 ^ f.w - 1) * 2 ^ f.lo)).sum

/-- The objects of the one-time-programmable memory, whose bits a write can only set (R46, R401). -/
def isOtp (o : ObjId) : Bool := decide (o = .devOtpLock ∨ o = .devOtpKhash ∨ o = .devOtpFkey)

/-- What a written word makes of one field of an object value. -/
def mergeField (otp : Bool) (w v : Nat) (f : FieldRow) : Nat :=
  let old := bits v f.lo f.w
  let new := bits w f.lo f.w
  match f.acc with
  | .rw => setBits v f.lo f.w new
  | .rwm => setBits v f.lo f.w (if otp then old ||| new else new)
  | .w1c => setBits v f.lo f.w (old ^^^ (old &&& new))
  | _ => v

/-- The value an object takes from a written word: RO, RC, WO and reserved bits stay (R8, R434). -/
def mergeVal (o : ObjId) (old w : Nat) : Nat := (objRow o).fields.foldl (mergeField (isOtp o) w) old

/-- The value of an object that a write starts from. -/
def baseVal (s : State) (o : ObjId) (i : Nat) : Nat :=
  match o with
  | .devRedCfg => viewObj s o i
  | .qCfg => viewObj s o i
  | .devOtpLock => viewObj s o i
  | .devOtpKhash => viewObj s o i
  | .devOtpFkey => s.nv.fkey
  | .devCal => viewObj s o i
  | o => getObj s o i

/-! ## Parameter words (R185) -/

/-- The axis and the word of the parameter list that an object instance is. -/
def paramWord (o : ObjId) (i : Nat) : Option (Nat × ParamWord) :=
  match o with
  | .axCoef => some (i / 16, .coef (Fin.ofNat 16 i))
  | .axShift => some (i / 4, .shift (Fin.ofNat 4 i))
  | .axLim => some (i / 18, .lim (Fin.ofNat 18 i))
  | _ => none

/-- The list of axis `n` is full. -/
def paramFull (s : State) (n : Nat) : Bool := decide (8 ≤ (ax s n).loop.pend.length)

/-- A parameter write enters the list; the first one is its head at once. -/
def pendParam (s : State) (src : Src) (n : Nat) (p : ParamWord) (v : Nat) : State :=
  let first := (ax s n).loop.pend.isEmpty
  let w : PWrite := ⟨src, p, BitVec.ofNat 32 v, if first then some (nowNs s) else none⟩
  modLoop (hold s src) n (fun l => { l with pend := l.pend ++ [w] })

/-! ## Followers (R341) -/

/-- The axis of an object of blocks 7 and 8 that belongs to one: a loop, tracking or mode object. -/
def loopObj (o : ObjId) (i : Nat) : Option Nat :=
  let r := objRow o
  if decide (r.block = 7 ∨ r.block = 8) && decide (r.base < 0x40) then some (i / r.sub) else none

/-- A follower forwards parameter writes, mode requests and position sets to the driver (R153, R341). -/
def forwards (s : State) (o : ObjId) (i : Nat) : Bool :=
  isFollower s && ((paramWord o i).isSome || decide (o = .axMode ∨ o = .axPosSet))

/-- The write goes to the driver over the twin link; its outcome there comes back to nobody. -/
def forwardWrite (s : State) (o : ObjId) (i w : Nat) : State :=
  match driverOf s, loopObj o i with
  | some k, some n => twinPut s k (recCtrl n (ax s n).pwm.j (objKey o i) (w % 2 ^ 64))
  | _, _ => s

/-! ## The judgement (R356, R435) -/

/-- The supervisor may not write these objects, nor change an RWM field (R356, R376, R378). -/
def svBarred (o : ObjId) (old v : Nat) : Bool :=
  decide (o = .devSvCtl ∨ o = .devSvCmd) || decide ((old ^^^ v) &&& accMask o .rwm ≠ 0)

/-- The mode errors of a write. -/
def modeBad (s : State) (o : ObjId) (i old v w : Nat) : Bool :=
  (decide ((old ^^^ v) &&& accMask o .rwm ≠ 0) && decide (mode s ≠ mMaint))
    || (isFollower s && (loopObj o i).isSome)
    || (modeRules s o i v w).any (broken old v)

/-- The busy errors of a write. -/
def busyBad (s : State) (o : ObjId) (i old v w : Nat) : Bool :=
  (busyRules s o i v w).any (broken old v)
    || (match paramWord o i with | some (n, _) => paramFull s n | none => false)

/-- The status a write of word `w` is refused with; 0 where it is accepted. -/
def judge (s : State) (src : Src) (o : ObjId) (i w : Nat) : Nat :=
  let old := baseVal s o i
  let v := mergeVal o old w
  if offMgmt src || !writable o || !objThere o i then 1
  else if src == .supervisor && svBarred o old v then 1
  else if (accessRules (setObj s o i v) s o i w).any (broken old v) then 1
  else if forwards s o i then 0
  else if modeBad s o i old v w then 2
  else if busyBad s o i old v w then 3
  else 0

/-! ## Effects: excitation and front end (chapters 04 and 10) -/

/-- A change of EXC_CTL.MODE: forced square or sine keeps no fall-back; back to automatic, the axis stays as it runs (R95,
R96). In a twin or triad the return that MODE = 1 asks for is the driver's decision, and other members await it (R98). -/
def excModeSet (s : State) (n old new : Nat) : State :=
  if old = new then s
  else
    let back := inTeam s && decide (new = 1) && inSine s n
    let s1 := modExc s n (fun e => { e with fall := (decide (new = 0 ∧ old = 2) && inSine s n) || back, failCnt := 0 })
    if back && isDriver s then decideExc s1 n false else s1

/-- SQ_RETRY: back to square at the next boundary; a driver decides it for every member (R96, R98). -/
def sqRetry (s : State) (n : Nat) : State :=
  if rd s F.axExcCtl_MODE n ≠ 0 ∨ isFollower s then s
  else if inTeam s then decideExc s n false
  else modExc s n (fun e => { e with fall := false, failCnt := 0 })

/-- EXC_CTL has been written. -/
def effExcCtl (s : State) (n old v w : Nat) : State :=
  let s1 := excModeSet s n (fget old F.axExcCtl_MODE) (fget v F.axExcCtl_MODE)
  let s2 := if bit w 6 then sqRetry s1 n else s1
  let s3 := if rdB s2 F.axExcCtl_EN n then s2 else wr s2 F.axExcDstat_STOPPED n 0
  if senseOn s3 n then detClear (stopDriver s3 n) n else s3

/-- AUXO_CTL has been written: without EN the output is low and its fault over (R114, R115). -/
def effAuxo (s : State) (k : Nat) : State :=
  if rdB s F.devAuxoCtl_EN k then s else auxoLow s k

/-- ENC_CTL has been written: without EN the pins are low; Z_OFF shows at once (R156, R159, R160). -/
def effEnc (s : State) (k : Nat) : State :=
  if rdB s F.devEncCtl_EN k then
    (if rdB s F.devEncStat_LIVE k then setEnc s k (encPins s k (enc s k) true) else s)
  else encStop s k

/-! ## Effects: loops, trace and PWM (chapters 07 to 09) -/

/-- An axis mode request is granted and waits for its boundary; an earlier one is refused (R163, R164). -/
def requestMode (s : State) (src : Src) (n m : Nat) : State :=
  modLoop (hold (refuseReq s n) src) n (fun l => { l with req := some (m, src) })

/-- The lane table follows settings of a plan's items (R326). -/
def replan (s : State) : State :=
  match s.place.plan with
  | some p =>
    let xs := itemsNow s
    showLanes (modPlace s (fun x => { x with plan := some { p with items := xs } })) (planNode s p) xs
  | none => s

/-- SPEC_CTL has been written: a limit the running count already meets acts at once (R211). -/
def effSpecCtl (s : State) (n : Nat) : State :=
  let run := rd s F.axSpecStat_MISS_RUN n
  let s1 := replan s
  if driving s1 n && decide (0 < run ∧ rd s F.axSpecCtl_MISS_LIMIT n ≤ run) then laneTrip s1 n 4 else s1

/-- TEL_CFG has been written: the count starts with the write that sets EN (R402). -/
def effTel (s : State) (n old : Nat) : State :=
  if rdB s F.axTelCfg_EN n && decide (fget old F.axTelCfg_EN = 0) then modLoop s n (fun l => { l with telCnt := 0 }) else s

/-- TRC_CTL has been written: ARM, then STOP (R192). -/
def effTrace (s : State) (w : Nat) : State :=
  let s1 := if bit w 0 then trcArm s else s
  if bit w 1 then trcStop s1 else s1

/-- TRIP_IN has been written: the input's level follows its polarity, and every axis it now acts on latches (R229). -/
def effTripIn (s : State) (k old v : Nat) : State :=
  let s1 := if fget old F.devTripIn_ACT_HIGH = fget v F.devTripIn_ACT_HIGH then s
    else wr s F.devTripIn_LEVEL k (1 - rd s F.devTripIn_LEVEL k)
  forAxes tripCheck s1

/-! ## Effects: monitor outputs, queues, links (chapters 10 to 12) -/

/-- MON.CTL has been written. A change of span starts its sequence and keeps the writer waiting (R248, R250). -/
def effMon (s : State) (src : Src) (c old v : Nat) : State × Nat :=
  let m := mon s c
  let s1 := if fget old F.monCtl_EN ≠ fget v F.monCtl_EN then setMon s c { m with took := false, armed := false } else s
  let s2 := if fget old F.monCtl_QID ≠ fget v F.monCtl_QID then setMon s1 c { mon s1 c with buf := [] } else s1
  if fget old F.monCtl_SPAN ≠ fget v F.monCtl_SPAN then (monSpanStart (hold s2 src) c (some src), 8) else (s2, 0)

/-- Q.CFG: quota and watermarks; a marker that waited for a word may find one (R258, R267, R269). -/
def setQCfg (s : State) (q v : Nat) : State :=
  placeMark (setQd s q { qd s q with
    quota := if isSorted q then (qd s q).quota else bits v 0 13
    wmHi := bits v 16 8
    wmLo := bits v 24 8 }) q

/-- LK.CFG has been written: a change of EN or PRESET takes the link through its training again (R288). -/
def effLink (s : State) (p old v : Nat) : State :=
  let same := fget old F.lkCfg_EN == fget v F.lkCfg_EN && fget old F.lkCfg_PRESET == fget v F.lkCfg_PRESET
  if same then s
  else
    let s1 := if isUp s p then takeDown s p 1 else if lkState s p = lOff then s else wr s F.lkStat_DOWN_WHY p 1
    fabEnd s (modLk (retrain s1 p) p (fun l => { l with preset3 := false }))

/-- FAB_CMD: SYNC sends a SYNC, UNQUAR ends quarantines (R288, R302). -/
def fabCmd (s : State) (w : Nat) : State :=
  let s1 := if bit w 0 then sendSync s syncStep else s
  fabEnd s ((List.range 8).foldl (fun t p => if bit w (8 + p) && decide (lkState t p = lQuar) then retrain t p else t) s1)

/-! ## Effects: supervisor, ledger, calendar, events, OTP (chapters 02, 15 to 17) -/

/-- SV_CMD: RESTART halts the core and reloads its program; HALT halts it (R378). -/
def svCmd (s : State) (w : Nat) : State :=
  if bit w 0 then
    let s1 := if rdB s F.devSvStat_RUNNING 0 then svHalt s 4 else wr s F.devSvStat_HALT_CAUSE 0 4
    wr s1 F.devSvStat_RELOADING 0 1
  else if bit w 1 && rdB s F.devSvStat_RUNNING 0 then svHalt s 4
  else s

/-- LEDG_CMD: SNAP, CLR_AXIS (R386, R390). -/
def ledgCmd (s : State) (w : Nat) : State :=
  let s1 := if bit w 1 then ledgClear s (bits w 2 6) else s
  if bit w 0 then ledgTrigger s1 5 false else s1

/-- The sticky bits of DEV.CAL that a write leaves (R391). -/
def setCal (s : State) (v : Nat) : State :=
  setRtc s { s.nv.rtc with lagged := s.nv.rtc.lagged && bit v 33, wrapped := s.nv.rtc.wrapped && bit v 34 }

/-- DUMP: the log goes into 0x0001, oldest first (R403). -/
def dumpLog (s : State) : State := s.ctl.evLog.foldl (fun t e => (qPushBytes t 7 1 (evBytes e)).1) s

/-- The OTP object an object is. -/
def otpObj (o : ObjId) : OtpObj :=
  match o with
  | .devOtpKhash => .khash
  | .devOtpFkey => .fkey
  | _ => .lock

/-- An OTP write starts programming; one that sets no new bit is done at once (R401). -/
def effOtp (s : State) (src : Src) (o : ObjId) (old v : Nat) : State × Nat :=
  if old = v then (s, 0)
  else
    let s1 := hold s src
    ({ s1 with load := { s1.load with jobs := s1.load.jobs ++ [.otp src (otpObj o) v] } }, 8)

/-! ## The write -/

/-- The effect of an accepted write: `s` is the state before, `old` and `v` the object's value before and after, `w` the word
carried. Status 8 says that the reply comes later. -/
def effect (s : State) (src : Src) (o : ObjId) (i old v w : Nat) : State × Nat :=
  let t := setObj s o i v
  match o with
  | .axExcCtl => (effExcCtl t i old v w, 0)
  | .devAuxoCtl => (effAuxo t i, 0)
  | .devEncCtl => (effEnc t i, 0)
  | .devEncCmd => (if bit w 0 then setEnc s i { enc s i with resync := true } else s, 0)
  | .axTrkCtl => (if fget old F.axTrkCtl_BW = fget v F.axTrkCtl_BW then t else bwCheck t i, 0)
  | .axPosSet =>
    (modTrk s i (fun k => { k with posReq := some (w % 2 ^ 64), posWait := b2n (isDriver s) }), 0)
  | .axMode => (requestMode s src i (bits w 4 3), 8)
  | .axPairSet => (modLoop s i (fun l => { l with pairSet := some (bits w 0 64, bits w 64 64) }), 0)
  | .axSpecCtl => (effSpecCtl t i, 0)
  | .axTelCfg => (effTel t i old, 0)
  | .axLoopCfg => (replan (unbrake t i), 0)
  | .axPwmTim => (replan t, 0)
  | .axPwmLead => (replan t, 0)
  | .axPwmCfg => (replan t, 0)
  | .devTrcCtl => (effTrace t w, 0)
  | .axTripCfg => (tripCheck t i, 0)
  | .axTripCmd => (if bit w 0 then (rearm s i).1 else s, 0)
  | .devTripIn => (effTripIn t i old v, 0)
  | .devPwmCfg => (if old = v then t else { t with prot := { t.prot with sscWait := true } }, 0)
  | .monCtl => effMon t src i old v
  | .qCfg => if parityFault s i then (startReset s i 3, 3) else (setQCfg s i v, 0)
  | .qPop => (if bit w 72 then resetQueue s i else s, 0)
  | .lkCfg => (effLink t i old v, 0)
  | .devFabCmd => (fabCmd s w, 0)
  | .devRedCfg => (modRed s (fun r => { r with cfgNext := if old = v then r.cfgNext else some v }), 0)
  | .devSvCtl => (if fget old F.devSvCtl_WD_PER = fget v F.devSvCtl_WD_PER then t else svWdWritten t, 0)
  | .devSvCmd => (svCmd s w, 0)
  | .devLedgCmd => (ledgCmd s w, 0)
  | .devCal => (setCal s v, 0)
  | .devCalSet => (calSend s (w % 2 ^ 32), 0)
  | .devModeReq => modeRequest s src (bits w 0 4) (bits w 16 16)
  | .devEvCmd => (if bit w 0 then dumpLog s else s, 0)
  | .devEvRaise => (raise s (bits w 0 16) (bits w 16 8) (bits w 32 32), 0)
  | .devOtpLock => effOtp s src o old v
  | .devOtpKhash => effOtp s src o old v
  | .devOtpFkey => effOtp s src o old v
  | _ => (t, 0)

/-- A write of object `o[i]`: the state after, and its status: 0 done, 1 to 3 refused, 8 where its reply comes later. -/
def writeObj (s : State) (src : Src) (o : ObjId) (i w : Nat) : State × Nat :=
  let st := judge s src o i w
  if st ≠ 0 then (s, st)
  else if forwards s o i then (forwardWrite s o i w, 0)
  else match paramWord o i with
    | some (n, p) => (pendParam s src n p (mergeVal o 0 w), 8)
    | none =>
      let old := baseVal s o i
      effect s src o i old (mergeVal o old w) w

/-- The answer to a write: its reply, or nothing yet. The supervisor and the test port see an access that waits as
accepted (R355). -/
def writeAnswer (src : Src) (addr : Nat) (r : State × Nat) : State :=
  if r.2 ≠ 8 then replyWrite r.1 src addr r.2
  else match src with
    | .supervisor => reply r.1 src 2 0 0 []
    | .jtag => reply r.1 src 2 0 0 []
    | _ => r.1

/-- A message that comes while 64 are pending is answered busy (R408). -/
def tooMany (s : State) (src : Src) : Bool :=
  match src with
  | .svc _ => decide (maxWaiting ≤ s.msg.waiting)
  | .fabric .. => decide (maxWaiting ≤ s.msg.waiting)
  | _ => false

/-- A write command: the message is taken, the object written, the answer given. -/
def writeCmd (s : State) (src : Src) (o : ObjId) (i w : Nat) : Out :=
  let s1 := takeMsg s src
  done (writeAnswer src (ownAddr s o i) (if tooMany s1 src then (s1, 3) else writeObj s1 src o i w))

end Sys2Proof.Machine
end

