-- ==== Sys2Proof/Machine/Image.lean ====
section
/-!
DEFINITION. The starter image (R34 to R47): its bytes in the flash, the checks of a slot in their order, and what they find.
-/

namespace Sys2Proof.Machine

/-- `n` bytes of the flash from an address. -/
def flashBytes (s : State) (a n : Nat) : List Byte := memBytes 0xFF s.nv.flash a n

/-! ## Boot header (R35, R36) -/

/-- A boot header copy. -/
def hdrCopy (s : State) (k : Nat) : List Byte := flashBytes s (0x1000 * k) 256

/-- A boot header copy is valid (R35). -/
def hdrGood (bs : List Byte) : Bool :=
  decide (fieldB bs 0 4 = 0x48544243) && decide (fieldB bs 4 2 = 1) && decide (fieldB bs 6 2 ≤ 1)
    && decide (fieldB bs 12 4 = 0x100000) && decide (fieldB bs 16 4 = 0x800000)
    && decide (fieldB bs 0xFC 4 = crc32 (bs.take 0xFC))

/-- Sequence `a` is newer than `b` (R36). -/
def seqAfter (a b : Nat) : Bool := decide (1 ≤ (a + 2 ^ 32 - b) % 2 ^ 32 ∧ (a + 2 ^ 32 - b) % 2 ^ 32 ≤ 2 ^ 31 - 1)

/-- The copy in use: the valid one, or of two the newer one, H0 at a tie (R36). -/
def hdrInUse (s : State) : Option Nat :=
  let a := hdrCopy s 0
  let b := hdrCopy s 1
  if hdrGood a then (if hdrGood b && seqAfter (fieldB b 8 4) (fieldB a 8 4) then some 1 else some 0)
  else if hdrGood b then some 1 else none

/-- A boot header record (R35). -/
def hdrRecord (slot seq : Nat) : List Byte :=
  let bs := leBytes 4 0x48544243 ++ leBytes 2 1 ++ leBytes 2 slot ++ leBytes 4 seq ++ leBytes 4 0x100000 ++ leBytes 4 0x800000
    ++ List.replicate 232 0
  bs ++ leBytes 4 (crc32 bs)

/-! ## Sections (R37, R38) -/

/-- A section as read: its ID, its 16-byte header and its body. -/
structure Sect where
  id : Nat
  head : List Byte
  body : List Byte
  deriving DecidableEq, Repr

/-- What the starter shadow keeps of a section's body (R52). -/
def keptBody (id : Nat) (body : List Byte) : List Byte := if id = 15 then body.take 24 else body

/-- Bytes the shadow holds at most (R52), and a SUPERVISOR body (R44). -/
def shadowMax : Nat := 507904
def svBodyMax : Nat := 458752

/-- The size limits of a SUPERVISOR body (R44). -/
def svTooBig (body : List Byte) : Bool :=
  decide (svBodyMax < body.length)
    || (decide (24 ≤ body.length)
      && decide (svSize < fieldB body 0 4 + fieldB body 8 4 + fieldB body 12 4 + fieldB body 16 4))

/-- The sections in the order they are read: `bs` the bytes from the next section to the trailer, `prev` the last ID, `kept`
the bytes the shadow holds so far. The answer is a reason of R49, or the sections (R47 step 2). -/
def readSects : Nat → List Byte → Nat → Nat → List Sect → Nat ⊕ List Sect
  | 0, _, _, _, _ => .inl 5
  | f + 1, bs, prev, kept, acc =>
    match bs with
    | [] => .inr acc
    | _ :: _ =>
      let id := fieldB bs 0 1
      let len := fieldB bs 4 4
      if bs.length < 16 ∨ id < 1 ∨ 17 < id ∨ fieldB bs 1 1 ≠ 1 ∨ id ≤ prev ∨ (prev = 0 ∧ id ≠ 1) ∨ len % 4 ≠ 0
          ∨ bs.length < 16 + len ∨ (id ≤ 2 ∧ len ≠ 64) then .inl 5
      else
        let body := (bs.drop 16).take len
        let kept1 := kept + 16 + (keptBody id body).length
        if crc32 body ≠ fieldB bs 8 4 then .inl 6
        else if shadowMax < kept1 || (decide (id = 15) && svTooBig body) then .inl 13
        else readSects f (bs.drop (16 + len)) id kept1 (acc ++ [⟨id, bs.take 16, body⟩])

/-- The sections of an image, or the reason it fails in step 2 of R47. -/
def streamImage (img : List Byte) (sig : Bool) : Nat ⊕ List Sect :=
  let len := img.length
  match readSects 19 ((img.drop 64).take (len - 68)) 0 (64 + (if sig then 104 else 0)) [] with
  | .inl r => .inl r
  | .inr xs =>
    if xs.isEmpty ∨ xs.length ≠ fieldB img 12 2 then .inl 5
    else if fieldB img (len - 4) 4 ≠ crc32 (img.take (len - 4)) then .inl 7
    else .inr xs

/-- A section's body, if the image has it. -/
def sectBody (xs : List Sect) (id : Nat) : Option (List Byte) := (xs.find? (fun x => x.id == id)).map (·.body)

/-! ## Signature (R45, R46) -/

/-- The device reads the signature block of an image that has one (R46). -/
def readsBlock (s : State) (sig : Bool) : Bool := sig && (bit s.nv.otpLock 0 || decide (s.nv.khash ≠ 0))

/-- The outcome of the signature policy: 0 passes; whether a signature was checked. -/
def sigPolicy (s : State) (sig : Bool) (img blk : List Byte) : Nat × Bool :=
  let req := bit s.nv.otpLock 0
  let hashed := decide (s.nv.khash ≠ 0)
  if !sig then (if req then 8 else 0, false)
  else if !(req || hashed) then (0, false)
  else if fieldB blk 0 4 ≠ 0x47495343 then (10, false)
  else if !hashed then (0, false)
  else if leVal (sha256 (sliceB blk 8 32)) ≠ s.nv.khash then (9, true)
  else if Config.ed25519 (sliceB blk 8 32) (sha256 img) (sliceB blk 0x28 64) then (0, true)
  else (10, true)

/-! ## Object-write sections (R42, R396) -/

/-- A write of an object, with the word that all entries of its section leave. -/
structure ObjWrite where
  o : ObjId
  i : Nat
  w : Nat
  deriving DecidableEq, Repr

/-- The object word at an index of a block: object, instance and which of its words. -/
def locateWord (block ix : Nat) : Option (ObjId × Nat × Nat) :=
  (objsOfBlock block).findSome? (fun o =>
    (List.range (if block = 12 then 1 else objWords o)).findSome? (fun k =>
      if k ≤ ix then (instOf o (ix - k)).map (fun i => (o, i, k)) else none))

/-- An entry may write this word of an object: it holds an RW, RWM or WO field (R42). -/
def entryMay (o : ObjId) (k : Nat) : Bool :=
  (objRow o).fields.any (fun f => decide (f.acc = .rw ∨ f.acc = .rwm ∨ f.acc = .wo) && decide (f.lo < 32 * k + 32)
    && decide (32 * k < f.lo + f.w))

/-- A word joins the writes of its section. -/
def putWord (xs : List ObjWrite) (o : ObjId) (i k w : Nat) : List ObjWrite :=
  if xs.any (fun x => x.o == o && x.i == i) then
    xs.map (fun x => if x.o = o ∧ x.i = i then { x with w := setBits x.w (32 * k) 32 w } else x)
  else xs ++ [⟨o, i, setBits (objReset o i) (32 * k) 32 w⟩]

/-- The words of one entry, from index `ix` on. -/
def entryWords (block : Nat) : Nat → List Byte → Nat → List ObjWrite → Option (List ObjWrite)
  | 0, _, _, xs => some xs
  | c + 1, bs, ix, xs =>
    match locateWord block ix with
    | some (o, i, k) =>
      if entryMay o k && objThere o i then entryWords block c (bs.drop 4) (ix + 1) (putWord xs o i k (fieldB bs 0 4)) else none
    | none => none

/-- The entries of a section, or none where one is not allowed. -/
def sectEntries (block : Nat) : Nat → List Byte → List ObjWrite → Option (List ObjWrite)
  | 0, _, _ => none
  | f + 1, bs, xs =>
    match bs with
    | [] => some xs
    | _ :: _ =>
      let c := fieldB bs 2 2
      if bs.length < 8 ∨ fieldB bs 0 1 ≠ block ∨ c < 1 ∨ 1024 < c ∨ 2 ^ 18 ≤ fieldB bs 4 4 ∨ bs.length < 8 + 4 * c then none
      else match entryWords block c (bs.drop 8) (fieldB bs 4 4) xs with
        | some ys => sectEntries block f (bs.drop (8 + 4 * c)) ys
        | none => none

/-- The writes of every object-write section, in section order. -/
def imageWrites : List Sect → Option (List ObjWrite)
  | [] => some []
  | x :: xs =>
    if [1, 2, 13, 15].contains x.id then imageWrites xs
    else match sectEntries x.id (x.body.length + 1) x.body [], imageWrites xs with
      | some a, some b => some (a ++ b)
      | _, _ => none

/-! ## PLACEMENT, SUPERVISOR, FABRIC (R41, R43, R44, R379) -/

/-- A binding record. -/
def bindingAt (bs : List Byte) : Binding :=
  ⟨fieldB bs 0 2, fieldB bs 2 1, fieldB bs 3 1, fieldB bs 4 1, fieldB bs 5 1, fieldB bs 6 1⟩

/-- The binding records of a body. -/
def bindingsOf : Nat → List Byte → List Binding
  | 0, _ => []
  | n + 1, bs => bindingAt bs :: bindingsOf n (bs.drop 8)

/-- One record keeps the rules of R43. -/
def bindingFits (b : Binding) : Bool :=
  decide (b.template ≤ 3 ∧ b.axis ≤ 47)
    && (if b.kind = 0 then decide (b.node = 0xFF ∧ b.paxis = 0xFF) else decide (b.kind ≤ 2 ∧ b.node ≤ 0x3F ∧ b.paxis ≤ 47))

/-- No value stands twice in a list. -/
def noTwice : List Nat → Bool
  | [] => true
  | x :: xs => !xs.contains x && noTwice xs

/-- A PLACEMENT body keeps R43. -/
def placementFits (body : List Byte) : Bool :=
  let bs := bindingsOf (body.length / 8) body
  decide (body.length % 8 = 0) && bs.all bindingFits && noTwice (bs.map (·.task)) && noTwice (bs.map (·.axis))

/-- The six words of a SUPERVISOR container header. -/
def svHeadOf (body : List Byte) : List Nat := (List.range 6).map (fun i => fieldB body (4 * i) 4)

/-- A SUPERVISOR body keeps R44 and R379. -/
def svFits (body : List Byte) : Bool :=
  let load := fieldB body 0 4
  let entry := fieldB body 4 4
  let code := fieldB body 8 4
  let data := fieldB body 12 4
  let top := fieldB body 20 4
  decide (24 ≤ body.length) && decide (load % 4 = 0 ∧ code % 4 = 0 ∧ data % 4 = 0 ∧ body.length = 24 + code + data)
    && decide (entry % 4 = 0 ∧ load ≤ entry ∧ entry < load + code) && decide (top % 4 = 0 ∧ 0 < top ∧ top ≤ svSize)

/-- A FABRIC body keeps R41. -/
def fabricFits (body : List Byte) : Bool :=
  decide (fieldB body 0 1 ≤ 0x3F ∨ fieldB body 0 1 = 0xFF) && decide (fieldB body 1 1 ≤ 1)
    && (List.range 8).all (fun p => decide (fieldB body (0x18 + p) 1 ≤ 15))

/-- The bindings of an image. -/
def imageBindings (xs : List Sect) : List Binding :=
  match sectBody xs 13 with
  | some b => bindingsOf (b.length / 8) b
  | none => []

/-! ## Content (R42, R47 step 5) -/

/-- The bindings give their axes a template. -/
def showTemplates (s : State) : State :=
  s.load.bindings.foldl (fun t b => wr t F.axLoopCfg_TEMPLATE b.axis b.template) s

/-- One object write of an image as a value in place. -/
def stageWrite (s : State) (x : ObjWrite) : State :=
  let v := mergeVal x.o (objReset x.o x.i) x.w
  if x.o = .qCfg then setQCfg s x.i v
  else setObj s x.o x.i v

/-- The values a whole image leaves in place, over the reset values. -/
def staged (s : State) (bs : List Binding) (ws : List ObjWrite) : State :=
  let s0 := { State.reset with nv := s.nv }
  showTemplates (ws.foldl stageWrite { s0 with load := { s0.load with bindings := bs } })

/-- Every rule a runtime write is refused for with an access error, over the values the whole image leaves (R42). -/
def contentRules (t : State) (x : ObjWrite) : List WRule :=
  rulesFront t x.o x.i ++ rulesTrack t State.reset x.o x.i ++ rulesLoop t x.o x.i ++ rulesDevice t t x.o x.i x.w

/-- Step 5 of R47. -/
def contentFits (s : State) (xs : List Sect) : Bool :=
  (match sectBody xs 2 with | some b => fabricFits b | none => true)
    && (match sectBody xs 13 with | some b => placementFits b | none => true)
    && (match sectBody xs 15 with | some b => svFits b | none => true)
    && (match imageWrites xs with
      | some ws =>
        let t := staged s (imageBindings xs) ws
        ws.all (fun x => (contentRules t x).all (·.ok))
      | none => false)

/-! ## A slot (R47) -/

/-- An image that passed, with what the device keeps of it. -/
structure Image where
  sects : List Sect
  head : List Byte
  block : List Byte
  finger : Nat
  checked : Bool
  deriving DecidableEq, Repr

/-- The checks of R47 in order: the reason of R49, and the image where it is 1. -/
def checkSlot (s : State) (slot : Nat) : Nat × Option Image :=
  let base := slotBase slot
  let h := flashBytes s base 64
  let len := fieldB h 8 4
  let sig := bit (fieldB h 14 2) 0
  if fieldB h 0 4 ≠ 0x54535243 ∨ fieldB h 4 2 ≠ 1 ∨ fieldB h 6 2 ≠ 0x40 then (2, none)
  else if fieldB h 0x3C 4 ≠ crc32 (h.take 0x3C) then (3, none)
  else if len % 4 ≠ 0 ∨ len < 148 ∨ 1048576 < len then (4, none)
  else
    let img := flashBytes s base len
    match streamImage img (readsBlock s sig) with
    | .inl r => (r, none)
    | .inr xs =>
      let blk := if readsBlock s sig then flashBytes s (base + len) 104 else []
      let p := sigPolicy s sig img blk
      let id := (sectBody xs 1).getD []
      if p.1 ≠ 0 then (p.1, none)
      else if fieldB id 0 2 ≠ 0x4896 ∨ (fieldB id 2 2 ≠ 0 ∧ fieldB id 2 2 ≠ 0xB0) then (11, none)
      else if contentFits s xs then (1, some ⟨xs, h, blk, leVal ((sha256 img).take 8), p.2⟩)
      else (12, none)

/-! ## What a good slot leaves (R41, R48, R52) -/

/-- The bytes of the starter shadow; the fabric key reads 0 (R52). -/
def shadowBytes (im : Image) : List Byte :=
  im.head ++ im.sects.flatMap (fun x =>
    let b := keptBody x.id x.body
    x.head ++ (if x.id = 2 then b.take 8 ++ List.replicate 16 0 ++ b.drop 24 else b)) ++ im.block

/-- The effect of one object write of an image. Nothing runs yet, so what a runtime write would apply later is in force at
once. -/
def imageWrite (s : State) (x : ObjWrite) : State :=
  let v := mergeVal x.o (objReset x.o x.i) x.w
  match x.o with
  | .qCfg =>
    let s1 := setQCfg s x.i v
    { s1 with load := { s1.load with qcfg := mins s1.load.qcfg x.i v } }
  | .axTrkCtl => setObj s x.o x.i v
  | .monCtl => setObj s x.o x.i v
  | .devRedCfg => setObj s x.o x.i v
  | .axCoef => setObj s x.o x.i v
  | .axShift => setObj s x.o x.i v
  | .axLim => setObj s x.o x.i v
  | .devPwmCfg => let t := setObj s x.o x.i v; { t with prot := { t.prot with ssc := v % 4 } }
  | o => (effect s .image o x.i (objReset o x.i) v x.w).1

/-- The settings of an axis, of the groups and of the auxiliary channels are in force as written. -/
def inForce (s : State) : State :=
  let s1 := forAxes (fun t n =>
    let a := modExc t n (fun e =>
      { e with
        grp := rd t F.axExcCtl_GROUP n, step := rd t F.axExcDrv_STEP n, amp := rd t F.axExcDrv_SINE_AMP n,
        slew := rd t F.axExcDrv_SLEW n, ilim := rd t F.axExcDrv_ILIM n, pw := rd t F.axExcCtl_PROOF n })
    let b := modFe a n (fun f => { f with rsrc := rd t F.axFeCtl_RSRC n, isrc := rd t F.axFeCtl_ISRC n })
    modFlt b n (fun f =>
      { f with cfgSq := getObj t .axFltSq n, cfgSn := getObj t .axFltSine n, cfgCu := getObj t .axFltCur n })) s
  let s2 := (List.range 4).foldl (fun t g =>
    setGrp t g { grp t g with half := grpHalf t g, phase := grpPhase t g }) s1
  (List.range 8).foldl (fun t k =>
    setAux t k { auxCh t k with src := rd t F.devAuxCtl_SRC k, cfg := getObj t .devFltAux k }) s2

/-- The FABRIC section: claim, key, links (R41). -/
def applyFabric (s : State) (xs : List Sect) : State :=
  match sectBody xs 2 with
  | none => s
  | some b =>
    let s1 := (List.range 8).foldl (fun t p =>
      wr (wrB t F.lkCfg_EN p (bit (fieldB b 2 1) p)) F.lkCfg_PRESET p (fieldB b (0x18 + p) 1)) s
    { s1 with load := { s1.load with
      claim := fieldB b 0 1
      fabKey := if fieldB b 1 1 = 1 then some (fieldB b 8 16) else none } }

/-- EV_FABRIC_NOKEY where the selected key is the OTP key and OTP holds none (R41). -/
def noteKey (s : State) : State :=
  if noKey s then raiseD s 0x18 0 else s

/-- The SUPERVISOR section: the SRAM is loaded, all else of it cleared (R44, R379). -/
def applySv (s : State) (xs : List Sect) : State :=
  match sectBody xs 15 with
  | some b =>
    let s1 := modSv s (fun c => { c with mem := svLoad (fieldB b 0 4) (b.drop 24), badPar := [] })
    { s1 with load := { s1.load with svHead := svHeadOf b } }
  | none => s

/-- Everything a slot that passed writes (R48). -/
def applyImage (s : State) (im : Image) : State :=
  let s1 := { s with load := { s.load with
    bindings := imageBindings im.sects
    standalone := bit (fieldB ((sectBody im.sects 1).getD []) 0x14 4) 0
    fingerprint := im.finger
    shadow := memWrite 0 [] 0 (shadowBytes im) } }
  let s2 := showTemplates (((imageWrites im.sects).getD []).foldl imageWrite s1)
  noteKey (applySv (applyFabric (inForce s2) im.sects) im.sects)

end Sys2Proof.Machine
end

