-- ==== Sys2Proof/Machine/Boot.lean ====
section
/-!
DEFINITION. Loading the starter image, rewriting a slot, rewriting the trim store, and programming the OTP (R32 to R62, R401,
R409).
-/

namespace Sys2Proof.Machine

/-- The loader's record is changed. -/
def modLoad (s : State) (f : Load → Load) : State := { s with load := f s.load }

/-! ## LOAD (R33, R36, R47 to R51) -/

/-- The flash answers and is one the device can use (R32, R33). -/
def flashUsable (p : FlashProbe) : Bool :=
  decide (p.jedec ≠ 0 ∧ p.jedec ≠ 0xFFFFFF)
    && (match p.sfdp with | some t => decide (0x1000000 ≤ t.size) && !t.only4 | none => true)

/-- The plain read at 20 MHz is used (R33). -/
def flashFallback (p : FlashProbe) : Bool := match p.sfdp with | some t => !t.read144 | none => true

/-- No slot is left: the device goes to LATCH (R51, R78). -/
def bootFails (s : State) : State := trigger (noteKey s) mLatch 2 none

/-- FLASH_PROBE_DONE: the flash is not usable, or the boot header gives the order of the slots (R33, R35, R36). -/
def execFlashProbeDone (p : FlashProbe) (s : State) : Out := clocked s <|
  if mode s ≠ mLoad ∨ s.load.flashOk ∨ rd s F.devBootStatus_A_RESULT 0 ≠ 0 then done s
  else if flashUsable p then
    let s1 := wrB (modLoad s (fun l => { l with flashOk := true })) F.devBootStatus_SFDP_FB 0 (flashFallback p)
    match hdrInUse s with
    | some k =>
      let slot := fieldB (hdrCopy s k) 6 2
      done (modLoad (wr s1 F.devBootStatus_HDR_COPY 0 k) (fun l => { l with toTry := [slot, 1 - slot] }))
    | none => done (modLoad (wr s1 F.devBootStatus_HDR_NONE 0 1) (fun l => { l with toTry := [0, 1] }))
  else
    let s1 := wr (wr s F.devBootStatus_A_RESULT 0 14) F.devBootStatus_B_RESULT 0 14
    done (bootFails (wr s1 F.devBootStatus_HDR_NONE 0 1))

/-- The reason code of a slot is reported (R49). -/
def showReason (s : State) (slot reason : Nat) : State :=
  if slot = 0 then wr s F.devBootStatus_A_RESULT 0 reason else wr s F.devBootStatus_B_RESULT 0 reason

/-- SLOT_ATTEMPT_DONE: the checks of the next slot to try. The first that passes is applied and LOAD ends; with none left the
device goes to LATCH (R47, R48, R51). -/
def execSlotAttemptDone (s : State) : Out := clocked s <|
  match s.load.toTry with
  | [] => done s
  | slot :: rest =>
    if mode s ≠ mLoad then done s
    else
      let r := checkSlot s slot
      let s1 := modSv (showReason s slot r.1) (fun c => { c with mem := [], badPar := [] })
      match r.2 with
      | some im =>
        let s2 := modLoad (applyImage s1 im) (fun l => { l with toTry := [] })
        let s3 := wrB (wr s2 F.devBootStatus_BOOTED 0 (slot + 1)) F.devBootStatus_SIG_CHECKED 0 im.checked
        done (trigger s3 mTest 1 none)
      | none =>
        let s2 := modLoad s1 (fun l => { l with toTry := rest })
        done (if rest.isEmpty then bootFails s2 else s2)

/-! ## Operations in progress -/

/-- The first operation of a kind, and the others. -/
def takeJob (p : Job → Bool) (s : State) : Option (Job × State) :=
  match s.load.jobs.find? p with
  | some j => some (j, modLoad s (fun l => { l with jobs := l.jobs.erase j }))
  | none => none

/-- An operation starts; its message waits for the reply. -/
def putJob (s : State) (src : Src) (j : Job) : State := modLoad (hold s src) (fun l => { l with jobs := l.jobs ++ [j] })

/-- Images may be written: in MAINT, or in LATCH without an image (R51, R53). -/
def imageMode (s : State) : Bool := decide (mode s = mMaint) || (decide (mode s = mLatch) && !hasImage s)

/-- The reply to an IMAGE_WRITE or a TRIM_WRITE (R407, R409). -/
def imgReply (s : State) (src : Src) (op status : Nat) (body : List Byte) : State := reply s src 7 op status body
def trimReply (s : State) (src : Src) (op status : Nat) (body : List Byte) : State := reply s src 8 op status body

/-- A trim session is open, or its set is being programmed. -/
def trimOpen (s : State) : Bool :=
  s.load.trimKind.isSome || s.load.jobs.any (fun j => match j with | .trim _ => true | _ => false)

/-! ## IMAGE_WRITE (R53 to R55, R409) -/

/-- The status BEGIN is refused with; 0 where it is accepted. -/
def beginStatus (s : State) (src : Src) (slot len : Nat) : Nat :=
  if offMgmt src ∨ 1 < slot ∨ len < 148 ∨ 1048680 < len ∨ rd s F.devBootStatus_BOOTED 0 = slot + 1 then 1
  else if !imageMode s then 2
  else if tooMany s src || s.load.img.isSome || trimOpen s then 3
  else 0

/-- IMAGE_WRITE BEGIN: the session opens and the sectors are erased. A SWITCH needs an END after it (R54). -/
def execImageWriteBegin (src : Src) (slot len : Nat) (s : State) : Out := clocked s <|
  let s1 := takeMsg s src
  let st := beginStatus s1 src slot len
  if st ≠ 0 then done (imgReply s1 src 1 st [])
  else
    let s2 := modLoad s1 (fun l => { l with img := some ⟨slot, len, []⟩, okSlots := [] })
    done (putJob s2 src (.erase src slot len))

/-- IMAGE_ERASE_DONE: the sectors read as erased, and BEGIN is answered. -/
def execImageEraseDone (s : State) : Out := clocked s <|
  match takeJob (fun j => match j with | .erase .. => true | _ => false) s with
  | some (.erase src slot len, t) =>
    let t1 := { t with nv := { t.nv with
      flash := memWrite 0xFF t.nv.flash (slotBase slot) (List.replicate (sectorBytes len) 0xFF) } }
    done (release (imgReply t1 src 1 0 []) src)
  | _ => done s

/-- Two runs of bytes touch. -/
def runsTouch (a b : Nat × Nat) : Bool := decide (a.1 < b.1 + b.2 ∧ b.1 < a.1 + a.2)

/-- The status DATA is refused with; 0 where it is accepted. -/
def dataStatus (s : State) (src : Src) (slot off n : Nat) : Nat :=
  if n < 1 ∨ 224 < n then 4
  else if offMgmt src then 1
  else match s.load.img with
    | none => 2
    | some x =>
      if slot ≠ x.slot ∨ x.len < off + n ∨ x.written.any (runsTouch (off, n)) then 1
      else if tooMany s src then 3
      else 0

/-- IMAGE_WRITE DATA: the bytes are programmed. -/
def execImageWriteData (src : Src) (slot off : Nat) (bytes : List Byte) (s : State) : Out := clocked s <|
  let s1 := takeMsg s src
  let st := dataStatus s1 src slot off bytes.length
  if st ≠ 0 then done (imgReply s1 src 2 st [])
  else
    let s2 := modLoad s1 (fun l =>
      { l with img := l.img.map (fun x => { x with written := x.written ++ [(off, bytes.length)] }) })
    done (putJob s2 src (.program src slot off bytes))

/-- IMAGE_DATA_PROGRAMMED: the bytes stand in the flash, and DATA is answered. -/
def execImageDataProgrammed (s : State) : Out := clocked s <|
  match takeJob (fun j => match j with | .program .. => true | _ => false) s with
  | some (.program src slot off bytes, t) =>
    let t1 := { t with nv := { t.nv with flash := memWrite 0xFF t.nv.flash (slotBase slot + off) bytes } }
    done (release (imgReply t1 src 2 0 []) src)
  | _ => done s

/-- IMAGE_WRITE END: the slot is read back. -/
def execImageWriteEnd (src : Src) (slot : Nat) (s : State) : Out := clocked s <|
  let s1 := takeMsg s src
  if offMgmt src then done (imgReply s1 src 3 1 [])
  else match s1.load.img with
  | none => done (imgReply s1 src 3 2 [])
  | some x =>
    if slot ≠ x.slot then done (imgReply s1 src 3 1 [])
    else if tooMany s1 src then done (imgReply s1 src 3 3 [])
    else done (putJob s1 src (.readback src slot))

/-- IMAGE_READBACK_DONE: the checks of R47 over the slot; the session ends and END carries the reason code. -/
def execImageReadbackDone (s : State) : Out := clocked s <|
  match takeJob (fun j => match j with | .readback .. => true | _ => false) s with
  | some (.readback src slot, t) =>
    let r := (checkSlot t slot).1
    let t1 := modLoad t (fun l =>
      { l with img := none, okSlots := if r = 1 then slot :: l.okSlots else l.okSlots.filter (· ≠ slot) })
    done (release (imgReply t1 src 3 (if r = 1 then 0 else 6) (leBytes 1 r)) src)
  | _ => done s

/-- The boot header copy a SWITCH rewrites: H0 unless it is the one in use (R54). -/
def switchCopy (s : State) : Nat := if hdrInUse s = some 0 then 1 else 0

/-- The sequence a SWITCH writes (R54). -/
def switchSeq (s : State) : Nat :=
  match hdrInUse s with
  | some k => (fieldB (hdrCopy s k) 8 4 + 1) % 2 ^ 32
  | none => 1

/-- The sector of a boot header copy holds one record. -/
def writeHdr (s : State) (k slot seq : Nat) : State :=
  let bs := hdrRecord slot seq ++ List.replicate (4096 - 256) 0xFF
  { s with nv := { s.nv with flash := memWrite 0xFF s.nv.flash (0x1000 * k) bs } }

/-- IMAGE_WRITE SWITCH: the next start prefers the slot (R54). -/
def execImageWriteSwitch (src : Src) (slot : Nat) (s : State) : Out := clocked s <|
  let s1 := takeMsg s src
  if offMgmt src ∨ 1 < slot then done (imgReply s1 src 4 1 [])
  else if !imageMode s1 || !s1.load.okSlots.contains slot then done (imgReply s1 src 4 2 [])
  else if tooMany s1 src then done (imgReply s1 src 4 3 [])
  else done (imgReply (writeHdr s1 (switchCopy s1) slot (switchSeq s1)) src 4 0 [])

/-! ## TRIM_WRITE (R58 to R62, R409) -/

/-- The staged set, as bytes. -/
def staging (s : State) : List Byte := memBytes 0 s.load.staging 0 16384

/-- TRIM_WRITE OPEN: the stored set is copied into the staging buffer. -/
def execTrimWriteOpen (src : Src) (kind : Nat) (s : State) : Out := clocked s <|
  let s1 := takeMsg s src
  if offMgmt src ∨ 1 < kind then done (trimReply s1 src 1 1 [])
  else if mode s1 ≠ mMaint then done (trimReply s1 src 1 2 [])
  else if s1.load.img.isSome || trimOpen s1 || tooMany s1 src then done (trimReply s1 src 1 3 [])
  else done (trimReply (modLoad s1 (fun l => { l with trimKind := some kind, staging := s1.nv.trim })) src 1 0 [])

/-- TRIM_WRITE DATA: bytes of the staged set; with kind 1 of its user part only. -/
def execTrimWriteData (src : Src) (off : Nat) (bytes : List Byte) (s : State) : Out := clocked s <|
  let s1 := takeMsg s src
  let n := bytes.length
  if n < 1 ∨ 224 < n then done (trimReply s1 src 2 4 [])
  else if offMgmt src then done (trimReply s1 src 2 1 [])
  else match s1.load.trimKind with
    | none => done (trimReply s1 src 2 2 [])
    | some k =>
      if 16384 < off + n ∨ (k = 1 ∧ (off < 0x1000 ∨ 0x1300 < off + n)) then done (trimReply s1 src 2 1 [])
      else if tooMany s1 src then done (trimReply s1 src 2 3 [])
      else done (trimReply (modLoad s1 (fun l => { l with staging := memWrite 0 l.staging off bytes })) src 2 0 [])

/-- CRC-32 of a trim set, its own field taken as 0 (R58, R409). -/
def trimCrc (bs : List Byte) : Nat := crc32 (bs.take 0x3C ++ [0, 0, 0, 0] ++ bs.drop 0x40)

/-- The check COMMIT fails, by its code; 0 where it passes (R61, R409). -/
def commitFails (s : State) (crc : Nat) : Nat :=
  let bs := staging s
  if trimCrc bs ≠ crc then 1
  else if fieldB bs 0x14 8 ≠ s.nv.serial then 2
  else if s.pwr.below ≠ 0 then 3
  else if 10000 ≤ fieldB (trimStore s) 8 4 then 4
  else 0

/-- Some resolver record of a set is valid (R56). -/
def userValid (bs : List Byte) : Bool := (List.range 48).any (fun n => bit (fieldB bs (0x1000 + 16 * n + 10) 2) 0)

/-- The set a COMMIT programs: the device gives origin, write count, user time and CRC (R58). -/
def commitSet (s : State) : List Byte :=
  let bs := staging s
  let old := trimStore s
  let org := if fieldB old 6 1 = 2 ∨ sliceB bs 0x40 0xFC0 ≠ sliceB old 0x40 0xFC0 then 2
    else if userValid bs then 1 else fieldB old 6 1
  let body := bs.take 6 ++ leBytes 1 org ++ sliceB bs 7 1 ++ leBytes 4 (fieldB old 8 4 + 1) ++ sliceB bs 12 4
    ++ leBytes 4 s.nv.rtc.sec ++ sliceB bs 0x14 0x28
  let rest := bs.drop 0x40
  body ++ leBytes 4 (crc32 (body ++ [0, 0, 0, 0] ++ rest)) ++ rest

/-- TRIM_WRITE COMMIT: the session ends; a set that passes is programmed. -/
def execTrimWriteCommit (src : Src) (crc : Word) (s : State) : Out := clocked s <|
  let s1 := takeMsg s src
  if offMgmt src then done (trimReply s1 src 3 1 [])
  else if s1.load.trimKind.isNone then done (trimReply s1 src 3 2 [])
  else if tooMany s1 src then done (trimReply s1 src 3 3 [])
  else
    let s2 := modLoad s1 (fun l => { l with trimKind := none })
    let c := commitFails s2 crc.toNat
    if c ≠ 0 then done (trimReply s2 src 3 6 (leBytes 1 c)) else done (putJob s2 src (.trim src))

/-- ORIGIN and WEAR_OUT follow the stored header (R60). -/
def showTrim (s : State) : State :=
  let bs := trimStore s
  let s1 := wrB s F.devTrimCtl_WEAR_OUT 0 (decide (10000 ≤ fieldB bs 8 4))
  if rdB s F.devTrimCtl_TRIM_BAD 0 then s1 else wr s1 F.devTrimCtl_ORIGIN 0 (fieldB bs 6 1)

/-- TRIM_PROGRAM_DONE: the set read back well, to be applied at the next frame boundary; or it did not, and the trims are
identity with TRIM_BAD (R59, R61, R409). -/
def execTrimProgramDone (ok : Bool) (s : State) : Out := clocked s <|
  match takeJob (fun j => match j with | .trim _ => true | _ => false) s with
  | some (.trim src, t) =>
    if ok then
      let t1 := { t with nv := { t.nv with trim := memWrite 0 [] 0 (commitSet s) } }
      done (release (trimReply (modLoad (showTrim t1) (fun l => { l with trimSwitch := true })) src 3 0 []) src)
    else
      let t1 := draw { t with nv := { t.nv with trim := memWrite 0 [] 0 (freeBytes t.ctl.freeCnt 16384) } }
      let t2 := wr (wr (modLoad t1 (fun l => { l with trimUse := none })) F.devTrimCtl_TRIM_BAD 0 1) F.devTrimCtl_ORIGIN 0 3
      done (release (trimReply (raiseD t2 0x15 0) src 3 6 (leBytes 1 5)) src)
  | _ => done s

/-- TRIM_SWITCH: the frame boundary at which the new values apply (R61). -/
def execTrimSwitch (s : State) : Out := clocked s <|
  if s.load.trimSwitch then done (modLoad s (fun l => { l with trimSwitch := false, trimUse := some s.nv.trim })) else done s

/-- TRIM_WRITE CLOSE: the session ends. -/
def execTrimWriteClose (src : Src) (s : State) : Out := clocked s <|
  let s1 := takeMsg s src
  if offMgmt src then done (trimReply s1 src 4 1 [])
  else if s1.load.trimKind.isNone then done (trimReply s1 src 4 2 [])
  else if tooMany s1 src then done (trimReply s1 src 4 3 [])
  else done (trimReply (modLoad s1 (fun l => { l with trimKind := none })) src 4 0 [])

/-! ## OTP (R46, R401) -/

/-- OTP bits are programmed. -/
def programOtp (v : Nv) (obj : OtpObj) (x : Nat) : Nv :=
  match obj with
  | .lock => { v with otpLock := v.otpLock ||| x }
  | .khash => { v with khash := v.khash ||| x }
  | .fkey => { v with fkey := v.fkey ||| x }

/-- OTP_PROGRAM_DONE: the bits are set and the write is answered. -/
def execOtpProgramDone (s : State) : Out := clocked s <|
  match takeJob (fun j => match j with | .otp .. => true | _ => false) s with
  | some (.otp src obj x, t) =>
    let o : ObjId := match obj with | .lock => .devOtpLock | .khash => .devOtpKhash | .fkey => .devOtpFkey
    done (answer { t with nv := programOtp t.nv obj x } src o 0 0)
  | _ => done s

end Sys2Proof.Machine
end

