-- ==== Sys2Proof/Machine/TwinLink.lean ====
section
/-!
DEFINITION. The timed commands of redundant execution: the lanes' self test (R336), TWIN frames out (R344), absence (R343),
RELEASE and the interlock pin (R346, R348), handover and resynchronisation limits (R348, R349).
-/

namespace Sys2Proof.Machine

/-- LANE_SELF_TEST: one round of injections; `wrong` has a bit for each lane whose outcome was wrong (R336). -/
def execLaneSelfTest (wrong : BitVec 4) (s : State) : Out := clocked s <|
  if mode s < mTest ∨ mode s = mLatch ∨ s.pwr.coreLost then done s
  else
    let s1 := addWrap s F.devLaneTest_RUNS 0 1
    if wrong = 0 then done s1
    else
      let s2 := stickMask s1 F.devLaneTest_FAIL 0 wrong.toNat
      let s3 := (List.range 4).foldl (fun t l => if bit wrong.toNat l then raiseD t 0x80 l else t) s2
      done (trigger s3 mSafestop 10 none)

/-! ## TWIN frames out (R344) -/

/-- Records a frame takes: at most `room` bytes of them. -/
def takeRecs : Nat → List (List Byte) → List (List Byte) × List (List Byte)
  | _, [] => ([], [])
  | room, r :: rs => if r.length ≤ room then ((r :: (takeRecs (room - r.length) rs).1), (takeRecs (room - r.length) rs).2)
      else ([], r :: rs)

/-- A TWIN frame for member `k`: the records that wait, or a STATUS record. -/
def twinFrame (s : State) (k : Nat) : State :=
  let m := mem s k
  let t := takeRecs 232 m.out
  let body := if t.1.isEmpty then recStatus s else t.1.flatten
  let pl := [7, 0] ++ leBytes 2 m.next ++ [0, 0, 0, 0] ++ body
  modMem (sendFctl s (memberPort s k) cRt false true pl) k (fun x => { x with out := t.2, next := (x.next + 1) % 65536 })

/-- TWIN_FRAME_SEND. -/
def execTwinFrameSend (p : Fin 8) (s : State) : Out := clocked s <|
  match (memberIds s).find? (fun k => memberPort s k == p.val) with
  | some k => done (if isUp s p then twinFrame (showRed s) k else s)
  | none => done s

/-! ## Absence, release, interlock -/

/-- TWIN_ABSENCE_TIMEOUT: no frame from a member for TMO (R343). -/
def execTwinAbsenceTimeout (member : Nat) (s : State) : Out := clocked s <|
  done (if (memberIds s).contains member then memberAbsent s member else s)

/-- RELEASE_RECEIVE (R346, R348). -/
def execReleaseReceive (p : Fin 8) (reason : Byte) (s : State) : Out := clocked s <|
  done (if isTwin s p && isUp s p then showRed (takeRelease s reason.toNat) else s)

/-- TWIN_OK_IN_LOW: the pin of a twin has been low for 2 µs (R346). -/
def execTwinOkInLow (s : State) : Out := clocked s <|
  if redKind s = 1 then
    let s1 := wr (modMem s 0 (fun m => { m with okOut := false })) F.devRedStat_OK_IN 0 0
    done (if driveModes (mode s) ∨ mode s = mFollow then redStop s1 else s1)
  else done s

/-! ## Handover and resynchronisation limits -/

/-- This member waits for a release: it is designated and has not verified it, or it agrees with the designated one. -/
def awaitsRelease (s : State) : Bool :=
  match s.red.hand with
  | some h => !h.verified
  | none =>
    match s.red.odd with
    | some k => decide (redKind s = 2 ∧ k ≠ 2 ∧ mode s = mFollow ∧ (mem s k).role = roleDriver ∧ driveModes (mem s k).mode)
        && (memberIds s).all (fun i => i == k || decide ((mem s i).role ≠ roleDriver))
    | none => false

/-- HANDOVER_TIMEOUT: release not verified within 100 µs (R348). -/
def execHandoverTimeout (s : State) : Out := clocked s <|
  if awaitsRelease s then done (redStop (raiseD (modRed s (fun r => { r with hand := none })) 0x87 0)) else done s

/-- RESYNC_TIMEOUT: a resync that has not finished within 5 ms (R349). -/
def execResyncTimeout (s : State) : Out := clocked s <|
  if rdB s F.devRedStat_RESYNC 0 then
    let s1 := modRed (wr s F.devRedStat_RESYNC 0 0) (fun r => { r with snap := [], loaded := [], kept := [] })
    done (raiseD s1 0x89 0)
  else done s

/-- RESYNC_RETRY: a new resync (R349): the odd member waits for a SNAP again; the lowest-ID member in agreement sends
one. -/
def execResyncRetry (s : State) : Out := clocked s <|
  if rdB s F.devRedStat_ODD 0 then
    let s1 := forAxes (fun t n => wr t F.axCkStat_AGREE_RUN n 0) s
    done (modRed (wr s1 F.devRedStat_RESYNC 0 1) (fun r => { r with snap := [], loaded := [], kept := [] }))
  else
    match s.red.odd with
    | some k =>
      let agreeing := 2 :: (memberIds s).filter (fun i => decide (i ≠ k) && (mem s i).present)
      done (if k ≠ 2 ∧ lowestVoter s agreeing = some 2 then sendSnap s k else s)
    | none => done s

end Sys2Proof.Machine
end

