-- ==== Sys2Proof/Machine/TwinIn.lean ====
section
/-!
DEFINITION. TWIN frames in (R341, R342, R344, R347 to R349): what a member takes from the records of another.
-/

namespace Sys2Proof.Machine

/-! ## Modes as the driver tells them -/

/-- This member was released: its axes stay TRIPPED while it follows (R348, R349). -/
def wasReleased (s : State) : Bool := rdB s F.devRedStat_RELEASED 0

/-- AX_MODE of an axis as the driver has it. -/
def toldMode (s : State) (n : Nat) : Nat := if wasReleased s then mget 0 s.red.sentMode n else getObj s .axMode n

/-- The driver's AX_MODE for an axis: mode, held and stopping follow with their presets, and no output is driven. -/
def followMode (s : State) (n v : Nat) : State :=
  let old := toldMode s n
  let m := fget v F.axMode_MODE
  let om := fget old F.axMode_MODE
  let back := decide (m = om) && decide (fget old F.axMode_HELD = 1) && decide (fget v F.axMode_HELD = 0)
  let s1 :=
    if wasReleased s then
      (if isDriving m ∧ (m ≠ om ∨ back) then applyPreset s n om m false (back || decide (om = aTripped)) else s)
    else if m ≠ om then takeMode s n m (fget v F.axMode_CAUSE)
    else if back then resumeAxis s n
    else s
  let stops := decide (fget old F.axMode_STOPPING = 0) && decide (fget v F.axMode_STOPPING = 1)
  let s2 := if stops then modLoop s1 n (fun l => { l with stopCnt := 0, stopMode := m }) else s1
  if wasReleased s then modRed s2 (fun r => { r with sentMode := mset 0 r.sentMode n v })
  else lowGates (setObj s2 .axMode n v) n

/-! ## Own measurements (R342) -/

/-- The outcome of one comparison with the driver's measurement; `code` names the axis and the kind. -/
def noteMeas (s : State) (n code : Nat) (bad : Bool) : State :=
  if bad then
    let s1 := incSat s F.devRedCnt_MEAS_X 0
    if s1.red.meas.contains code then s1
    else raise (modRed s1 (fun r => { r with meas := code :: r.meas })) 0x83 n 0
  else modRed s (fun r => { r with meas := r.meas.filter (· ≠ code) })

/-- The own currents are held against the driver's. -/
def checkCur (s : State) (n : Nat) (ia ib : Int) : State :=
  let f := (ax s n).flt
  if curGood f.outA && curGood f.outB && !curRaw f.cfgCu then
    let w := rd s F.devRedCfg_XWIN_I 0
    noteMeas s n n (decide (w < absN (fine false f.outA - ia)) || decide (w < absN (fine false f.outB - ib)))
  else s

/-- The own pair is held against the driver's. -/
def checkPair (s : State) (n : Nat) (s1 c3 : Int) : State :=
  match s.red.pairs.find? (fun x => x.1 == n) with
  | none => s
  | some (_, p) =>
    let w := rd s F.devRedCfg_XWIN_R 0
    noteMeas (modRed s (fun r => { r with pairs := mdel r.pairs n })) n (48 + n)
      (decide (w < absN (p.1 - s1)) || decide (w < absN (p.2 - c3)))

/-! ## CUR: an evaluation on the driver's measurement (R342) -/

/-- The evaluation of axis `n` for load point `j`. The instant of the strobe is not in the record: it is free. -/
def followEval (s : State) (n j range : Nat) (ia ib : Int) (late : Bool) : State :=
  let d := drawBelow s (2 ^ 16)
  let told := toldMode s n
  let k : EvKind :=
    { kindAt d.1 n (j - 1) with
      mode := fget told F.axMode_MODE
      held := decide (fget told F.axMode_HELD = 1)
      stopping := decide (fget told F.axMode_STOPPING = 1) }
  let m := evIn d.1 n ((nowCyc s : Int) - d.2) ia ib range
  let val : Option Nat := match s.red.sets.find? (fun x => x.1 == n) with
    | some (_, kind, v) => if kind + 2 = k.mode then some v else none
    | none => none
  let p := loopPar s n
  let o := evalFull p k m val (ax s n).loop.st
  let e : Eval :=
    { load := 0, kind := k, par := p, inp := m, take := ⟨0, 0, val⟩, du := o.du, dv := o.dv, dw := o.dw, count := false,
      st0 := (ax s n).loop.st }
  let s1 := modRed d.1 (fun r => { r with sets := mdel r.sets n })
  let s2 := wr (wr s1 F.axSpecStat_MISS_RUN n 0) F.axSpecStat_LAST_MISS n 0
  let s3 := advance (modLoop s2 n (fun l => { l with wasLate := late })) n e o
  { s3 with ctl := { s3.ctl with trigs := s.ctl.trigs } }

/-- The load-point index whose low 16 bits the record gives, at or after `prev`. -/
def fullJ (prev j : Nat) : Nat := prev + (j + 65536 - prev % 65536) % 65536

/-- CUR. -/
def takeCur (s : State) (n : Nat) (r : List Byte) : State :=
  let j := fullJ (ax s n).pwm.j (fieldB r 2 2)
  let out := fieldB r 4 1
  let rng := fieldB r 5 1
  let ia := sx 32 (fieldB r 8 4)
  let ib := sx 32 (fieldB r 12 4)
  let s1 :=
    if out ≤ 1 then followEval (checkCur s n ia ib) n j (max (rng % 4) (rng / 4 % 4)) ia ib (decide (out = 1))
    else if out ≤ 5 then missEval s n (out - 1) (ax s n).loop.decided
    else s
  formCkpt (zeroUnused (modPwm s1 n (fun p => { p with j := j })) n) n j

/-! ## PAIR: an observer step on the driver's pair (R342) -/

/-- The instant whose low 32 bits the record gives, nearest to now (R344). -/
def fullCyc (s : State) (t : Nat) : Int := (nowCyc s : Int) - sx 32 ((nowCyc s + 2 ^ 32 - t) % 2 ^ 32)

/-- PAIR. -/
def takeDriverPair (s : State) (n : Nat) (r : List Byte) : State :=
  let usable := bit (fieldB r 2 1) 0
  let t := fullCyc s (fieldB r 4 4)
  let a := sx 32 (fieldB r 8 4)
  let c := sx 32 (fieldB r 12 4)
  let s0 := if usable then checkPair s n a c else s
  let t0 := (ax s0 n).trk.tPrev
  let old := posNow s0 n
  let s1 := obsPredict (wrS (wrS s0 F.axTrkMeas_S n a) F.axTrkMeas_C n c) n t
  let s2 := if usable then obsUse s1 n a c (Nat.sqrt (a * a + c * c).toNat : Nat) else obsCoast s1 n
  let s3 := obsMotion s2 n (!usable) (t - t0)
  let s4 := obsSnap (obsWrap s3 n old (posNow s3 n)) n
  let s5 := modLoop s4 n (fun l => { l with steps := l.steps + 1 })
  if template s5 n = 3 then formCkpt s5 n (ax s5 n).loop.steps else s5

/-! ## CTRL and INPUT (R341) -/

/-- A position set of the driver: the offset that makes `p` the position at `praw`. -/
def followPos (s : State) (n : Nat) (praw : Int) (p : Nat) : State :=
  let s1 := modTrk s n (fun k => { k with ofs := wrapS 64 (sx 64 p - posOf s n praw 0) })
  let s2 := wr s1 F.axTrkStat_REF n 1
  wrS s2 F.axMotion_POS n (posNow s2 n)

/-- A position set of a pair: two records, the own position and the partner's (R177). The strobe's instant is free. -/
def followPairSet (s : State) (n v : Nat) : State :=
  match (ax s n).loop.pairSet with
  | none => modLoop s n (fun l => { l with pairSet := some (v, 0) })
  | some (a, _) =>
    let d := drawBelow (modLoop s n (fun l => { l with pairSet := none })) (2 ^ 16)
    let t : Int := (nowCyc s : Int) - d.2
    let s1 := followPos d.1 n (predict d.1 n t).praw a
    match pairLocal s1 n with
    | some k => followPos s1 k (predict s1 k t).praw v
    | none => s1

/-- CTRL from the driver: a parameter, a mode, a position set or an excitation decision. -/
def followCtrl (s : State) (n addr v : Nat) : State :=
  match locate addr with
  | none => s
  | some (o, i) =>
    match o with
    | .axMode => followMode s n v
    | .axPosSet => followPos s n (let k := (ax s n).trk; prawOf s n k.ecount k.phi) v
    | .axPairSet => followPairSet s n v
    | .axExcCtl => modExc s n (fun e => { e with decided := some (bit v 0, v / 2 ^ 32) })
    | .axCoef => setObj s o i (v % 2 ^ 32)
    | .axShift => setObj s o i (v % 2 ^ 32)
    | .axLim => setObj s o i (v % 2 ^ 32)
    | _ => s

/-- CTRL to the driver: a write that a follower forwards takes effect here (R341). -/
def driverCtrl (s : State) (addr v : Nat) : State :=
  match locate addr with
  | some (o, i) => if (paramWord o i).isSome || decide (o = .axMode ∨ o = .axPosSet) then (writeObj s .image o i v).1 else s
  | none => s

/-- CTRL. -/
def takeCtrl (s : State) (n : Nat) (r : List Byte) : State :=
  let addr := fieldB r 4 4
  let v := fieldB r 8 8
  if isDriver s then driverCtrl s addr v else followCtrl s n addr v

/-- INPUT: to a follower the set-point its next evaluation takes, or a fabric loop input; to the driver a set-point record
pushed at a follower. -/
def takeInput (s : State) (n : Nat) (r : List Byte) : State :=
  let bs := (r.drop 8).take (2 * fieldB r 4 1)
  if isDriver s then (if fieldB r 5 1 = 0 then (qPushBytes s 4 (qSet n) bs).1 else s)
  else if fieldB r 5 1 = 0 then modRed s (fun x => { x with sets := mins x.sets n (fieldB bs 0 8, fieldB bs 8 8) })
  else if roleOf s n = 2 then takeIqRef s n bs
  else takeExch s n bs

/-! ## STATUS -/

/-- STATUS from member `k`: a member that is no longer odd has been resynchronised. -/
def takeStatus (s : State) (k : Nat) (r : List Byte) : State :=
  let fl := fieldB r 3 1
  let was := (mem s k).odd
  let s1 := modMem s k (fun m =>
    { m with mode := fieldB r 1 1, role := fieldB r 2 1, okOut := bit fl 0, odd := bit fl 1, resync := bit fl 2 })
  let s2 := if was && !bit fl 1 && decide (s1.red.odd = some k) then modRed s1 (fun x => { x with odd := none }) else s1
  if fieldB r 2 1 = roleDriver then wr s2 F.devRedStat_DRIVER 0 (memberNode s2 k) else s2

/-! ## Resynchronisation (R349) -/

/-- The records that change the state of an axis; a member that has not loaded the axis keeps them. -/
def axisRecord (r : List Byte) : Bool := decide (2 ≤ fieldB r 0 1 ∧ fieldB r 0 1 ≤ 5)

/-- A record of the driver for one axis is processed. -/
def takeAxisRec (s : State) (r : List Byte) : State :=
  let n := fieldB r 1 1
  if 48 ≤ n then s
  else match fieldB r 0 1 with
    | 2 => if isDriver s then s else takeCur s n r
    | 3 => if isDriver s then s else takeDriverPair s n r
    | 4 => takeCtrl s n r
    | 5 => takeInput s n r
    | _ => s

/-- A record waits for its axis to be loaded, for up to 1 ms. -/
def keepRec (s : State) (r : List Byte) : State :=
  modRed s (fun x =>
    { x with kept := x.kept.filter (fun y => decide (nowNs s ≤ fieldB y 0 8 + 1000000)) ++ [leBytes 8 (nowNs s) ++ r] })

/-- A kept record is the CUR of evaluation `j` of axis `n`. -/
def isCurOf (n j : Nat) (y : List Byte) : Bool :=
  decide (fieldB y 8 1 = 2 ∧ fieldB y 9 1 = n ∧ fieldB y 10 2 = j)

/-- The records of axis `n` kept after evaluation `j`. -/
def keptAfter (n j : Nat) (ks : List (List Byte)) : List (List Byte) :=
  let mine := ks.filter (fun y => decide (fieldB y 9 1 = n))
  if mine.any (isCurOf n j) then (mine.dropWhile (fun y => !isCurOf n j y)).drop 1 else mine

/-- A chunk of a SNAP arrives; once an axis is whole it is loaded and the records kept for it follow. -/
def takeSnap (s : State) (r : List Byte) : State :=
  let n := fieldB r 1 1
  if !rdB s F.devRedStat_RESYNC 0 || s.red.loaded.contains n || decide (48 ≤ n) then s
  else
    let off := fieldB r 4 2
    let new := (List.range (fieldB r 6 1)).map (fun i => (off + i, fieldB r (16 + 8 * i) 8))
    let got := new.foldl (fun m x => mins m x.1 x.2) (mget [] s.red.snap n)
    let size := (ckptWords s n).length
    if got.length < size then modRed s (fun x => { x with snap := mset [] x.snap n got })
    else
      let ws := (List.range size).map (fun i => sx 64 (mget 0 got i))
      let todo := keptAfter n (fieldB r 2 2) s.red.kept
      let s1 := modRed (loadCkpt s n ws) (fun x =>
        { x with
          snap := mset [] x.snap n [], loaded := n :: x.loaded, kept := x.kept.filter (fun y => decide (fieldB y 9 1 ≠ n)) })
      let s2 := modPwm s1 n (fun p => { p with j := fullJ p.j (fieldB r 2 2) })
      todo.foldl (fun t y => takeAxisRec t (y.drop 8)) s2

/-! ## A frame -/

/-- One record from member `k`. -/
def takeRec (k : Nat) (s : State) (r : List Byte) : State :=
  match fieldB r 0 1 with
  | 1 => takeCkpt s k ⟨fieldB r 1 1, fieldB r 2 2, fieldB r 4 4⟩
  | 6 => takeRelease s (fieldB r 1 1)
  | 7 => takeSnap s r
  | 8 => takeStatus s k r
  | _ =>
    if axisRecord r && rdB s F.devRedStat_RESYNC 0 && !s.red.loaded.contains (fieldB r 1 1) then keepRec s r
    else takeAxisRec s r

/-- The records of a payload, back to back; one of no known code, or cut short, ends them. -/
def splitRecs : Nat → List Byte → List (List Byte)
  | 0, _ => []
  | f + 1, bs =>
    let l := recLen bs
    if bs.isEmpty ∨ l = 0 ∨ bs.length < l then [] else bs.take l :: splitRecs f (bs.drop l)

/-- A TWIN frame from member `k`: a skipped TSEQ makes it absent until its next frame (R343). -/
def takeTwinFrame (s : State) (k : Nat) (pl : List Byte) : State :=
  let q := fieldB pl 2 2
  let skip := match (mem s k).tseq with
    | some t => decide (q ≠ (t + 1) % 65536)
    | none => false
  let s1 := if skip then memberAbsent s k else modMem s k (fun m => { m with present := true })
  let s2 := modMem s1 k (fun m => { m with tseq := some q })
  showRed ((splitRecs 32 (pl.drop 8)).foldl (takeRec k) s2)

/-- TWIN_FRAME_RECEIVE (R340, R344). -/
def execTwinFrameReceive (p : Fin 8) (f : Frame) (s : State) : Out := clocked s <|
  if frameKind f ≠ 7 then done s
  else
    let r := frameIn s p f
    match r.2, (memberIds s).find? (fun k => memberPort s k == p.val) with
    | some x, some k => fabDone s (takeTwinFrame r.1 k x.payload)
    | _, _ => fabDone s r.1

end Sys2Proof.Machine
end

