-- ==== Sys2Proof/Machine/Supervisor.lean ====
section
/-!
DEFINITION. The supervisor core's instructions, interrupts, timers, watchdog and reload (R351 to R379). The sender gives each
instruction as the word at PC spells it; it runs at an instruction boundary.
-/

namespace Sys2Proof.Machine

/-! ## Issue (R362, R366, R369, R373, R374) -/

/-- What an instruction comes to: the fault it meets, as FCAUSE and FADDR, or the state after it. -/
abbrev SvRes := (Nat × Nat) ⊕ State

/-- SR as it stands. -/
def svNow (s : State) : SvSr := ⟨s.sv.cp, s.sv.ie, s.sv.inf, s.sv.mask⟩

/-- Supervisor clocks are spent (R362). -/
def svCost (s : State) (k : Nat) : State := modSv s (fun c => { c with clocks := c.clocks + k })

/-- PC goes to the next instruction. -/
def svNext (s : State) : State := modSv s (fun c => { c with pc := c.pc + 4 })

/-- A result the next instruction would wait for (R362). -/
def svLate (s : State) (r : Reg) : State := modSv s (fun c => { c with late := some r })

/-- The fault of a fetch at PC (R366). -/
def svFetchFault (s : State) : Option (Nat × Nat) :=
  let pc := s.sv.pc.toNat
  if svSize < pc + 4 then some (4, pc)
  else (svParity s pc 4).map (fun k => (6, 4 * k))

/-- An entry (R370, R371): the frame, then the source that ranks first; with none, the frame is taken back. -/
def svEnter (s : State) : State :=
  match svStack s s.sv.pc with
  | .inr t => svHalt t 2
  | .inl t =>
    match svEligible t (svNow t) with
    | some n => svCost (svTake t (svNow t) n) 12
    | none => svUnstack t

/-- The core is at an instruction boundary: it runs, and a WFI has nothing more to wait for. -/
def svReady (s : State) : Bool := svRunning s && (!s.sv.wfi || svWake s)

/-- The return PC of a fault: a TRAP returns behind itself (R367). -/
def svRet (s : State) (cause : Nat) : Word := if cause % 256 = 7 then s.sv.pc + 4 else s.sv.pc

/-- An instruction that reads the registers `srcs` is issued. A fault is taken first, then an eligible interrupt, which kills
the
instruction; else it runs (R374). -/
def svIssue (s : State) (srcs : List Reg) (f : State → SvRes) : Out :=
  if !svReady s then done s
  else
    let wait := match s.sv.late with | some r => b2n (srcs.contains r) | none => 0
    let s1 := modSv s (fun c => { c with wfi := false, late := none })
    match svFetchFault s1 with
    | some x => done (svFault s1 x.1 x.2 s1.sv.pc)
    | none =>
      match f s1 with
      | .inl x => done (svFault s1 x.1 x.2 (svRet s1 x.1))
      | .inr t => if (svEligible s1 (svNow s1)).isSome then done (svEnter s1) else done (svCost t (1 + wait))

/-! ## Arithmetic (R360, R361) -/

/-- A result goes into a register. -/
def svAlu (s : State) (rd : Reg) (srcs : List Reg) (f : State → Word) : Out :=
  svIssue s srcs (fun t => .inr (svNext (svSet t rd (f t))))

/-- The signed quotient, rounded toward zero. -/
def divWord (a b : Word) : Word := if b = 0 then 0xFFFFFFFF else BitVec.ofInt 32 (a.toInt.tdiv b.toInt)

/-- The unsigned quotient. -/
def divuWord (a b : Word) : Word := if b = 0 then 0xFFFFFFFF else BitVec.ofNat 32 (a.toNat / b.toNat)

/-- The signed remainder. -/
def remWord (a b : Word) : Word := if b = 0 then a else BitVec.ofInt 32 (a.toInt.tmod b.toInt)

/-- Bits [63:32] of the signed product. -/
def mulHigh (a b : Word) : Word := BitVec.ofInt 32 (a.toInt * b.toInt / 2 ^ 32)

/-- A Boolean as a word. -/
def boolWord (b : Bool) : Word := if b then 1 else 0

/-- ADD (R360). -/
def execAdd (rd ra rb : Reg) (s : State) : Out := clocked s <|
  svAlu s rd [ra, rb] (fun t => svReg t ra + svReg t rb)

/-- SUB (R360). -/
def execSub (rd ra rb : Reg) (s : State) : Out := clocked s <|
  svAlu s rd [ra, rb] (fun t => svReg t ra - svReg t rb)

/-- AND (R360). -/
def execAnd (rd ra rb : Reg) (s : State) : Out := clocked s <|
  svAlu s rd [ra, rb] (fun t => svReg t ra &&& svReg t rb)

/-- OR (R360). -/
def execOr (rd ra rb : Reg) (s : State) : Out := clocked s <|
  svAlu s rd [ra, rb] (fun t => svReg t ra ||| svReg t rb)

/-- XOR (R360). -/
def execXor (rd ra rb : Reg) (s : State) : Out := clocked s <|
  svAlu s rd [ra, rb] (fun t => svReg t ra ^^^ svReg t rb)

/-- SHL (R360). -/
def execShl (rd ra rb : Reg) (s : State) : Out := clocked s <|
  svAlu s rd [ra, rb] (fun t => svReg t ra <<< ((svReg t rb).toNat % 32))

/-- SHR (R360). -/
def execShr (rd ra rb : Reg) (s : State) : Out := clocked s <|
  svAlu s rd [ra, rb] (fun t => svReg t ra >>> ((svReg t rb).toNat % 32))

/-- SRA (R360). -/
def execSra (rd ra rb : Reg) (s : State) : Out := clocked s <|
  svAlu s rd [ra, rb] (fun t => (svReg t ra).sshiftRight ((svReg t rb).toNat % 32))

/-- SLT (R360). -/
def execSlt (rd ra rb : Reg) (s : State) : Out := clocked s <|
  svAlu s rd [ra, rb] (fun t => boolWord ((svReg t ra).slt (svReg t rb)))

/-- SLTU (R360). -/
def execSltu (rd ra rb : Reg) (s : State) : Out := clocked s <|
  svAlu s rd [ra, rb] (fun t => boolWord ((svReg t ra).ult (svReg t rb)))

/-- MUL (R360). -/
def execMul (rd ra rb : Reg) (s : State) : Out := clocked s <|
  svIssue s [ra, rb] (fun t => .inr (svLate (svNext (svSet t rd (svReg t ra * svReg t rb))) rd))

/-- MULH (R360). -/
def execMulh (rd ra rb : Reg) (s : State) : Out := clocked s <|
  svIssue s [ra, rb] (fun t => .inr (svLate (svNext (svSet t rd (mulHigh (svReg t ra) (svReg t rb)))) rd))

/-- DIV: 34 clocks (R361, R362). -/
def execDiv (rd ra rb : Reg) (s : State) : Out := clocked s <|
  svIssue s [ra, rb] (fun t => .inr (svCost (svNext (svSet t rd (divWord (svReg t ra) (svReg t rb)))) 33))

/-- DIVU: 34 clocks (R361, R362). -/
def execDivu (rd ra rb : Reg) (s : State) : Out := clocked s <|
  svIssue s [ra, rb] (fun t => .inr (svCost (svNext (svSet t rd (divuWord (svReg t ra) (svReg t rb)))) 33))

/-- REM: 34 clocks (R361, R362). -/
def execRem (rd ra rb : Reg) (s : State) : Out := clocked s <|
  svIssue s [ra, rb] (fun t => .inr (svCost (svNext (svSet t rd (remWord (svReg t ra) (svReg t rb)))) 33))

/-- ADDI (R360). -/
def execAddi (rd ra : Reg) (imm : BitVec 18) (s : State) : Out := clocked s <|
  svAlu s rd [ra] (fun t => svReg t ra + imm.signExtend 32)

/-- ANDI (R360). -/
def execAndi (rd ra : Reg) (imm : BitVec 18) (s : State) : Out := clocked s <|
  svAlu s rd [ra] (fun t => svReg t ra &&& imm.zeroExtend 32)

/-- ORI (R360). -/
def execOri (rd ra : Reg) (imm : BitVec 18) (s : State) : Out := clocked s <|
  svAlu s rd [ra] (fun t => svReg t ra ||| imm.zeroExtend 32)

/-- A shift by an immediate; one with a bit of [17:5] set is an illegal instruction (R360). -/
def svShift (s : State) (rd ra : Reg) (imm : BitVec 18) (f : Word → Nat → Word) : Out :=
  svIssue s [ra] (fun t =>
    if imm.toNat < 32 then .inr (svNext (svSet t rd (f (svReg t ra) imm.toNat))) else .inl (1, t.sv.pc.toNat))

/-- SHLI (R360). -/
def execShli (rd ra : Reg) (imm : BitVec 18) (s : State) : Out := clocked s <|
  svShift s rd ra imm (fun x k => x <<< k)

/-- SHRI (R360). -/
def execShri (rd ra : Reg) (imm : BitVec 18) (s : State) : Out := clocked s <|
  svShift s rd ra imm (fun x k => x >>> k)

/-- SRAI (R360). -/
def execSrai (rd ra : Reg) (imm : BitVec 18) (s : State) : Out := clocked s <|
  svShift s rd ra imm (fun x k => x.sshiftRight k)

/-- SLTI (R360). -/
def execSlti (rd ra : Reg) (imm : BitVec 18) (s : State) : Out := clocked s <|
  svAlu s rd [ra] (fun t => boolWord ((svReg t ra).slt (imm.signExtend 32)))

/-- LUI (R360). -/
def execLui (rd : Reg) (imm : BitVec 16) (s : State) : Out := clocked s <|
  svAlu s rd [] (fun _ => imm.zeroExtend 32 <<< 16)

/-! ## Loads and stores (R352, R357, R364, R365, R366) -/

/-- Address of a load or store. -/
def svAddr (s : State) (ra : Reg) (imm : BitVec 18) : Nat := (svReg s ra + imm.signExtend 32).toNat

/-- The address lies in the object window. -/
def inWindow32 (a : Nat) : Bool := decide (0x80000000 ≤ a ∧ a < 0x90000000)

/-- The fault of an access of `n` bytes: width and alignment in the window, the range of the SRAM, the parity of a load, the
protection of a store. -/
def accFault (s : State) (store : Bool) (a n : Nat) : Option (Nat × Nat) :=
  if inWindow32 a then
    if n ≠ 4 then some (3, a)
    else if a % 4 ≠ 0 then some (2, a)
    else if store && svProtected s a n then some (5, a)
    else none
  else if svSize < a + n then some (4, a)
  else if store then (if svProtected s a n then some (5, a) else none)
  else (svParity s a n).map (fun k => (6, 4 * k))

/-- A split access costs a clock more (R365). -/
def splitCost (a n : Nat) : Nat := if a % n = 0 then 0 else 1

/-- A store into one of the four words behind it costs four clocks more (R364). -/
def windowCost (s : State) (a n : Nat) : Nat :=
  let pc := s.sv.pc.toNat
  if a < pc + 20 ∧ pc + 4 < a + n then 4 else 0

/-- The object address a window address names (R355). -/
def windowAddr (a : Nat) : Nat := bits a 20 8 * 2 ^ 18 + bits a 2 18

/-- OBST takes the outcome of a window access (R354, R356). -/
def svObst (s : State) (code : Nat) : State :=
  svSetCsr s 7 (code + 8 * b2n (decide (code ≠ 0) || bit (svCsr s 7) 3))

/-- Bits [255:32] of an object go into OBX (R355). -/
def svObxSet (s : State) (v : Nat) : State :=
  (List.range 7).foldl (fun t k => svSetCsr t (0x30 + k) (v / 2 ^ (32 * (k + 1)) % 2 ^ 32)) s

/-- Bits [255:32] of an object from OBX. -/
def svObx (s : State) : Nat := ((List.range 7).map (fun k => svCsr s (0x30 + k) * 2 ^ (32 * (k + 1)))).sum

/-- A load from the window: the whole object; a refused one returns 0. -/
def windowLoad (s : State) (a : Nat) : State × Word :=
  match readAt s (windowAddr a) with
  | some (t, v, _) => (svObst (svObxSet t v) 0, BitVec.ofNat 32 v)
  | none => (svObst (svObxSet s 0) 1, 0)

/-- A store to the window: the register and OBX. An outcome that is decided later is not reported. -/
def windowStore (s : State) (a : Nat) (v : Word) : State :=
  match locate (windowAddr a) with
  | some (o, i) =>
    let r := writeObj s .supervisor o i (v.toNat + svObx s)
    svObst r.1 (if r.2 = 8 then 0 else r.2)
  | none => svObst s 1

/-- A window access stalls the core for up to 1,500 clocks (R357). -/
def windowStall (s : State) : State := let d := drawBelow s 1500; svCost d.1 d.2

/-- A load of `n` bytes, extended by `ext`. -/
def svLoadOp (s : State) (rd ra : Reg) (imm : BitVec 18) (n : Nat) (ext : Nat → Word) : Out :=
  svIssue s [ra] (fun t =>
    let a := svAddr t ra imm
    match accFault t false a n with
    | some x => .inl x
    | none =>
      if inWindow32 a then
        let r := windowLoad t a
        .inr (svLate (svNext (svSet (windowStall r.1) rd r.2)) rd)
      else .inr (svCost (svLate (svNext (svSet t rd (ext (svRead t a n)))) rd) (splitCost a n)))

/-- A store of `n` bytes. -/
def svStoreOp (s : State) (rs ra : Reg) (imm : BitVec 18) (n : Nat) : Out :=
  svIssue s [rs, ra] (fun t =>
    let a := svAddr t ra imm
    match accFault t true a n with
    | some x => .inl x
    | none =>
      if inWindow32 a then .inr (svNext (windowStall (windowStore t a (svReg t rs))))
      else .inr (svCost (svNext (svWrite t a n (svReg t rs).toNat)) (splitCost a n + windowCost t a n)))

/-- LW (R355, R360). -/
def execLw (rd ra : Reg) (imm : BitVec 18) (s : State) : Out := clocked s <|
  svLoadOp s rd ra imm 4 (fun v => BitVec.ofNat 32 v)

/-- LH (R355, R360). -/
def execLh (rd ra : Reg) (imm : BitVec 18) (s : State) : Out := clocked s <|
  svLoadOp s rd ra imm 2 (fun v => (BitVec.ofNat 16 v).signExtend 32)

/-- LHU (R355, R360). -/
def execLhu (rd ra : Reg) (imm : BitVec 18) (s : State) : Out := clocked s <|
  svLoadOp s rd ra imm 2 (fun v => BitVec.ofNat 32 v)

/-- LB (R355, R360). -/
def execLb (rd ra : Reg) (imm : BitVec 18) (s : State) : Out := clocked s <|
  svLoadOp s rd ra imm 1 (fun v => (BitVec.ofNat 8 v).signExtend 32)

/-- LBU (R355, R360). -/
def execLbu (rd ra : Reg) (imm : BitVec 18) (s : State) : Out := clocked s <|
  svLoadOp s rd ra imm 1 (fun v => BitVec.ofNat 32 v)

/-- SW (R355, R360). -/
def execSw (rs ra : Reg) (imm : BitVec 18) (s : State) : Out := clocked s <|
  svStoreOp s rs ra imm 4

/-- SH (R355, R360). -/
def execSh (rs ra : Reg) (imm : BitVec 18) (s : State) : Out := clocked s <|
  svStoreOp s rs ra imm 2

/-- SB (R355, R360). -/
def execSb (rs ra : Reg) (imm : BitVec 18) (s : State) : Out := clocked s <|
  svStoreOp s rs ra imm 1

/-! ## Control transfers (R361 to R363) -/

/-- A transfer: its target is in the SRAM and a multiple of 4, or it faults. -/
def svJump (s : State) (target : Word) : SvRes :=
  if target.toNat % 4 ≠ 0 ∨ svSize ≤ target.toNat then .inl (4, target.toNat)
  else .inr (svCost (modSv s (fun c => { c with pc := target })) 2)

/-- The target of a relative transfer. -/
def svRel (s : State) (off : Word) : Word := s.sv.pc + 4 + off <<< 2

/-- A branch. -/
def svBranch (s : State) (ra rb : Reg) (off : BitVec 18) (take : Word → Word → Bool) : Out :=
  svIssue s [ra, rb] (fun t =>
    if take (svReg t ra) (svReg t rb) then svJump t (svRel t (off.signExtend 32)) else .inr (svNext t))

/-- BEQ (R360). -/
def execBeq (ra rb : Reg) (imm : BitVec 18) (s : State) : Out := clocked s <|
  svBranch s ra rb imm (fun x y => x == y)

/-- BNE (R360). -/
def execBne (ra rb : Reg) (imm : BitVec 18) (s : State) : Out := clocked s <|
  svBranch s ra rb imm (fun x y => x != y)

/-- BLT (R360). -/
def execBlt (ra rb : Reg) (imm : BitVec 18) (s : State) : Out := clocked s <|
  svBranch s ra rb imm (fun x y => x.slt y)

/-- BGE (R360). -/
def execBge (ra rb : Reg) (imm : BitVec 18) (s : State) : Out := clocked s <|
  svBranch s ra rb imm (fun x y => !x.slt y)

/-- BLTU (R360). -/
def execBltu (ra rb : Reg) (imm : BitVec 18) (s : State) : Out := clocked s <|
  svBranch s ra rb imm (fun x y => x.ult y)

/-- BGEU (R360). -/
def execBgeu (ra rb : Reg) (imm : BitVec 18) (s : State) : Out := clocked s <|
  svBranch s ra rb imm (fun x y => !x.ult y)

/-- J (R360). -/
def execJ (imm : BitVec 26) (s : State) : Out := clocked s <|
  svIssue s [] (fun t => svJump t (svRel t (imm.signExtend 32)))

/-- A transfer that leaves the address of the next instruction in a register. -/
def svLink (s : State) (rd : Reg) (target : Word) : SvRes :=
  match svJump s target with
  | .inl x => .inl x
  | .inr t => .inr (svSet t rd (s.sv.pc + 4))

/-- JAL (R360). -/
def execJal (imm : BitVec 26) (s : State) : Out := clocked s <|
  svIssue s [] (fun t => svLink t 15 (svRel t (imm.signExtend 32)))

/-- JR (R360). -/
def execJr (ra : Reg) (s : State) : Out := clocked s <|
  svIssue s [ra] (fun t => svJump t (svReg t ra))

/-- JALR (R360). -/
def execJalr (rd ra : Reg) (imm : BitVec 18) (s : State) : Out := clocked s <|
  svIssue s [ra] (fun t => svLink t rd (svReg t ra + imm.signExtend 32))

/-! ## Handlers, TRAP, WFI (R367, R372, R373) -/

/-- The fault of a RETI: in thread code, at a frame that cannot be read, or at a bad return PC. -/
def retiFault (s : State) : Option (Nat × Nat) :=
  let sp := (svReg s 14).toNat
  if s.sv.cp = 8 ∧ !s.sv.inf then some (1, s.sv.pc.toNat)
  else if sp % 4 ≠ 0 ∨ svSize < sp + 32 then some (4, sp)
  else match svParity s sp 32 with
    | some k => some (6, 4 * k)
    | none =>
      let r := svRead s (sp + 24) 4
      if r % 4 ≠ 0 ∨ svSize ≤ r then some (4, r) else none

/-- RETI of a handler: an eligible source under the frame's SR is chained, else the frame is taken back. -/
def svReti (s : State) : State :=
  let r := srOf (svRead s ((svReg s 14).toNat + 28) 4)
  match svEligible s r with
  | some n => svCost (svTake s r n) 6
  | none => svUnstack s

/-- RETI (R372). A fault comes first, then an interrupt that preempts the handler (R369, R374). -/
def execReti (s : State) : Out := clocked s <|
  if !svReady s then done s
  else
    let s1 := modSv s (fun c => { c with wfi := false, late := none })
    match svFetchFault s1 with
    | some x => done (svFault s1 x.1 x.2 s1.sv.pc)
    | none =>
      match retiFault s1 with
      | some x => done (svFault s1 x.1 x.2 s1.sv.pc)
      | none => if (svEligible s1 (svNow s1)).isSome then done (svEnter s1) else done (svReti s1)

/-- TRAP: fault 7 with its code (R366). -/
def execTrap (code : BitVec 16) (s : State) : Out := clocked s <|
  svIssue s [] (fun t => .inl (7 + code.toNat * 2 ^ 16, t.sv.pc.toNat))

/-- WFI (R373). -/
def execWfi (s : State) : Out := clocked s <|
  svIssue s [] (fun t => .inr (modSv (svNext t) (fun c => { c with wfi := true })))

/-! ## Control registers (R353, R354, R375, R376) -/

/-- The number names a control register. -/
def csrThere (n : Nat) : Bool :=
  decide (n ≤ 8 ∨ (0x10 ≤ n ∧ n ≤ 0x1B) ∨ (0x20 ≤ n ∧ n ≤ 0x2D) ∨ (0x30 ≤ n ∧ n ≤ 0x36))

/-- Pending sources `lo` to `lo` + 31 as a word. -/
def pendWord (s : State) (lo : Nat) : Nat := ((List.range 32).map (fun i => b2n (svPending s (lo + i)) * 2 ^ i)).sum

/-- The value of a control register. WDT is write-only and reads 0. -/
def csrGet (s : State) (n : Nat) : Nat :=
  match n with
  | 0 => svSr s
  | 8 => 0
  | 0x12 => pendWord s 0
  | 0x13 => pendWord s 32
  | 0x28 => nowNs s % 2 ^ 32
  | n => svCsr s n

/-- A read of TIME_LO latches TIME_HI. -/
def csrLatch (s : State) (n : Nat) : State := if n = 0x28 then svSetCsr s 0x29 (nowNs s / 2 ^ 32 % 2 ^ 32) else s

/-- How an instruction writes a control register. -/
inductive CsrOp where
  | write | set | clear
  deriving DecidableEq, Repr

/-- The value an instruction writes: `v` is its register, `old` the control register. -/
def csrNew (k : CsrOp) (old v : Nat) : Nat :=
  match k with
  | .write => v
  | .set => old ||| v
  | .clear => old &&& (2 ^ 32 - 1 - v)

/-- The edge sources of IP0 as a mask, SOFT among them. -/
def edgeMask : Nat := 0xC02F

/-- IP0: CSRS and CSRC set and clear edge sources; CSRW writes them, but SOFT is set by CSRS only (R354, R368). -/
def ipNew (k : CsrOp) (old v : Nat) : Nat :=
  match k with
  | .write => v &&& (edgeMask - 2 ^ 15 + (old &&& 2 ^ 15))
  | .set => old ||| (v &&& edgeMask)
  | .clear => old &&& (2 ^ 32 - 1 - (v &&& edgeMask))

/-- OBST: CSRC alone clears ERR; a CODE other than 0 sets it. -/
def obstNew (k : CsrOp) (old v : Nat) : Nat :=
  let x := csrNew k old v % 16
  match k with
  | .clear => x
  | _ => x % 8 + 8 * b2n (bit x 3 || bit old 3 || decide (x % 8 ≠ 0))

/-- A write of WDT: 0x5AFE feeds the watchdog, any other value counts as an expiry (R376). -/
def wdtWrite (s : State) (v : Nat) : State :=
  if !svWatching s then s
  else if v = 0x5AFE then modSv (wr s F.devSvStat_WARN 0 0) (fun c => { c with wdAt := nowNs s })
  else svExpire s

/-- A timer's period is written: it counts from now, or stops at 0 (R375). -/
def tmrWrite (s : State) (t v : Nat) : State :=
  let p := v % 2 ^ 24
  modSv (svSetCsr s (0x2C + t) p) (fun c => { c with tmrAt := if p = 0 then mdel c.tmrAt t else mins c.tmrAt t (nowNs s) })

/-- An instruction writes a control register: IE and MASK of SR; RO registers ignore it. -/
def csrPut (s : State) (k : CsrOp) (n v : Nat) : State :=
  let x := csrNew k (csrGet s n) v
  match n with
  | 0 => modSv s (fun c => { c with ie := bit x 4, mask := min (bits x 8 4) 8 })
  | 1 => svSetCsr s 1 (x / 512 * 512)
  | 3 => s
  | 4 => s
  | 7 => svSetCsr s 7 (obstNew k (svCsr s 7) v)
  | 8 => wdtWrite s x
  | 0x12 => svSetCsr s 0x12 (ipNew k (svCsr s 0x12) v)
  | 0x13 => s
  | 0x28 => s
  | 0x29 => s
  | 0x2B => modSv (svSetCsr s 0x2B x) (fun c => { c with armed := true })
  | 0x2C => tmrWrite s 0 x
  | 0x2D => tmrWrite s 1 x
  | n =>
    if 0x14 ≤ n ∧ n ≤ 0x1B then svSetCsr s n (x &&& 0x77777777)
    else if 0x20 ≤ n ∧ n ≤ 0x27 then svSetCsr s n (x % 2 ^ 16)
    else svSetCsr s n x

/-- Writes of SR, IE, IP and PRIO cost a clock more (R362). -/
def csrCost (n : Nat) : Nat := if n = 0 ∨ (0x10 ≤ n ∧ n ≤ 0x1B) then 1 else 0

/-- A read of a control register into `rd`. -/
def svCsrRead (s : State) (rd : Reg) (n : Nat) : Out :=
  svIssue s [] (fun t =>
    if csrThere n then .inr (svNext (svSet (csrLatch t n) rd (BitVec.ofNat 32 (csrGet t n)))) else .inl (1, t.sv.pc.toNat))

/-- A write of a control register from `rs`; it takes effect behind the instruction. -/
def svCsrWrite (s : State) (k : CsrOp) (n : Nat) (rs : Reg) : Out :=
  svIssue s [rs] (fun t =>
    if csrThere n then .inr (csrPut (svCost (svNext t) (csrCost n)) k n (svReg t rs).toNat) else .inl (1, t.sv.pc.toNat))

/-- CSRR (R354). -/
def execCsrr (rd : Reg) (csr : BitVec 18) (s : State) : Out := clocked s <| svCsrRead s rd csr.toNat

/-- CSRW (R354). -/
def execCsrw (csr : BitVec 18) (rs : Reg) (s : State) : Out := clocked s <| svCsrWrite s .write csr.toNat rs

/-- CSRS (R354). -/
def execCsrs (csr : BitVec 18) (rs : Reg) (s : State) : Out := clocked s <| svCsrWrite s .set csr.toNat rs

/-- CSRC (R354). -/
def execCsrc (csr : BitVec 18) (rs : Reg) (s : State) : Out := clocked s <| svCsrWrite s .clear csr.toNat rs

/-- WDT_FEED: CSRW of WDT (R376). -/
def execWdtFeed (rs : Reg) (s : State) : Out := clocked s <| svCsrWrite s .write 8 rs

/-- TIME_LO_READ: CSRR of TIME_LO (R354). -/
def execTimeLoRead (rd : Reg) (s : State) : Out := clocked s <| svCsrRead s rd 0x28

/-- TCMP_ARM: CSRW of TCMP_HI (R375). -/
def execTcmpArm (rs : Reg) (s : State) : Out := clocked s <| svCsrWrite s .write 0x2B rs

/-! ## QPUSH (R358) -/

/-- The record a QPUSH reads; a halfword with a parity error is poisoned. -/
def qpushRec (s : State) (a k : Nat) : List QWord :=
  (List.range k).map (fun i =>
    (BitVec.ofNat 16 (svRead s (a + 2 * i) 2), (svParity s (a + 2 * i) 2).isSome))

/-- The push and its status. With rb[31:19] not 0, which the spec forbids without saying what follows, whether the record is
pushed and what status comes are free. -/
def qpushRun (s : State) (a b k : Nat) : State × Nat :=
  let q := b % 2 ^ 16
  let run := fun (t : State) =>
    if !isQueue q then (t, 3)
    else let r := pushFor t 5 q (bits b 16 3) (qpushRec t a k); (r.1, if r.2 then 0 else 1)
  if b / 2 ^ 19 = 0 then run s
  else
    let d := drawBool s
    if d.2 then run d.1 else drawBelow d.1 4

/-- QPUSH. -/
def execQpush (rd ra rb : Reg) (k : BitVec 7) (s : State) : Out := clocked s <|
  svIssue s [ra, rb] (fun t =>
    let n := k.toNat
    let a := (svReg t ra).toNat
    if n = 0 ∨ 120 < n then .inr (svNext (svSet t rd 2))
    else if a % 2 ≠ 0 ∨ svSize < a + 2 * n then .inl (4, a)
    else
      let r := qpushRun t a (svReg t rb).toNat n
      .inr (svCost (svNext (svSet r.1 rd (BitVec.ofNat 32 r.2))) ((n + 4) / 2 - 1)))

/-- ILLEGAL_INSTRUCTION: a word that R359 and R360 give no meaning faults; a legal word is no illegal one. -/
def execIllegalInstruction (word : Word) (s : State) : Out := clocked s <|
  match svDecode word.toNat with
  | some _ => done s
  | none => svIssue s [] (fun t => .inl (1, t.sv.pc.toNat))

/-! ## Interrupts, timers, watchdog (R370, R375, R376) -/

/-- INTERRUPT_ENTRY: a source was recognised at this boundary. -/
def execInterruptEntry (s : State) : Out := clocked s <|
  if !svReady s || s.sv.inf then done s
  else done (svEnter (modSv s (fun c => { c with wfi := false, late := none })))

/-- TMR_EXPIRY: a period has elapsed. -/
def execTmrExpiry (t : Fin 2) (s : State) : Out := clocked s <|
  match s.sv.tmrAt.find? (fun x => x.1 == t.val) with
  | some (_, at_) =>
    let s1 := modSv s (fun c => { c with tmrAt := mins c.tmrAt t (at_ + 1000 * svCsr s (0x2C + t)) })
    done (if svRunning s then svPendEdge s1 (1 + t) else s)
  | none => done s

/-- TCMP_MATCH: fabric time is at or above TCMP. -/
def execTcmpMatch (s : State) : Out := clocked s <|
  if svRunning s && s.sv.armed && decide (svCsr s 0x2B * 2 ^ 32 + svCsr s 0x2A ≤ nowNs s) then
    done (svPendEdge (modSv s (fun c => { c with armed := false })) 3)
  else done s

/-- WATCHDOG_EXPIRY. -/
def execWatchdogExpiry (s : State) : Out := clocked s <| done (if svWatching s then svExpire s else s)

/-! ## Reload (R378) -/

/-- The SUPERVISOR section by the headers the starter shadow holds: `p` is a place in the shadow, `off` in the image. The answer
is the section's place in the image and its header. -/
def shadowSv : Nat → State → Nat → Nat → Option (Nat × List Byte)
  | 0, _, _, _ => none
  | f + 1, s, p, off =>
    let h := memBytes 0 s.load.shadow p 16
    let id := fieldB h 0 1
    let len := fieldB h 4 4
    if id = 15 then some (off, h)
    else if id < 1 ∨ 17 < id then none
    else shadowSv f s (p + 16 + len) (off + 16 + len)

/-- The reload has read the section of the booted slot: the program starts, or its CRC is wrong. -/
def svReload (s : State) : State :=
  let fail := wr (wr s F.devSvStat_RELOADING 0 0) F.devSvStat_HALT_CAUSE 0 5
  match shadowSv 18 s 64 64 with
  | none => fail
  | some (off, h) =>
    let body := flashBytes s (slotBase (rd s F.devBootStatus_BOOTED 0 - 1) + off + 16) (fieldB h 4 4)
    if crc32 body = fieldB h 8 4 then
      svStart (modSv s (fun c => { c with mem := svLoad (fieldB body 0 4) (body.drop 24) })) (svHeadOf body)
    else fail

/-- SV_RELOAD_DONE: it waits for any ledger write in progress. -/
def execSvReloadDone (s : State) : Out := clocked s <|
  done (if rdB s F.devSvStat_RELOADING 0 && s.ledg.write.isNone then svReload s else s)

end Sys2Proof.Machine
end

