-- ==== Sys2Proof/Machine/Writes.lean ====
section
/-!
DEFINITION. The commands that write or read an object by name: each gives the word of its write to the one operation of
Sys2Proof/Machine/Access.lean.
-/

namespace Sys2Proof.Machine

/-! ## Modes and excitation (chapters 03, 04, 10) -/

/-- RESET_REQUEST: MODE_REQ with target OFF (R70). -/
def execResetRequest (src : Src) (confirm : BitVec 16) (s : State) : Out := clocked s <|
  writeCmd s src .devModeReq 0 (confirm.toNat * 2 ^ 16)

/-- MODE_REQUEST: MODE_REQ with another target (R78). -/
def execModeRequest (src : Src) (target : BitVec 4) (s : State) : Out := clocked s <| writeCmd s src .devModeReq 0 target.toNat

/-- EXC_TIMING_WRITE: EXC_GRP or EXC_PHASE (R90). -/
def execExcTimingWrite (src : Src) (g : Fin 4) (phase : Bool) (val : Word) (s : State) : Out := clocked s <|
  writeCmd s src (if phase then .devExcPhase else .devExcGrp) g val.toNat

/-- EXC_GROUP_STOP: EN of EXC_GRP cleared (R90). -/
def execExcGroupStop (src : Src) (g : Fin 4) (s : State) : Out := clocked s <|
  writeCmd s src .devExcGrp g (setBits (getObj s .devExcGrp g) 31 1 0)

/-- EXC_GROUP_START: EN of EXC_GRP set (R90). -/
def execExcGroupStart (src : Src) (g : Fin 4) (s : State) : Out := clocked s <|
  writeCmd s src .devExcGrp g (setBits (getObj s .devExcGrp g) 31 1 1)

/-- SQ_RETRY of EXC_CTL (R96). -/
def execSqRetry (src : Src) (n : Fin 48) (s : State) : Out := clocked s <|
  writeCmd s src .axExcCtl n (setBits (getObj s .axExcCtl n) 6 1 1)

/-- MUX_SOURCE_WRITE: RSRC or ISRC of FE_CTL (R100). -/
def execMuxSourceWrite (src : Src) (n : Fin 48) (current : Bool) (source : BitVec 2) (s : State) : Out := clocked s <|
  writeCmd s src .axFeCtl n (fset (getObj s .axFeCtl n) (if current then F.axFeCtl_ISRC else F.axFeCtl_RSRC) source.toNat)

/-- AUX_SOURCE_WRITE: SRC of AUX_CTL (R113). -/
def execAuxSourceWrite (src : Src) (k : Fin 8) (source : BitVec 3) (s : State) : Out := clocked s <|
  writeCmd s src .devAuxCtl k (setBits (setBits (getObj s .devAuxCtl k) 0 3 source.toNat) 16 1 0)

/-- EXC_DRV_WRITE (R242). -/
def execExcDrvWrite (src : Src) (n : Fin 48) (val : Nat) (s : State) : Out := clocked s <| writeCmd s src .axExcDrv n val

/-- MON_SPAN_WRITE: MON.CTL (R250). -/
def execMonSpanWrite (src : Src) (c : Fin 16) (val : Word) (s : State) : Out := clocked s <| writeCmd s src .monCtl c val.toNat

/-! ## Filter and tracking (chapters 05 and 06) -/

/-- The object and instance of a chain (R122). -/
def chainAt : ChainId → ObjId × Nat
  | .sq n => (.axFltSq, n)
  | .sine n => (.axFltSine, n)
  | .cur n => (.axFltCur, n)
  | .aux k => (.devFltAux, k)

/-- FILTER_CHAIN_WRITE (R122, R123). -/
def execFilterChainWrite (src : Src) (chain : ChainId) (val : Nat) (s : State) : Out := clocked s <|
  writeCmd s src (chainAt chain).1 (chainAt chain).2 val

/-- POS_SET_WRITE (R153). -/
def execPosSetWrite (src : Src) (n : Fin 48) (pos : BitVec 64) (s : State) : Out := clocked s <|
  writeCmd s src .axPosSet n pos.toNat

/-- ENC_RESYNC: RESYNC of ENC_CMD (R160). -/
def execEncResync (src : Src) (k : Fin 16) (s : State) : Out := clocked s <| writeCmd s src .devEncCmd k 1

/-! ## Loops, trace, PWM, trips (chapters 07 to 09) -/

/-- AXIS_MODE_REQUEST: REQ of AX_MODE (R163, R164). -/
def execAxisModeRequest (src : Src) (n : Fin 48) (req : BitVec 3) (s : State) : Out := clocked s <|
  writeCmd s src .axMode n (req.toNat * 16)

/-- PARAM_WRITE: COEF, SHIFT or LIM (R185). -/
def execParamWrite (src : Src) (n : Fin 48) (word : ParamWord) (val : Word) (s : State) : Out := clocked s <|
  writeCmd s src (wordObj n word).1 (wordObj n word).2 val.toNat

/-- PAIR_SET_WRITE (R177). -/
def execPairSetWrite (src : Src) (n : Fin 48) (posA posB : BitVec 64) (s : State) : Out := clocked s <|
  writeCmd s src .axPairSet n (posA.toNat + posB.toNat * 2 ^ 64)

/-- TRACE_ARM: ARM of TRC_CTL (R192). -/
def execTraceArm (src : Src) (s : State) : Out := clocked s <| writeCmd s src .devTrcCtl 0 (setBits (getObj s .devTrcCtl 0) 0 2 1)

/-- TRACE_STOP: STOP of TRC_CTL (R192). -/
def execTraceStop (src : Src) (s : State) : Out := clocked s <| writeCmd s src .devTrcCtl 0 (setBits (getObj s .devTrcCtl 0) 0 2 2)

/-- PWM_TIMING_WRITE: PWM_TIM (R222). -/
def execPwmTimingWrite (src : Src) (n : Fin 48) (val : Nat) (s : State) : Out := clocked s <| writeCmd s src .axPwmTim n val

/-- SSC_WRITE: SSC of PWM_CFG (R223). -/
def execSscWrite (src : Src) (ssc : BitVec 2) (s : State) : Out := clocked s <| writeCmd s src .devPwmCfg 0 ssc.toNat

/-- TRIP_REARM: REARM of TRIP_CMD (R234). -/
def execTripRearm (src : Src) (n : Fin 48) (s : State) : Out := clocked s <| writeCmd s src .axTripCmd n 1

/-- TRIP_CFG_WRITE (R229). -/
def execTripCfgWrite (src : Src) (n : Fin 48) (val : Word) (s : State) : Out := clocked s <| writeCmd s src .axTripCfg n val.toNat

/-! ## Links and fabric (chapter 12) -/

/-- FAB_UNQUAR: UNQUAR of FAB_CMD (R288). -/
def execFabUnquar (src : Src) (mask : Byte) (s : State) : Out := clocked s <| writeCmd s src .devFabCmd 0 (mask.toNat * 2 ^ 8)

/-- LINK_RECONFIGURE: LK.CFG (R288). -/
def execLinkReconfigure (src : Src) (p : Fin 8) (val : Word) (s : State) : Out := clocked s <| writeCmd s src .lkCfg p val.toNat

/-- FAB_CMD_SYNC: SYNC of FAB_CMD (R302). -/
def execFabCmdSync (src : Src) (s : State) : Out := clocked s <| writeCmd s src .devFabCmd 0 1

/-! ## Supervisor, ledger, calendar, events, OTP (chapters 02, 15 to 17) -/

/-- SV_RESTART: RESTART of SV_CMD (R378). -/
def execSvRestart (src : Src) (s : State) : Out := clocked s <| writeCmd s src .devSvCmd 0 1

/-- SV_HALT_COMMAND: HALT of SV_CMD (R378). -/
def execSvHaltCommand (src : Src) (s : State) : Out := clocked s <| writeCmd s src .devSvCmd 0 2

/-- LEDGER_SNAP: SNAP of LEDG_CMD (R386). -/
def execLedgerSnap (src : Src) (s : State) : Out := clocked s <| writeCmd s src .devLedgCmd 0 1

/-- LEDGER_CLR_AXIS: CLR_AXIS of LEDG_CMD (R390). -/
def execLedgerClrAxis (src : Src) (n : Fin 48) (s : State) : Out := clocked s <| writeCmd s src .devLedgCmd 0 (2 + n.val * 4)

/-- CAL_SET (R393). -/
def execCalSet (src : Src) (val : Word) (s : State) : Out := clocked s <| writeCmd s src .devCalSet 0 val.toNat

/-- EV_RAISE (R403). -/
def execEvRaise (src : Src) (val : BitVec 64) (s : State) : Out := clocked s <| writeCmd s src .devEvRaise 0 val.toNat

/-- EV_DUMP (R403). -/
def execEvDump (src : Src) (s : State) : Out := clocked s <| writeCmd s src .devEvCmd 0 1

/-- The object of the OTP memory. -/
def otpAt : OtpObj → ObjId
  | .lock => .devOtpLock
  | .khash => .devOtpKhash
  | .fkey => .devOtpFkey

/-- OTP_WRITE (R46, R401). -/
def execOtpWrite (src : Src) (obj : OtpObj) (val : Nat) (s : State) : Out := clocked s <| writeCmd s src (otpAt obj) 0 val

/-! ## Any object (R21, R396, R399, R434) -/

/-- The node field of a fabric message's address is this node's, once it has an ID (R399). -/
def nodeOk (s : State) (src : Src) (addr : Nat) : Bool :=
  match src with
  | .fabric .. => !rdB s F.devFabStat_ID_VALID 0 || decide (bits addr 26 6 = rd s F.devFabStat_NODE_ID 0)
  | _ => true

/-- A write of the object at an address; one that names none is refused (R396, R399). While 64 messages are pending (R408) the
answer is busy before the value and the mode are judged, but an address that names no object is an access error even then: R435
gives the order of access and mode errors and does not place busy (DESIGN CHOICE, log 101). -/
def writeAt (src : Src) (addr val : Nat) (s : State) : Out :=
  match (if nodeOk s src addr then locate addr else none) with
  | some (o, i) =>
    let s1 := takeMsg s src
    done (writeAnswer src addr (if tooMany s1 src then (s1, 3) else writeObj s1 src o i val))
  | none => done (replyWrite (takeMsg s src) src addr 1)

/-- REGISTER_WRITE: the object at an address. -/
def execRegisterWrite (src : Src) (addr : Word) (val : Nat) (s : State) : Out := clocked s <| writeAt src addr.toNat val s

/-- JTAG_OBJECT_ACCESS: a read or write of the test access port through crossing C11 (R21). -/
def execJtagObjectAccess (write : Bool) (addr : Word) (val : Nat) (s : State) : Out := clocked s <|
  if write then execRegisterWrite .jtag addr val s
  else match readAt s addr.toNat with
    | some (t, v, _) => done { t with msg := { t.msg with jtagStatus := 0, jtagData := v } }
    | none => done { s with msg := { s.msg with jtagStatus := 1, jtagData := 0 } }

/-- The reply to a READ of one object, or the value at the port that read it (R21, R409). -/
def readAnswer (s : State) (src : Src) (addr v words : Nat) : State :=
  match src with
  | .jtag => { s with msg := { s.msg with jtagStatus := 0, jtagData := v } }
  | src => reply s src 1 1 0 (leBytes 4 addr ++ leBytes (4 * words) v)

/-! ## Queues (chapter 11) -/

/-- QUEUE_PUSH: a record commits through a write port (R259 to R261, R275, R341). -/
def execQueuePush (port : Fin 8) (q : Halfword) (prio : Byte) (rec : List QWord) (s : State) : Out := clocked s <|
  done (pushFor s port q.toNat prio.toNat rec).1

/-- QUEUE_POP: a word for a read port (R262, R263). -/
def execQueuePop (port : Fin 4) (q : Halfword) (s : State) : Out := clocked s <|
  let r := qPop s q.toNat
  done (portOut r.1 port r.2)

/-- QUEUE_PEEK: the word `i` behind the head, for read port 0; nothing is removed (R264). -/
def execQueuePeek (q : Halfword) (i : Nat) (s : State) : Out := clocked s <|
  let r := qPeek s q.toNat i
  done (portOut r.1 0 r.2)

/-- QUEUE_DISCARD: `m` words leave a queue from its head. The lane raises EV_SP_GAP for each marker it removes from a set-point
queue (R264). -/
def execQueueDiscard (q : Halfword) (m : Nat) (s : State) : Out := clocked s <|
  let r := qDiscard s q.toNat m
  done (if isSetQ q.toNat then r.2.foldl (fun u k => raise u 0x46 ((q.toNat - 0x100) / 4) k) r.1 else r.1)

/-- QUEUE_RESET_REQUEST: RESET of Q.POP (R272, R276). -/
def execQueueResetRequest (src : Src) (q : Halfword) (s : State) : Out := clocked s <| writeCmd s src .qPop q.toNat (2 ^ 72)

/-- QUEUE_NOTICE_READ: a read of Q.NOTICE, which clears it (R270). -/
def execQueueNoticeRead (src : Src) (q : Halfword) (s : State) : Out := clocked s <|
  let s1 := takeMsg s src
  let addr := ownAddr s1 .qNotice q.toNat
  if objThere .qNotice q.toNat && !offMgmt src then
    let r := readObj s1 .qNotice q.toNat
    done (readAnswer r.1 src addr r.2 1)
  else done (reply s1 src 1 1 1 (leBytes 4 addr))

/-- SWEEP_PASS_START (R273). -/
def execSweepPassStart (s : State) : Out := clocked s <| done (sweepStart s)

/-- SWEEP_PASS_END (R273, R274). -/
def execSweepPassEnd (s : State) : Out := clocked s <| done (sweepEnd s)

/-- FREE_LIST_REBUILD_DONE (R274). -/
def execFreeListRebuildDone (s : State) : Out := clocked s <| done (rebuildEnd s)

/-- SORTED_POP: a word of a sorted queue (R276). -/
def execSortedPop (port : Fin 4) (q : Halfword) (s : State) : Out := clocked s <|
  let r := if isSorted q.toNat then qPop s q.toNat else (s, popEmpty)
  done (portOut r.1 port r.2)

end Sys2Proof.Machine
end

