-- ==== Sys2Proof/Machine/Messages.lean ====
section
/-!
DEFINITION. The message engine's other messages, subscriptions, the service port, and the boundary cells of the test access
port (R399, R407 to R412, R429).
-/

namespace Sys2Proof.Machine

/-! ## READ and WRITE (R396, R399, R409) -/

/-- `c` consecutive one-word objects from an address, or one object of any width: the words read, up to the first refusal. -/
def readRun : Nat → State → Nat → Bool → List Byte → State × Nat × List Byte
  | 0, s, _, _, acc => (s, 0, acc)
  | c + 1, s, addr, many, acc =>
    match (if addr % 2 ^ 18 = 0 ∧ acc ≠ [] then none else readAt s addr) with
    | some (t, v, w) => if many && decide (w ≠ 1) then (s, 1, acc) else readRun c t (addr + 1) many (acc ++ leBytes (4 * w) v)
    | none => (s, 1, acc)

/-- MSG_READ. -/
def execMsgRead (src : Src) (addr : Word) (count : Nat) (s : State) : Out := clocked s <|
  let s1 := takeMsg s src
  let a := addr.toNat
  if tooMany s1 src then done (reply s1 src 1 count 3 (leBytes 4 a))
  else if count < 1 ∨ 56 < count then done (reply s1 src 1 count 4 [])
  else if offMgmt src || !nodeOk s1 src a then done (reply s1 src 1 count 1 (leBytes 4 a))
  else
    let r := readRun count s1 a (decide (1 < count)) []
    done (reply r.1 src 1 count r.2.1 (leBytes 4 a ++ r.2.2))

/-- MSG_WRITE: the reply comes with the outcome (R408). -/
def execMsgWrite (src : Src) (addr : Word) (val : Nat) (s : State) : Out := clocked s <| writeAt src addr.toNat val s

/-! ## Subscriptions (R410) -/

/-- The event queues. -/
def isEvQueue (q : Nat) : Bool := decide (q ≤ 1) || (isPool q && decide (0x100 ≤ q ∧ q ≤ 0x1BF) && decide (q % 4 = 3))

/-- A queue that may be subscribed. -/
def maySubscribe (q : Nat) : Bool := isPool q && decide (q ≠ 2 ∧ q ≠ 3) && !decide (0x200 ≤ q ∧ q ≤ 0x2FF)

/-- Subscriptions a device holds at most. -/
def subMax : Nat := 256

/-- The subscription of a queue. -/
def subOf (s : State) (q : Nat) : Option Subscr := (s.msg.subs.find? (fun x => x.1 == q)).map (·.2)

/-- The subscriptions are changed. -/
def modSubs (s : State) (f : List (Nat × Subscr) → List (Nat × Subscr)) : State :=
  { s with msg := { s.msg with subs := f s.msg.subs } }

/-- The status a SUBSCRIBE is answered with. -/
def subStatus (s : State) (src : Src) (r : SubReq) : Nat :=
  let q := r.queue.toNat
  if !maySubscribe q then 1
  else if !r.cancel && (decide (r.rsize < 1 ∨ 120 < r.rsize)
      || (!r.svc && (decide (63 < r.dstNode) || (decide (r.dstQueue = 0xFFFF) && !isEvQueue q)))) then 1
  else if tooMany s src || (!r.cancel && (subOf s q).isNone && decide (subMax ≤ s.msg.subs.length)) then 3
  else 0

/-- MSG_SUBSCRIBE: a subscription starts, is replaced, or ends. -/
def execMsgSubscribe (src : Src) (sub : SubReq) (s : State) : Out := clocked s <|
  let s1 := takeMsg s src
  let st := subStatus s1 src sub
  let q := sub.queue.toNat
  let s2 :=
    if st ≠ 0 then s1
    else if sub.cancel then modSubs s1 (fun m => mdel m q)
    else modSubs s1 (fun m => mins m q ⟨sub.svc, sub.dstNode, sub.dstQueue.toNat, sub.rsize, [], 0⟩)
  done (reply s2 src 3 0 st [])

/-- Class of a subscription's frames. -/
def subClass (q : Nat) : Nat := if isEvQueue q then cCtl else cBulk

/-- Whole records of a subscription that fit a frame or a message. -/
def subFit (q : Nat) (u : Subscr) : Nat :=
  (if u.svc then (if isEvQueue q then 224 else 228) else if u.dstQueue = 0xFFFF then 224 else 240) / (2 * u.rsize)

/-- Port a subscription's frames leave through. -/
def subPort (s : State) (u : Subscr) : Option Nat := (pathToId s u.dstNode).bind firstPort

/-- The router may pop for the subscription: it has a route with room, and in LATCH only the service port is served. -/
def subOpen (s : State) (q : Nat) (u : Subscr) : Bool :=
  u.svc || (decide (mode s ≠ mLatch)
    && (match subPort s u with | some p => isUp s p && txRoom s p (subClass q) | none => false))

/-- Words of the queue are popped until `n` halfwords are held; a marker ends it, and says how many SEQ values to pass. -/
def subPull : Nat → State → Nat → Nat → List QWord → State × List QWord × Nat
  | 0, s, _, _, acc => (s, acc, 0)
  | k + 1, s, q, n, acc =>
    if n ≤ acc.length then (s, acc, 0)
    else
      let r := qPop s q
      let t := portOut r.1 1 r.2
      if bit r.2.tag 2 then (t, acc, 0)
      else if bit r.2.tag 3 then
        let c := bits r.2.word.toNat 8 16
        (t, acc, if c = 0 then 1 else min c 32767)
      else subPull k t q n (acc ++ (popHw r.2).map (fun h => (h, bit r.2.tag 4)))

/-- Records at the front that hold no poisoned word, at most `n`. -/
def goodRecs (rsize : Nat) : Nat → List QWord → Nat
  | 0, _ => 0
  | n + 1, hs =>
    if rsize ≤ hs.length ∧ !(hs.take rsize).any (·.2) then goodRecs rsize n (hs.drop rsize) + 1 else 0

/-- The SEQ of a flow passes over `k` values (R304, R410). -/
def skipSeq (s : State) (srcQ dstQ cls k : Nat) : State :=
  if k = 0 then s
  else
    let t := (nextSeq s srcQ dstQ cls).1
    modFab t (fun f => { f with src := f.src.map (fun y =>
      if y.srcQ == srcQ && y.dstQ == dstQ && y.cls == cls then { y with next := (y.next + k - 1) % 65536 }
      else y) })

/-- A message goes into 0x0002 for the service port. -/
def svcPush (s : State) (bs : List Byte) : State :=
  let r := qPushBytes s 7 2 bs
  if r.2 then { r.1 with msg := { r.1.msg with svcLens := r.1.msg.svcLens ++ [bs.length] } } else r.1

/-- Whole records go out: to the service port as EVENT or PUSH messages, to a node as EVENT messages or as a push. -/
def subSend (s : State) (q : Nat) (u : Subscr) (hs : List QWord) : State :=
  let bs := hwBytes (hs.map Prod.fst)
  if u.svc then
    svcPush s (if isEvQueue q then msgBytes 4 0 0 0 0 bs else msgBytes 5 0 0 0 0 (leBytes 2 q ++ [0, 0] ++ bs))
  else
    match subPort s u with
    | some p =>
      sendFlow s p (subClass q) u.dstNode q u.dstQueue false (if u.dstQueue = 0xFFFF then msgBytes 4 0 0 0 0 bs else bs)
    | none => s

/-- A subscription passes SEQ values over; the service port has no SEQ. -/
def subSkip (s : State) (q : Nat) (u : Subscr) (k : Nat) : State :=
  if u.svc then s else skipSeq s q u.dstQueue (subClass q) k

/-- One delivery: the records before any poisoned one are sent; a poisoned record next in line is left out and SEQ passes it
over; a marker that came behind the held records passes its own count once they are gone. -/
def subDeliver (s : State) (q : Nat) (u : Subscr) : State :=
  let fit := subFit q u
  let g := if u.skip = 0 then subPull 64 s q (fit * u.rsize) u.held else (s, u.held, u.skip)
  let n := goodRecs u.rsize fit g.2.1
  let s1 := if n = 0 then g.1 else subSend g.1 q u (g.2.1.take (n * u.rsize))
  let left := g.2.1.drop (n * u.rsize)
  let bad := decide (u.rsize ≤ left.length) && (left.take u.rsize).any (·.2)
  let s2 := if bad then subSkip s1 q u 1 else s1
  let left1 := if bad then left.drop u.rsize else left
  let cut := decide (left1.length < u.rsize ∧ g.2.2 ≠ 0)
  let s3 := if cut then subSkip s2 q u g.2.2 else s2
  modSubs s3 (fun m => mins m q { u with held := if cut then [] else left1, skip := if cut then 0 else g.2.2 })

/-- SUBSCRIPTION_DELIVERY. -/
def execSubscriptionDelivery (q : Halfword) (s : State) : Out := clocked s <|
  match subOf s q.toNat with
  | some u => done (if subOpen s q.toNat u && decide (0 < subFit q.toNat u) then subDeliver s q.toNat u else s)
  | none => done s

/-! ## EVENT, PUSH, TRACE_READ (R193, R409) -/

/-- MSG_EVENT: the records are for hosts; a device that receives them does nothing more, and does not reply. -/
def execMsgEvent (src : Src) (_records : List Byte) (s : State) : Out := clocked s <| done (takeMsg s src)

/-- A message that came over a link. -/
def fromFabric (src : Src) : Bool :=
  match src with
  | .fabric .. => true
  | _ => false

/-- The status of a PUSH, with the state after it. -/
def msgPushRun (s : State) (src : Src) (q prio : Nat) (bytes : List Byte) : State × Nat :=
  if fromFabric src || decide (bytes.length < 2 ∨ 228 < bytes.length ∨ bytes.length % 2 = 1) then (s, 4)
  else if !isQueue q then (s, 1)
  else if tooMany s src then (s, 3)
  else let r := pushFor s 5 q prio (halfwords bytes); (r.1, if r.2 then 0 else 5)

/-- MSG_PUSH: through write port 5 (R259). -/
def execMsgPush (src : Src) (q : Halfword) (prio : Byte) (bytes : List Byte) (s : State) : Out := clocked s <|
  let r := msgPushRun (takeMsg s src) src q.toNat prio.toNat bytes
  done (reply r.1 src 5 0 r.2 [])

/-- The status of a TRACE_READ. -/
def traceStatus (s : State) (src : Src) (j first : Nat) : Nat :=
  if tooMany s src then 3
  else if trcState s ≠ trcDone then 2
  else if 63 < j ∨ !rdB s F.devTrcProbe_EN j then 1
  else if (probe s j).ring.length ≤ first then 7
  else 0

/-- MSG_TRACE_READ: up to 224 bytes of samples, oldest first. -/
def execMsgTraceRead (src : Src) (prb : Byte) (count : Halfword) (first : Word) (s : State) : Out := clocked s <|
  let s1 := takeMsg s src
  let j := prb.toNat
  let st := traceStatus s1 src j first.toNat
  let size := if rdB s1 F.devTrcProbe_W32 j then 4 else 2
  let xs := if st ≠ 0 then [] else ((probe s1 j).ring.drop first.toNat).take (min count.toNat (224 / size))
  let body := leBytes 1 j ++ [0] ++ leBytes 2 xs.length ++ leBytes 4 first.toNat
    ++ xs.flatMap (fun x => leBytes size (tc (8 * size) x))
  done (reply s1 src 6 0 st body)

/-! ## Service port (R412) -/

/-- The port answers: from the release of the internal reset on, while CORE runs. -/
def svcAlive (s : State) : Bool := coreRuns s

/-- One of the 4 receive buffers is free. -/
def svcReady (s : State) : Bool :=
  decide ((s.msg.inbox.filter (fun m => match m.src with | .svc _ => true | _ => false)).length < 4)

/-- A message waits to be read: SVC_IRQ_N is low. -/
def svcWaits (s : State) : Bool := !s.msg.svcLens.isEmpty

/-- A LEN field, a message, and the CRC over both. -/
def svcFrame (m : List Byte) : List Byte :=
  let b := leBytes 2 m.length ++ m
  b ++ leBytes 4 (crc32 b)

/-- SVC_SEND: the message is taken if its length and CRC are right and a buffer is free; else BAD sets. -/
def execSvcSend (len : Nat) (msg : List Byte) (crc : Word) (s : State) : Out :=
  if !svcAlive s then done s
  else if decide (8 ≤ len ∧ len ≤ 240 ∧ msg.length = len) && decide (crc.toNat = crc32 (leBytes 2 len ++ msg)) && svcReady s then
    done (takeIn s (.svc (BitVec.ofNat 16 (fieldB msg 2 2))) msg)
  else done { s with msg := { s.msg with bad := true } }

/-- Words of 0x0002 are popped through read port 2 until the first message is whole; markers are passed over. -/
def svcPull : Nat → State → Nat → List Byte → State × List Byte
  | 0, s, _, acc => (s, acc)
  | k + 1, s, n, acc =>
    if n ≤ acc.length then (s, acc)
    else
      let r := qPop s 2
      if bit r.2.tag 2 then (s, acc) else svcPull k (portOut r.1 2 r.2) n (acc ++ hwBytes (popHw r.2))

/-- What the port returns: the frame's bytes, then 0. -/
def svcShow (s : State) (n : Nat) (bs : List Byte) : State :=
  { s with msg := { s.msg with svcOut := bs.take n ++ List.replicate (n - bs.length) 0 } }

/-- SVC_RECV: the host clocks `clocked` bytes behind the opcode. The message is removed once its last CRC byte has been
clocked out. -/
def execSvcRecv (clocked : Nat) (s : State) : Out :=
  if !svcAlive s then done s
  else match s.msg.svcLens with
    | [] => done (svcShow s clocked (svcFrame []))
    | l :: ls =>
      let n := 2 * ((l + 1) / 2)
      let r := svcPull 128 s n s.msg.svcHead
      if r.2.length < n then
        done (svcShow { r.1 with msg := { r.1.msg with svcLens := ls, svcHead := [] } } clocked (svcFrame []))
      else
        let t := svcShow r.1 clocked (svcFrame (r.2.take l))
        if 6 + l ≤ clocked then done { t with msg := { t.msg with svcLens := ls, svcHead := r.2.drop n } }
        else done { t with msg := { t.msg with svcHead := r.2 } }

/-- SVC_STAT: RX_READY, TX_PENDING, BAD, ALIVE; BAD clears. -/
def execSvcStat (s : State) : Out :=
  if !svcAlive s then done s
  else
    let v := b2n (svcReady s) + 2 * b2n (svcWaits s) + 4 * b2n s.msg.bad + 8
    done { s with msg := { s.msg with bad := false, svcOut := leBytes 1 v } }

/-! ## Boundary cells (R68, R429) -/

/-- JTAG_EXTEST: the gate, encoder and AUXO pins show the boundary cells, only while PORST_N is held low. -/
def execJtagExtest (cells : Nat) (s : State) : Out :=
  done (if s.pwr.porstLow then { s with pwr := { s.pwr with extest := some cells } } else s)

end Sys2Proof.Machine
end

