-- ==== Sys2Proof/Machine/Dispatch.lean ====
section
/-!
DEFINITION. Dispatch: one arm for each command, one direct call of its meaning.
-/

namespace Sys2Proof.Machine

/-- The effect of a command on everything but the queue of waiting commands. -/
def exec (i : Instr) (s : State) : Host.Outcome State Fault Refusal :=
  match i with
  | .porstAssert lowNs => Sys2Proof.Machine.execPorstAssert lowNs s
  | .railResetCrossing rail => Sys2Proof.Machine.execRailResetCrossing rail s
  | .railWarningCrossing rail => Sys2Proof.Machine.execRailWarningCrossing rail s
  | .warningRelease rail => Sys2Proof.Machine.execWarningRelease rail s
  | .railInRange rail => Sys2Proof.Machine.execRailInRange rail s
  | .internalResetRelease twinRole => Sys2Proof.Machine.execInternalResetRelease twinRole s
  | .pllLock => Sys2Proof.Machine.execPllLock s
  | .coreClockLoss => Sys2Proof.Machine.execCoreClockLoss s
  | .referenceClockLoss => Sys2Proof.Machine.execReferenceClockLoss s
  | .pwmClockLoss => Sys2Proof.Machine.execPwmClockLoss s
  | .convClockLoss => Sys2Proof.Machine.execConvClockLoss s
  | .rtcOscillatorStop => Sys2Proof.Machine.execRtcOscillatorStop s
  | .rtcOscillatorRestart => Sys2Proof.Machine.execRtcOscillatorRestart s
  | .jtagReset => Sys2Proof.Machine.execJtagReset s
  | .jtagObjectAccess write addr val => Sys2Proof.Machine.execJtagObjectAccess write addr val s
  | .resetRequest src confirm => Sys2Proof.Machine.execResetRequest src confirm s
  | .modeRequest src target => Sys2Proof.Machine.execModeRequest src target s
  | .modeTransition => Sys2Proof.Machine.execModeTransition s
  | .testRunDone r => Sys2Proof.Machine.execTestRunDone r s
  | .discoverTimeout => Sys2Proof.Machine.execDiscoverTimeout s
  | .drvSettleExpiry => Sys2Proof.Machine.execDrvSettleExpiry s
  | .stopLimitExpiry => Sys2Proof.Machine.execStopLimitExpiry s
  | .flashProbeDone p => Sys2Proof.Machine.execFlashProbeDone p s
  | .slotAttemptDone => Sys2Proof.Machine.execSlotAttemptDone s
  | .imageWriteBegin src slot len => Sys2Proof.Machine.execImageWriteBegin src slot len s
  | .imageEraseDone => Sys2Proof.Machine.execImageEraseDone s
  | .imageWriteData src slot off bytes => Sys2Proof.Machine.execImageWriteData src slot off bytes s
  | .imageDataProgrammed => Sys2Proof.Machine.execImageDataProgrammed s
  | .imageWriteEnd src slot => Sys2Proof.Machine.execImageWriteEnd src slot s
  | .imageReadbackDone => Sys2Proof.Machine.execImageReadbackDone s
  | .imageWriteSwitch src slot => Sys2Proof.Machine.execImageWriteSwitch src slot s
  | .trimWriteOpen src kind => Sys2Proof.Machine.execTrimWriteOpen src kind s
  | .trimWriteData src off bytes => Sys2Proof.Machine.execTrimWriteData src off bytes s
  | .trimWriteCommit src crc => Sys2Proof.Machine.execTrimWriteCommit src crc s
  | .trimProgramDone ok => Sys2Proof.Machine.execTrimProgramDone ok s
  | .trimSwitch => Sys2Proof.Machine.execTrimSwitch s
  | .trimWriteClose src => Sys2Proof.Machine.execTrimWriteClose src s
  | .otpWrite src obj val => Sys2Proof.Machine.execOtpWrite src obj val s
  | .otpProgramDone => Sys2Proof.Machine.execOtpProgramDone s
  | .excTimingWrite src g phase val => Sys2Proof.Machine.execExcTimingWrite src g phase val s
  | .excGroupStop src g => Sys2Proof.Machine.execExcGroupStop src g s
  | .excGroupStart src g => Sys2Proof.Machine.execExcGroupStart src g s
  | .excEdge g => Sys2Proof.Machine.execExcEdge g s
  | .sineDriverUpdate => Sys2Proof.Machine.execSineDriverUpdate s
  | .holdStrobe n => Sys2Proof.Machine.execHoldStrobe n s
  | .conversionDone slot raw => Sys2Proof.Machine.execConversionDone slot raw s
  | .filterSlotRead slot cmp => Sys2Proof.Machine.execFilterSlotRead slot cmp s
  | .sqRetry src n => Sys2Proof.Machine.execSqRetry src n s
  | .rangeChange n current => Sys2Proof.Machine.execRangeChange n current s
  | .muxSourceWrite src n current source => Sys2Proof.Machine.execMuxSourceWrite src n current source s
  | .muxSwitch n current => Sys2Proof.Machine.execMuxSwitch n current s
  | .cmFaultOnset slot => Sys2Proof.Machine.execCmFaultOnset slot s
  | .cmFaultEnd slot => Sys2Proof.Machine.execCmFaultEnd slot s
  | .clampConduction slot => Sys2Proof.Machine.execClampConduction slot s
  | .auxSourceWrite src k source => Sys2Proof.Machine.execAuxSourceWrite src k source s
  | .auxoUpdate k => Sys2Proof.Machine.execAuxoUpdate k s
  | .frameRealign => Sys2Proof.Machine.execFrameRealign s
  | .filterChainWrite src chain val => Sys2Proof.Machine.execFilterChainWrite src chain val s
  | .filterChainSwitch chain => Sys2Proof.Machine.execFilterChainSwitch chain s
  | .observerStep n => Sys2Proof.Machine.execObserverStep n s
  | .posSetWrite src n pos => Sys2Proof.Machine.execPosSetWrite src n pos s
  | .encFrameMark k => Sys2Proof.Machine.execEncFrameMark k s
  | .encEdge k => Sys2Proof.Machine.execEncEdge k s
  | .encResync src k => Sys2Proof.Machine.execEncResync src k s
  | .axisModeRequest src n req => Sys2Proof.Machine.execAxisModeRequest src n req s
  | .axisModeChange n => Sys2Proof.Machine.execAxisModeChange n s
  | .paramWrite src n word val => Sys2Proof.Machine.execParamWrite src n word val s
  | .paramLanding n => Sys2Proof.Machine.execParamLanding n s
  | .pairSetWrite src n posA posB => Sys2Proof.Machine.execPairSetWrite src n posA posB s
  | .gearDataLost n => Sys2Proof.Machine.execGearDataLost n s
  | .precompute n => Sys2Proof.Machine.execPrecompute n s
  | .slowPathDone n cmp => Sys2Proof.Machine.execSlowPathDone n cmp s
  | .completion n cmp => Sys2Proof.Machine.execCompletion n cmp s
  | .lateFlag n => Sys2Proof.Machine.execLateFlag n s
  | .traceArm src => Sys2Proof.Machine.execTraceArm src s
  | .traceStop src => Sys2Proof.Machine.execTraceStop src s
  | .traceSample j => Sys2Proof.Machine.execTraceSample j s
  | .shadowLoad n peak => Sys2Proof.Machine.execShadowLoad n peak s
  | .pwmTimingWrite src n val => Sys2Proof.Machine.execPwmTimingWrite src n val s
  | .sscWrite src ssc => Sys2Proof.Machine.execSscWrite src ssc s
  | .sscSettled => Sys2Proof.Machine.execSscSettled s
  | .tripSourceOnset n kind => Sys2Proof.Machine.execTripSourceOnset n kind s
  | .safeLowSideOn n => Sys2Proof.Machine.execSafeLowSideOn n s
  | .tripSourceEnd n kind => Sys2Proof.Machine.execTripSourceEnd n kind s
  | .tripRearm src n => Sys2Proof.Machine.execTripRearm src n s
  | .tripCfgWrite src n val => Sys2Proof.Machine.execTripCfgWrite src n val s
  | .drvMonSample pins => Sys2Proof.Machine.execDrvMonSample pins s
  | .excDetectorInterval n peak limited => Sys2Proof.Machine.execExcDetectorInterval n peak limited s
  | .excDrvWrite src n val => Sys2Proof.Machine.execExcDrvWrite src n val s
  | .monSample c => Sys2Proof.Machine.execMonSample c s
  | .monSpanWrite src c val => Sys2Proof.Machine.execMonSpanWrite src c val s
  | .monSpanDone c => Sys2Proof.Machine.execMonSpanDone c s
  | .monDetect c compl onset => Sys2Proof.Machine.execMonDetect c compl onset s
  | .queuePush port q prio rec => Sys2Proof.Machine.execQueuePush port q prio rec s
  | .queuePop port q => Sys2Proof.Machine.execQueuePop port q s
  | .queuePeek q k => Sys2Proof.Machine.execQueuePeek q k s
  | .queueDiscard q m => Sys2Proof.Machine.execQueueDiscard q m s
  | .queueResetRequest src q => Sys2Proof.Machine.execQueueResetRequest src q s
  | .queueNoticeRead src q => Sys2Proof.Machine.execQueueNoticeRead src q s
  | .sweepPassStart => Sys2Proof.Machine.execSweepPassStart s
  | .sweepPassEnd => Sys2Proof.Machine.execSweepPassEnd s
  | .freeListRebuildDone => Sys2Proof.Machine.execFreeListRebuildDone s
  | .sortedPop port q => Sys2Proof.Machine.execSortedPop port q s
  | .linkTrainStart p => Sys2Proof.Machine.execLinkTrainStart p s
  | .linkTrainingTimeout p => Sys2Proof.Machine.execLinkTrainingTimeout p s
  | .linkBlockLock p => Sys2Proof.Machine.execLinkBlockLock p s
  | .trainLockTimeout p => Sys2Proof.Machine.execTrainLockTimeout p s
  | .helloSend p => Sys2Proof.Machine.execHelloSend p s
  | .helloReceive p f => Sys2Proof.Machine.execHelloReceive p f s
  | .joinSend p => Sys2Proof.Machine.execJoinSend p s
  | .joinReceive p f => Sys2Proof.Machine.execJoinReceive p f s
  | .joinTimeout p => Sys2Proof.Machine.execJoinTimeout p s
  | .quarTimeout p => Sys2Proof.Machine.execQuarTimeout p s
  | .downTimeout p => Sys2Proof.Machine.execDownTimeout p s
  | .fabUnquar src mask => Sys2Proof.Machine.execFabUnquar src mask s
  | .linkReconfigure src p val => Sys2Proof.Machine.execLinkReconfigure src p val s
  | .linkLoss p why => Sys2Proof.Machine.execLinkLoss p why s
  | .ackReceive p word => Sys2Proof.Machine.execAckReceive p word s
  | .nakReceive p word => Sys2Proof.Machine.execNakReceive p word s
  | .creditReceive p word => Sys2Proof.Machine.execCreditReceive p word s
  | .downWordReceive p word => Sys2Proof.Machine.execDownWordReceive p word s
  | .creditSendTimer p => Sys2Proof.Machine.execCreditSendTimer p s
  | .replayTimeout p => Sys2Proof.Machine.execReplayTimeout p s
  | .frameTransmit p => Sys2Proof.Machine.execFrameTransmit p s
  | .frameReceive p f => Sys2Proof.Machine.execFrameReceive p f s
  | .lsrSend => Sys2Proof.Machine.execLsrSend s
  | .lsrReceive p f => Sys2Proof.Machine.execLsrReceive p f s
  | .lsrExpiry serial => Sys2Proof.Machine.execLsrExpiry serial s
  | .routeFailReceive p f => Sys2Proof.Machine.execRouteFailReceive p f s
  | .tsyncRequestSend p => Sys2Proof.Machine.execTsyncRequestSend p s
  | .tsyncRequestReceive p f => Sys2Proof.Machine.execTsyncRequestReceive p f s
  | .tsyncResponseReceive p f => Sys2Proof.Machine.execTsyncResponseReceive p f s
  | .fabCmdSync src => Sys2Proof.Machine.execFabCmdSync src s
  | .syncPeriodExpiry => Sys2Proof.Machine.execSyncPeriodExpiry s
  | .syncReceive p f => Sys2Proof.Machine.execSyncReceive p f s
  | .flowEntryExpiry key => Sys2Proof.Machine.execFlowEntryExpiry key s
  | .congestionOnset p cls => Sys2Proof.Machine.execCongestionOnset p cls s
  | .staleDiscard p cls => Sys2Proof.Machine.execStaleDiscard p cls s
  | .placeAttemptStart => Sys2Proof.Machine.execPlaceAttemptStart s
  | .placeHashCompare hashes => Sys2Proof.Machine.execPlaceHashCompare hashes s
  | .placeRetryTimer => Sys2Proof.Machine.execPlaceRetryTimer s
  | .replacementStart => Sys2Proof.Machine.execReplacementStart s
  | .replacementTimeout => Sys2Proof.Machine.execReplacementTimeout s
  | .laneRetry n cmp => Sys2Proof.Machine.execLaneRetry n cmp s
  | .laneSelfTest wrong => Sys2Proof.Machine.execLaneSelfTest wrong s
  | .twinFrameSend p => Sys2Proof.Machine.execTwinFrameSend p s
  | .twinFrameReceive p f => Sys2Proof.Machine.execTwinFrameReceive p f s
  | .twinAbsenceTimeout member => Sys2Proof.Machine.execTwinAbsenceTimeout member s
  | .releaseReceive p reason => Sys2Proof.Machine.execReleaseReceive p reason s
  | .twinOkInLow => Sys2Proof.Machine.execTwinOkInLow s
  | .handoverTimeout => Sys2Proof.Machine.execHandoverTimeout s
  | .resyncTimeout => Sys2Proof.Machine.execResyncTimeout s
  | .resyncRetry => Sys2Proof.Machine.execResyncRetry s
  | .add rd ra rb => Sys2Proof.Machine.execAdd rd ra rb s
  | .sub rd ra rb => Sys2Proof.Machine.execSub rd ra rb s
  | .and rd ra rb => Sys2Proof.Machine.execAnd rd ra rb s
  | .or rd ra rb => Sys2Proof.Machine.execOr rd ra rb s
  | .xor rd ra rb => Sys2Proof.Machine.execXor rd ra rb s
  | .shl rd ra rb => Sys2Proof.Machine.execShl rd ra rb s
  | .shr rd ra rb => Sys2Proof.Machine.execShr rd ra rb s
  | .sra rd ra rb => Sys2Proof.Machine.execSra rd ra rb s
  | .slt rd ra rb => Sys2Proof.Machine.execSlt rd ra rb s
  | .sltu rd ra rb => Sys2Proof.Machine.execSltu rd ra rb s
  | .mul rd ra rb => Sys2Proof.Machine.execMul rd ra rb s
  | .mulh rd ra rb => Sys2Proof.Machine.execMulh rd ra rb s
  | .div rd ra rb => Sys2Proof.Machine.execDiv rd ra rb s
  | .divu rd ra rb => Sys2Proof.Machine.execDivu rd ra rb s
  | .rem rd ra rb => Sys2Proof.Machine.execRem rd ra rb s
  | .addi rd ra imm => Sys2Proof.Machine.execAddi rd ra imm s
  | .andi rd ra imm => Sys2Proof.Machine.execAndi rd ra imm s
  | .ori rd ra imm => Sys2Proof.Machine.execOri rd ra imm s
  | .shli rd ra imm => Sys2Proof.Machine.execShli rd ra imm s
  | .shri rd ra imm => Sys2Proof.Machine.execShri rd ra imm s
  | .srai rd ra imm => Sys2Proof.Machine.execSrai rd ra imm s
  | .slti rd ra imm => Sys2Proof.Machine.execSlti rd ra imm s
  | .lui rd imm => Sys2Proof.Machine.execLui rd imm s
  | .lw rd ra imm => Sys2Proof.Machine.execLw rd ra imm s
  | .lh rd ra imm => Sys2Proof.Machine.execLh rd ra imm s
  | .lhu rd ra imm => Sys2Proof.Machine.execLhu rd ra imm s
  | .lb rd ra imm => Sys2Proof.Machine.execLb rd ra imm s
  | .lbu rd ra imm => Sys2Proof.Machine.execLbu rd ra imm s
  | .sw rs ra imm => Sys2Proof.Machine.execSw rs ra imm s
  | .sh rs ra imm => Sys2Proof.Machine.execSh rs ra imm s
  | .sb rs ra imm => Sys2Proof.Machine.execSb rs ra imm s
  | .beq ra rb imm => Sys2Proof.Machine.execBeq ra rb imm s
  | .bne ra rb imm => Sys2Proof.Machine.execBne ra rb imm s
  | .blt ra rb imm => Sys2Proof.Machine.execBlt ra rb imm s
  | .bge ra rb imm => Sys2Proof.Machine.execBge ra rb imm s
  | .bltu ra rb imm => Sys2Proof.Machine.execBltu ra rb imm s
  | .bgeu ra rb imm => Sys2Proof.Machine.execBgeu ra rb imm s
  | .j imm => Sys2Proof.Machine.execJ imm s
  | .jal imm => Sys2Proof.Machine.execJal imm s
  | .jr ra => Sys2Proof.Machine.execJr ra s
  | .jalr rd ra imm => Sys2Proof.Machine.execJalr rd ra imm s
  | .reti => Sys2Proof.Machine.execReti s
  | .trap code => Sys2Proof.Machine.execTrap code s
  | .wfi => Sys2Proof.Machine.execWfi s
  | .csrr rd csr => Sys2Proof.Machine.execCsrr rd csr s
  | .csrw csr ra => Sys2Proof.Machine.execCsrw csr ra s
  | .csrs csr ra => Sys2Proof.Machine.execCsrs csr ra s
  | .csrc csr ra => Sys2Proof.Machine.execCsrc csr ra s
  | .qpush rd ra rb k => Sys2Proof.Machine.execQpush rd ra rb k s
  | .illegalInstruction word => Sys2Proof.Machine.execIllegalInstruction word s
  | .wdtFeed ra => Sys2Proof.Machine.execWdtFeed ra s
  | .timeLoRead rd => Sys2Proof.Machine.execTimeLoRead rd s
  | .tcmpArm ra => Sys2Proof.Machine.execTcmpArm ra s
  | .interruptEntry => Sys2Proof.Machine.execInterruptEntry s
  | .tmrExpiry t => Sys2Proof.Machine.execTmrExpiry t s
  | .tcmpMatch => Sys2Proof.Machine.execTcmpMatch s
  | .watchdogExpiry => Sys2Proof.Machine.execWatchdogExpiry s
  | .svRestart src => Sys2Proof.Machine.execSvRestart src s
  | .svReloadDone => Sys2Proof.Machine.execSvReloadDone s
  | .svHaltCommand src => Sys2Proof.Machine.execSvHaltCommand src s
  | .ledgerLoad => Sys2Proof.Machine.execLedgerLoad s
  | .ledgerIntervalExpiry => Sys2Proof.Machine.execLedgerIntervalExpiry s
  | .ledgerWriteDone ok => Sys2Proof.Machine.execLedgerWriteDone ok s
  | .ledgerSnap src => Sys2Proof.Machine.execLedgerSnap src s
  | .ledgerClrAxis src n => Sys2Proof.Machine.execLedgerClrAxis src n s
  | .ledgerSecond => Sys2Proof.Machine.execLedgerSecond s
  | .ledgerFold => Sys2Proof.Machine.execLedgerFold s
  | .calendarSecond => Sys2Proof.Machine.execCalendarSecond s
  | .calSet src val => Sys2Proof.Machine.execCalSet src val s
  | .calSetApply => Sys2Proof.Machine.execCalSetApply s
  | .calendarFollow gm => Sys2Proof.Machine.execCalendarFollow gm s
  | .msgRead src addr count => Sys2Proof.Machine.execMsgRead src addr count s
  | .msgWrite src addr val => Sys2Proof.Machine.execMsgWrite src addr val s
  | .msgSubscribe src sub => Sys2Proof.Machine.execMsgSubscribe src sub s
  | .msgEvent src records => Sys2Proof.Machine.execMsgEvent src records s
  | .msgPush src q prio bytes => Sys2Proof.Machine.execMsgPush src q prio bytes s
  | .msgTraceRead src probe count first => Sys2Proof.Machine.execMsgTraceRead src probe count first s
  | .subscriptionDelivery q => Sys2Proof.Machine.execSubscriptionDelivery q s
  | .evRaise src val => Sys2Proof.Machine.execEvRaise src val s
  | .evDump src => Sys2Proof.Machine.execEvDump src s
  | .svcSend len msg crc => Sys2Proof.Machine.execSvcSend len msg crc s
  | .svcRecv clocked => Sys2Proof.Machine.execSvcRecv clocked s
  | .svcStat => Sys2Proof.Machine.execSvcStat s
  | .registerWrite src addr val => Sys2Proof.Machine.execRegisterWrite src addr val s
  | .vbatLowChange low => Sys2Proof.Machine.execVbatLowChange low s
  | .settleQuietTimeout => Sys2Proof.Machine.execSettleQuietTimeout s
  | .planComputed peers => Sys2Proof.Machine.execPlanComputed peers s
  | .placeInputTimeout node => Sys2Proof.Machine.execPlaceInputTimeout node s
  | .jtagExtest cells => Sys2Proof.Machine.execJtagExtest cells s

end Sys2Proof.Machine
end

