-- ==== Sys2Proof/WellFormed.lean ====
section
/-!
DEFINITION. Which operands a command can carry: the widths of the fields of messages, frames, ports and instruction words
that bring them. The machine gives every command a meaning, well-formed or not; no sender can send the others.
-/

namespace Sys2Proof

open Machine (ObjId objRow locate objWords)

/-- The sender of a message is a node of the fabric (R293). -/
def Src.wf : Src → Bool
  | .fabric _ node _ _ _ => decide (node < 64)
  | _ => true

/-- A value that the words of an object carry (R396, R409). -/
def fitsObj (o : ObjId) (val : Nat) : Bool := decide (val < 2 ^ (32 * objWords o))

/-- A value that a write of the object at an address carries; at no object's address, of one word. -/
def fitsAt (addr : Word) (val : Nat) : Bool :=
  match locate addr.toNat with
  | some (o, _) => fitsObj o val
  | none => decide (val < 2 ^ 32)

/-- The object of a filter chain (R122). -/
def ChainId.obj : ChainId → ObjId
  | .sq _ => .axFltSq
  | .sine _ => .axFltSine
  | .cur _ => .axFltCur
  | .aux _ => .devFltAux

/-- A frame on a link: at most 16 + 256 + 8 + 4 bytes (R282). -/
def Frame.wf (f : Frame) : Bool := decide (f.bytes.length ≤ 284)

/-- The numbers of a binding record (R43). -/
def Binding.wf (b : Binding) : Bool :=
  decide (b.template ≤ 3) && decide (b.axis < 48) && decide (b.node < 64) && decide (b.paxis < 48)

/-- What a peer publishes (R310). -/
def PeerInput.wf (p : PeerInput) : Bool :=
  decide (p.node < 64) && decide (p.role ≤ 2) && decide (p.ssc ≤ 3) && p.bindings.all Binding.wf
    && p.axes.all (fun a => decide (a.axis < 48)) && p.queues.all (fun q => decide (0x1000 ≤ q ∧ q ≤ 0xFFFE))

/-- The shifts have a count below 32 (R360). -/
def shiftFits (imm : BitVec 18) : Bool := decide (imm.toNat < 32)

/-- A command some sender can send. -/
def Instr.wf : Instr → Bool
  | .jtagObjectAccess _ addr val => fitsAt addr val
  | .resetRequest src _ => src.wf
  | .modeRequest src _ => src.wf
  | .testRunDone r => r.loads.all (fun x => decide (x.1 < 48))
  | .imageWriteBegin src slot len => src.wf && decide (slot < 256) && decide (len < 2 ^ 32)
  | .imageWriteData src slot off bytes =>
    src.wf && decide (slot < 256) && decide (off < 2 ^ 32) && decide (bytes.length ≤ 224)
  | .imageWriteEnd src slot => src.wf && decide (slot < 256)
  | .imageWriteSwitch src slot => src.wf && decide (slot < 256)
  | .trimWriteOpen src kind => src.wf && decide (kind < 256)
  | .trimWriteData src off bytes => src.wf && decide (off < 2 ^ 32) && decide (bytes.length ≤ 224)
  | .trimWriteCommit src _ => src.wf
  | .trimWriteClose src => src.wf
  | .otpWrite src obj val =>
    src.wf && decide (val < 2 ^ (match obj with | .lock => 32 | .khash => 256 | .fkey => 128))
  | .excTimingWrite src _ _ _ => src.wf
  | .excGroupStop src _ => src.wf
  | .excGroupStart src _ => src.wf
  | .sqRetry src _ => src.wf
  | .muxSourceWrite src _ _ _ => src.wf
  | .auxSourceWrite src _ _ => src.wf
  | .filterChainWrite src chain val => src.wf && fitsObj chain.obj val
  | .posSetWrite src _ _ => src.wf
  | .encResync src _ => src.wf
  | .axisModeRequest src _ _ => src.wf
  | .paramWrite src _ _ _ => src.wf
  | .pairSetWrite src _ _ _ => src.wf
  | .traceArm src => src.wf
  | .traceStop src => src.wf
  | .pwmTimingWrite src _ val => src.wf && fitsObj .axPwmTim val
  | .sscWrite src _ => src.wf
  | .tripRearm src _ => src.wf
  | .tripCfgWrite src _ _ => src.wf
  | .excDrvWrite src _ val => src.wf && fitsObj .axExcDrv val
  | .monSpanWrite src _ _ => src.wf
  | .queuePush _ _ _ r => decide (1 ≤ r.length ∧ r.length ≤ 120)
  | .queuePeek _ k => decide (k < 2 ^ 16)
  | .queueDiscard _ m => decide (m < 2 ^ 16)
  | .queueResetRequest src _ => src.wf
  | .queueNoticeRead src _ => src.wf
  | .helloReceive _ f => f.wf
  | .joinReceive _ f => f.wf
  | .fabUnquar src _ => src.wf
  | .linkReconfigure src _ _ => src.wf
  | .frameReceive _ f => f.wf
  | .lsrReceive _ f => f.wf
  | .routeFailReceive _ f => f.wf
  | .tsyncRequestReceive _ f => f.wf
  | .tsyncResponseReceive _ f => f.wf
  | .fabCmdSync src => src.wf
  | .syncReceive _ f => f.wf
  | .flowEntryExpiry key => decide (key.node < 64) && decide (key.srcQ < 2 ^ 16) && decide (key.dstQ < 2 ^ 16)
      && decide (key.cls < 4)
  | .placeHashCompare hashes => hashes.all (fun h => decide (h.node < 64))
  | .twinFrameReceive _ f => f.wf
  | .twinAbsenceTimeout member => decide (member < 2)
  | .shli _ _ imm => shiftFits imm
  | .shri _ _ imm => shiftFits imm
  | .srai _ _ imm => shiftFits imm
  | .svRestart src => src.wf
  | .svHaltCommand src => src.wf
  | .ledgerSnap src => src.wf
  | .ledgerClrAxis src _ => src.wf
  | .calSet src _ => src.wf
  | .calendarFollow gm => decide (gm < 2 ^ 128)
  | .msgRead src _ count => src.wf && decide (count < 256)
  | .msgWrite src addr val => src.wf && fitsAt addr val
  | .msgSubscribe src b => src.wf && decide (b.dstNode < 256) && decide (b.rsize < 256)
  | .msgEvent src records =>
    src.wf && decide (records.length % 16 = 0) && decide (16 ≤ records.length ∧ records.length ≤ 224)
  | .msgPush src _ _ bytes => src.wf && decide (bytes.length % 2 = 0) && decide (2 ≤ bytes.length ∧ bytes.length ≤ 228)
  | .msgTraceRead src _ _ _ => src.wf
  | .evRaise src _ => src.wf
  | .evDump src => src.wf
  | .svcSend len _ _ => decide (len < 2 ^ 16)
  | .registerWrite src addr val => src.wf && fitsAt addr val
  | .planComputed peers => peers.all PeerInput.wf
  | .placeInputTimeout node => decide (node < 64)
  | .porstAssert _ => true
  | .railResetCrossing _ => true
  | .railWarningCrossing _ => true
  | .warningRelease _ => true
  | .railInRange _ => true
  | .internalResetRelease _ => true
  | .pllLock => true
  | .coreClockLoss => true
  | .referenceClockLoss => true
  | .pwmClockLoss => true
  | .convClockLoss => true
  | .rtcOscillatorStop => true
  | .rtcOscillatorRestart => true
  | .jtagReset => true
  | .modeTransition => true
  | .discoverTimeout => true
  | .drvSettleExpiry => true
  | .stopLimitExpiry => true
  | .flashProbeDone _ => true
  | .slotAttemptDone => true
  | .imageEraseDone => true
  | .imageDataProgrammed => true
  | .imageReadbackDone => true
  | .trimProgramDone _ => true
  | .trimSwitch => true
  | .otpProgramDone => true
  | .excEdge _ => true
  | .sineDriverUpdate => true
  | .holdStrobe _ => true
  | .conversionDone _ _ => true
  | .filterSlotRead _ _ => true
  | .rangeChange _ _ => true
  | .muxSwitch _ _ => true
  | .cmFaultOnset _ => true
  | .cmFaultEnd _ => true
  | .clampConduction _ => true
  | .auxoUpdate _ => true
  | .frameRealign => true
  | .filterChainSwitch _ => true
  | .observerStep _ => true
  | .encFrameMark _ => true
  | .encEdge _ => true
  | .axisModeChange _ => true
  | .paramLanding _ => true
  | .gearDataLost _ => true
  | .precompute _ => true
  | .slowPathDone _ _ => true
  | .completion _ _ => true
  | .lateFlag _ => true
  | .traceSample _ => true
  | .shadowLoad _ _ => true
  | .sscSettled => true
  | .tripSourceOnset _ _ => true
  | .safeLowSideOn _ => true
  | .tripSourceEnd _ _ => true
  | .drvMonSample _ => true
  | .excDetectorInterval _ _ _ => true
  | .monSample _ => true
  | .monSpanDone _ => true
  | .monDetect _ _ _ => true
  | .queuePop _ _ => true
  | .sweepPassStart => true
  | .sweepPassEnd => true
  | .freeListRebuildDone => true
  | .sortedPop _ _ => true
  | .linkTrainStart _ => true
  | .linkTrainingTimeout _ => true
  | .linkBlockLock _ => true
  | .trainLockTimeout _ => true
  | .helloSend _ => true
  | .joinSend _ => true
  | .joinTimeout _ => true
  | .quarTimeout _ => true
  | .downTimeout _ => true
  | .linkLoss _ _ => true
  | .ackReceive _ _ => true
  | .nakReceive _ _ => true
  | .creditReceive _ _ => true
  | .downWordReceive _ _ => true
  | .creditSendTimer _ => true
  | .replayTimeout _ => true
  | .frameTransmit _ => true
  | .lsrSend => true
  | .lsrExpiry _ => true
  | .tsyncRequestSend _ => true
  | .syncPeriodExpiry => true
  | .congestionOnset _ _ => true
  | .staleDiscard _ _ => true
  | .placeAttemptStart => true
  | .placeRetryTimer => true
  | .replacementStart => true
  | .replacementTimeout => true
  | .laneRetry _ _ => true
  | .laneSelfTest _ => true
  | .twinFrameSend _ => true
  | .releaseReceive _ _ => true
  | .twinOkInLow => true
  | .handoverTimeout => true
  | .resyncTimeout => true
  | .resyncRetry => true
  | .add _ _ _ => true
  | .sub _ _ _ => true
  | .and _ _ _ => true
  | .or _ _ _ => true
  | .xor _ _ _ => true
  | .shl _ _ _ => true
  | .shr _ _ _ => true
  | .sra _ _ _ => true
  | .slt _ _ _ => true
  | .sltu _ _ _ => true
  | .mul _ _ _ => true
  | .mulh _ _ _ => true
  | .div _ _ _ => true
  | .divu _ _ _ => true
  | .rem _ _ _ => true
  | .addi _ _ _ => true
  | .andi _ _ _ => true
  | .ori _ _ _ => true
  | .slti _ _ _ => true
  | .lui _ _ => true
  | .lw _ _ _ => true
  | .lh _ _ _ => true
  | .lhu _ _ _ => true
  | .lb _ _ _ => true
  | .lbu _ _ _ => true
  | .sw _ _ _ => true
  | .sh _ _ _ => true
  | .sb _ _ _ => true
  | .beq _ _ _ => true
  | .bne _ _ _ => true
  | .blt _ _ _ => true
  | .bge _ _ _ => true
  | .bltu _ _ _ => true
  | .bgeu _ _ _ => true
  | .j _ => true
  | .jal _ => true
  | .jr _ => true
  | .jalr _ _ _ => true
  | .reti => true
  | .trap _ => true
  | .wfi => true
  | .csrr _ _ => true
  | .csrw _ _ => true
  | .csrs _ _ => true
  | .csrc _ _ => true
  | .qpush _ _ _ _ => true
  | .illegalInstruction _ => true
  | .wdtFeed _ => true
  | .timeLoRead _ => true
  | .tcmpArm _ => true
  | .interruptEntry => true
  | .tmrExpiry _ => true
  | .tcmpMatch => true
  | .watchdogExpiry => true
  | .svReloadDone => true
  | .ledgerLoad => true
  | .ledgerIntervalExpiry => true
  | .ledgerWriteDone _ => true
  | .ledgerSecond => true
  | .ledgerFold => true
  | .calendarSecond => true
  | .calSetApply => true
  | .subscriptionDelivery _ => true
  | .svcRecv _ => true
  | .svcStat => true
  | .vbatLowChange _ => true
  | .settleQuietTimeout => true
  | .jtagExtest _ => true

end Sys2Proof
end

