-- ==== Sys2Proof/Safety.lean ====
section
/-!
DEFINITION. The terms statements are made in: the canonical form of the memories, which commands act without the CORE clock,
what the records and answers of a command may change beside its effect, what the outputs of the device show, and when the
supervisor core runs an instruction to its end.
-/

namespace Sys2Proof.Machine

/-! ## Memories -/

/-- The canonical form of a byte memory: addresses rising, and no entry equal to what an unlisted address reads as. -/
def Memory.wf (d : Byte) (m : List Host.Cell) : Bool := mwf d m

/-- The memories that no reset clears are in their canonical form (R34, R56, R380). -/
def NvCanonical (s : State) : Prop :=
  Memory.wf 0xFF s.nv.flash = true ∧ Memory.wf 0 s.nv.trim = true ∧ Memory.wf 0 s.nv.ledgMem = true

/-! ## Commands that act whether or not the CORE clock runs (R23, R64 to R69, R87, R391, R412, R429) -/

/-- Supplies, resets, the clock monitors, the RTC domain, the trip logic and the pins; the service port, which answers nothing
while its core does not run, checks for itself. -/
def outsideCore : Instr → Bool
  | .porstAssert _ | .railResetCrossing _ | .railInRange _ | .railWarningCrossing _ | .warningRelease _
  | .vbatLowChange _ | .internalResetRelease _ | .jtagReset | .pllLock | .calendarSecond | .calSetApply
  | .rtcOscillatorStop | .rtcOscillatorRestart | .jtagExtest _ | .tripSourceOnset _ _ | .tripSourceEnd _ _ => true
  | _ => false

/-! ## Frames -/

/-- The keys of the four objects that pushing event records and replies can change: QM_CNT, EV_STAT, TRC_STAT and
TRC_TIME. -/
def recordKeys : List Nat := [objKey .devQmCnt 0, objKey .devEvStat 0, objKey .devTrcStat 0, objKey .devTrcTime 0]

/-- `t` is `s` but for what pushing records and replies changes: the queues, the trace probes an event can trigger, the
event lists, the framing of replies, and the objects of `recordKeys`. -/
structure Quiet (s t : State) : Prop where
  regs : ∀ k d, k ∉ recordKeys → mget d t.regs k = mget d s.regs k
  rest : { t with regs := s.regs, qm := s.qm, probes := s.probes, ctl := s.ctl, msg := s.msg } = s
  ctl : { t.ctl with evNew := s.ctl.evNew, evPre := s.ctl.evPre, evLog := s.ctl.evLog } = s.ctl
  msg : { t.msg with
    svcLens := s.msg.svcLens, svcHead := s.msg.svcHead, replies := s.msg.replies, repHead := s.msg.repHead } = s.msg

/-- `t` is `s` but for records, and for the messages: taken, held, released and answered. -/
def Answered (s t : State) : Prop := ∃ m, Quiet { s with msg := m } t

/-- `t` is `s` but for the objects of `ks` and for records. -/
def Only (ks : List Nat) (s t : State) : Prop :=
  ∃ r, (∀ k d, k ∉ ks → mget d r k = mget d s.regs k) ∧ Quiet { s with regs := r } t

/-- The keys of an object on every axis. -/
def axKeys (o : ObjId) : List Nat := (List.range 48).map (objKey o)

/-- Nothing waits to be pushed: how every command leaves the events but one that sets off a chain of them. -/
def Calm (s : State) : Prop := s.ctl.evNew = []

/-! ## Completion -/

/-- Command `c` runs to a next state that satisfies `P`. -/
def Completes (s : State) (c : Instr) (P : State → Prop) : Prop := ∃ t, exec c s = .next t ∧ P t

/-- Command `c` leaves `u`, but for records. -/
def Ends (s : State) (c : Instr) (u : State) : Prop := Completes s c (Quiet u)

/-- Command `c` leaves `u`, but for records and messages. -/
def EndsAnswered (s : State) (c : Instr) (u : State) : Prop := Completes s c (Answered u)

/-- What an internal reset with cause bits `b` leaves: everything at its reset value but RED_CFG, the supplies and the
memories that no reset clears (R68, R69). -/
structure ResetDone (s t : State) (b : Nat) : Prop where
  held : t.pwr.rst = true ∧ t.pwr.locked = false
  objs : ∀ o i, objKey o i ≠ objKey .devRedCfg 0 → getObj t o i = objReset o i
  rest : { t with regs := [], pwr := State.reset.pwr, nv := State.reset.nv, ctl := { t.ctl with freeCnt := 0 } }
    = { State.reset with pending := s.pending }
  cause : t.nv.cause = if s.pwr.rst then s.nv.cause ||| b else b + if s.pwr.coreLost then 2048 else 0
  keeps : s.load.jobs = [] → s.ledg.write = none → { t.nv with rtc := s.nv.rtc, cause := s.nv.cause } = s.nv
  rtc : rtcDead t = false → t.nv.rtc = s.nv.rtc

/-! ## Writes -/

/-- A write: who sends it, the object and its instance, the word written. -/
structure WriteReq where
  src : Src
  obj : ObjId
  inst : Nat
  word : Nat
  deriving DecidableEq, Repr

/-- The object at an address that a message of `src` may name. -/
def namedAt (s : State) (src : Src) (addr : Nat) : Option (ObjId × Nat) := if nodeOk s src addr then locate addr else none

/-- The write a command is, where it is one and names an object that exists. -/
def writeOf (s : State) : Instr → Option WriteReq
  | .excTimingWrite src g phase v => some ⟨src, if phase then .devExcPhase else .devExcGrp, g, v.toNat⟩
  | .excGroupStop src g => some ⟨src, .devExcGrp, g, setBits (getObj s .devExcGrp g) 31 1 0⟩
  | .excGroupStart src g => some ⟨src, .devExcGrp, g, setBits (getObj s .devExcGrp g) 31 1 1⟩
  | .sqRetry src n => some ⟨src, .axExcCtl, n, setBits (getObj s .axExcCtl n) 6 1 1⟩
  | .muxSourceWrite src n cur v =>
    some ⟨src, .axFeCtl, n, fset (getObj s .axFeCtl n) (if cur then F.axFeCtl_ISRC else F.axFeCtl_RSRC) v.toNat⟩
  | .auxSourceWrite src k v => some ⟨src, .devAuxCtl, k, setBits (setBits (getObj s .devAuxCtl k) 0 3 v.toNat) 16 1 0⟩
  | .excDrvWrite src n v => some ⟨src, .axExcDrv, n, v⟩
  | .monSpanWrite src c v => some ⟨src, .monCtl, c, v.toNat⟩
  | .filterChainWrite src chain v => some ⟨src, (chainAt chain).1, (chainAt chain).2, v⟩
  | .posSetWrite src n p => some ⟨src, .axPosSet, n, p.toNat⟩
  | .encResync src k => some ⟨src, .devEncCmd, k, 1⟩
  | .axisModeRequest src n m => some ⟨src, .axMode, n, m.toNat * 16⟩
  | .paramWrite src n p v => some ⟨src, (wordObj n p).1, (wordObj n p).2, v.toNat⟩
  | .pairSetWrite src n a b => some ⟨src, .axPairSet, n, a.toNat + b.toNat * 2 ^ 64⟩
  | .traceArm src => some ⟨src, .devTrcCtl, 0, setBits (getObj s .devTrcCtl 0) 0 2 1⟩
  | .traceStop src => some ⟨src, .devTrcCtl, 0, setBits (getObj s .devTrcCtl 0) 0 2 2⟩
  | .pwmTimingWrite src n v => some ⟨src, .axPwmTim, n, v⟩
  | .sscWrite src v => some ⟨src, .devPwmCfg, 0, v.toNat⟩
  | .tripRearm src n => some ⟨src, .axTripCmd, n, 1⟩
  | .tripCfgWrite src n v => some ⟨src, .axTripCfg, n, v.toNat⟩
  | .queueResetRequest src q => some ⟨src, .qPop, q.toNat, 2 ^ 72⟩
  | .fabUnquar src m => some ⟨src, .devFabCmd, 0, m.toNat * 2 ^ 8⟩
  | .linkReconfigure src p v => some ⟨src, .lkCfg, p, v.toNat⟩
  | .fabCmdSync src => some ⟨src, .devFabCmd, 0, 1⟩
  | .svRestart src => some ⟨src, .devSvCmd, 0, 1⟩
  | .svHaltCommand src => some ⟨src, .devSvCmd, 0, 2⟩
  | .ledgerSnap src => some ⟨src, .devLedgCmd, 0, 1⟩
  | .ledgerClrAxis src n => some ⟨src, .devLedgCmd, 0, 2 + n.val * 4⟩
  | .calSet src v => some ⟨src, .devCalSet, 0, v.toNat⟩
  | .evRaise src v => some ⟨src, .devEvRaise, 0, v.toNat⟩
  | .evDump src => some ⟨src, .devEvCmd, 0, 1⟩
  | .otpWrite src o v => some ⟨src, otpAt o, 0, v⟩
  | .modeRequest src m => some ⟨src, .devModeReq, 0, m.toNat⟩
  | .resetRequest src c => some ⟨src, .devModeReq, 0, c.toNat * 2 ^ 16⟩
  | .registerWrite src a v => (namedAt s src a.toNat).map (fun x => ⟨src, x.1, x.2, v⟩)
  | .msgWrite src a v => (namedAt s src a.toNat).map (fun x => ⟨src, x.1, x.2, v⟩)
  | .jtagObjectAccess true a v => (namedAt s .jtag a.toNat).map (fun x => ⟨.jtag, x.1, x.2, v⟩)
  | _ => none

/-- A write is accepted, for the device it is sent to: there is room for its message, no rule refuses it, and it is not one that
a follower forwards. -/
structure Accepts (s : State) (w : WriteReq) : Prop where
  core : coreRuns s = true
  room : tooMany (takeMsg s w.src) w.src = false
  judged : judge (takeMsg s w.src) w.src w.obj w.inst w.word = 0
  here : forwards (takeMsg s w.src) w.obj w.inst = false

/-- Command `c` is a write of `w`, and is accepted. -/
def Writes (s : State) (c : Instr) (w : WriteReq) : Prop := writeOf s c = some w ∧ Accepts s w

/-- Objects whose write does more than store the word, or stores it elsewhere. -/
def specialObjs : List ObjId :=
  [.axExcCtl, .devAuxoCtl, .devEncCtl, .devEncCmd, .axTrkCtl, .axPosSet, .axMode, .axPairSet, .axSpecCtl, .axTelCfg,
    .axLoopCfg, .axPwmTim, .axPwmLead, .axPwmCfg, .devTrcCtl, .axTripCfg, .axTripCmd, .devTripIn, .devPwmCfg, .monCtl,
    .qCfg, .qPop, .lkCfg, .devFabCmd, .devRedCfg, .devSvCtl, .devSvCmd, .devLedgCmd, .devCal, .devCalSet, .devModeReq,
    .devEvCmd, .devEvRaise, .devOtpLock, .devOtpKhash, .devOtpFkey, .axCoef, .axShift, .axLim]

/-! ## Queues -/

/-- Halfwords packed into a word, the first lowest (R260). -/
def packed : List QWord → Nat
  | [] => 0
  | h :: hs => h.1.toNat + 2 ^ 16 * packed hs

/-- A pool queue that is enabled, holds nothing, and has neither a marker nor marks set: its next record starts a cell. -/
structure EmptyQueue (s : State) (q : Nat) : Prop where
  pool : isPool q = true
  held : (qd s q).held = 0 ∧ (qd s q).mark = none ∧ (qd s q).resetting = none
  on : 1 ≤ (qd s q).quota
  sound : descFault (qd s q) = none
  marks : (qd s q).wmHi = 0 ∧ (qd s q).wmLo = 0
  cells : canSupply s.qm 1 = true

/-! ## Fabric -/

/-- Command `c` leaves what follows a state of which `P` holds: duplicates' ports, lost twin links and settling come after it. -/
def FabEnds (s : State) (c : Instr) (P : State → Prop) : Prop := ∃ u, P u ∧ Ends s c (fabEnd s u)

/-- What is received on link `p` as command `c` of kind `k`: a frame of another kind is not this command's and changes nothing; one
that fails a check leaves what the checks did; one that passes leaves `u` of what the checks did and the frame. -/
structure Receives (s : State) (p : Fin 8) (f : Frame) (k : Nat) (c : Instr) (u : State → Taken → State) : Prop where
  other : frameKind f ≠ k → Ends s c s
  fails : frameKind f = k → (frameIn s p f).2 = none → Ends s c (fabEnd s (frameIn s p f).1)
  passes : ∀ x, frameKind f = k → (frameIn s p f).2 = some x → Ends s c (fabEnd s (u (frameIn s p f).1 x))

/-- Command `c` is a fault of placement for reason `why`: it is counted, to at most 10, the attempt ends, the plan in force stays,
and the tenth in PLACE leads to LATCH (R321, R323). -/
def PlaceFails (s : State) (c : Instr) (why : Nat) : Prop :=
  Ends s c (placeFault s why) ∧ Completes s c (fun t => t.place.run = none ∧ t.place.next = none ∧ t.place.plan = s.place.plan ∧
    rd t F.devPlaceStat_STATE 0 = 4 ∧ rd t F.devPlaceStat_REASON 0 = why % 16 ∧
    rd t F.devPlaceStat_ATTEMPTS 0 = min 10 (rd s F.devPlaceStat_ATTEMPTS 0 + 1) ∧
    t.ctl.trigs = s.ctl.trigs ++ if mode s = mPlace ∧ 9 ≤ rd s F.devPlaceStat_ATTEMPTS 0 then [⟨mLatch, 8, none⟩] else [])

/-! ## Outputs -/

/-- Every gate output of axis `n` is low (R66, R84). -/
def gatesLow (s : State) (n : Nat) : Prop :=
  switching s n = false ∧ ∀ leg, lowSideOn s n leg = false

/-! ## The supervisor core -/

/-- The core is at an instruction boundary, the word at PC can be fetched, and no interrupt is eligible: the next instruction
runs to its end unless it faults (R374). -/
structure SvGoes (s : State) : Prop where
  core : coreRuns s = true
  ready : svReady s = true
  fetch : svFetchFault s = none
  quiet : svEligible s (svNow s) = none
  calm : Calm s

/-- Clocks an instruction waits for the result of the one before (R362). -/
def svWait (s : State) (srcs : List Reg) : Nat := match s.sv.late with | some r => b2n (srcs.contains r) | none => 0

/-- The core after an instruction that took `k` clocks and the wait for its sources. -/
def svAfter (s : State) (srcs : List Reg) (k : Nat) (f : Sv → Sv) : State :=
  { s with sv := f { s.sv with wfi := false, late := none, clocks := s.sv.clocks + k + svWait s srcs } }

/-- Register `r` of a core. -/
def svW (s : State) (r : Reg) : Word := s.sv.w[r]

/-- The core as an instruction is issued: nothing waits for a result any more (R362, R373). -/
def svIssued (s : State) : State := { s with sv := { s.sv with wfi := false, late := none } }

/-- A result goes into a register, and PC to the next instruction. -/
def svPut (rd : Reg) (v : Word) (c : Sv) : Sv := { c with w := c.w.set rd v, pc := c.pc + 4 }

/-- A command of the supervisor core whose result goes into `rd` with `v`, after `k` clocks and the wait for its sources. -/
def SvGives (s : State) (c : Instr) (srcs : List Reg) (k : Nat) (rd : Reg) (v : Word) : Prop :=
  exec c s = .next (svAfter s srcs k (svPut rd v))

/-- A transfer of the supervisor core: it goes to its target, or faults where that is no place for an instruction. -/
def SvGoesTo (s : State) (c : Instr) (srcs : List Reg) (target : Word) (f : Sv → Sv) : Prop :=
  (target.toNat % 4 = 0 → target.toNat < svSize → exec c s = .next (svAfter s srcs 3 (fun x => f { x with pc := target }))) ∧
  (target.toNat % 4 ≠ 0 ∨ svSize ≤ target.toNat → exec c s = done (svFault (svIssued s) 4 target.toNat s.sv.pc))

/-- A conditional branch: `b` says whether it is taken. -/
def SvBranches (s : State) (c : Instr) (ra rb : Reg) (off : BitVec 18) (b : Bool) : Prop :=
  (b = true → SvGoesTo s c [ra, rb] (s.sv.pc + 4 + off.signExtend 32 <<< 2) id) ∧
  (b = false → exec c s = .next (svAfter s [ra, rb] 1 (fun x => { x with pc := x.pc + 4 })))

/-- A load of `n` bytes from the SRAM gives `v`, a clock later than other results. -/
def SvLoads (s : State) (c : Instr) (rd ra : Reg) (a n : Nat) (v : Word) : Prop :=
  a + n ≤ svSize → svParity s a n = none → exec c s = .next (svAfter s [ra] (1 + splitCost a n) (fun x =>
    { svPut rd v x with late := some rd }))

/-- A store of `n` bytes into the SRAM. -/
def SvStores (s : State) (c : Instr) (rs ra : Reg) (a n : Nat) : Prop :=
  a + n ≤ svSize → svProtected s a n = false →
    exec c s = .next (svAfter s [rs, ra] (1 + splitCost a n + windowCost s a n) (fun x => { x with
      mem := memWrite 0 x.mem a (leBytes n (svW s rs).toNat)
      badPar := x.badPar.filter (fun k => !(svWords a n).contains k)
      pc := x.pc + 4 }))

end Sys2Proof.Machine
end

