-- ==== Sys2Proof/Certificates/Slice0/Obligations.lean ====
section
/-!
DEFINITION. The statements about this model, in the order of the spec's chapters. Each says for every state and operands that
meet its premises what a command leaves.
-/

open Sys2Proof Sys2Proof.Machine


/-! ## The block -/

/-- A step runs the command at the front of the queue on the queue's rest. On an empty queue one CORE cycle passes: the frame
grid's time advances by its rate while CORE runs and the cells freed in the cycle return to the pool, and nothing else changes (the
model's choice, log entry 2). -/
def Obligations.StepRunsFront : Prop :=
  (∀ (c : Instr) (cs : List Instr) (s : State), step { s with pending := c :: cs } = exec c { s with pending := cs }) ∧
  ∀ s : State, s.pending = [] →
    (coreRuns s = true → step s = .next { s with
      ctl := { s.ctl with time := s.ctl.time + s.ctl.rate }, qm := { s.qm with freed := [], popped := [] } }) ∧
    (coreRuns s = false → step s = .next s)

/-- Every command ends in a next state from every state: no fault and no refusal. While CORE does not run (under the
internal reset, or after its clock is lost) a command of the CORE domain changes nothing but records that waited. -/
def Obligations.NoCommandStops : Prop :=
  (∀ (c : Instr) (s : State), ∃ t, exec c s = .next t) ∧
  (∀ (c : Instr) (s : State), coreRuns s = false → outsideCore c = false → Ends s c s)

/-! ## Reset (R67 to R70) -/

/-- The machine at power-on: every object at its reset value, the internal reset asserted with the POWER_ON cause, the mode OFF,
the queue empty, the memories in their canonical form, every gate low. The rails and the memories are as log entries 3 to 5 choose
them. -/
def Obligations.ResetState : Prop :=
  (∀ o i, getObj State.reset o i = objReset o i) ∧ State.reset.pwr.rst = true ∧ State.reset.nv.cause = 1 ∧
  mode State.reset = mOff ∧ State.reset.pending = [] ∧ State.reset.axes = [] ∧ State.reset.qm = Qm.reset ∧
  NvCanonical State.reset ∧ ∀ n, gatesLow State.reset n

/-- A reset crossing of a rail, PORST_N low for 2 µs or more, and a reset through the test port assert the internal reset:
its own cause bits, everything else at its reset value but what no reset clears; every gate output is low. PORST_N low for
less than 1 µs never asserts the internal reset; between 1 µs and 2 µs it may or may not. -/
def Obligations.ResetClears : Prop :=
  (∀ s : State,
    Completes s .jtagReset (fun t => ResetDone s t 1024 ∧ ∀ n, gatesLow t n) ∧
    (∀ rail, Completes s (.railResetCrossing rail) (fun t => ResetDone s t (2 + 4 * railBit rail) ∧
      t.pwr.inRange = s.pwr.inRange &&& (31 - railBit rail) ∧ ∀ n, gatesLow t n)) ∧
    ∀ ns, 2000 ≤ ns →
      Completes s (.porstAssert ns) (fun t => ResetDone s t 128 ∧ t.pwr.porstLow = true ∧ ∀ n, gatesLow t n)) ∧
  (∀ (s : State) (ns : Nat),
    (ns < 1000 → Ends s (.porstAssert ns) (draw s)) ∧
    (1000 ≤ ns → ns < 2000 → Completes s (.porstAssert ns) (fun t => ResetDone s t 128 ∨ Quiet (draw s) t)))

/-- The supplies outside a reset: a rail comes into range, which for VDD_IO under reset may be a power-on; VBAT passes 2.00 V;
the internal reset is released once every rail is in range, and samples TWIN_ROLE; PLL lock takes the device into LOAD. -/
def Obligations.StartOfOperation : Prop :=
  ∀ s : State,
    (∀ rail, rail ≠ .io → Ends s (.railInRange rail) { s with pwr := { s.pwr with inRange := s.pwr.inRange ||| railBit rail } }) ∧
    Completes s (.railInRange .io) (fun t =>
      t.pwr = { s.pwr with inRange := s.pwr.inRange ||| 8 } ∧ t.regs = s.regs ∧
      (t.nv = s.nv ∨ s.pwr.rst = true ∧ bit s.pwr.inRange 3 = false ∧ t.nv = { s.nv with cause := 1 })) ∧
    (∀ low, (low = false ∨ bit s.pwr.inRange 3 = true) →
      Ends s (.vbatLowChange low) { s with pwr := { s.pwr with vbatLow := low } }) ∧
    (bit s.pwr.inRange 3 = false → Completes s (.vbatLowChange true) (fun t => t.nv.rtc.valid = false ∧ t.nv.rtc.sec = 0)) ∧
    (s.pwr.rst = true → s.pwr.inRange = 31 → ∀ role, Completes s (.internalResetRelease role) (fun t =>
      t.pwr = { s.pwr with
        rst := false, porstLow := false, twinRole := role.toNat, extest := none, porstGap := t.pwr.porstGap } ∧
      10000 ≤ t.pwr.porstGap ∧
      rd t F.devRedStat_STRAP 0 = role.toNat ∧ (∀ n < 48, rdB t F.axFeStat_EXC_LOW n = bit s.pwr.below 4) ∧
      Only (objKey .devRedStat 0 :: axKeys .axFeStat) { draw s with pwr := t.pwr } t)) ∧
    (s.pwr.rst = false → s.pwr.locked = false → Completes s .pllLock (fun t =>
      t.pwr = { s.pwr with locked := true } ∧ mode t = mLoad ∧ rd t F.devMode_PREV 0 = mode s ∧
      rd t F.devMode_CAUSE 0 = 0 ∧ (rdB t F.devTrimCtl_TRIM_BAD 0 = !trimGood s.nv.serial (trimStore s)) ∧
      Only [objKey .devMode 0, objKey .devTrimCtl 0] { s with pwr := t.pwr, load := t.load, sv := t.sv } t))

/-- Supply warnings: a crossing records the rail below its warning; with CORE not lost it sets WARN_SEEN, counts as a
brown-out in the ledger, and from the end of LOAD on in WARN_COUNT. While CORE runs EXC_LOW of every axis follows VDD_A5
and the supervisor's source 14 becomes pending; with the ledger loaded a crossing in RUN with BO_HOLD asks for HOLD with
cause 12, and no other asks for a mode. A release takes the rail back. Loss of the CORE clock or of the reference stops
CORE with every latch set by the source CLOCK, every axis but a DISABLED one in TRIPPED, and every gate and DRV_EN output
low; loss of the PWM clock does the same and asks for LATCH with cause 11; loss of the CONV clock trips the axes in
CURRENT to GEAR and asks for LATCH. -/
def Obligations.SupplyAndClocks : Prop :=
  (∀ (s : State) (rail : Rail),
    (s.pwr.coreLost = true → Ends s (.railWarningCrossing rail)
      { s with pwr := { s.pwr with below := s.pwr.below ||| railBit rail } }) ∧
    (s.pwr.coreLost = false → Completes s (.railWarningCrossing rail) (fun t =>
      t.pwr = { s.pwr with below := s.pwr.below ||| railBit rail } ∧ t.nv = s.nv ∧ mode t = mode s ∧
      rd t F.devSupply_WARN_SEEN 0 = rd s F.devSupply_WARN_SEEN 0 ||| railBit rail ∧
      rd t F.devSupply_WARN_COUNT 0 = (if mTest ≤ mode s then
        min (rd s F.devSupply_WARN_COUNT 0 + 1) (2 ^ F.devSupply_WARN_COUNT.w - 1) else rd s F.devSupply_WARN_COUNT 0) ∧
      rd t F.devLedger_BROWNOUTS 0 = min (rd s F.devLedger_BROWNOUTS 0 + 1) (2 ^ F.devLedger_BROWNOUTS.w - 1) ∧
      (coreRuns s = true → (∀ n < 48, rdB t F.axFeStat_EXC_LOW n = bit t.pwr.below 4) ∧
        (svRunning s = true → svPending t 14 = true)) ∧
      t.ctl.trigs = s.ctl.trigs ++ (if coreRuns s ∧ rdB s F.devLedgStat_LOADED 0 = true ∧ mode s = mRun ∧
        rdB s F.devModeCfg_BO_HOLD 0 = true then [⟨mHold, 12, none⟩] else []))) ∧
    (s.pwr.coreLost = false → rdB s F.devLedgStat_LOADED 0 = false → Completes s (.railWarningCrossing rail) (fun t =>
      Only (objKey .devSupply 0 :: objKey .devLedger 0 :: axKeys .axFeStat) { s with pwr := t.pwr, sv := t.sv } t)) ∧
    (coreRuns s = true → Completes s (.warningRelease rail) (fun t =>
      t.pwr = { s.pwr with below := s.pwr.below &&& (31 - railBit rail) } ∧
      (∀ n < 48, rdB t F.axFeStat_EXC_LOW n = bit t.pwr.below 4) ∧ Only (axKeys .axFeStat) { s with pwr := t.pwr } t)) ∧
    (coreRuns s = false → Ends s (.warningRelease rail) { s with pwr := { s.pwr with below := s.pwr.below &&& (31 - railBit rail) } })) ∧
  (∀ s : State, s.pwr.locked = true → s.pwr.rst = false → s.pwr.coreLost = false →
    (∀ c ∈ [Instr.coreClockLoss, Instr.referenceClockLoss], Completes s c (fun t =>
      t.pwr = { s.pwr with coreLost := true } ∧ rd t F.devDrvStat_EN 0 = 0 ∧ (∀ n, gatesLow t n) ∧
      (∀ n < 48, rdB t F.axTripStat_LATCH n = true ∧ bit (getObj t .axTripStat n) 16 = true ∧
        (rdB s F.axTripStat_LATCH n = false → axMode t n = if axMode s n = aDisabled then aDisabled else aTripped)) ∧
      (∀ c < 16, rdB t F.monStat_SAFE c = true) ∧ t.ctl.trigs = s.ctl.trigs ∧ t.nv = s.nv)) ∧
    (s.pwr.pwmLost = false → Completes s .pwmClockLoss (fun t =>
      t.pwr = { s.pwr with pwmLost := true } ∧ rd t F.devDrvStat_EN 0 = 0 ∧ (∀ n, gatesLow t n) ∧
      (∀ n < 48, rdB t F.axTripStat_LATCH n = true ∧ bit (getObj t .axTripStat n) 16 = true ∧
        (rdB s F.axTripStat_LATCH n = false → axMode t n = if axMode s n = aDisabled then aDisabled else aTripped)) ∧
      (∀ c < 16, rdB t F.monStat_SAFE c = true) ∧ t.ctl.trigs = s.ctl.trigs ++ [⟨mLatch, 11, none⟩] ∧ t.nv = s.nv)) ∧
    (s.pwr.convLost = false → Completes s .convClockLoss (fun t =>
      t.pwr = { s.pwr with convLost := true } ∧ t.ctl.trigs = s.ctl.trigs ++ [⟨mLatch, 11, none⟩] ∧
      (∀ n < 48, rdB s F.axTripStat_LATCH n = false → 3 ≤ axMode s n → axMode s n ≤ 6 → axMode t n = aTripped ∧ rdB t F.axTripStat_LATCH n = true) ∧
      t.nv = s.nv)))

/-! ## The calendar (R391 to R395) -/

/-- The calendar: a second of the running RTC counts, wraps with WRAPPED, and is 32,768 clocks long but for a count that is a
multiple of 64; a stopped one holds; a value of CAL_SET that has crossed sets the count and VALID and clears LAGGED; a follower
that differs sends the count after the grandmaster's; the oscillator's stop sets LAGGED and its restart resumes. -/
def Obligations.Calendar : Prop :=
  ∀ s : State, rtcDead s = false →
    (s.nv.rtc.running = true → Completes s .calendarSecond (fun t =>
      t.nv.rtc.sec = (s.nv.rtc.sec + 1) % 2 ^ 32 ∧ t.nv.rtc.valid = s.nv.rtc.valid ∧
      t.nv.rtc.wrapped = (s.nv.rtc.wrapped || decide ((s.nv.rtc.sec + 1) % 2 ^ 32 = 0)) ∧
      (t.nv.rtc.sec % 64 = 0 → (t.nv.rtc.clocks : Int) = 32768 - rdS s F.devCalCfg_TRIM 0) ∧
      (t.nv.rtc.sec % 64 ≠ 0 → t.nv.rtc.clocks = 32768) ∧
      (coreRuns s = true → rd t F.devCalEdge_EDGE 0 = nowNs s % 2 ^ 64) ∧
      Only [objKey .devCalEdge 0] { s with nv := { s.nv with rtc := t.nv.rtc } } t)) ∧
    (s.nv.rtc.running = false → Ends s .calendarSecond s) ∧
    (∀ v vs, s.nv.rtc.sets = v :: vs → Completes s .calSetApply (fun t =>
      t.nv.rtc.sec = v ∧ t.nv.rtc.valid = true ∧ t.nv.rtc.lagged = false ∧ t.nv.rtc.sets = vs ∧
      Only [objKey .devCalEdge 0] { s with nv := { s.nv with rtc := t.nv.rtc } } t)) ∧
    (∀ gm, coreRuns s = true → rdB s F.devCalCfg_CAL_SRC 0 = true → isGm s = false → rdB s F.devFabStat_TIME_LOCK 0 = true →
      bit gm 32 = true → (s.nv.rtc.valid = false ∨ s.nv.rtc.sec ≠ (gm % 2 ^ 32 + (nowNs s - gm / 2 ^ 64) / 10 ^ 9) % 2 ^ 32) →
      Ends s (.calendarFollow gm) { s with nv := { s.nv with rtc := { s.nv.rtc with sets := s.nv.rtc.sets ++
        [((gm % 2 ^ 32 + (nowNs s - gm / 2 ^ 64) / 10 ^ 9) % 2 ^ 32 + 1) % 2 ^ 32] } } }) ∧
    Ends s .rtcOscillatorStop { s with nv := { s.nv with rtc := { s.nv.rtc with running := false, lagged := true } } } ∧
    Ends s .rtcOscillatorRestart { s with nv := { s.nv with rtc := { s.nv.rtc with running := true } } }

/-! ## Device modes (R70 to R84) -/

/-- A frame boundary takes the trigger that ranks first among those R78 allows from the current mode: it is one of the waiting
triggers, allowed, and none of the allowed ones ranks before it; where none is allowed, none is taken. -/
def Obligations.BestTrigger : Prop :=
  ∀ (s : State) (l : List Trig),
    (∀ w, bestTrig s l = some w → w ∈ l ∧ modeAllows s w.target w.cause = true ∧
      ∀ u ∈ l, modeAllows s u.target u.cause = true → targetRank w.target ≤ targetRank u.target) ∧
    (bestTrig s l = none → ∀ u ∈ l, modeAllows s u.target u.cause = false)

/-- MODE_TRANSITION: with no allowed trigger the waiting ones lapse and nothing else happens; otherwise the device takes
the first-ranking one's mode, with the mode before and the cause in DEV.MODE; of the others the fault triggers for other
modes that were allowed and lost stay, and are weighed again at the next boundary. DEV.MODE after a change of mode: the
mode, the one before, the cause; nothing but DEV.MODE, the events and the supervisor's source 5 changes with them. -/
def Obligations.ModeTransition : Prop :=
  (∀ s : State, coreRuns s = true →
    (bestTrig s s.ctl.trigs = none → EndsAnswered s .modeTransition { s with ctl := { s.ctl with trigs := [] } }) ∧
    ∀ w, bestTrig s s.ctl.trigs = some w → EndsAnswered s .modeTransition
      { takeDevMode s w.target w.cause with ctl := { (takeDevMode s w.target w.cause).ctl with
          trigs := ((takeDevMode s w.target w.cause).ctl.trigs.erase w).filter
            (fun t => t.src.isNone && decide (t.target ≠ w.target) && modeAllows s t.target t.cause) } } ∧
      (w.target < 16 → Completes s .modeTransition (fun t => mode t = w.target ∧ rd t F.devMode_PREV 0 = mode s ∧
        rd t F.devMode_CAUSE 0 = w.cause % 2 ^ F.devMode_CAUSE.w))) ∧
  (∀ (s : State) (m cause : Nat), m < 16 → cause < 256 →
    mode (setDevMode s m cause) = m ∧ rd (setDevMode s m cause) F.devMode_PREV 0 = mode s ∧
    rd (setDevMode s m cause) F.devMode_CAUSE 0 = cause % 2 ^ F.devMode_CAUSE.w ∧
    (svRunning s = true → svPending (setDevMode s m cause) 5 = true) ∧
    Only [objKey .devMode 0] { s with sv := (setDevMode s m cause).sv } (setDevMode s m cause))

/-- A TEST run that ends: its result word, the axes it has failed, and the trigger it sets off: LATCH with cause 4 where
the SRAM or a comparator failed, else the mode that asked for the run with cause 14, else PLACE or DISCOVER with cause 3.
The timers of the modes: DISCOVER ends with PLACE; DRV_SETTLE takes the start modes, or those a handover resumes; the stop
limit takes every axis still stopping to TRACK, and does nothing where none is. -/
def Obligations.TestAndTimers : Prop :=
  (∀ (s : State) (r : TestResult), coreRuns s = true → mode s = mTest →
    Completes s (.testRunDone r) (fun t =>
      getObj t .devTestResult 0 = testWord s r t.ctl.testFail.length ∧
      (∀ n < 48, testFailed t n = true ↔ n ∈ runFailures s r ∨ testFailed s n = true) ∧
      (∀ n < 48, testFailed t n = true → axMode t n = aDisabled) ∧
      t.ctl.trigs = s.ctl.trigs ++
        [if r.sramFail || r.cmpFail then ⟨mLatch, 4, none⟩
         else match s.ctl.testFrom with
           | some m => ⟨m, 14, none⟩
           | none => ⟨if s.load.standalone then mPlace else mDiscover, 3, none⟩])) ∧
  (∀ s : State, coreRuns s = true →
    (mode s ≠ mDiscover → Ends s .discoverTimeout s) ∧
    (mode s = mDiscover → Ends s .discoverTimeout { s with
      fab := { s.fab with held := true }, ctl := { s.ctl with trigs := s.ctl.trigs ++ [⟨mPlace, 6, none⟩] } }) ∧
    (mode s ≠ mRun ∨ s.prot.settling = false → Ends s .drvSettleExpiry s) ∧
    (mode s = mRun → s.prot.settling = true → s.red.hand = none → Completes s .drvSettleExpiry (fun t =>
      t.prot.settling = false ∧ mode t = mRun ∧ t.nv = s.nv ∧
      ∀ n < 48, startable s n = true → pairMate s n = none → mayEnter s n (rd s F.axLoopCfg_START n) = true →
        axMode t n = rd s F.axLoopCfg_START n ∨ axMode t n = aTripped)) ∧
    (mode s = mRun → s.prot.settling = true → s.red.hand = none →
      Ends s .drvSettleExpiry (startAxes { s with prot := { s.prot with settling := false } })) ∧
    (∀ h, mode s = mRun → s.prot.settling = true → s.red.hand = some h →
      Ends s .drvSettleExpiry ((fun u => if h.hold then trigger u mHold 13 none else u)
        (h.modes.foldl (fun t m => resumeDrive t m.1 m.2)
          { s with prot := { s.prot with settling := false }, red := { s.red with hand := none } }))) ∧
    (mode s ≠ mSafestop → Ends s .stopLimitExpiry s) ∧
    (mode s = mSafestop → Completes s .stopLimitExpiry (fun t => mode t = mSafestop ∧ t.nv = s.nv ∧
      ∀ n < 48, axMode t n = if driving s n = true ∧ rdB s F.axMode_STOPPING n = true then aTrack else axMode s n)) ∧
    (mode s = mSafestop → (∃ n < 48, driving s n = true ∧ rdB s F.axMode_STOPPING n = true) →
      Ends s .stopLimitExpiry (stopLimit s)) ∧
    (mode s = mSafestop → (∀ n < 48, driving s n = true → rdB s F.axMode_STOPPING n = false) → Ends s .stopLimitExpiry s))

/-! ## Starting and rewriting images (R33 to R55, R409) -/

/-- The flash probe: a flash that cannot be used ends the attempts with reason 14 for both slots and asks for LATCH with
cause 2; otherwise the slot the header in use prefers is tried first, or slot A where no header is valid. A slot that
passes the checks is applied: BOOTED names it and LOAD ends with a trigger for TEST with cause 1. One that fails reports
its reason, and the next is tried; with none left the device asks for LATCH with cause 2. -/
def Obligations.StartupSlots : Prop :=
  (∀ (s : State) (p : FlashProbe), coreRuns s = true → mode s = mLoad → s.load.flashOk = false →
    rd s F.devBootStatus_A_RESULT 0 = 0 →
    (flashUsable p = false → Completes s (.flashProbeDone p) (fun t =>
      rd t F.devBootStatus_A_RESULT 0 = 14 ∧ rd t F.devBootStatus_B_RESULT 0 = 14 ∧ rd t F.devBootStatus_HDR_NONE 0 = 1 ∧
      t.ctl.trigs = s.ctl.trigs ++ [⟨mLatch, 2, none⟩] ∧ t.load.flashOk = false)) ∧
    (∀ k, flashUsable p = true → hdrInUse s = some k → Completes s (.flashProbeDone p) (fun t =>
      rd t F.devBootStatus_HDR_COPY 0 = k % 2 ∧
      t.load = { s.load with flashOk := true, toTry := [fieldB (hdrCopy s k) 6 2, 1 - fieldB (hdrCopy s k) 6 2] } ∧
      Only [objKey .devBootStatus 0] { s with load := t.load } t)) ∧
    (flashUsable p = true → hdrInUse s = none → Completes s (.flashProbeDone p) (fun t =>
      rd t F.devBootStatus_HDR_NONE 0 = 1 ∧ t.load = { s.load with flashOk := true, toTry := [0, 1] } ∧
      Only [objKey .devBootStatus 0] { s with load := t.load } t))) ∧
  (∀ (s : State) (slot : Nat) (rest : List Nat), coreRuns s = true → mode s = mLoad → s.load.toTry = slot :: rest → slot < 2 →
    (∀ im, (checkSlot s slot).2 = some im → Completes s .slotAttemptDone (fun t =>
      rd t F.devBootStatus_BOOTED 0 = slot + 1 ∧ t.load.toTry = [] ∧
      ∃ l, t.ctl.trigs = l ++ [⟨mTest, 1, none⟩])) ∧
    ((checkSlot s slot).2 = none → Completes s .slotAttemptDone (fun t =>
      rd t (if slot = 0 then F.devBootStatus_A_RESULT else F.devBootStatus_B_RESULT) 0 = (checkSlot s slot).1 % 16 ∧
      t.load.toTry = rest ∧ t.ctl.trigs = s.ctl.trigs ++ (if rest = [] then [⟨mLatch, 2, none⟩] else []) ∧
      t.nv = s.nv ∧ t.axes = s.axes)))

/-- IMAGE_WRITE: an accepted BEGIN opens a session for the slot and starts its erase; when the erase is done the slot's sectors
read as erased and no other byte of the flash has changed; accepted DATA is noted and programmed, and stands in the flash when
programming is done; END starts the read-back, whose checks decide whether the slot may be switched to; SWITCH writes the
header copy not in use and nothing else of the flash. A fabric message that is not MGMT does none of it. -/
def Obligations.ImageWrites : Prop :=
  ∀ (s : State) (src : Src), coreRuns s = true →
    (∀ slot len, beginStatus (takeMsg s src) src slot len = 0 → EndsAnswered s (.imageWriteBegin src slot len)
      { s with load := { s.load with
          img := some ⟨slot, len, []⟩, okSlots := []
          jobs := s.load.jobs ++ [.erase src slot len] } }) ∧
    (∀ slot len js, s.load.jobs = .erase src slot len :: js → EndsAnswered s .imageEraseDone
      { s with nv := { s.nv with flash := memWrite 0xFF s.nv.flash (slotBase slot) (List.replicate (sectorBytes len) 0xFF) },
               load := { s.load with jobs := js } }) ∧
    (∀ slot off bytes, dataStatus (takeMsg s src) src slot off bytes.length = 0 → EndsAnswered s (.imageWriteData src slot off bytes)
      { s with load := { s.load with
          img := s.load.img.map (fun x => { x with written := x.written ++ [(off, bytes.length)] }),
          jobs := s.load.jobs ++ [Job.program src slot off bytes] } }) ∧
    (∀ slot off bytes js, s.load.jobs = .program src slot off bytes :: js → EndsAnswered s .imageDataProgrammed
      { s with nv := { s.nv with flash := memWrite 0xFF s.nv.flash (slotBase slot + off) bytes },
               load := { s.load with jobs := js } }) ∧
    (∀ x, s.load.img = some x → offMgmt src = false → tooMany (takeMsg s src) src = false →
      EndsAnswered s (.imageWriteEnd src x.slot) { s with load := { s.load with jobs := s.load.jobs ++ [.readback src x.slot] } }) ∧
    (∀ slot js, s.load.jobs = .readback src slot :: js → EndsAnswered s .imageReadbackDone
      { s with load := { s.load with
          jobs := js, img := none
          okSlots := if (checkSlot s slot).1 = 1 then slot :: s.load.okSlots else s.load.okSlots.filter (· ≠ slot) } }) ∧
    (∀ slot, slot ≤ 1 → imageMode s = true → slot ∈ s.load.okSlots → offMgmt src = false →
      tooMany (takeMsg s src) src = false → EndsAnswered s (.imageWriteSwitch src slot) { s with nv := { s.nv with
          flash := memWrite 0xFF s.nv.flash (0x1000 * switchCopy s)
            (hdrRecord slot (switchSeq s) ++ List.replicate (4096 - 256) 0xFF) } }) ∧
    (∀ slot len off bytes, offMgmt src = true → ∀ c ∈ [Instr.imageWriteBegin src slot len, .imageWriteData src slot off bytes,
      .imageWriteEnd src slot, .imageWriteSwitch src slot], EndsAnswered s c s)

/-- TRIM_WRITE: OPEN in MAINT copies the stored set into the staging buffer; DATA changes bytes of the buffer, with kind 1
of the user part only; COMMIT of a set that passes its checks ends the session and programs it; programming that reads
back well leaves the committed set in the store, to be applied at the next frame boundary, and one that does not leaves
TRIM_BAD; CLOSE ends the session. A fabric message that is not MGMT does none of it. An OTP programming that ends leaves
the object's bits set that were set or written, and no other OTP object changed. -/
def Obligations.TrimAndOtp : Prop :=
  (∀ (s : State) (src : Src), coreRuns s = true →
    let ok := offMgmt src = false ∧ tooMany (takeMsg s src) src = false
    (∀ kind, ok → kind ≤ 1 → mode s = mMaint → s.load.img = none → trimOpen s = false → EndsAnswered s (.trimWriteOpen src kind)
      { s with load := { s.load with trimKind := some kind, staging := s.nv.trim } }) ∧
    (∀ kind off bytes, ok → s.load.trimKind = some kind → 1 ≤ bytes.length → bytes.length ≤ 224 → off + bytes.length ≤ 16384 →
      (kind = 1 → 0x1000 ≤ off ∧ off + bytes.length ≤ 0x1300) → EndsAnswered s (.trimWriteData src off bytes)
        { s with load := { s.load with staging := memWrite 0 s.load.staging off bytes } }) ∧
    (∀ crc : Word, ok → s.load.trimKind ≠ none → commitFails s crc.toNat = 0 →
      EndsAnswered s (.trimWriteCommit src crc)
        { s with load := { s.load with trimKind := none, jobs := s.load.jobs ++ [.trim src] } }) ∧
    (∀ crc : Word, ok → s.load.trimKind ≠ none → commitFails s crc.toNat ≠ 0 →
      EndsAnswered s (.trimWriteCommit src crc) { s with load := { s.load with trimKind := none } }) ∧
    (∀ js, s.load.jobs = .trim src :: js → Completes s (.trimProgramDone true) (fun t =>
      t.nv = { s.nv with trim := memWrite 0 [] 0 (commitSet s) } ∧ t.load = { s.load with jobs := js, trimSwitch := true })) ∧
    (∀ js, s.load.jobs = .trim src :: js → Completes s (.trimProgramDone false) (fun t =>
      rd t F.devTrimCtl_TRIM_BAD 0 = 1 ∧ rd t F.devTrimCtl_ORIGIN 0 = 3 ∧
      t.load = { s.load with jobs := js, trimUse := none } ∧ { t.nv with trim := s.nv.trim } = s.nv)) ∧
    (s.load.trimSwitch = true → Ends s .trimSwitch
      { s with load := { s.load with trimSwitch := false, trimUse := some s.nv.trim } }) ∧
    (ok → s.load.trimKind ≠ none → EndsAnswered s (.trimWriteClose src) { s with load := { s.load with trimKind := none } }) ∧
    (∀ kind off bytes crc, offMgmt src = true → ∀ c ∈ [Instr.trimWriteOpen src kind, .trimWriteData src off bytes,
      .trimWriteCommit src crc, .trimWriteClose src], EndsAnswered s c s)) ∧
  (∀ (s : State) (src : Src) (obj : OtpObj) (x : Nat) (js : List Job), coreRuns s = true →
    s.load.jobs = .otp src obj x :: js → (EndsAnswered s .otpProgramDone
      { s with
        load := { s.load with jobs := js },
        nv := programOtp s.nv obj x }) ∧
    programOtp s.nv .lock x = { s.nv with otpLock := s.nv.otpLock ||| x } ∧
    programOtp s.nv .khash x = { s.nv with khash := s.nv.khash ||| x } ∧
    programOtp s.nv .fkey x = { s.nv with fkey := s.nv.fkey ||| x })

/-! ## Excitation (R88 to R98, R239 to R245) -/

/-- A half-period boundary of an excitation group: outside the modes that time excitation nothing; a group without EN
stops, with both legs of its drivers low; one with EN that does not run starts at a positive edge with the written timing;
a running one goes to its next half-period; one whose written timing differs starts the new timing at a positive edge of
both grids and holds its phase until then. A sine update: every driver that excites in sine mode and whose group does not
hold its phase takes the output of its phase; no other driver changes, and nothing else. An interval of an excitation
driver's detectors: idle detectors read 0; otherwise the peak and the limit are shown, a run of open intervals of
OPEN_MIN's length or of limited intervals counts, a good interval restarts its count, and the live bit sets at the count
of OW_N or CMP_N with its sticky bit. -/
def Obligations.Excitation : Prop :=
  (∀ (s : State) (g : Fin 4), coreRuns s = true →
    let x := grp s g
    let on := rdB s F.devExcGrp_EN g
    let same := x.half = grpHalf s g ∧ x.phase = grpPhase s g
    (excTiming (mode s) = false → Ends s (.excEdge g) s) ∧
    (excTiming (mode s) = true → on = false → x.running = false → Ends s (.excEdge g) s) ∧
    (excTiming (mode s) = true → on = false → x.running = true → Completes s (.excEdge g) (fun t =>
      (grp t g).running = false ∧
      (∀ n < 48, (ax s n).exc.grp = g.val → (ax t n).exc.drive = false ∧ (ax t n).exc.out = 0) ∧
      (∀ n < 48, (ax s n).exc.grp ≠ g.val → ax t n = ax s n) ∧
      Quiet { s with axes := t.axes, grps := t.grps } t)) ∧
    (excTiming (mode s) = true → on = true → (x.running = false ∨ x.holding = true ∨ x.pos = false ∧ ¬ same ∧ onGrid s g (nowCyc s) = true) →
      Completes s (.excEdge g) (fun t => grp t g = { x with
        running := true, half := grpHalf s g, phase := grpPhase s g, pos := true, count := x.count + 1,
        edgeAt := nowCyc s, posAt := nowCyc s, holding := false })) ∧
    (excTiming (mode s) = true → on = true → x.running = true → x.holding = false → (x.pos = true ∨ same) →
      Completes s (.excEdge g) (fun t => grp t g = { x with
        pos := !x.pos, count := x.count + 1, edgeAt := nowCyc s, posAt := if x.pos then x.posAt else nowCyc s })) ∧
    (excTiming (mode s) = true → on = true → x.running = true → x.holding = false → x.pos = false → ¬ same →
      onGrid s g (nowCyc s) = false → Ends s (.excEdge g) (setGrp s g { x with holding := true }))) ∧
  (∀ s : State, coreRuns s = true → Completes s .sineDriverUpdate (fun t =>
    (∀ n < 48, (ax t n).exc =
      if (ax s n).exc.drive && inSine s n && !(grp s (ax s n).exc.grp).holding then
        { (ax s n).exc with out := drvSine s n (excPhase (grp s (ax s n).exc.grp) (nowCyc s)) }
      else (ax s n).exc) ∧
    (∀ n, { ax t n with exc := (ax s n).exc } = ax s n) ∧ Quiet { s with axes := t.axes } t)) ∧
  (∀ (s : State) (n : Fin 48) (peak : BitVec 16) (limited : Bool), coreRuns s = true →
    (detIdle s n = true → Ends s (.excDetectorInterval n peak limited) (detClear s n)) ∧
    (detIdle s n = false → Completes s (.excDetectorInterval n peak limited) (fun t =>
      let bad := decide (peak.toNat < fget (detWord s n) F.axExcDrv_OPEN_MIN) && !rdB s F.axExcDrv_BOOST n
      rd t F.axExcDstat_I_PEAK n = min 255 peak.toNat ∧
      rdB t F.axExcDstat_ILIM_ACT n = (limited && decide (50 * ((ax s n).exc.ilim + 1) ≤ peak.toNat)) ∧
      (bad = false → rd t F.axExcDstat_OW_CNT n = 0 ∧ rdB t F.axExcDstat_OPEN n = false) ∧
      (limited = false → rd t F.axExcDstat_CMP_CNT n = 0 ∧ rdB t F.axExcDstat_COMPL n = false) ∧
      (bad = true → rdB s F.axExcDstat_OPEN n = false →
        rdB t F.axExcDstat_OPEN n = decide (fget (detWord s n) F.axExcDrv_OW_N ≤ rd s F.axExcDstat_OW_CNT n + 1)) ∧
      (limited = true → rdB s F.axExcDstat_COMPL n = false →
        rdB t F.axExcDstat_COMPL n = decide (fget (detWord s n) F.axExcDrv_CMP_N ≤ rd s F.axExcDstat_CMP_CNT n + 1)) ∧
      t.nv = s.nv ∧ t.sv = s.sv)))

/-! ## Strobes and conversions (R13, R57) -/

/-- The hold strobe of axis n closes its four track-and-hold circuits together, at this instant; that of axis 0 also starts a frame;
strobe 48 is that of the eight auxiliary channels. No other conversion starts. A slot beyond the end of a shortened frame takes
no conversion, and a strobe beyond it is not issued. -/
def Obligations.HoldStrobe : Prop :=
  ∀ (s : State) (n : Fin 49), coreRuns s = true →
    (n.val ≠ 0 → hasStrobe n s.ctl.frameLen = false → Ends s (.holdStrobe n) s) ∧
    (n.val < 48 → n.val = 0 ∨ hasStrobe n s.ctl.frameLen = true → Completes s (.holdStrobe n) (fun t =>
      (∃ st : Strobe, st.at_ = nowCyc s ∧ ∀ q < 4, mget [] t.conv (4 * n.val + q) = mget [] s.conv (4 * n.val + q) ++
        (if 4 * n.val + q < t.ctl.frameLen then [st] else [])) ∧
      (∀ slot, slot < 4 * n.val ∨ 4 * n.val + 4 ≤ slot → mget [] t.conv slot = mget [] s.conv slot) ∧
      (∀ m, m ≠ n.val → ax t m = ax s m) ∧
      (n.val ≠ 0 → Quiet { s with conv := t.conv, axes := t.axes } t) ∧
      (n.val = 0 → Quiet { s with
        conv := t.conv, axes := t.axes
        ctl := { s.ctl with
          frameStart := nowCyc s, frameLen := frameLenAt s (nowCyc s), prevLen := s.ctl.frameLen, gridAt := none, lateInFrame := 0
          short := if frameLenAt s (nowCyc s) < 200 then some (nowCyc s, frameLenAt s (nowCyc s)) else s.ctl.short } } t))) ∧
    (n.val = 48 → hasStrobe 48 s.ctl.frameLen = true → Completes s (.holdStrobe n) (fun t =>
      (∀ k < 8, 192 + k < s.ctl.frameLen → ∃ st : Strobe, st.at_ = nowCyc s ∧
        mget [] t.conv (192 + k) = mget [] s.conv (192 + k) ++ [st]) ∧
      (∀ k < 8, s.ctl.frameLen ≤ 192 + k → mget [] t.conv (192 + k) = mget [] s.conv (192 + k)) ∧
      (∀ slot < 192, mget [] t.conv slot = mget [] s.conv slot) ∧
      Quiet { s with conv := t.conv, auxs := t.auxs } t))

/-- Converter trims are applied to every result before it enters C1: with x the raw result and the offset and gain of the slot's
channel and range, the result is sat16 of ((x + offset) · (65536 + gain)) >> 16, and one that saturates carries the Clamp tag. -/
def Obligations.ConverterTrim : Prop :=
  ∀ (s : State) (slot : Fin 200) (raw : BitVec 16) (st : Strobe) (sts : List Strobe), coreRuns s = true →
    mget [] s.conv slot = st :: sts → (mget [] s.c1 slot).length < 2 →
    Completes s (.conversionDone slot raw) (fun t =>
      let range := tRange (slotTagOf st slot)
      let off : Int := if rdB s F.devTrimCtl_BYPASS 0 then 0 else trimS16 s (0x40 + (4 * slot.val + range) * 4)
      let gain : Int := if rdB s F.devTrimCtl_BYPASS 0 then 0 else trimS16 s (0x40 + (4 * slot.val + range) * 4 + 2)
      let y := ((raw.toInt + off) * (65536 + gain)) / 65536
      (∃ e : C1Ent, mget [] t.c1 slot = mget [] s.c1 slot ++ [e] ∧ e.x = sat16 y ∧ e.st = st ∧
        (sat16 y ≠ y → bit e.tag 3 = true) ∧ (sat16 y = y → e.tag = slotTagOf st slot + 128)) ∧
      mget [] t.conv slot = sts ∧ Quiet { s with conv := t.conv, c1 := t.c1 } t)

/-! ## Ranges, sources and detectors of the front end (R99 to R115) -/

/-- An allowed instant for a range: a current pair without an active timer keeps its range; where no change is due, only
the ripe requests go; a change sets the range, counts it, and restarts the down-range count. A written multiplexer source
takes effect: the pair goes to its fixed range, or to range 0 under autoranging. A source already in force changes
nothing. -/
def Obligations.RangesAndSources : Prop :=
  (∀ (s : State) (n : Fin 48) (cur : Bool), coreRuns s = true →
    (cur = true → (ax s n).pwm.active = false → Ends s (.rangeChange n cur) s) ∧
    ((cur = true → (ax s n).pwm.active = true) → newRange s n cur = none → Completes s (.rangeChange n cur) (fun t =>
      rangeOf t n cur = rangeOf s n cur ∧ Quiet { s with axes := t.axes } t ∧ ∀ m, m ≠ n.val → ax t m = ax s m)) ∧
    (∀ r, (cur = true → (ax s n).pwm.active = true) → newRange s n cur = some r → Completes s (.rangeChange n cur) (fun t =>
      rangeOf t n cur = r % 4 ∧ rangeOf t n (!cur) = rangeOf s n (!cur) ∧
      rd t F.axFeStat_R_CHANGES n = min (rd s F.axFeStat_R_CHANGES n + 1) (2 ^ F.axFeStat_R_CHANGES.w - 1) ∧
      (if cur then (ax t n).fe.iDn = 0 else (ax t n).fe.rDn = 0) ∧
      Only [objKey .axFeStat n] { s with axes := t.axes } t ∧ ∀ m, m ≠ n.val → ax t m = ax s m))) ∧
  (∀ (s : State) (n : Fin 48) (cur : Bool), coreRuns s = true →
    (srcObj s n cur = srcOf s n cur → Ends s (.muxSwitch n cur) s) ∧
    (srcObj s n cur ≠ srcOf s n cur → Completes s (.muxSwitch n cur) (fun t =>
      srcOf t n cur = srcObj s n cur ∧ srcOf t n (!cur) = srcOf s n (!cur) ∧
      rangeOf t n cur = (if autoOf s n cur && decide (srcObj s n cur = 0) then 0 else fixOf s n cur) % 4 ∧
      rangeOf t n (!cur) = rangeOf s n (!cur) ∧
      Only [objKey .axFeStat n] { s with axes := t.axes } t ∧ ∀ m, m ≠ n.val → ax t m = ax s m)))

/-- Common-mode faults and clamp conduction: the live bit of the pair sets at an onset and clears at the end; a fault of IA or IB
latches the trip of a driving axis; a clamp that conducts sets the sticky bit of its pair, and marks the next sample. -/
def Obligations.FrontEndFaults : Prop :=
  ∀ s : State, coreRuns s = true →
    (∀ slot : Fin 192, Completes s (.cmFaultOnset slot) (fun t =>
      bit (rd t F.axFeStat_CM (slot.val / 4)) (slot.val % 4) = true ∧ (slot.val % 4 < 2 → Only [objKey .axFeStat (slot.val / 4)] s t) ∧
      (2 ≤ slot.val % 4 → driving s (slot.val / 4) = true → rdB t F.axTripStat_LATCH (slot.val / 4) = true) ∧ t.nv = s.nv)) ∧
    (∀ slot : Fin 192, Completes s (.cmFaultEnd slot) (fun t =>
      (∀ q < 4, bit (rd t F.axFeStat_CM (slot.val / 4)) q = (bit (rd s F.axFeStat_CM (slot.val / 4)) q && decide (q ≠ slot.val % 4))) ∧
      Only [objKey .axFeStat (slot.val / 4)] s t)) ∧
    (∀ slot : Fin 200, slot.val < 192 → Completes s (.clampConduction slot) (fun t =>
      bit (rd t F.axFeStat_CLAMP (slot.val / 4)) (slot.val % 4) = true ∧ bit (ax t (slot.val / 4)).fe.clamp (slot.val % 4) = true ∧
      Only [objKey .axFeStat (slot.val / 4)] { s with axes := t.axes } t ∧ ∀ m, m ≠ slot.val / 4 → ax t m = ax s m)) ∧
    (∀ slot : Fin 200, 192 ≤ slot.val → Completes s (.clampConduction slot) (fun t =>
      rd t F.devAuxCtl_CLAMP (slot.val - 192) = 1 ∧ (auxCh t (slot.val - 192)).clamp = true ∧
      Only [objKey .devAuxCtl (slot.val - 192)] { s with auxs := t.auxs } t))

/-- An analogue output (AUXO): low while not enabled or outside the modes that time it; otherwise the value of a valid
source, with FAULTED clear; the second update in a row without a valid source takes the FAULT behaviour and sets FAULTED.
A written filter chain takes effect: a current or auxiliary chain that differs takes the written word, its histories
cleared; one that does not differ changes nothing; a resolver chain not in use does not act, and one in use switches as an
edge does. -/
def Obligations.AuxoAndChains : Prop :=
  (∀ (s : State) (k : Fin 8), coreRuns s = true →
    (rdB s F.devAuxoCtl_EN k = false ∨ excTiming (mode s) = false → Completes s (.auxoUpdate k) (fun t =>
      (auxo t k).level = 0 ∧ (auxo t k).bad = 0 ∧ Quiet { s with auxos := t.auxos } t)) ∧
    (rdB s F.devAuxoCtl_EN k = true → excTiming (mode s) = true → auxoValid s k = true → Completes s (.auxoUpdate k) (fun t =>
      auxo t k = auxoLive s k ∧ rdB t F.devAuxoCtl_FAULTED k = false ∧
      Only [objKey .devAuxoCtl k] { s with auxos := t.auxos } t)) ∧
    (rdB s F.devAuxoCtl_EN k = true → excTiming (mode s) = true → auxoValid s k = false → (auxo s k).bad = 0 →
      Ends s (.auxoUpdate k) (setAuxo s k { auxo s k with bad := 1 })) ∧
    (rdB s F.devAuxoCtl_EN k = true → excTiming (mode s) = true → auxoValid s k = false → 1 ≤ (auxo s k).bad →
      Completes s (.auxoUpdate k) (fun t => auxo t k = auxoFault s k 2 ∧ rdB t F.devAuxoCtl_FAULTED k = true))) ∧
  (∀ s : State, coreRuns s = true →
    (∀ n : Fin 48, (ax s n).flt.cfgCu ≠ getObj s .axFltCur n → Completes s (.filterChainSwitch (.cur n)) (fun t =>
      (ax t n).flt.cfgCu = getObj s .axFltCur n ∧
      (ax t n).flt.cuA = newChain (ax s n).flt.cfgCu (getObj s .axFltCur n) (ax s n).flt.cuA ∧
      (ax t n).flt.cuB = newChain (ax s n).flt.cfgCu (getObj s .axFltCur n) (ax s n).flt.cuB ∧
      Only [objKey .axFltStat n] { s with axes := t.axes } t ∧ ∀ m, m ≠ n.val → ax t m = ax s m)) ∧
    (∀ n : Fin 48, (ax s n).flt.cfgCu = getObj s .axFltCur n → Ends s (.filterChainSwitch (.cur n)) s) ∧
    (∀ k : Fin 8, (auxCh s k).cfg ≠ getObj s .devFltAux k → Completes s (.filterChainSwitch (.aux k)) (fun t =>
      (auxCh t k).cfg = getObj s .devFltAux k ∧
      (auxCh t k).chain = newChain (auxCh s k).cfg (getObj s .devFltAux k) (auxCh s k).chain ∧
      Quiet { s with auxs := t.auxs } t)) ∧
    (∀ k : Fin 8, (auxCh s k).cfg = getObj s .devFltAux k → Ends s (.filterChainSwitch (.aux k)) s) ∧
    (∀ n : Fin 48, Ends s (.filterChainSwitch (.sq n)) (if inSine s n then s else edgeSwitch s n false (grp s (ax s n).exc.grp).pos)) ∧
    (∀ n : Fin 48, Ends s (.filterChainSwitch (.sine n)) (if inSine s n then edgeSwitch s n false (grp s (ax s n).exc.grp).pos else s)))

/-! ## Filters, tracking and encoder emulation (R116 to R160) -/

/-- The observer's step of an axis that tracks on a device that drives: the pair of the half-period is used up and
coasting ends; or, without a usable pair, a coast step, counted, that keeps the speed. The step is counted, and the
snapshot shows its angle. A T3 axis then counts it for its telemetry and its checkpoint. An axis that does not run changes
nothing. Encoder emulation: at a frame mark an emulator that must be off shows low pins and no flags; one that follows
shows its target count and flags LIVE, or OVERRUN above 65,535 edges of backlog; an edge that is due moves the count by
one towards the target and shows it on A, B and Z, and sets RATE where it waited for SEP; one that is not due changes
nothing. -/
def Obligations.ObserverAndEncoder : Prop :=
  (∀ (s : State) (n : Fin 48), coreRuns s = true → isFollower s = false →
    (obsRuns s n = true → Completes s (.observerStep n) (fun t =>
      (ax t n).loop.steps = (ax s n).loop.steps + 1 ∧ (ax t n).flt.meas = none ∧
      ((takePair s n).2 = none → rd t F.axTrkStat_COASTING n = 1 ∧
        rd t F.axTrkCnt_COASTS n = min (rd s F.axTrkCnt_COASTS n + 1) (2 ^ F.axTrkCnt_COASTS.w - 1) ∧
        (ax t n).trk.omega = (ax s n).trk.omega ∧ (ax t n).trk.v = (ax s n).trk.v) ∧
      ((takePair s n).2 ≠ none → rd t F.axTrkStat_COASTING n = 0 ∧ rd t F.axTrkStat_COAST_CNT n = 0) ∧
      fget (getObj t .axMotion n) F.axMotion_ANGLE = (ax t n).trk.phi / 2 ^ 16)) ∧
    (obsRuns s n = true → template s n ≠ 3 → Ends s (.observerStep n) (obsStep s n)) ∧
    (obsRuns s n = true → template s n = 3 → Ends s (.observerStep n)
      ((fun u => telCount u n (ax u n).loop.steps (nowNs u)) (formCkpt (obsStep s n) n (ax (obsStep s n) n).loop.steps))) ∧
    (obsRuns s n = false → Ends s (.observerStep n) s)) ∧
  (∀ (s : State) (k : Fin 16), coreRuns s = true →
    (encOff s k = true → Completes s (.encFrameMark k) (fun t =>
      (enc t k).a = false ∧ (enc t k).b = false ∧ (enc t k).z = false ∧ rdB t F.devEncStat_LIVE k = false ∧
      Only [objKey .devEncStat k] { s with encs := t.encs } t)) ∧
    (encOff s k = false → rdB s F.devEncStat_LIVE k = true → rdB s F.devEncStat_WAIT k = false → (enc s k).resync = false →
      rdB s F.devEncStat_OVERRUN k = false → rdB s F.axTrkStat_VALID (rd s F.devEncCtl_AXIS k) = true →
      Completes s (.encFrameMark k) (fun t =>
        (enc t k).goal = encTarget s k (nowCyc s) ∧ (enc t k).et = encGray s k ∧ (enc t k).eo = (enc s k).eo ∧
        rdB t F.devEncStat_OVERRUN k = decide (65535 < absN (backlog (encGray s k) (enc s k).eo)) ∧
        (absN (backlog (encGray s k) (enc s k).eo) ≤ 65535 →
          (enc t k).interval = 400 / max 1 (absN (backlog (encGray s k) (enc s k).eo))) ∧
        Only [objKey .devEncStat k] { s with encs := t.encs } t)) ∧
    (rdB s F.devEncStat_LIVE k = false ∨ backlog (enc s k).et (enc s k).eo = 0 ∨
      nowHalf s < (edgeDue (enc s k) (rd s F.devEncCtl_SEP k)).2 → Ends s (.encEdge k) s) ∧
    (rdB s F.devEncStat_LIVE k = true → backlog (enc s k).et (enc s k).eo ≠ 0 →
      (edgeDue (enc s k) (rd s F.devEncCtl_SEP k)).2 ≤ nowHalf s → Completes s (.encEdge k) (fun t =>
        (enc t k).eo = tc 32 ((enc s k).eo + (if 0 < backlog (enc s k).et (enc s k).eo then 1 else -1)) ∧
        (enc t k).et = (enc s k).et ∧ (enc t k).lastAt = some (nowHalf s) ∧
        (enc t k).z = (!rdB s F.devEncCtl_Z_OFF k && decide ((enc t k).eo % (4 * encLines s k) = 0)) ∧
        (let x : Bool × Bool := [(false, false), (true, false), (true, true), (false, true)].getD ((enc t k).eo % 4) (false, false)
         ((enc t k).a, (enc t k).b) = if rdB s F.devEncCtl_INV k then (x.2, x.1) else x) ∧
        ((edgeDue (enc s k) (rd s F.devEncCtl_SEP k)).1 < (edgeDue (enc s k) (rd s F.devEncCtl_SEP k)).2 →
          rdB t F.devEncStat_RATE k = true) ∧
        Only [objKey .devEncStat k] { s with encs := t.encs } t)))

/-! ## Axis modes, parameters and run-ahead commit (R162 to R217) -/

/-- At a boundary of an axis a granted mode request takes effect where its conditions still hold, and is refused where one has
lapsed; the head of the parameter list lands where it may, and the next becomes head; a follower of GEAR that loses its master's
data holds, with HELD and GEAR_LOST. -/
def Obligations.AxisBoundaries : Prop :=
  ∀ (s : State) (n : Fin 48), coreRuns s = true →
    (∀ m src, (ax s n).loop.req = some (m, src) → mayEnter s n m = true →
      EndsAnswered s (.axisModeChange n) (enterMode (modLoop s n (fun l => { l with req := none })) n m 1)) ∧
    (∀ m src, (ax s n).loop.req = some (m, src) → mayEnter s n m = false →
      EndsAnswered s (.axisModeChange n) (modLoop s n (fun l => { l with req := none }))) ∧
    (∀ w ws, (ax s n).loop.pend = w :: ws → mayLand s n w = true → Completes s (.paramLanding n) (fun t =>
      getObj t (wordObj n w.word).1 (wordObj n w.word).2 = w.val.toNat ∧
      (ax t n).loop.pend.map PWrite.word = ws.map PWrite.word ∧
      (∀ k d, k ≠ objKey (wordObj n w.word).1 (wordObj n w.word).2 → k ∉ recordKeys → mget d t.regs k = mget d s.regs k) ∧
      t.nv = s.nv ∧ t.sv = s.sv ∧ ∀ m, m ≠ n.val → ax t m = ax s m)) ∧
    (∀ w ws, (ax s n).loop.pend = w :: ws → mayLand s n w = false → Ends s (.paramLanding n) s) ∧
    (axMode s n = aGear → gearLocal s n = false → (ax s n).loop.gearHeld = false → Completes s (.gearDataLost n) (fun t =>
      rd t F.axMode_HELD n = 1 ∧ rd t F.axMode_GEAR_LOST n = 1 ∧ axMode t n = aGear ∧
      (ax t n).loop = { (ax s n).loop with gearHeld := true, remote := none } ∧
      Only [objKey .axMode n] { s with axes := t.axes } t ∧ ∀ m, m ≠ n.val → ax t m = ax s m))

/-- A missed evaluation counts in MISSES, MISS_TOT and MISS_RUN, shows its cause and LAST_MISS, and advances no loop state; below
MISS_LIMIT the axis keeps its mode and its loaded duties. -/
def Obligations.MissedEvaluation : Prop :=
  ∀ (s : State) (n cause load : Nat), n < 48 → 1 ≤ cause → cause ≤ 4 →
    let t := missEval s n cause load
    rd t F.axSpecCnt_MISSES n = min (rd s F.axSpecCnt_MISSES n + 1) (2 ^ F.axSpecCnt_MISSES.w - 1) ∧
    rd t F.devSpecTot_MISS_TOT 0 = (rd s F.devSpecTot_MISS_TOT 0 + 1) % 2 ^ 32 ∧
    rd t F.axSpecStat_MISS_RUN n = min (rd s F.axSpecStat_MISS_RUN n + 1) (2 ^ F.axSpecStat_MISS_RUN.w - 1) ∧
    rd t F.axSpecStat_LAST_MISS n = 1 ∧ rd t F.axSpecStat_MS_CAUSE n = cause ∧
    (ax t n).loop.spec = none ∧ (ax t n).loop.slow = none ∧
    (rd t F.axSpecStat_MISS_RUN n < rd s F.axSpecCtl_MISS_LIMIT n →
      axMode t n = axMode s n ∧ (ax t n).pwm = (ax s n).pwm ∧ (ax t n).loop.st = (ax s n).loop.st) ∧
    (rd s F.axSpecCtl_MISS_LIMIT n ≤ rd t F.axSpecStat_MISS_RUN n → rdB s F.axTripStat_LATCH n = false → driving s n = true →
      axMode t n = aTripped ∧ rd t F.axMode_CAUSE n = 4 ∧ rdB t F.axTripStat_LATCH n = true)

/-- The run-ahead lane: the precompute fills the speculation record of the next load point; the read of a filter slot
takes its result, and the read of IB whose strobe a load point selects is the decision of that evaluation; a slow path
that ends in time commits and advances the state, and one that does not is a miss; a completion advances the state where
the copies agree, and is kept for a retry where they do not; a late flag is a miss with cause 3 that restores the state
from before the commit. A commit puts its duty words into the mailbox of its load point and ends the run of misses. -/
def Obligations.RunAheadCommit : Prop :=
  (∀ (s : State) (n : Fin 48), coreRuns s = true →
    (mayPrecompute s n = false → Ends s (.precompute n) s) ∧
    (mayPrecompute s n = true → roleOf s n ≠ 1 ∨ (precomputed s n).kind.pairOk = true → Completes s (.precompute n) (fun t =>
      (ax t n).loop.spec = some (precomputed s n) ∧ Quiet { draws s 4 with axes := t.axes } t ∧
      ∀ m, m ≠ n.val → ax t m = ax s m)) ∧
    (let r := precomputed s n
     r.load = loadAfter s n ∧ r.kind.j = (ax s n).pwm.j ∧ r.kind.mode = axMode s n ∧ r.par = (ax s n).loop.par ∧
     r.step = (ax s n).loop.steps) ∧
    (∀ (slot : Fin 200) cmp x xs, mget [] s.c1 slot = x :: xs → Completes s (.filterSlotRead slot cmp) (fun t =>
      mget [] t.c1 slot = xs ∧ (∀ k, k ≠ slot.val → mget [] t.c1 k = mget [] s.c1 k) ∧ t.nv = s.nv ∧ t.pwr = s.pwr)) ∧
    (∀ slot : Fin 200, ∀ cmp, noRead s slot = true → Ends s (.filterSlotRead slot cmp) s) ∧
    (∀ slot : Fin 200, ∀ cmp, noRead s slot = false →
      (192 ≤ slot.val ∨ slot.val % 4 ≠ 3 ∨ (ax (slotRead s slot).1 (slot.val / 4)).loop.sel = none) →
      Ends s (.filterSlotRead slot cmp) (slotRead s slot).1) ∧
    (∀ cmp load, let slot : Fin 200 := ⟨4 * n.val + 3, by omega⟩
      let u := modLoop (slotRead s slot).1 n (fun l => { l with selAt := (slotRead s slot).2.at_ })
      noRead s slot = false → (ax u n).loop.sel = some load → evaluates u n = true →
      Ends s (.filterSlotRead slot cmp) (decideEval u n load (slotRead s slot).2.at_ cmp)) ∧
    (∀ e, (ax s n).loop.slow = some e → (ax s n).loop.compl = none → (ax s n).loop.retry = none →
      (meets s n e.load (nowCyc s)).2 = true → Completes s (.slowPathDone n .agree) (fun t =>
        (ax t n).loop.slow = none ∧ rd t F.axSpecStat_MISS_RUN n = 0 ∧ rd t F.axCkStat_MM_RUN n = 0 ∧
        (e.count = true → rd t F.axSpecCnt_LATE n = min (rd s F.axSpecCnt_LATE n + 1) (2 ^ F.axSpecCnt_LATE.w - 1)) ∧
        (driving t n = true → ⟨(evalOf e).du, (evalOf e).dv, (evalOf e).dw, e.load, e.take⟩ ∈ (ax t n).pwm.box))) ∧
    (∀ e, (ax s n).loop.slow = some e → (ax s n).loop.compl = none → (ax s n).loop.retry = none →
      (meets s n e.load (nowCyc s)).2 = true → Ends s (.slowPathDone n .agree)
        (let u := (meets s n e.load (nowCyc s)).1
         let o := evalOf e
         let e1 := { e with du := o.du, dv := o.dv, dw := o.dw }
         laneAgree (advance (commit (if e.count then incSat u F.axSpecCnt_LATE n else u) n e1 true) n e1 o) n)) ∧
    (∀ e, (ax s n).loop.slow = some e → (ax s n).loop.compl = none → (ax s n).loop.retry = none →
      (meets s n e.load (nowCyc s)).2 = false → Ends s (.slowPathDone n .agree)
        (missEval (meets s n e.load (nowCyc s)).1 n 1 e.load)) ∧
    (∀ e, (ax s n).loop.compl = some e → Completes s (.completion n .agree) (fun t =>
        (ax t n).loop.compl = none ∧ rd t F.axCkStat_MM_RUN n = 0 ∧ rd t F.axSpecCnt_MISSES n = rd s F.axSpecCnt_MISSES n ∧
        rd t F.axSpecCnt_EQV_ERR n = rd s F.axSpecCnt_EQV_ERR n + b2n (decide (rd s F.axSpecCnt_EQV_ERR n < 2 ^ F.axSpecCnt_EQV_ERR.w - 1) &&
          (decide (1 < absN ((e.du : Int) - (evalOf e).du)) || decide (1 < absN ((e.dv : Int) - (evalOf e).dv)) ||
            decide (1 < absN ((e.dw : Int) - (evalOf e).dw)))))) ∧
    (∀ e, (ax s n).loop.compl = some e → Ends s (.completion n .agree)
        (let u := modLoop s n (fun l => { l with compl := none })
         twinLate (telFlush (laneAgree (advance (checkEquiv u n e (evalOf e)) n e (evalOf e)) n) n) n)) ∧
    (∀ e cmp, (ax s n).loop.compl = some e → cmp ≠ .agree → rd s F.axCkStat_MM_RUN n < 2 → driving s n = true →
      Completes s (.completion n cmp) (fun t =>
        (ax t n).loop.compl = none ∧ (ax t n).loop.retry = some e ∧ (ax t n).loop.st = (ax s n).loop.st ∧
        rd t F.axCkStat_MM_RUN n = rd s F.axCkStat_MM_RUN n + 1)) ∧
    (∀ e, (ax s n).loop.retry = some e → Completes s (.laneRetry n .agree) (fun t =>
        (ax t n).loop.retry = none ∧ rd t F.axCkStat_MM_RUN n = 0 ∧ rd t F.axSpecCnt_MISSES n = rd s F.axSpecCnt_MISSES n)) ∧
    (∀ e, (ax s n).loop.retry = some e → Ends s (.laneRetry n .agree)
        (let u := modLoop s n (fun l => { l with retry := none })
         twinLate (telFlush (laneAgree (advance (checkEquiv u n e (evalOf e)) n e (evalOf e)) n) n) n)) ∧
    (∀ c cs, (ax s n).pwm.box = c :: cs → Completes s (.lateFlag n) (fun t =>
        rd t F.axSpecCnt_MISSES n = min (rd s F.axSpecCnt_MISSES n + 1) (2 ^ F.axSpecCnt_MISSES.w - 1) ∧
        rd t F.axSpecStat_MS_CAUSE n = 3 ∧ rd t F.axSpecStat_LAST_MISS n = 1 ∧ (∀ d ∈ (ax t n).pwm.box, d ∈ cs) ∧
        (∀ b, (ax s n).loop.back = some b → (ax s n).loop.presets = [] → (ax t n).loop.st = b.st))) ∧
    (∀ c cs, (ax s n).pwm.box = c :: cs → Ends s (.lateFlag n) (missEval
        (modLoop (undoCommit (modPwm s n (fun p => { p with box := cs })) n) n (fun l => { l with
          compl := l.compl.filter (fun e => e.load ≠ c.load), retry := l.retry.filter (fun e => e.load ≠ c.load)
          tel := none })) n 3 c.load))) ∧
  (∀ (s : State) (n : Nat) (e : Eval) (late : Bool),
    (⟨e.du, e.dv, e.dw, e.load, e.take⟩ : Commit) ∈ (ax (commit s n e late) n).pwm.box ∧
    (∀ c ∈ (ax s n).pwm.box, c.load ≠ e.load → c ∈ (ax (commit s n e late) n).pwm.box) ∧
    rd (commit s n e late) F.axSpecStat_MISS_RUN n = 0 ∧ rd (commit s n e late) F.axSpecStat_LAST_MISS n = 0 ∧
    Only [objKey .axSpecStat n] { s with axes := (commit s n e late).axes } (commit s n e late) ∧
    ∀ m, m ≠ n → ax (commit s n e late) m = ax s m)

/-! ## Timers, trips and driver enables (R218 to R236) -/

/-- A load point of an active timer: the valley takes the configuration objects and the next place of the count, a peak
does so in dual update only; the compare values of a mailbox entry for it are loaded, and without one the value of the
load point before stays active. A timer that is not active, waits for the spread to settle or has lost its clock loads
nothing. A written spread takes effect once settled; the low sides of an axis in its safe state turn on with SAFE = 1
only. -/
def Obligations.TimerLoads : Prop :=
  (∀ (s : State) (n : Fin 48) (peak : Bool), coreRuns s = true →
    ((ax s n).pwm.active = false ∨ (peak = true ∧ (ax s n).pwm.dual = false) ∨ s.prot.sscWait = true ∨ s.pwr.pwmLost = true →
      Ends s (.shadowLoad n peak) s) ∧
    ((ax s n).pwm.active = true → (peak = true → (ax s n).pwm.dual = true) → s.prot.sscWait = false → s.pwr.pwmLost = false →
      Completes s (.shadowLoad n peak) (fun t =>
        (ax t n).pwm.loadAt = nowTick s ∧ (ax t n).pwm.valley = (if peak then (ax s n).pwm.valley else nowTick s) ∧
        (ax t n).pwm.j = (if (ax s n).pwm.loadAt = 0 then 0 else (ax s n).pwm.j + 1) ∧
        (ax t n).pwm.half = (if peak then (ax s n).pwm.half else rd s F.axPwmTim_HALF n) ∧
        (ax t n).pwm.u = (ax (timerLoad s n peak).1 n).pwm.u ∧ (ax t n).pwm.v = (ax (timerLoad s n peak).1 n).pwm.v ∧
        (ax t n).pwm.w = (ax (timerLoad s n peak).1 n).pwm.w ∧
        ((ax s n).pwm.box = [] → peak = false → (ax t n).pwm.u.rise = (ax s n).pwm.u.fall) ∧
        ((ax s n).pwm.box = [] → peak = true → (ax t n).pwm.u.fall = (ax s n).pwm.u.rise) ∧
        rd t F.axSpecStat_EXACT_ACT n = rd s F.axSpecCtl_EXACT n))) ∧
  (∀ s : State, coreRuns s = true →
    Ends s .sscSettled { s with prot := { s.prot with ssc := rd s F.devPwmCfg_SSC 0, sscWait := false } } ∧
    (∀ n : Fin 48, (ax s n).pwm.safe = true → rd s F.axPwmCfg_SAFE n = 1 → Completes s (.safeLowSideOn n) (fun t =>
      (ax t n).pwm = { (ax s n).pwm with lowOn := true } ∧ Quiet { s with axes := t.axes } t ∧
      ∀ m, m ≠ n.val → ax t m = ax s m)) ∧
    (∀ n : Fin 48, (ax s n).pwm.safe = false ∨ rd s F.axPwmCfg_SAFE n ≠ 1 → Ends s (.safeLowSideOn n) s))

/-- The trip of a driving axis whose latch is clear: the latch sets and counts, the axis goes to TRIPPED with the cause, its
evaluations are dropped and its gates leave the commit path; with SAFE = 2 the DRV_EN output of its group is low. -/
def Obligations.TripTakesSafeState : Prop :=
  ∀ (s : State) (n cause extra : Nat), n < 48 → cause < 16 → driving s n = true → rdB s F.axTripStat_LATCH n = false →
    let t := trip s n cause extra
    rdB t F.axTripStat_LATCH n = true ∧ axMode t n = aTripped ∧ rd t F.axMode_CAUSE n = cause ∧
    rd t F.axMode_PREV n = axMode s n ∧ (ax t n).pwm.safe = true ∧ (ax t n).pwm.box = [] ∧ switching t n = false ∧
    (rd s F.axPwmCfg_SAFE n = 2 → bit (rd t F.devDrvStat_EN 0) (n / 12) = false)

/-- Sources of the trip logic: a comparator edge shows in CW_LIVE and, with CW_EN, sets the latch; a TRIP input at its
active level sets the latch of every axis of its mask while it is enabled; the end of a source clears its live bit and
leaves every latch. The driver monitor: a sample shows the four inputs; a group that agrees with its DRV_EN restarts its
count, and one that has differed for the twelfth sample in a row sets MON_ERR. -/
def Obligations.TripSources : Prop :=
  (∀ s : State, coreRuns s = true →
    (∀ (n : Fin 48) (k : TripSrc), 1 ≤ cwBit k → Completes s (.tripSourceOnset n k) (fun t =>
      rd t F.axTripStat_CW_LIVE n = rd s F.axTripStat_CW_LIVE n ||| cwBit k ∧
      (rdB s F.axTripCfg_CW_EN n = true → rdB t F.axTripStat_LATCH n = true) ∧
      (tripActive s n = false → rdB s F.axTripCfg_CW_EN n = false → Only [objKey .axTripStat n] s t))) ∧
    (∀ (n : Fin 48) (k : Fin 8), Completes s (.tripSourceOnset n (.ext k)) (fun t =>
      rd t F.devTripIn_LEVEL k = 1 ∧ ∀ m < 48, bit (rd s F.devTripIn_AXES k) m = true → rdB s F.devTripIn_EN k = true →
        rdB t F.axTripStat_LATCH m = true)) ∧
    (∀ (n : Fin 48) (k : TripSrc), 1 ≤ cwBit k → Completes s (.tripSourceEnd n k) (fun t =>
      rd t F.axTripStat_CW_LIVE n = rd s F.axTripStat_CW_LIVE n &&& (15 - cwBit k) ∧
      rdB t F.axTripStat_LATCH n = rdB s F.axTripStat_LATCH n ∧ Only [objKey .axTripStat n] s t)) ∧
    (∀ (n : Fin 48) (k : Fin 8), Completes s (.tripSourceEnd n (.ext k)) (fun t =>
      rd t F.devTripIn_LEVEL k = 0 ∧ Only [objKey .devTripIn k] s t))) ∧
  (∀ (s : State) (pins : BitVec 4), coreRuns s = true → s.red.hand = none → Completes s (.drvMonSample pins) (fun t =>
    rd t F.devDrvStat_MON 0 = pins.toNat ∧ rd t F.devDrvStat_EN 0 = rd s F.devDrvStat_EN 0 ∧
    (∀ g < 4, mget 0 t.prot.differ g =
      if bit pins.toNat g = bit (rd s F.devDrvStat_EN 0) g then 0 else min 13 (mget 0 s.prot.differ g + 1)) ∧
    (∀ g < 4, bit (rd t F.devDrvStat_MON_ERR 0) g = (bit (rd s F.devDrvStat_MON_ERR 0) g ||
      (decide (bit pins.toNat g ≠ bit (rd s F.devDrvStat_EN 0) g) && decide (min 13 (mget 0 s.prot.differ g + 1) = 12)))) ∧
    Only [objKey .devDrvStat 0] { s with prot := t.prot } t))

/-! ## Trace and monitor outputs (R191 to R193, R246 to R252) -/

/-- A tick of a probe's clock; one in DIV_M1 + 1 takes a sample. A sample of an enabled probe: armed, it enters the ring,
which keeps the depth's latest; triggered, it counts after the trigger; in any other state, or for a probe that is stopped
or not enabled, nothing is recorded. A sample instant of a monitor output: outside its fed state it shows the power-up
value, the FAULT value or, in the safe state, 0 with the safe switch open; fed, it takes the next word of its queue. A
change of span holds the output until it is done, when it shows the power-up value and answers the write. The open-load
and compliance detectors of a monitor output: an onset sets the live and the sticky bit; the end clears the live bit
alone; an output in its safe state, a live bit that is set already, an open load outside the current span and compliance
beside an open load set nothing. -/
def Obligations.TraceAndMonitor : Prop :=
  (∀ (s : State) (j : Fin 64), coreRuns s = true →
    let x := nodeSample s (rd s F.devTrcProbe_NODE j) (rd s F.devTrcProbe_INDEX j) (rdB s F.devTrcProbe_W32 j)
    let p := { probe s j with skip := rd s F.devTrcProbe_DIV_M1 j }
    (probeTicks s j = false → Ends s (.traceSample j) s) ∧
    (probeTicks s j = true → 0 < (probe s j).skip → Calm s → exec (.traceSample j) s =
      .next (setProbe s j { probe s j with skip := (probe s j).skip - 1 })) ∧
    (probeTicks s j = true → (probe s j).skip = 0 →
      rdB s F.devTrcProbe_EN j = false ∨ (probe s j).stopped = true ∨ (trcState s ≠ trcArmed ∧ trcState s ≠ trcTriggered) →
      Calm s → exec (.traceSample j) s = .next (setProbe s j p)) ∧
    (probeTicks s j = true → (probe s j).skip = 0 →
      rdB s F.devTrcProbe_EN j = true → (probe s j).stopped = false → trcState s = trcArmed → rd s F.devTrcTrig_KIND 0 ≠ 2 →
      Calm s → exec (.traceSample j) s = .next (setProbe s j { p with
        ring := ((probe s j).ring ++ [x]).drop ((probe s j).ring.length + 1 - trcDepth s) })) ∧
    (probeTicks s j = true → (probe s j).skip = 0 →
      rdB s F.devTrcProbe_EN j = true → (probe s j).stopped = false → trcState s = trcTriggered →
      exec (.traceSample j) s = done (trcFinish (setProbe s j { p with
        ring := (probe s j).ring ++ [x], post := (probe s j).post + 1
        stopped := decide (trcDepth s - trcPre s ≤ (probe s j).post + 1) })))) ∧
  (∀ (s : State) (c : Fin 16), coreRuns s = true →
    (rd s F.monStat_STATE c = monSpan → Ends s (.monSample c) s) ∧
    (rd s F.monStat_STATE c ≠ monSpan → monState s c ≠ monFed → Completes s (.monSample c) (fun t =>
      rd t F.monStat_STATE c = monState s c ∧
      rd t F.monStat_LAST c = (if monState s c = monPu then rd s F.monVal_PU_VAL c
        else if monState s c = monFault then rd s F.monVal_FAULT_VAL c else 0) ∧
      rdB t F.monStat_SAFE c = decide (monState s c = monSafe) ∧ Only [objKey .monStat c] { s with mons := t.mons } t)) ∧
    (rd s F.monStat_STATE c ≠ monSpan → monState s c = monFed → Ends s (.monSample c)
      (monFeed (setMon s c { mon s c with period := rd s F.monCtl_PERIOD c }) c)) ∧
    (rd s F.monStat_STATE c = monSpan → Completes s (.monSpanDone c) (fun t =>
      rd t F.monStat_STATE c = monPu ∧ rd t F.monStat_LAST c = rd s F.monVal_PU_VAL c ∧ rdB t F.monStat_SAFE c = false ∧
      (mon t c).span = rd s F.monCtl_SPAN c ∧ (mon t c).wait = none ∧ ∀ d, d ≠ c.val → mon t d = mon s d))) ∧
  (∀ (s : State) (c : Fin 16), coreRuns s = true →
    (∀ compl, Ends s (.monDetect c compl false) (wr s (if compl then F.monStat_COMPL else F.monStat_OPEN) c 0)) ∧
    (rdB s F.monStat_SAFE c = false → rdB s F.monStat_OPEN c = false → (mon s c).span = 3 →
      Completes s (.monDetect c false true) (fun t =>
        rdB t F.monStat_OPEN c = true ∧ rdB t F.monStat_OPEN_SEEN c = true ∧ Only [objKey .monStat c] s t)) ∧
    (rdB s F.monStat_SAFE c = false → rdB s F.monStat_COMPL c = false → rdB s F.monStat_OPEN c = false →
      Completes s (.monDetect c true true) (fun t =>
        rdB t F.monStat_COMPL c = true ∧ rdB t F.monStat_COMPL_SEEN c = true ∧ Only [objKey .monStat c] s t)) ∧
    (∀ compl, rdB s F.monStat_SAFE c = true → Ends s (.monDetect c compl true) s))

/-! ## Queues (R253 to R276) -/

/-- A record of up to four halfwords pushed to an empty pool queue is accepted: its level is 1, and the next pop, through any read
port, delivers the record in one word, lowest halfword first, with its count of valid bytes and its poison, and leaves the
queue empty. -/
def Obligations.PushThenPop : Prop :=
  ∀ (s : State) (port : Fin 8) (p : Fin 4) (q : Halfword) (prio : Byte) (r : List QWord), coreRuns s = true → Calm s →
    EmptyQueue s q.toNat → (isFollower s = false ∨ isSetQ q.toNat = false) → 1 ≤ r.length → r.length ≤ 4 →
    Completes s (.queuePush port q prio r) (fun t => levelOf t q.toNat = 1 ∧
      Completes t (.queuePop p q) (fun u => levelOf u q.toNat = 0 ∧
        mget popEmpty u.qm.out p = ⟨BitVec.ofNat 64 (packed r), r.length % 4 + 16 * b2n (r.any (fun h => h.2))⟩))

/-- Every other push: to an ID that is no queue nothing happens; to a queue that is resetting, or without quota, the record is
dropped and counted; to a sorted queue one halfword from port 5 or 7 becomes an entry while fewer than 31 items stand there, and
any other record is counted as dropped; a record that finds a free word for a marker beside its own is accepted whole. A follower
sends what is pushed to a set-point queue to its driver. -/
def Obligations.QueuePush : Prop :=
  ∀ (s : State) (port : Fin 8) (q : Halfword) (prio : Byte) (r : List QWord), coreRuns s = true →
    (isFollower s = true → isSetQ q.toNat = true → (driverOf s = none → Ends s (.queuePush port q prio r) s) ∧
      ∀ k, driverOf s = some k → Ends s (.queuePush port q prio r) (twinPut s k (recInput ((q.toNat - 0x100) / 4)
        (ax s ((q.toNat - 0x100) / 4)).pwm.j 0 (hwBytes (r.map Prod.fst))))) ∧
    ((isFollower s = false ∨ isSetQ q.toNat = false) →
    (isQueue q.toNat = false → Ends s (.queuePush port q prio r) s) ∧
    (∀ r0, isQueue q.toNat = true → (qd s q.toNat).resetting = some r0 → Calm s → exec (.queuePush port q prio r) s = .next
      (let u := incSat (incSat s F.devQmCnt_DROPS 0) F.devQmCnt_SWEEP_DROPS 0
       setQd u q.toNat { qd s q.toNat with full := true, resetting := some { r0 with count := min 65535 (r0.count + 1) } })) ∧
    (isPool q.toNat = true → (qd s q.toNat).resetting = none → (qd s q.toNat).quota = 0 → Calm s →
      exec (.queuePush port q prio r) s = .next (incSat (setQd s q.toNat { qd s q.toNat with full := true }) F.devQmCnt_DROPS 0)) ∧
    (∀ h, isSorted q.toNat = true → (qd s q.toNat).resetting = none → (port.val = 5 ∨ port.val = 7) →
      sLevel (sEntries s q.toNat) < 31 → Completes s (.queuePush port q prio [h]) (fun t =>
        sEntries t q.toNat = sEntries s q.toNat ++ [⟨h.1.toNat, prio.toNat % 8, h.2, false⟩])) ∧
    (isSorted q.toNat = true → (qd s q.toNat).resetting = none → (r.length ≠ 1 ∨ port.val ≠ 5 ∧ port.val ≠ 7) → Calm s →
      exec (.queuePush port q prio r) s = .next (incSat s F.devQmCnt_DROPS 0)) ∧
    (∀ h, isSorted q.toNat = true → (qd s q.toNat).resetting = none → (port.val = 5 ∨ port.val = 7) →
      31 ≤ sLevel (sEntries s q.toNat) → (qd s q.toNat).mark ≠ none → Completes s (.queuePush port q prio [h]) (fun t =>
        sEntries t q.toNat = sEntries s q.toNat ∧ (qd t q.toNat).full = true)) ∧
    (isPool q.toNat = true → (qd s q.toNat).resetting = none → (qd s q.toNat).quota ≠ 0 → descFault (qd s q.toNat) = none →
      exec (.queuePush port q prio r) s = done (pushPool s q.toNat r).1 ∧
      (s.qm.freeBad = false →
        (newWords s.qm (qd s q.toNat) r.length : Int) ≤ qFree (qd s q.toNat) - 1 →
        canSupply s.qm (cellsFor (qd s q.toNat) (newWords s.qm (qd s q.toNat) r.length)) = true →
        (pushPool s q.toNat r).2 = true) ∧
      ((newWords s.qm (qd s q.toNat) r.length : Int) > qFree (qd s q.toNat) - 1 → (pushPool s q.toNat r).2 = false)))

/-- A pop delivers the head word of a pool queue with its tag; where there is none (no such queue, resetting, without
quota, empty) it delivers EMPTY and nothing else changes. PEEK delivers the k-th word from the head through port 0 and
removes nothing; beyond the level it delivers EMPTY. DISCARD on a set-point queue raises EV_SP_GAP once for each marker it
removes, and of a queue that holds one word of data leaves it empty. -/
def Obligations.QueuePop : Prop :=
  (∀ (s : State) (p : Fin 4) (q : Halfword), coreRuns s = true →
    (isQueue q.toNat = false ∨ (qd s q.toNat).resetting ≠ none ∨
      isPool q.toNat = true ∧ ((qd s q.toNat).quota = 0 ∨ descFault (qd s q.toNat) = none ∧ (qd s q.toNat).held = 0) → Calm s →
      exec (.queuePop p q) s = .next (portOut s p popEmpty)) ∧
    (∀ md, isPool q.toNat = true → (qd s q.toNat).resetting = none → (qd s q.toNat).quota ≠ 0 → descFault (qd s q.toNat) = none →
      (qd s q.toNat).held ≠ 0 → advHead s.qm q.toNat (qd s q.toNat) = .inl md → Completes s (.queuePop p q) (fun t =>
        mget popEmpty t.qm.out p = ⟨(slotAt s.qm (qd s q.toNat).head (qd s q.toNat).hofs).word,
          slotTag (slotAt s.qm (qd s q.toNat).head (qd s q.toNat).hofs)⟩ ∧
        ∀ p', p' ≠ p.val → mget popEmpty t.qm.out p' = mget popEmpty s.qm.out p'))) ∧
  (∀ (s : State) (q : Halfword), coreRuns s = true → Calm s → isPool q.toNat = true → (qd s q.toNat).resetting = none →
    (qd s q.toNat).quota ≠ 0 → descFault (qd s q.toNat) = none →
    (∀ k, k < qWords (qd s q.toNat) → exec (.queuePeek q k) s = .next (portOut s 0
      ⟨((walk s.qm (k + 1) (qd s q.toNat).head (qd s q.toNat).hofs).getLastD slot0).word,
        slotTag ((walk s.qm (k + 1) (qd s q.toNat).head (qd s q.toNat).hofs).getLastD slot0)⟩)) ∧
    (∀ k, qWords (qd s q.toNat) ≤ k → exec (.queuePeek q k) s = .next (portOut s 0 popEmpty)) ∧
    (∀ m, isSetQ q.toNat = true → exec (.queueDiscard q m) s = done ((qDiscard s q.toNat m).2.foldl
      (fun u k => raise u 0x46 ((q.toNat - 0x100) / 4) k) (qDiscard s q.toNat m).1)) ∧
    (qWords (qd s q.toNat) = 1 → (qd s q.toNat).held ≠ 0 → (qd s q.toNat).wmHi = 0 → (qd s q.toNat).wmLo = 0 →
      (slotAt s.qm (qd s q.toNat).head (qd s q.toNat).hofs).mark = false → (qd s q.toNat).mark = none →
      Completes s (.queueDiscard q 1) (fun t => levelOf t q.toNat = 0 ∧ t.qm.out = s.qm.out)))

/-- A pop of a sorted queue chooses the entry with the lowest priority value, among equals the earliest; no entry is passed over
for a later one of its priority. -/
def Obligations.SortedOrder : Prop :=
  ∀ es : List SEntry,
    (sPick es 0 = none ↔ es = []) ∧
    ∀ i e, sPick es 0 = some (i, e) → es[i]? = some e ∧
      ∀ (j : Nat) (f : SEntry), es[j]? = some f → sPrio e ≤ sPrio f ∧ (sPrio e = sPrio f → i ≤ j)

/-- SORTED_POP delivers the entry chosen, with its item, its poison and its priority, and removes it alone; an empty
sorted queue, and an ID that is none, deliver EMPTY. A read of Q.NOTICE answers the notice and clears it; a sweep pass
takes in every queue that waits for a reset, and frees the cells whose owner is one of them; the end of a free-list
rebuild returns the cells of no enabled queue. -/
def Obligations.SortedAndUpkeep : Prop :=
  (∀ (s : State) (p : Fin 4) (q : Halfword), coreRuns s = true → Calm s → (qd s q.toNat).resetting = none →
    (isSorted q.toNat = false ∨ sEntries s q.toNat = [] → exec (.sortedPop p q) s = .next (portOut s p popEmpty)) ∧
    (∀ i e, isSorted q.toNat = true → sPick (sEntries s q.toNat) 0 = some (i, e) → e.isMark = false →
      Completes s (.sortedPop p q) (fun t =>
        sEntries t q.toNat = (sEntries s q.toNat).eraseIdx i ∧
        mget popEmpty t.qm.out p = ⟨BitVec.ofNat 64 e.item, 1 + 16 * b2n e.bad + 32 * sPrio e⟩)) ∧
    (∀ i e k, isSorted q.toNat = true → sPick (sEntries s q.toNat) 0 = some (i, e) → e.isMark = true → (qd s q.toNat).mark = some k →
      Completes s (.sortedPop p q) (fun t => sEntries t q.toNat = (sEntries s q.toNat).eraseIdx i ∧ (qd t q.toNat).mark = none ∧
        mget popEmpty t.qm.out p = ⟨BitVec.ofNat 64 (k.count + 0x10000 * k.kind + 0x40000 * b2n k.scattered), 8⟩))) ∧
  (∀ s : State, coreRuns s = true → Calm s →
    (∀ q : Halfword, isQueue q.toNat = true → exec (.queueNoticeRead .jtag q) s = .next
      { qNoticeClear (takeMsg s .jtag) q.toNat with
        msg := { (takeMsg s .jtag).msg with jtagStatus := 0, jtagData := qNoticeVal s q.toNat } }) ∧
    (∀ (q : Halfword) src, isQueue q.toNat = true → 4 ≤ q.toNat → trcState s ≠ trcArmed → Completes s (.queueNoticeRead src q) (fun t =>
      (qd t q.toNat).nSet = false ∧ (qd t q.toNat).cross = 0)) ∧
    (∀ q qs, s.qm.sweep = none → resetQueues s.qm = q :: qs → exec .sweepPassStart s = .next
      { (q :: qs).foldl enterPass s with qm := { ((q :: qs).foldl enterPass s).qm with sweep := some (q :: qs) } }) ∧
    (∀ qs, s.qm.sweep = some qs → Completes s .sweepPassEnd (fun t => t.qm.sweep = none) ∧
      exec .sweepPassEnd s = done (poolLow (qs.foldl endReset { s with
        qm := { s.qm with cells := sweepCells qs s.qm.cells, sweep := none } })) ∧
      (∀ c ∈ sweepCells qs s.qm.cells, c.2.retired = true ∨ ownId c.2.key c.2.check ∉ qs) ∧
      ∀ c ∈ s.qm.cells, c.2.retired = true ∨ c.2.ctlBad = false ∧ ownId c.2.key c.2.check ∉ qs → c ∈ sweepCells qs s.qm.cells) ∧
    (s.qm.rebuild = true → exec .freeListRebuildDone s = .next { s with qm := { s.qm with
      rebuild := false, freeBad := false
      cells := s.qm.cells.filter (fun x => x.2.retired ||
        (decide (ownId x.2.key x.2.check ≠ 0xFFFF) && decide ((qd s (ownId x.2.key x.2.check)).quota ≠ 0))) } }))

/-! ## Writes (R7 to R10, R434, R435) -/

/-- Every write that a rule refuses, or for whose message there is no room, leaves everything as it was but messages and
records; so does a write of an address that names no object, and one of a fabric message that is not MGMT. Every accepted
write of an object without an effect of its own stores the fields a write may take and changes nothing else; so do the
writes of excitation timing, a group's stop and start, the multiplexer and auxiliary sources, the filter chains and the
drivers, each named. -/
def Obligations.AcceptedWrites : Prop :=
  (∀ (s : State) (c : Instr), coreRuns s = true →
    (∀ w, writeOf s c = some w → (tooMany (takeMsg s w.src) w.src = true ∨ judge (takeMsg s w.src) w.src w.obj w.inst w.word ≠ 0) →
      EndsAnswered s c s) ∧
    (∀ w, writeOf s c = some w → offMgmt w.src = true → EndsAnswered s c s) ∧
    (∀ src a v, namedAt s src a.toNat = none → c = .registerWrite src a v ∨ c = .msgWrite src a v → EndsAnswered s c s) ∧
    (∀ a v, locate a.toNat = none → EndsAnswered s (.jtagObjectAccess true a v) s)) ∧
  ((∀ (s : State) (c : Instr) (w : WriteReq), Writes s c w → w.obj ∉ specialObjs →
    EndsAnswered s c (setObj s w.obj w.inst (mergeVal w.obj (getObj s w.obj w.inst) w.word))) ∧
  ∀ (s : State) (src : Src) (g : Fin 4) (n : Fin 48) (k : Fin 8) (b : Bool) (x : BitVec 32) (v : Nat) (ch : ChainId)
    (r : BitVec 2) (a : BitVec 3) (c : Instr),
    c ∈ [Instr.excTimingWrite src g b x, .excGroupStop src g, .excGroupStart src g, .muxSourceWrite src n b r,
      .auxSourceWrite src k a, .filterChainWrite src ch v, .excDrvWrite src n v] →
    ∃ w, writeOf s c = some w ∧ (Accepts s w →
      EndsAnswered s c (setObj s w.obj w.inst (mergeVal w.obj (getObj s w.obj w.inst) w.word))))

/-- A written word leaves every bit of an object that no writable field holds; a field with free access takes the word's bits, and
a sticky field loses the bits written as 1. -/
def Obligations.WrittenFields : Prop :=
  ∀ (o : ObjId) (old w : Nat),
    (∀ k, (∀ f ∈ (objRow o).fields, takesWrite f.acc = true → f.acc = .wo ∨ k < f.lo ∨ f.lo + f.w ≤ k) →
      bit (mergeVal o old w) k = bit old k) ∧
    (∀ f ∈ (objRow o).fields, f.acc = .rw → bits (mergeVal o old w) f.lo f.w = bits w f.lo f.w) ∧
    (∀ f ∈ (objRow o).fields, f.acc = .rwm → isOtp o = false → bits (mergeVal o old w) f.lo f.w = bits w f.lo f.w) ∧
    (∀ f ∈ (objRow o).fields, f.acc = .w1c → ∀ k, k < f.w →
      bit (mergeVal o old w) (f.lo + k) = (bit old (f.lo + k) && !bit w (f.lo + k)))

/-- Accepted writes of an axis: a position set waits for its boundary, and so does the set of a pair; a mode request waits for its
boundary; a parameter word joins the list, as its head where the list was empty; a retry of the square wave ends the fall-back; a
re-arm without an active source clears the latch and its sources and keeps the mode, and with one is refused; a trip
configuration is stored and acts where a source is active. -/
def Obligations.AxisWrites : Prop :=
  ∀ (s : State) (src : Src) (n : Fin 48),
    (∀ p : BitVec 64, Accepts s ⟨src, .axPosSet, n, p.toNat⟩ → EndsAnswered s (.posSetWrite src n p)
      (modTrk s n (fun k => { k with posReq := some p.toNat, posWait := b2n (isDriver s) }))) ∧
    (∀ a b : BitVec 64, Accepts s ⟨src, .axPairSet, n, a.toNat + b.toNat * 2 ^ 64⟩ → EndsAnswered s (.pairSetWrite src n a b)
      (modLoop s n (fun l => { l with pairSet := some (a.toNat, b.toNat) }))) ∧
    (∀ m : BitVec 3, Accepts s ⟨src, .axMode, n, m.toNat * 16⟩ → EndsAnswered s (.axisModeRequest src n m)
      (modLoop s n (fun l => { l with req := some (m.toNat, src) }))) ∧
    (∀ (p : ParamWord) (v : Word), Accepts s ⟨src, (wordObj n p).1, (wordObj n p).2, v.toNat⟩ → EndsAnswered s (.paramWrite src n p v)
      (modLoop s n (fun l => { l with
        pend := l.pend ++ [⟨src, p, BitVec.ofNat 32 (mergeVal (wordObj n p).1 0 v.toNat), if (ax s n).loop.pend = [] then some (nowNs s) else none⟩] }))) ∧
    (Accepts s ⟨src, .axExcCtl, n, setBits (getObj s .axExcCtl n) 6 1 1⟩ → isFollower s = false → isDriver s = false →
      rdB s F.axExcCtl_EN n = true → rd s F.axExcCtl_MODE n = 0 → senseOn s n = false → EndsAnswered s (.sqRetry src n)
        (modExc s n (fun e => { e with fall := false, failCnt := 0 }))) ∧
    (coreRuns s = true → tooMany (takeMsg s src) src = false → rd s F.devRedStat_EROLE 0 ≠ roleReleased →
      (tripActive s n = true → EndsAnswered s (.tripRearm src n) s) ∧
      (tripActive s n = false → Completes s (.tripRearm src n) (fun t =>
        rdB t F.axTripStat_LATCH n = false ∧ rd t F.axTripStat_TRIP_IN n = 0 ∧ bits (getObj t .axTripStat n) 8 9 = 0 ∧
        axMode t n = axMode s n ∧ t.nv = s.nv ∧
        t.axes = (if axMode s n = aDisabled ∧ mode s ≠ mLatch then lowGates s n else s).axes))) ∧
    (∀ v : Word, Accepts s ⟨src, .axTripCfg, n, v.toNat⟩ →
      let u := setObj s .axTripCfg n (mergeVal .axTripCfg (getObj s .axTripCfg n) v.toNat)
      (tripActive u n = false → EndsAnswered s (.tripCfgWrite src n v) u) ∧
      (tripActive u n = true → Completes s (.tripCfgWrite src n v) (fun t =>
        getObj t .axTripCfg n = getObj u .axTripCfg n ∧ rdB t F.axTripStat_LATCH n = true)))

/-- Accepted writes of trace, timers, monitor outputs and emulators: ARM empties the probes; STOP ends a capture that is
triggered; a timer's configuration and the spread are stored, and a changed spread waits to settle; a changed span starts its
sequence, and any other change of MON.CTL is stored; RESYNC waits for the frame mark. -/
def Obligations.OutputWrites : Prop :=
  ∀ (s : State) (src : Src),
    (Accepts s ⟨src, .devTrcCtl, 0, setBits (getObj s .devTrcCtl 0) 0 2 1⟩ → rd s F.devTrcTrig_KIND 0 ≠ 1 →
      Completes s (.traceArm src) (fun t => trcState t = trcArmed ∧ t.probes = [] ∧ rd t F.devTrcStat_PRE_SHORT 0 = 0 ∧
        Answered s { t with probes := s.probes })) ∧
    (Accepts s ⟨src, .devTrcCtl, 0, setBits (getObj s .devTrcCtl 0) 0 2 2⟩ → trcState s = trcTriggered →
      Completes s (.traceStop src) (fun t => trcState t = trcDone)) ∧
    (Accepts s ⟨src, .devTrcCtl, 0, setBits (getObj s .devTrcCtl 0) 0 2 2⟩ → EndsAnswered s (.traceStop src) s) ∧
    (∀ (n : Fin 48) v, Accepts s ⟨src, .axPwmTim, n, v⟩ → s.place.plan = none → EndsAnswered s (.pwmTimingWrite src n v)
      (setObj s .axPwmTim n (mergeVal .axPwmTim (getObj s .axPwmTim n) v))) ∧
    (∀ (n : Fin 48) v, Accepts s ⟨src, .axPwmTim, n, v⟩ → EndsAnswered s (.pwmTimingWrite src n v)
      (replan (setObj (takeMsg s src) .axPwmTim n (mergeVal .axPwmTim (getObj s .axPwmTim n) v)))) ∧
    (∀ v : BitVec 2, Accepts s ⟨src, .devPwmCfg, 0, v.toNat⟩ → rd s F.devPwmCfg_SSC 0 ≠ v.toNat →
      Completes s (.sscWrite src v) (fun t => rd t F.devPwmCfg_SSC 0 = v.toNat ∧ t.prot = { s.prot with sscWait := true } ∧
        t.axes = s.axes ∧ t.nv = s.nv)) ∧
    (∀ (c : Fin 16) (v : Word), Accepts s ⟨src, .monCtl, c, v.toNat⟩ → fget v.toNat F.monCtl_SPAN ≠ rd s F.monCtl_SPAN c →
      Completes s (.monSpanWrite src c v) (fun t => rd t F.monStat_STATE c = monSpan ∧ rdB t F.monStat_SAFE c = true ∧
        (mon t c).wait = some src ∧ getObj t .monCtl c = mergeVal .monCtl (getObj s .monCtl c) v.toNat ∧
        ∀ d, d ≠ c.val → mon t d = mon s d)) ∧
    (∀ (c : Fin 16) (v : Word), Accepts s ⟨src, .monCtl, c, v.toNat⟩ → fget v.toNat F.monCtl_SPAN = rd s F.monCtl_SPAN c →
      Completes s (.monSpanWrite src c v) (fun t => rd t F.monStat_STATE c = rd s F.monStat_STATE c ∧
        getObj t .monCtl c = mergeVal .monCtl (getObj s .monCtl c) v.toNat ∧ ∀ d, d ≠ c.val → mon t d = mon s d)) ∧
    (∀ k : Fin 16, Accepts s ⟨src, .devEncCmd, k, 1⟩ → EndsAnswered s (.encResync src k) (setEnc s k { enc s k with resync := true }))

/-- Accepted writes of links, fabric, supervisor, ledger, calendar, events, OTP and queues. -/
def Obligations.DeviceWrites : Prop :=
  ∀ (s : State) (src : Src), coreRuns s = true → tooMany (takeMsg s src) src = false → offMgmt src = false →
    let s1 := takeMsg s src
    (∀ m : Byte, EndsAnswered s (.fabUnquar src m) (fabEnd s1 ((List.range 8).foldl
      (fun t p => if bit m.toNat p && decide (lkState t p = lQuar) then retrain t p else t) s1))) ∧
    (∀ (p : Fin 8) (v : Word), Accepts s ⟨src, .lkCfg, p, v.toNat⟩ →
      fget v.toNat F.lkCfg_EN = rd s F.lkCfg_EN p → fget v.toNat F.lkCfg_PRESET = rd s F.lkCfg_PRESET p →
      EndsAnswered s (.linkReconfigure src p v) (setObj s .lkCfg p (mergeVal .lkCfg (getObj s .lkCfg p) v.toNat))) ∧
    (∀ (p : Fin 8) (v : Word), Accepts s ⟨src, .lkCfg, p, v.toNat⟩ → EndsAnswered s (.linkReconfigure src p v)
      (effLink (setObj s1 .lkCfg p (mergeVal .lkCfg (getObj s .lkCfg p) v.toNat)) p (getObj s .lkCfg p)
        (mergeVal .lkCfg (getObj s .lkCfg p) v.toNat))) ∧
    (isGm s = true → EndsAnswered s (.fabCmdSync src) (fabEnd s1 (sendSync s1 syncStep))) ∧
    (isGm s = false → EndsAnswered s (.fabCmdSync src) s) ∧
    (Accepts s ⟨src, .devSvCmd, 0, 1⟩ → Completes s (.svRestart src) (fun t => rdB t F.devSvStat_RUNNING 0 = false ∧
      rdB t F.devSvStat_RELOADING 0 = true ∧ rd t F.devSvStat_HALT_CAUSE 0 = 4 ∧ t.nv = s.nv ∧ t.axes = s.axes)) ∧
    (src ≠ .supervisor → Completes s (.svHaltCommand src) (fun t => rdB t F.devSvStat_RUNNING 0 = false ∧
      rd t F.devSvStat_HALT_CAUSE 0 = (if rdB s F.devSvStat_RUNNING 0 then 4 else rd s F.devSvStat_HALT_CAUSE 0) ∧
      t.nv = s.nv ∧ t.axes = s.axes)) ∧
    (EndsAnswered s (.ledgerSnap src) (ledgTrigger s1 5 false)) ∧
    (∀ v : Word, 2 ≤ mode s → (isGm s = true ∨ rdB s F.devCalCfg_CAL_SRC 0 = false) → EndsAnswered s (.calSet src v)
      { s with nv := { s.nv with rtc := { s.nv.rtc with sets := s.nv.rtc.sets ++ [v.toNat] } } }) ∧
    (∀ v : BitVec 64, EndsAnswered s (.evRaise src v) s) ∧
    (∀ v : BitVec 64, 0xF000 ≤ bits v.toNat 0 16 → (bits v.toNat 16 8 < 48 ∨ bits v.toNat 16 8 = 0xFF) →
      exec (.evRaise .jtag v) s = done { raise (takeMsg s .jtag) (bits v.toNat 0 16) (bits v.toNat 16 8) (bits v.toNat 32 32) with
        msg := { (takeMsg s .jtag).msg with jtagStatus := 0 } }) ∧
    (EndsAnswered s (.evDump src) s) ∧
    (∃ m, exec (.evDump .jtag) s = done { s.ctl.evLog.foldl (fun t e => (qPushBytes t 7 1 (evBytes e)).1) (takeMsg s .jtag) with
      msg := m }) ∧
    (∀ o v, Accepts s ⟨src, otpAt o, 0, v⟩ → EndsAnswered s (.otpWrite src o v)
      (let x := mergeVal (otpAt o) (baseVal s (otpAt o) 0) v
       if baseVal s (otpAt o) 0 = x then s else { s with load := { s.load with jobs := s.load.jobs ++ [.otp src o x] } })) ∧
    (∀ q : Halfword, EndsAnswered s (.queueResetRequest src q) s) ∧
    (∀ q : Halfword, isPool q.toNat = true → (qd s q.toNat).resetting = none → Completes s (.queueResetRequest src q) (fun t =>
      ∃ r, (qd t q.toNat).resetting = some r ∧ r.reason = 6)) ∧
    (∀ q : Halfword, isSorted q.toNat = true → sEntries (resetQueue s q.toNat) q.toNat = [⟨0, 0, false, true⟩] ∧
      ∃ m, exec (.queueResetRequest .jtag q) s = done { resetQueue (takeMsg s .jtag) q.toNat with msg := m })

/-- LEDGER_CLR_AXIS: CLR_AXIS, in MAINT only, sets the six counters of its axis and their SAT bits to 0, and no other
counter; in every other mode it is refused with a mode error. No write clears the counters of the device: a write of one is
refused with an access error. -/
def Obligations.LedgerCleared : Prop :=
  ∀ (s : State) (src : Src) (n : Fin 48), coreRuns s = true → tooMany (takeMsg s src) src = false →
    (mode s = mMaint → offMgmt src = false → EndsAnswered s (.ledgerClrAxis src n) (setObj s .axLedger n 0) ∧
      getObj (setObj s .axLedger n 0) .axLedger n = 0 ∧
      ∀ o i, objKey o i ≠ objKey .axLedger n → getObj (setObj s .axLedger n 0) o i = getObj s o i) ∧
    (mode s ≠ mMaint → EndsAnswered s (.ledgerClrAxis src n) s ∧
      (offMgmt src = false → judge (takeMsg s src) src .devLedgCmd 0 (2 + n.val * 4) = 2)) ∧
    (offMgmt src = true → EndsAnswered s (.ledgerClrAxis src n) s) ∧
    ∀ i w, judge (takeMsg s src) src .devLedger i w = 1 ∧ judge (takeMsg s src) src .lkLedger i w = 1

/-- Requests for a mode: an allowed one waits for the next frame boundary with its source, one that the current mode does not
allow changes nothing; a request for OFF without the confirmation, or in a mode that does not allow it, changes nothing; an allowed
one resets the device, or first writes the ledger where one is loaded. -/
def Obligations.ModeRequests : Prop :=
  ∀ (s : State) (src : Src), coreRuns s = true → tooMany (takeMsg s src) src = false → offMgmt src = false →
    (∀ m : BitVec 4, 1 ≤ m.toNat → m.toNat ≤ 11 → ¬ (src = .supervisor ∧ m.toNat = mMaint) →
      ¬ (m.toNat = mStandby ∧ mode s = mMaint ∧ rdB s F.devMode_FROM_LATCH 0 = true) →
      (modeAllows s m.toNat 9 = true → EndsAnswered s (.modeRequest src m)
        { s with ctl := { s.ctl with trigs := s.ctl.trigs ++ [⟨m.toNat, 9, some src⟩] } }) ∧
      (modeAllows s m.toNat 9 = false → EndsAnswered s (.modeRequest src m) s)) ∧
    (∀ c : BitVec 16, c.toNat ≠ 0x0C5A ∨ src = .supervisor ∨ resetAllowed s = false → EndsAnswered s (.resetRequest src c) s) ∧
    (src ≠ .supervisor → resetAllowed s = true → ledgCanWrite s = false → Completes s (.resetRequest src 0x0C5A) (fun t =>
      ResetDone s t 256)) ∧
    (src ≠ .supervisor → resetAllowed s = true → ledgCanWrite s = true → Completes s (.resetRequest src 0x0C5A) (fun t =>
      t.ctl.resetWait = some (s.ctl.resetWait.getD 0 ||| 256) ∧ t.nv = s.nv ∧ t.axes = s.axes ∧ t.ledg.write ≠ none))

/-- Reads: the test port shows what the address names, or a refusal where it names nothing; a READ answers the words it has read,
and changes nothing but what the read of the object itself clears. -/
def Obligations.AddressedReads : Prop :=
  ∀ (s : State) (a : Word) (v : Nat), coreRuns s = true →
    (∀ t x w, readAt s a.toNat = some (t, x, w) → exec (.jtagObjectAccess false a v) s = done { t with
      msg := { t.msg with jtagStatus := 0, jtagData := x } }) ∧
    (readAt s a.toNat = none → Ends s (.jtagObjectAccess false a v) { s with msg := { s.msg with jtagStatus := 1, jtagData := 0 } }) ∧
    (∀ o i, locate a.toNat = some (o, i) → objThere o i = true → hasRc o = false → o ≠ .qPop → o ≠ .qNotice →
      readAt s a.toNat = some (s, viewObj s o i, objWords o)) ∧
    (∀ src, tooMany (takeMsg s src) src = false → offMgmt src = false → nodeOk (takeMsg s src) src a.toNat = true →
      ∀ t x w, readAt (takeMsg s src) a.toNat = some (t, x, w) → EndsAnswered s (.msgRead src a 1) t ∧
      exec (.msgRead src a 1) s = done (reply t src 1 1 0 (leBytes 4 a.toNat ++ leBytes (4 * w) x))) ∧
    (∀ src c, c < 1 ∨ 56 < c ∨ offMgmt src = true ∨ nodeOk s src a.toNat = false ∨ readAt (takeMsg s src) a.toNat = none →
      EndsAnswered s (.msgRead src a c) s)

/-! ## Links (R276 to R289) -/

/-- The states of a link: OFF or DOWN trains where it may; TRAIN goes on at preset 3 after its timeout, locks into HELLO,
or goes down; HELLO and JOIN send their frames; a JOIN that stays out takes the link into QUAR; DOWN and QUAR end in
TRAIN, or in OFF where the link may not train; an UP link that is lost is DOWN. Joining: the partner's HELLO is taken into
the link's record and moves it from HELLO to JOIN, but for a cable that comes back to this device, which takes the link
down; a valid JOIN takes a link in JOIN to UP, and any other takes it into QUAR. -/
def Obligations.LinkStates : Prop :=
  (∀ (s : State) (p : Fin 8), coreRuns s = true →
    (lkState s p = lOff ∨ lkState s p = lDown → mayTrain s p = true → Completes s (.linkTrainStart p) (fun t =>
      lkState t p = lTrain ∧ ∀ q, q ≠ p.val → lkState t q = lkState s q ∧ lk t q = lk s q)) ∧
    (lkState s p = lOff ∨ lkState s p = lDown → rdB s F.lkCfg_EN p = false → Ends s (.linkTrainStart p) s) ∧
    (lkState s p = lTrain → clause72 s p = true → Ends s (.linkTrainingTimeout p) (modLk s p (fun l => { l with preset3 := true }))) ∧
    (lkState s p = lTrain → clause72 s p = false → Ends s (.linkTrainingTimeout p) s) ∧
    (lkState s p = lTrain → Completes s (.linkBlockLock p) (fun t => lkState t p = lHello ∧
      rdB t F.lkStat_TRAINED p = clause72 s p ∧ (lk t p).nonce = (drawBelow s (2 ^ 128)).2)) ∧
    (lkState s p = lTrain → Completes s (.trainLockTimeout p) (fun t => lkState t p = lDown ∧
      (rd t F.lkStat_DOWN_WHY p = 2 ∨ rd t F.lkStat_DOWN_WHY p = 3))) ∧
    (lkState s p = lHello → Ends s (.helloSend p) (sendBring s p (helloBytes s p))) ∧
    (lkState s p ≠ lHello → Ends s (.helloSend p) s) ∧
    (lkState s p = lJoin → Ends s (.joinSend p) (sendBring s p (joinBytes s p))) ∧
    (lkState s p ≠ lJoin → Ends s (.joinSend p) s) ∧
    (lkState s p = lJoin → Completes s (.joinTimeout p) (fun t => lkState t p = lQuar ∧ rd t F.lkStat_DOWN_WHY p = 7 ∧
      rd t F.lkCnt_AUTH_FAIL p = min (rd s F.lkCnt_AUTH_FAIL p + 1) (2 ^ F.lkCnt_AUTH_FAIL.w - 1))) ∧
    (lkState s p = lQuar → Completes s (.quarTimeout p) (fun t => lkState t p = if mayTrain s p then lTrain else lOff)) ∧
    (lkState s p = lDown → Completes s (.downTimeout p) (fun t => lkState t p = if mayTrain s p then lTrain else lOff)) ∧
    (∀ why, isUp s p = true → FabEnds s (.linkLoss p why) (fun u => u = linkDown s p (lossWhy why) ∧ lkState u p = lDown)) ∧
    (∀ why, isUp s p = false → Ends s (.linkLoss p why) s)) ∧
  (∀ (s : State) (p : Fin 8) (f : Frame), coreRuns s = true →
    (Receives s p f 1 (.helloReceive p f) (fun s1 x =>
      if fieldB x.payload 8 8 = s.nv.serial then linkDown s1 p 10
      else
        let s2 := modLk (wr (wr s1 F.lkNbr_SERIAL p (fieldB x.payload 8 8)) F.lkStat_NBR_PORT p (fieldB x.payload 1 1 % 8)) p
          (fun l => { l with
            nbrClaim := fieldB x.payload 2 1, nbrFlags := fieldB x.payload 3 1, nbrFinger := fieldB x.payload 16 8,
            nbrNonce := fieldB x.payload 24 16 })
        if lkState s1 p = lHello then wr s2 F.lkStat_STATE p lJoin else s2)) ∧
    (Receives s p f 2 (.joinReceive p f) (fun s1 x =>
      if lkState s1 p ≠ lJoin then s1
      else if joinValid s1 p x.hdr f.bytes x.payload then linkUp (modLk s1 p (fun l => { l with joinTime := some (x.hdr.time, locNs s) })) p
      else joinFail (if macGood s1 x.hdr f.bytes then s1 else macFailure s1 p) p)) ∧
    (isUp s p = false → lkState s p ≠ lHello → lkState s p ≠ lJoin → frameIn s p f = (s, none)) ∧
    (f.fate = .aborted → isUp s p = true → frameKind f ≠ 1 → frameKind f ≠ 2 →
      frameIn s p f = (giveBack s p f.cls.toNat ((f.bytes.length + 63) / 64), none)))

/-- Link words of an UP link: ACK releases the frames up to the one it names; NAK and the replay timeout start a replay round of
every frame from the named one, or from the oldest; CREDIT sets its class's total; the credit timer sends all four totals; a
DOWN word takes the link down. A word whose check fails, or one on a link that is not UP, does nothing. -/
def Obligations.LinkWords : Prop :=
  ∀ (s : State) (p : Fin 8) (w : BitVec 24), coreRuns s = true →
    (∀ b xs y ys, isUp s p = true → wordBody 1 w = some b → (lk s p).unacked = xs ++ y :: ys → y.lseq = b % 4096 →
      (∀ x ∈ xs, x.lseq ≠ b % 4096) → Completes s (.ackReceive p w) (fun t =>
        (lk t p).unacked = ys ∧ (lk t p).rounds = 0 ∧ ∀ q, q ≠ p.val → lk t q = lk s q)) ∧
    (∀ b xs y ys, isUp s p = true → wordBody 2 w = some b → (lk s p).unacked = xs ++ y :: ys → y.lseq = b % 4096 →
      (∀ x ∈ xs, x.lseq ≠ b % 4096) → Ends s (.nakReceive p w) (fabEnd s (replayFrom s p (y :: ys))) ∧
      ((lk s p).rounds + 1 < 8 → Completes s (.nakReceive p w) (fun t => (lk t p).again = (y :: ys).map Sent.lseq ∧
        (lk t p).rounds = (lk s p).rounds + 1 ∧ (lk t p).unacked = (lk s p).unacked ∧
        rd t F.lkCnt_REPLAYS p = min (rd s F.lkCnt_REPLAYS p + 1) (2 ^ F.lkCnt_REPLAYS.w - 1)))) ∧
    (∀ b, isUp s p = true → wordBody 3 w = some b → (lk s p).cong = [] → Ends s (.creditReceive p w)
      (modLk s p (fun l => { l with grant := l.grant.set (b % 4) (b / 4) }))) ∧
    (∀ b, isUp s p = true → wordBody 3 w = some b → Ends s (.creditReceive p w)
      (easeCong (modLk s p (fun l => { l with grant := l.grant.set (b % 4) (b / 4) })) p (b % 4))) ∧
    (∀ b, isUp s p = true → wordBody 4 w = some b → FabEnds s (.downWordReceive p w) (fun u =>
      u = linkDown s p (b % 16) ∧ lkState u p = lDown ∧ (rd u F.lkStat_DOWN_WHY p = b % 16 ∨ rd u F.lkStat_DOWN_WHY p = 11) ∧
      rd u F.lkCnt_DOWNS p = min (rd s F.lkCnt_DOWNS p + 1) (2 ^ F.lkCnt_DOWNS.w - 1) ∧ (lk u p).unacked = [])) ∧
    (isUp s p = true → Completes s (.creditSendTimer p) (fun t =>
      (∀ c < 4, linkWord 3 (c + (lk s p).given.getD c 0 % 2 ^ 14 * 4) ∈ (lk t p).words) ∧
      { lk t p with words := (lk s p).words } = lk s p ∧ ∀ q, q ≠ p.val → lk t q = lk s q)) ∧
    (isUp s p = true → Ends s (.creditSendTimer p) (putWords s p (creditWords (lk s p)))) ∧
    (isUp s p = true → Ends s (.replayTimeout p) (fabEnd s (replayFrom s p (lk s p).unacked))) ∧
    (∀ y ys, isUp s p = true → (lk s p).unacked = y :: ys → (lk s p).rounds + 1 < 8 → Completes s (.replayTimeout p) (fun t =>
      (lk t p).again = (y :: ys).map Sent.lseq ∧ (lk t p).rounds = (lk s p).rounds + 1 ∧ (lk t p).unacked = y :: ys)) ∧
    (∀ x xs, (lk s p).rounds + 1 < 8 → (lk (replayFrom s p (x :: xs)) p).again = (x :: xs).map Sent.lseq ∧
      (lk (replayFrom s p (x :: xs)) p).rounds = (lk s p).rounds + 1) ∧
    (∀ c ∈ [Instr.ackReceive p w, .nakReceive p w, .creditReceive p w, .downWordReceive p w],
      isUp s p = false ∨ (∀ k, wordBody k w = none) → Ends s c s) ∧
    (isUp s p = false → Ends s (.creditSendTimer p) s ∧ Ends s (.replayTimeout p) s)

/-! ## Frames, discovery and time (R291 to R308) -/

/-- A flow never takes one frame twice: a frame that its flow accepts is the flow's latest, and the same frame is refused from then
on; a known flow accepts a frame exactly if its sequence lies 1 to 32,767 after the latest. -/
def Obligations.FlowTakesOnce : Prop :=
  ∀ (s : State) (h : Hdr), h.seq < 65536 →
    ((flowIn s h).2 = true → (∃ x, flowOf (flowIn s h).1 (flowKey h) = some x ∧ x.h = h.seq) ∧
      (flowIn (flowIn s h).1 h).2 = false) ∧
    (∀ x, flowOf s (flowKey h) = some x →
      ((flowIn s h).2 = true ↔ 1 ≤ (h.seq + 65536 - x.h) % 65536 ∧ (h.seq + 65536 - x.h) % 65536 ≤ 32767)) ∧
    (flowOf s (flowKey h) = none → s.fab.flows.length < flowMax → (flowIn s h).2 = true)

/-- Frames and the buffers: an UP link sends what waits for it; a received frame goes to its destination; congestion shows and
counts once; a transit frame held too long ends, an RT frame does not; a flow entry idle for its lifetime is freed. -/
def Obligations.FramesPass : Prop :=
  ∀ (s : State) (p : Fin 8) (f : Frame) (cls : Cls), coreRuns s = true →
    (isUp s p = true → Ends s (.frameTransmit p) (startFrame (sendReply (sendExch (expireTransit s p) p) p) p)) ∧
    (isUp s p = false → Ends s (.frameTransmit p) s) ∧
    (∀ q qs x, isUp s p = true → s.fab.routes = [] → s.msg.replies = [] → (∀ y ∈ s.fab.transit, y.out ≠ p.val) →
      (lk s p).again = q :: qs → (lk s p).unacked.find? (fun y => y.lseq == q) = some x → hasCredits s p x.cls x.bytes = true →
      Completes s (.frameTransmit p) (fun t => (lk t p).again = qs ∧ (lk t p).unacked = (lk s p).unacked ∧
        (lk t p).out = withCrc x.bytes ∧ (lk t p).txSeq = (lk s p).txSeq)) ∧
    (∀ x, isUp s p = true → s.fab.routes = [] → s.msg.replies = [] → (∀ y ∈ s.fab.transit, y.out ≠ p.val) →
      (lk s p).again = [] → (lk s p).unacked.length < maxUnacked → classNext (draw s) p cRt = some x → classReady s p cRt = true →
      Completes s (.frameTransmit p) (fun t => (lk t p).txSeq = ((lk s p).txSeq + 1) % 4096 ∧
        (lk t p).unacked = (lk s p).unacked ++ [⟨((lk s p).txSeq + 1) % 4096, cRt, x.2⟩] ∧ (lk t p).out = withCrc x.2)) ∧
    (isUp s p = true → s.fab.routes = [] → s.msg.replies = [] → (∀ y ∈ s.fab.transit, y.out ≠ p.val) → (lk s p).again = [] →
      (maxUnacked ≤ (lk s p).unacked.length ∨ ∀ c < 4, classNext s p c = none) →
      Completes s (.frameTransmit p) (fun t => lk t p = lk s p ∧ t.fab.transit = s.fab.transit)) ∧
    (frameKind f = 0 → isUp s p = true → f.fate = .complete → crcGood f.bytes = true → frameFits s p f.bytes = false →
      f.lseq.toNat = (lk s p).rxNext.getD f.lseq.toNat → Completes s (.frameReceive p f) (fun t =>
        (lk t p).rxNext = some ((f.lseq.toNat + 1) % 4096) ∧ (lk t p).nakOut = false ∧
        rd t F.lkCnt_MALFORMED p = min (rd s F.lkCnt_MALFORMED p + 1) (2 ^ F.lkCnt_MALFORMED.w - 1) ∧
        t.qm = s.qm ∧ t.fab.transit = s.fab.transit)) ∧
    (frameKind f = 0 → isUp s p = true → f.fate = .complete → crcGood f.bytes = false → (lk s p).errCnt < rd s F.lkCfg_ERR_LIM p →
      Completes s (.frameReceive p f) (fun t => (lk t p).rxNext = (lk s p).rxNext ∧ lkState t p = lUp ∧
        rd t F.lkCnt_CRC_ERR p = min (rd s F.lkCnt_CRC_ERR p + 1) (2 ^ F.lkCnt_CRC_ERR.w - 1) ∧
        t.msg.inbox = s.msg.inbox ∧ t.fab.flows = s.fab.flows)) ∧
    (Receives s p f 0 (.frameReceive p f) (fun s1 x => if x.hdr.fctl then s1 else toDest s1 p x.hdr x.payload)) ∧
    (let c := match cls with | .rt => 0 | .ctl => 1 | .bulk => 2 | .mgmt => 3
     (∀ x, isUp s p = true → classNext s p c = some x → hasCredits s p c x.2 = false → (lk s p).cong.contains c = false →
       Completes s (.congestionOnset p cls) (fun t => rdB t F.lkStat_CONGEST p = true ∧ (lk t p).cong = c :: (lk s p).cong ∧
         Only [objKey .lkStat p] { s with fab := t.fab } t)) ∧
     (isUp s p = false ∨ classNext s p c = none ∨ (lk s p).cong.contains c = true → Ends s (.congestionOnset p cls) s)) ∧
    (Completes s (.staleDiscard p .rt) (fun t => t.fab.transit = s.fab.transit ∧ t.nv = s.nv)) ∧
    (cls ≠ .rt → Completes s (.staleDiscard p cls) (fun t => ∀ x ∈ s.fab.transit,
      (x.inPort ≠ p.val ∨ locNs s < x.at_ + 1000000) →
      (∀ y ∈ s.fab.transit, y.uid = x.uid → y.out = x.out → y = x) → x ∈ t.fab.transit)) ∧
    (∀ key, Completes s (.flowEntryExpiry key) (fun t =>
      (∀ x ∈ s.fab.flows, (x.key ≠ key ∨ locNs s < x.at_ + 1000000000) → x ∈ t.fab.flows) ∧
      (∀ x ∈ t.fab.flows, x ∈ s.fab.flows) ∧ (∀ x ∈ t.fab.flows, x.key = key → key.cls ≠ cCtl → key.cls ≠ cMgmt →
        locNs s < x.at_ + 1000000000) ∧ Quiet { s with fab := t.fab } t))

/-- Discovery: the own link state goes out under the next sequence; a received one is taken if it is newer; a node not heard of for
350 ms leaves the database, no other node and never the own one; a database that is quiet settles. -/
def Obligations.Discovery : Prop :=
  ∀ (s : State) (p : Fin 8) (f : Frame), coreRuns s = true →
    (fabActive s = false → Ends s .lsrSend s ∧ Ends s .settleQuietTimeout s) ∧
    (∀ e, fabActive s = true →
      let s1 := ownUpdate (modFab s (fun x => { x with lsrSeq := (x.lsrSeq + 1) % 2 ^ 32 }))
      ownLsr s1 = some e → Ends s .lsrSend (fabEnd s (floodOwn s1 (hdr0 s1 true false (lsrBytes e).length) (lsrBytes e)))) ∧
    (fabActive s = true → Completes s .lsrSend (fun t => t.fab.lsrSeq = (s.fab.lsrSeq + 1) % 2 ^ 32 ∧
      ∃ e, ownLsr t = some e ∧ e.seq = (s.fab.lsrSeq + 1) % 2 ^ 32 ∧ e.claim = s.load.claim ∧ e.finger = s.load.fingerprint)) ∧
    (Receives s p f 3 (.lsrReceive p f) (fun s1 x => takeLsr s1 (lsrOfBytes s1 x.payload))) ∧
    (∀ s1 x, frameKind f = 3 → frameIn s p f = (s1, some x) → (lsrOfBytes s1 x.payload).serial ≠ s1.nv.serial →
      let e := lsrOfBytes s1 x.payload
      (lsrNews s1 e = false → FabEnds s (.lsrReceive p f) (fun u => u = s1)) ∧
      (lsrNews s1 e = true → FabEnds s (.lsrReceive p f) (fun u => u = takeLsr s1 e ∧
        ∃ o, lsrOf u.fab.lsdb e.serial = some o ∧ o.seq = e.seq ∧ o.claim = e.claim ∧ o.flags = e.flags ∧ o.links = e.links ∧ o.at_ = e.at_))) ∧
    (∀ (n : BitVec 64) e, lsrOf s.fab.lsdb n.toNat = some e → e.serial ≠ s.nv.serial → e.at_ + 350000000 ≤ locNs s →
      FabEnds s (.lsrExpiry n) (fun u => u = dbChanged (modFab s (fun x =>
        { x with lsdb := x.lsdb.filter (fun y => y.serial != e.serial) })) ∧ lsrOf u.fab.lsdb n.toNat = none ∧
        u.fab.changes = s.fab.changes + 1 ∧ u.fab.lsdb.map (·.serial) = (s.fab.lsdb.map (·.serial)).filter (· ≠ e.serial))) ∧
    (∀ n : BitVec 64, (lsrOf s.fab.lsdb n.toNat = none ∨ n.toNat = s.nv.serial ∨
      ∀ e, lsrOf s.fab.lsdb n.toNat = some e → locNs s < e.at_ + 350000000) → Ends s (.lsrExpiry n) s) ∧
    (fabActive s = true → aloneNow s = false → isSettled s = true → Ends s .settleQuietTimeout (settle s true)) ∧
    (fabActive s = true → aloneNow s = true ∨ isSettled s = true → Completes s .settleQuietTimeout (fun t =>
      rd t F.devFabStat_SETTLED 0 = 1 ∧ (rdB s F.devFabStat_SETTLED 0 = false → aloneNow s = false → mode s = mDiscover →
        t.ctl.trigs = s.ctl.trigs ++ [⟨mPlace, 5, none⟩]))) ∧
    (fabActive s = true → aloneNow s = false → isSettled s = false → Ends s .settleQuietTimeout s) ∧
    (fabActive s = true → aloneNow s = true → Ends s .settleQuietTimeout (settle (ownUpdate s) true)) ∧
    (Receives s p f 6 (.routeFailReceive p f) (fun s1 x =>
      match s1.fab.routes.find? (fun y => y.id == fieldB x.payload 2 2 && y.src == rd s F.devFabStat_NODE_ID 0 && !y.onAlt) with
      | none => s1
      | some y =>
        let z := failOver s1 y
        let s2 := modFab s1 (fun g => { g with routes := g.routes.map (fun w => if w.id = fieldB x.payload 2 2 then z else w) })
        if z.dead then s2 else raiseD s2 0x76 (fieldB x.payload 2 2)))

/-- Fabric time: a request takes the next exchange number and is sent; a SYNC waits for its T, the later number standing, and one
that comes after its T is counted; the grandmaster sends its periodic SYNC, no other node and no node in LATCH does; at T the
grid starts anew with its epoch. -/
def Obligations.FabricTime : Prop :=
  ∀ (s : State) (p : Fin 8) (f : Frame), coreRuns s = true →
    (isUp s p = true → isTwin s p = false → mode s ≠ mLatch → Ends s (.tsyncRequestSend p) (sendFctl
      (modLk s p (fun l => { l with xno := ((lk s p).xno + 1) % 65536, t1 := none })) p cCtl false true
      ([4, 1] ++ leBytes 2 (((lk s p).xno + 1) % 65536) ++ List.replicate 28 0))) ∧
    (isUp s p = false ∨ isTwin s p = true ∨ mode s = mLatch → Ends s (.tsyncRequestSend p) s) ∧
    (∀ x, frameKind f = 4 → fieldB f.bytes 17 1 = 1 → (frameIn s p f).2 = some x → fieldB x.payload 1 1 = 1 →
      mode s ≠ mLatch →
      Ends s (.tsyncRequestReceive p f) (fabEnd s (sendFctl (stampNs (frameIn s p f).1).1 p cCtl false true
        ([4, 2] ++ (x.payload.drop 2).take 14 ++ leBytes 8 (stampNs (frameIn s p f).1).2 ++ leBytes 8 0)))) ∧
    (fieldB f.bytes 17 1 = 2 → Ends s (.tsyncRequestReceive p f) s) ∧
    (fieldB f.bytes 17 1 ≠ 2 → Ends s (.tsyncResponseReceive p f) s) ∧
    (∀ x, frameKind f = 4 → fieldB f.bytes 17 1 = 2 → (frameIn s p f).2 = some x →
      let r := (frameIn s p f).1
      let st := stampNs r
      let d2 : Int := ((st.2 : Int) - fieldB x.payload 8 8) - ((fieldB x.payload 0x18 8 : Nat) - (fieldB x.payload 0x10 8 : Int))
      let s1 := modLk st.1 p (fun l => { l with t1 := none, delays := (d2 :: l.delays).take 16 })
      (lk r p).t1 = some (fieldB x.payload 8 8) → fieldB x.payload 2 2 = (lk r p).xno →
      rdB r F.lkStat_PARENT p = false → FabEnds s (.tsyncResponseReceive p f) (fun u =>
        u = ownUpdate (wr s1 F.lkStat_LAT p (min 8191 (lkDelay s1 p))) ∧
        (lk u p).delays = (d2 :: (lk r p).delays).take 16 ∧ (lk u p).t1 = none ∧ u.ctl.ofs = r.ctl.ofs)) ∧
    (fabActive s = true → isGm s = true → rd s F.devFabCfg_SYNC_PER 0 ≠ 0 → mode s ≠ mLatch →
      Ends s .syncPeriodExpiry (sendSync s (rd s F.devFabCfg_SYNC_PER 0 * 1000000)) ∧
      Completes s .syncPeriodExpiry (fun t => t.fab.syncNo = (s.fab.syncNo + 1) % 65536 ∧
        ∃ at_, t.fab.syncPend = some ((s.fab.syncNo + 1) % 65536, at_) ∧ (s.fab.epoch ≤ nowNs s →
          nowNs s + 50000 ≤ at_ ∧ at_ < nowNs s + 50000 + rd s F.devFabCfg_SYNC_PER 0 * 1000000 ∧
          (at_ - s.fab.epoch) % (rd s F.devFabCfg_SYNC_PER 0 * 1000000) = 0))) ∧
    (isGm s = false ∨ rd s F.devFabCfg_SYNC_PER 0 = 0 ∨ mode s = mLatch → Ends s .syncPeriodExpiry s) ∧
    (Receives s p f 5 (.syncReceive p f) (fun s1 x => takeSync s1 (fieldB x.payload 2 2) (fieldB x.payload 8 8))) ∧
    (∀ s1 x, frameKind f = 5 → frameIn s p f = (s1, some x) → s1.fab.syncPend = none → FabEnds s (.syncReceive p f) (fun u =>
      u = takeSync s1 (fieldB x.payload 2 2) (fieldB x.payload 8 8) ∧ u.fab.syncPend = some (fieldB x.payload 2 2, fieldB x.payload 8 8) ∧ u.fab.syncNo = fieldB x.payload 2 2 ∧
      (fieldB x.payload 8 8 < nowNs s1 → rd u F.devFabCnt_SYNC_LATE 0 =
        min (rd s1 F.devFabCnt_SYNC_LATE 0 + 1) (2 ^ F.devFabCnt_SYNC_LATE.w - 1)))) ∧
    (∀ no t, s.fab.syncPend = some (no, t) → t ≤ nowNs s → s.place.moving = false → Completes s .frameRealign (fun u =>
      u.ctl.epoch = epochCyc s t ∧ u.fab.syncPend = none ∧ rd u F.devFabEpoch_SYNC_NO 0 = no % 65536 ∧
      rd u F.devFabEpoch_EPOCH 0 = t % 2 ^ 48)) ∧
    (∀ no t, s.fab.syncPend = some (no, t) → nowNs s < t → Ends s .frameRealign s)

/-! ## Placement (R318 to R327) -/

/-- The commands of a placement: an attempt starts in PLACE, a re-placement outside it with a plan in force and the database quiet;
an attempt whose database has changed is given up; inputs that cannot be read, a plan that cannot be computed and a hash that
differs are faults with their reasons; a hash on which every placing node agrees puts the plan in force; a re-placement that is
not effective in time leads to HOLD or SAFESTOP. -/
def Obligations.PlacementRuns : Prop :=
  ∀ s : State, coreRuns s = true →
    (mode s = mPlace → s.place.run = none → rd s F.devPlaceStat_STATE 0 ≠ 4 → Ends s .placeAttemptStart (placeRun s 1) ∧
      Completes s .placeAttemptStart (fun t => t.place.run.isSome = true ∧ t.place.next = none ∧ t.place.plan = s.place.plan ∧
        rd t F.devPlaceStat_STATE 0 = 1)) ∧
    (mode s ≠ mPlace ∨ s.place.run ≠ none ∨ rd s F.devPlaceStat_STATE 0 = 4 → Ends s .placeAttemptStart s) ∧
    (∀ k peers, s.place.run = some k → k ≠ s.fab.changes → Ends s (.planComputed peers) (placeAbandon s) ∧
      Completes s (.planComputed peers) (fun t => t.place.run = none ∧ t.place.plan = s.place.plan ∧
        rd t F.devPlaceStat_ATTEMPTS 0 = rd s F.devPlaceStat_ATTEMPTS 0)) ∧
    (∀ k peers, s.place.run = some k → k = s.fab.changes → allInputs s peers = none → PlaceFails s (.planComputed peers) 8) ∧
    (∀ k peers, s.place.run = some k → k = s.fab.changes → ∀ ps, allInputs s peers = some ps → ∀ why,
      computePlan s.fab.lsdb ps (prevPlan s ps) ((((prevPlan s ps).map (·.no)).getD 0 + 1) % 65536) = .inr why →
      PlaceFails s (.planComputed peers) why) ∧
    (∀ k peers, s.place.run = some k → k = s.fab.changes → s.place.since = none → ∀ ps, allInputs s peers = some ps → ∀ pl,
      computePlan s.fab.lsdb ps (prevPlan s ps) ((((prevPlan s ps).map (·.no)).getD 0 + 1) % 65536) = .inl pl →
      Completes s (.planComputed peers) (fun t => t.place.next = some pl ∧ rd t F.devPlanHash_HASH 0 = planHash pl % 2 ^ 256 ∧
        t.place.plan = s.place.plan)) ∧
    (∀ k hashes, s.place.run = some k → k = s.fab.changes → ∀ p, s.place.next = some p →
      (∀ i ∈ placingNodes s, (∃ x ∈ hashes, x.node = i ∧ x.hash = rd s F.devPlanHash_HASH 0) ∧
        ∀ x ∈ hashes, x.node = i → x.hash = rd s F.devPlanHash_HASH 0) →
      Ends s (.placeHashCompare hashes) (agreed s p) ∧
      Completes s (.placeHashCompare hashes) (fun t => t.place.run = none ∧ (mode s = mPlace → t.place.plan = some p ∧
        ((⟨mStandby, 7, none⟩ : Trig) ∈ t.ctl.trigs ∨ (⟨mFollow, 7, none⟩ : Trig) ∈ t.ctl.trigs)) ∧
        (mode s ≠ mPlace → t.place.plan = s.place.plan ∧ t.place.moving = true))) ∧
    (∀ k hashes, s.place.run = some k → k = s.fab.changes → ∀ p, s.place.next = some p →
      (∃ i ∈ placingNodes s, ∃ x ∈ hashes, x.node = i ∧ x.hash ≠ rd s F.devPlanHash_HASH 0) →
      PlaceFails s (.placeHashCompare hashes) 9) ∧
    (∀ k node, s.place.run = some k → k = s.fab.changes → s.place.next = none → node ∈ placingNodes s →
      PlaceFails s (.placeInputTimeout node) 8) ∧
    (∀ node, s.place.run = none → Ends s (.placeInputTimeout node) s) ∧
    (rd s F.devPlaceStat_STATE 0 = 4 → mode s = mPlace → Ends s .placeRetryTimer (placeRun s 1) ∧
      Completes s .placeRetryTimer (fun t => t.place.run.isSome = true ∧ rd t F.devPlaceStat_STATE 0 = 1)) ∧
    (rd s F.devPlaceStat_STATE 0 = 4 → mode s ≠ mPlace → s.place.plan ≠ none → Completes s .placeRetryTimer (fun t =>
      t.place.run.isSome = true ∧ t.place.plan = s.place.plan ∧ rd t F.devPlaceStat_STATE 0 = 3 ∧
      t.place.since = some (s.place.since.getD (locNs s)))) ∧
    (rd s F.devPlaceStat_STATE 0 ≠ 4 → Ends s .placeRetryTimer s) ∧
    (s.place.plan ≠ none → mode s ≠ mPlace → mode s ≠ mLatch → s.fab.changeAt + 1000000 ≤ locNs s →
      Ends s .replacementStart (modPlace (placeRun s 3) (fun x =>
        { x with since := some (x.since.getD (locNs s)), moving := false })) ∧
      Completes s .replacementStart (fun t => t.place.run.isSome = true ∧ t.place.plan = s.place.plan ∧
        t.place.since = some (s.place.since.getD (locNs s)) ∧ rd t F.devPlaceStat_STATE 0 = 3)) ∧
    (s.place.plan = none ∨ mode s = mPlace ∨ mode s = mLatch → Ends s .replacementStart s) ∧
    (∀ t, s.place.since = some t → t + 5000000 ≤ locNs s → Completes s .replacementTimeout (fun u =>
      u.place.since = none ∧ u.place.moving = false ∧ u.place.plan = s.place.plan ∧
      (⟨if rdB s F.devPlaceCfg_REPL_REACT 0 then mSafestop else mHold, 10, none⟩ : Trig) ∈ u.ctl.trigs)) ∧
    (s.place.since = none → Ends s .replacementTimeout s)

/-! ## Redundant execution (R328 to R349) -/

/-- The commands of a twin or triad: a round of the lanes' self test counts, and one with a wrong outcome sets FAIL and asks for
SAFESTOP; a member's port sends its frame; a received frame acts for the member of its port; a member that stays silent is
absent; RELEASE, a low OK_IN and an unverified handover stop a twin; a resync ends without result at its limit, and is tried
again. -/
def Obligations.TwinEvents : Prop :=
  ∀ s : State, coreRuns s = true →
    (mTest ≤ mode s → mode s ≠ mLatch → Completes s (.laneSelfTest 0) (fun t =>
      rd t F.devLaneTest_RUNS 0 = (rd s F.devLaneTest_RUNS 0 + 1) % 2 ^ F.devLaneTest_RUNS.w ∧
      rd t F.devLaneTest_FAIL 0 = rd s F.devLaneTest_FAIL 0 ∧ Only [objKey .devLaneTest 0] s t)) ∧
    (∀ w : BitVec 4, mTest ≤ mode s → mode s ≠ mLatch → w ≠ 0 → Completes s (.laneSelfTest w) (fun t =>
      rd t F.devLaneTest_FAIL 0 = rd s F.devLaneTest_FAIL 0 ||| w.toNat ∧
      t.ctl.trigs = s.ctl.trigs ++ [⟨mSafestop, 10, none⟩])) ∧
    (∀ w, mode s < mTest ∨ mode s = mLatch → Ends s (.laneSelfTest w) s) ∧
    (∀ p : Fin 8, isUp s p = false → Ends s (.twinFrameSend p) s) ∧
    (∀ (p : Fin 8) k, (memberIds s).find? (fun k => memberPort s k == p.val) = some k → isUp s p = true →
      Ends s (.twinFrameSend p) (twinFrame (showRed s) k) ∧
      Completes s (.twinFrameSend p) (fun t => (mem t k).next = ((mem s k).next + 1) % 65536 ∧ t.ctl.trigs = s.ctl.trigs ∧
        ∀ i, i ≠ k → mem t i = mem s i)) ∧
    (∀ (p : Fin 8) f, (memberIds s).find? (fun k => memberPort s k == p.val) = none →
      Ends s (.twinFrameReceive p f) (if frameKind f = 7 then fabEnd s (frameIn s p f).1 else s)) ∧
    (∀ (p : Fin 8) f k, (memberIds s).find? (fun k => memberPort s k == p.val) = some k →
      Receives s p f 7 (.twinFrameReceive p f) (fun s1 x => takeTwinFrame s1 k x.payload)) ∧
    (∀ (p : Fin 8) f k, (memberIds s).find? (fun k => memberPort s k == p.val) = some k → frameKind f = 7 →
      ∀ s1 x, frameIn s p f = (s1, some x) → FabEnds s (.twinFrameReceive p f) (fun u => u = takeTwinFrame s1 k x.payload ∧
        (mem u k).tseq = some (fieldB x.payload 2 2) ∧
        ((mem s1 k).tseq = none ∨ (mem s1 k).tseq = some ((fieldB x.payload 2 2 + 65535) % 65536) → (mem u k).present = true))) ∧
    (∀ k, k ∈ memberIds s → (mem s k).present = true → Ends s (.twinAbsenceTimeout k) (memberAbsent s k) ∧
      Completes s (.twinAbsenceTimeout k) (fun t => (mem t k).present = false ∧ (mem t k).out = [])) ∧
    (∀ k, k ∉ memberIds s ∨ (mem s k).present = false → Ends s (.twinAbsenceTimeout k) s) ∧
    (∀ (p : Fin 8) (r : Byte), isTwin s p = true → isUp s p = true → 
      Ends s (.releaseReceive p r) (showRed (takeRelease s r.toNat)) ∧
      (r ≠ 1 → Completes s (.releaseReceive p r) (fun t => t.ctl.trigs = s.ctl.trigs ++ [⟨mSafestop, 13, none⟩] ∧
        t.red = s.red))) ∧
    (∀ (p : Fin 8) (r : Byte), isTwin s p = false ∨ isUp s p = false → Ends s (.releaseReceive p r) s) ∧
    (redKind s = 1 → driveModes (mode s) = false → mode s ≠ mFollow → Completes s .twinOkInLow (fun t =>
      rd t F.devRedStat_OK_IN 0 = 0 ∧ (mem t 0).okOut = false ∧ t.ctl.trigs = s.ctl.trigs)) ∧
    (redKind s = 1 → (driveModes (mode s) = true ∨ mode s = mFollow) → Ends s .twinOkInLow
      (redStop (wr (modMem s 0 (fun m => { m with okOut := false })) F.devRedStat_OK_IN 0 0)) ∧
      Completes s .twinOkInLow (fun t => t.ctl.trigs = s.ctl.trigs ++ [⟨mSafestop, 13, none⟩] ∧
        rd t F.devRedStat_OK_IN 0 = 0)) ∧
    (redKind s ≠ 1 → Ends s .twinOkInLow s) ∧
    (awaitsRelease s = true → Ends s .handoverTimeout (redStop (raiseD (modRed s (fun r => { r with hand := none })) 0x87 0)) ∧
      Completes s .handoverTimeout (fun t => t.red = { s.red with hand := none } ∧
        t.ctl.trigs = s.ctl.trigs ++ [⟨mSafestop, 13, none⟩])) ∧
    (awaitsRelease s = false → Ends s .handoverTimeout s) ∧
    (rdB s F.devRedStat_RESYNC 0 = true → Completes s .resyncTimeout (fun t => rdB t F.devRedStat_RESYNC 0 = false ∧
      t.red = { s.red with snap := [], loaded := [], kept := [] } ∧ Only [objKey .devRedStat 0] { s with red := t.red } t)) ∧
    (rdB s F.devRedStat_RESYNC 0 = false → Ends s .resyncTimeout s) ∧
    (rdB s F.devRedStat_ODD 0 = true → Completes s .resyncRetry (fun t => rdB t F.devRedStat_RESYNC 0 = true ∧
      (∀ n < 48, rd t F.axCkStat_AGREE_RUN n = 0) ∧ t.red = { s.red with snap := [], loaded := [], kept := [] })) ∧
    (rdB s F.devRedStat_ODD 0 = false → s.red.odd = none → Ends s .resyncRetry s)

/-! ## The supervisor core (R351 to R379) -/

/-- An instruction comes to nothing while the core does not run or waits in WFI, and a word that cannot be fetched faults; the
arithmetic instructions give the results of R360, every one of them one clock. -/
def Obligations.SvArithmetic : Prop :=
  ∀ (s : State) (rd ra rb : Reg) (imm : BitVec 18), coreRuns s = true →
    (∀ c w, svEncode c = some w → svReady s = false → Ends s c s) ∧
    (∀ f, svReady s = true → svFetchFault s = some f → exec (.add rd ra rb) s = done (svFault (svIssued s) f.1 f.2 s.sv.pc)) ∧
    (svReady s = true → svFetchFault s = none → svEligible s (svNow s) ≠ none →
      exec (.add rd ra rb) s = done (svEnter (svIssued s))) ∧
    (SvGoes s →
      let a := svW s ra
      let b := svW s rb
      let k := b.toNat % 32
      SvGives s (.add rd ra rb) [ra, rb] 1 rd (a + b) ∧ SvGives s (.sub rd ra rb) [ra, rb] 1 rd (a - b) ∧
      SvGives s (.and rd ra rb) [ra, rb] 1 rd (a &&& b) ∧ SvGives s (.or rd ra rb) [ra, rb] 1 rd (a ||| b) ∧
      SvGives s (.xor rd ra rb) [ra, rb] 1 rd (a ^^^ b) ∧ SvGives s (.shl rd ra rb) [ra, rb] 1 rd (a <<< k) ∧
      SvGives s (.shr rd ra rb) [ra, rb] 1 rd (a >>> k) ∧ SvGives s (.sra rd ra rb) [ra, rb] 1 rd (a.sshiftRight k) ∧
      SvGives s (.slt rd ra rb) [ra, rb] 1 rd (if a.toInt < b.toInt then 1 else 0) ∧
      SvGives s (.sltu rd ra rb) [ra, rb] 1 rd (if a.toNat < b.toNat then 1 else 0) ∧
      exec (.mul rd ra rb) s = .next (svAfter s [ra, rb] 1 (fun x => { svPut rd (a * b) x with late := some rd })) ∧
      exec (.mulh rd ra rb) s = .next (svAfter s [ra, rb] 1 (fun x =>
        { svPut rd (BitVec.ofInt 32 (a.toInt * b.toInt / 2 ^ 32)) x with late := some rd })) ∧
      SvGives s (.addi rd ra imm) [ra] 1 rd (a + imm.signExtend 32) ∧ SvGives s (.andi rd ra imm) [ra] 1 rd (a &&& imm.zeroExtend 32) ∧
      SvGives s (.ori rd ra imm) [ra] 1 rd (a ||| imm.zeroExtend 32) ∧
      SvGives s (.slti rd ra imm) [ra] 1 rd (if a.toInt < (imm.signExtend 32).toInt then 1 else 0) ∧
      (imm.toNat < 32 → SvGives s (.shli rd ra imm) [ra] 1 rd (a <<< imm.toNat) ∧
        SvGives s (.shri rd ra imm) [ra] 1 rd (a >>> imm.toNat) ∧ SvGives s (.srai rd ra imm) [ra] 1 rd (a.sshiftRight imm.toNat)) ∧
      (32 ≤ imm.toNat → ∀ c ∈ [Instr.shli rd ra imm, .shri rd ra imm, .srai rd ra imm],
        exec c s = done (svFault (svIssued s) 1 s.sv.pc.toNat s.sv.pc)) ∧
      ∀ v : BitVec 16, SvGives s (.lui rd v) [] 1 rd (v.zeroExtend 32 <<< 16))

/-- Division: the three instructions take 34 clocks and give these words: the quotient is rounded toward zero and the remainder is
what it leaves, but for a division by zero, whose quotient is 0xFFFF_FFFF and whose remainder is the dividend, and for the one
quotient that does not fit, which wraps with remainder 0. -/
def Obligations.SvDivision : Prop :=
  (∀ (s : State) (rd ra rb : Reg), SvGoes s →
    SvGives s (.div rd ra rb) [ra, rb] 34 rd (divWord (svW s ra) (svW s rb)) ∧
    SvGives s (.divu rd ra rb) [ra, rb] 34 rd (divuWord (svW s ra) (svW s rb)) ∧
    SvGives s (.rem rd ra rb) [ra, rb] 34 rd (remWord (svW s ra) (svW s rb))) ∧
  ∀ a b : Word,
    (b ≠ 0 → ¬ (a = 0x80000000 ∧ b = 0xFFFFFFFF) → (divWord a b).toInt = a.toInt.tdiv b.toInt) ∧
    (b ≠ 0 → (remWord a b).toInt = a.toInt.tmod b.toInt ∧ divWord a b * b + remWord a b = a) ∧
    (b ≠ 0 → (divuWord a b).toNat = a.toNat / b.toNat) ∧
    divWord a 0 = 0xFFFFFFFF ∧ divuWord a 0 = 0xFFFFFFFF ∧ remWord a 0 = a ∧
    divWord 0x80000000 0xFFFFFFFF = 0x80000000 ∧ remWord 0x80000000 0xFFFFFFFF = 0

/-- Loads and stores of the SRAM move their bytes, the lowest address lowest, and extend as their names say; one out of range
faults. A load from the object window gives the object's bits [31:0] and leaves the rest in OBX, or gives 0 with an access error
in OBST; a store to it writes the object with OBX above the register. -/
def Obligations.SvMemory : Prop :=
  ∀ (s : State) (rd ra : Reg) (imm : BitVec 18), SvGoes s →
    let a := svAddr s ra imm
    SvLoads s (.lw rd ra imm) rd ra a 4 (BitVec.ofNat 32 (svRead s a 4)) ∧
    SvLoads s (.lh rd ra imm) rd ra a 2 ((BitVec.ofNat 16 (svRead s a 2)).signExtend 32) ∧
    SvLoads s (.lhu rd ra imm) rd ra a 2 (BitVec.ofNat 32 (svRead s a 2)) ∧
    SvLoads s (.lb rd ra imm) rd ra a 1 ((BitVec.ofNat 8 (svRead s a 1)).signExtend 32) ∧
    SvLoads s (.lbu rd ra imm) rd ra a 1 (BitVec.ofNat 32 (svRead s a 1)) ∧
    SvStores s (.sw rd ra imm) rd ra a 4 ∧ SvStores s (.sh rd ra imm) rd ra a 2 ∧ SvStores s (.sb rd ra imm) rd ra a 1 ∧
    (svSize < a + 4 → inWindow32 a = false → ∀ c ∈ [Instr.lw rd ra imm, .sw rd ra imm],
      exec c s = done (svFault (svIssued s) 4 a s.sv.pc)) ∧
    (∀ k, svParity s a 4 = some k → a + 4 ≤ svSize → exec (.lw rd ra imm) s = done (svFault (svIssued s) 6 (4 * k) s.sv.pc)) ∧
    (svProtected s a 4 = true → a + 4 ≤ svSize → exec (.sw rd ra imm) s = done (svFault (svIssued s) 5 a s.sv.pc)) ∧
    (inWindow32 a = true → ∀ c ∈ [Instr.lh rd ra imm, .lhu rd ra imm, .lb rd ra imm, .lbu rd ra imm, .sh rd ra imm, .sb rd ra imm],
      exec c s = done (svFault (svIssued s) 3 a s.sv.pc)) ∧
    (inWindow32 a = true → a % 4 ≠ 0 → ∀ c ∈ [Instr.lw rd ra imm, .sw rd ra imm],
      exec c s = done (svFault (svIssued s) 2 a s.sv.pc)) ∧
    (∀ o i, inWindow32 a = true → a % 4 = 0 → locate (windowAddr a) = some (o, i) → objThere o i = true → hasRc o = false →
      o ≠ .qPop → o ≠ .qNotice → Completes s (.lw rd ra imm) (fun t =>
        svW t rd = BitVec.ofNat 32 (viewObj s o i) ∧ t.sv.pc = s.sv.pc + 4 ∧ svCsr t 7 % 8 = 0 ∧
        (∀ k < 7, svCsr t (0x30 + k) = viewObj s o i / 2 ^ (32 * (k + 1)) % 2 ^ 32) ∧ t.regs = s.regs ∧ t.sv.mem = s.sv.mem)) ∧
    (inWindow32 a = true → a % 4 = 0 → locate (windowAddr a) = none → Completes s (.lw rd ra imm) (fun t =>
      svW t rd = 0 ∧ t.sv.pc = s.sv.pc + 4 ∧ svCsr t 7 = 9 ∧ t.regs = s.regs)) ∧
    (∀ o i, inWindow32 a = true → a % 4 = 0 → svProtected s a 4 = false → locate (windowAddr a) = some (o, i) → o ∉ specialObjs →
      judge (svIssued s) .supervisor o i ((svW s rd).toNat + svObx s) = 0 → forwards (svIssued s) o i = false →
      Completes s (.sw rd ra imm) (fun t =>
        getObj t o i = mergeVal o (getObj s o i) ((svW s rd).toNat + svObx s) ∧ svCsr t 7 % 8 = 0 ∧ t.sv.pc = s.sv.pc + 4 ∧
        Only [objKey o i] { s with sv := t.sv, ctl := t.ctl } t))

/-- Branches and jumps: each goes where R360 says, a taken one at three clocks, or faults where the target is misaligned or out of
the SRAM; JAL and JALR leave the address of the next instruction. -/
def Obligations.SvTransfers : Prop :=
  ∀ (s : State) (rd ra rb : Reg) (off : BitVec 18) (far : BitVec 26), SvGoes s →
    let a := svW s ra
    let b := svW s rb
    SvBranches s (.beq ra rb off) ra rb off (decide (a = b)) ∧ SvBranches s (.bne ra rb off) ra rb off (decide (a ≠ b)) ∧
    SvBranches s (.blt ra rb off) ra rb off (decide (a.toInt < b.toInt)) ∧
    SvBranches s (.bge ra rb off) ra rb off (decide (b.toInt ≤ a.toInt)) ∧
    SvBranches s (.bltu ra rb off) ra rb off (decide (a.toNat < b.toNat)) ∧
    SvBranches s (.bgeu ra rb off) ra rb off (decide (b.toNat ≤ a.toNat)) ∧
    SvGoesTo s (.j far) [] (s.sv.pc + 4 + far.signExtend 32 <<< 2) id ∧
    SvGoesTo s (.jal far) [] (s.sv.pc + 4 + far.signExtend 32 <<< 2) (fun c => { c with w := c.w.set 15 (s.sv.pc + 4) }) ∧
    SvGoesTo s (.jr ra) [ra] a id ∧
    SvGoesTo s (.jalr rd ra off) [ra] (a + off.signExtend 32) (fun c => { c with w := c.w.set rd (s.sv.pc + 4) })

/-- A fault outside the fault handler: its cause and address are recorded and counted, the frame lies below the old stack pointer,
INF is set, and execution goes on where the vector of faults points. Inside the fault handler it halts the core with cause 2, and
so does a frame that would go below SPLIM (where REACT does not reset the device). -/
def Obligations.SvFaultEntry : Prop :=
  ∀ (s : State) (cause addr : Nat) (ret : Word),
    let sp := (svW s 14).toNat - 32
    let v := svCsr s 1 + 0x100
    let t := svFault s cause addr ret
    (s.sv.inf = false → 32 ≤ (svW s 14).toNat → sp + 32 ≤ svSize → sp % 4 = 0 → svCsr s 2 ≤ sp → svProtected s sp 32 = false →
      v + 4 ≤ svSize → (v + 4 ≤ sp ∨ sp + 32 ≤ v) → svParity s v 4 = none → svRead s v 4 % 4 = 0 → svRead s v 4 < svSize →
      t.sv.inf = true ∧ svCsr t 3 = cause ∧ svCsr t 4 = addr % 2 ^ 32 ∧ t.sv.pc.toNat = svRead s v 4 ∧ (svW t 14).toNat = sp ∧
      (∀ i : Fin 5, svRead t (sp + 4 * i) 4 = (svW s (Fin.ofNat 16 i)).toNat) ∧ svRead t (sp + 20) 4 = (svW s 15).toNat ∧
      svRead t (sp + 24) 4 = ret.toNat ∧ svRead t (sp + 28) 4 = svSr s % 2 ^ 32 ∧
      (∀ r : Reg, r ≠ 14 → svW t r = svW s r) ∧ (∀ k, k < sp ∨ sp + 32 ≤ k → svByte t k = svByte s k) ∧
      rd t F.devSvStat_FAULTS 0 = min (rd s F.devSvStat_FAULTS 0 + 1) 255) ∧
    (s.sv.inf = true → rd s F.devSvCtl_REACT 0 ≠ 3 → rd t F.devSvStat_HALT_CAUSE 0 = 2 ∧ rdB t F.devSvStat_RUNNING 0 = false ∧ rdB t F.devSvStat_HALTED 0 = true) ∧
    (s.sv.inf = false → 32 ≤ (svW s 14).toNat → (svW s 14).toNat ≤ svSize → sp < svCsr s 2 →
      rd s F.devSvCtl_REACT 0 ≠ 3 → rd t F.devSvStat_HALT_CAUSE 0 = 2 ∧ rdB t F.devSvStat_RUNNING 0 = false)

/-- Control registers, records, handlers and events: reads and writes of control registers; QPUSH with its statuses; TRAP, WFI,
RETI and illegal words; interrupt entry; the timers, the compare, the watchdog and the reload. -/
def Obligations.SvSystem : Prop :=
  ∀ (s : State) (rd ra rb rs : Reg) (n : BitVec 18) (k : BitVec 7), coreRuns s = true →
    (SvGoes s →
      (csrThere n.toNat = true → n.toNat ≠ 0x28 → SvGives s (.csrr rd n) [] 1 rd (BitVec.ofNat 32 (csrGet s n.toNat))) ∧
      (csrThere n.toNat = false → ∀ c ∈ [Instr.csrr rd n, .csrw n rs, .csrs n rs, .csrc n rs],
        exec c s = done (svFault (svIssued s) 1 s.sv.pc.toNat s.sv.pc)) ∧
      (∀ c ∈ [Instr.timeLoRead rd, .csrr rd 0x28], exec c s = .next (svAfter s [] 1 (fun x =>
        { svPut rd (BitVec.ofNat 32 (nowNs s)) x with csr := mset (Sv.csr0 0x29) x.csr 0x29 (nowNs s / 2 ^ 32 % 2 ^ 32) }))) ∧
      (csrThere n.toNat = true → n.toNat = 2 ∨ n.toNat = 5 ∨ n.toNat = 6 ∨ n.toNat = 0x2A ∨ 0x30 ≤ n.toNat →
        exec (.csrw n rs) s = .next (svAfter s [rs] 1 (fun x =>
          { x with csr := mset (Sv.csr0 n.toNat) x.csr n.toNat (svW s rs).toNat, pc := x.pc + 4 })) ∧
        exec (.csrs n rs) s = .next (svAfter s [rs] 1 (fun x =>
          { x with csr := mset (Sv.csr0 n.toNat) x.csr n.toNat (svCsr s n.toNat ||| (svW s rs).toNat), pc := x.pc + 4 })) ∧
        exec (.csrc n rs) s = .next (svAfter s [rs] 1 (fun x =>
          { x with csr := mset (Sv.csr0 n.toNat) x.csr n.toNat (svCsr s n.toNat &&& (2 ^ 32 - 1 - (svW s rs).toNat)), pc := x.pc + 4 }))) ∧
      (exec (.csrw 0 rs) s = .next (svAfter s [rs] 2 (fun x =>
        { x with ie := bit (svW s rs).toNat 4, mask := min (bits (svW s rs).toNat 8 4) 8, pc := x.pc + 4 }))) ∧
      (exec (.tcmpArm rs) s = .next (svAfter s [rs] 1 (fun x =>
        { x with csr := mset (Sv.csr0 0x2B) x.csr 0x2B (svW s rs).toNat, armed := true, pc := x.pc + 4 }))) ∧
      (svWatching s = true → svW s rs = 0x5AFE → Completes s (.wdtFeed rs) (fun t =>
        rdB t F.devSvStat_WARN 0 = false ∧ t.sv.wdAt = nowNs s ∧ t.sv.pc = s.sv.pc + 4)) ∧
      (svWatching s = true → svW s rs ≠ 0x5AFE → rdB s F.devSvStat_WARN 0 = false → Completes s (.wdtFeed rs) (fun t =>
        rdB t F.devSvStat_WARN 0 = true ∧ bit (svCsr t 0x12) 0 = true ∧ t.sv.pc = s.sv.pc + 4)) ∧
      (svWatching s = true → svW s rs ≠ 0x5AFE → rdB s F.devSvStat_WARN 0 = true → Completes s (.wdtFeed rs) (fun t =>
        rdB t F.devSvStat_RUNNING 0 = false)) ∧
      (k.toNat = 0 ∨ 120 < k.toNat → SvGives s (.qpush rd ra rb k) [ra, rb] 1 rd 2) ∧
      (1 ≤ k.toNat → k.toNat ≤ 120 → ((svW s ra).toNat % 2 ≠ 0 ∨ svSize < (svW s ra).toNat + 2 * k.toNat) →
        exec (.qpush rd ra rb k) s = done (svFault (svIssued s) 4 (svW s ra).toNat s.sv.pc)) ∧
      (1 ≤ k.toNat → k.toNat ≤ 120 → (svW s ra).toNat % 2 = 0 → (svW s ra).toNat + 2 * k.toNat ≤ svSize →
        (svW s rb).toNat < 2 ^ 19 →
        let q := (svW s rb).toNat % 2 ^ 16
        let p := pushFor (svIssued s) 5 q (bits (svW s rb).toNat 16 3) (qpushRec s (svW s ra).toNat k.toNat)
        (isQueue q = false → SvGives s (.qpush rd ra rb k) [ra, rb] ((k.toNat + 4) / 2) rd 3) ∧
        (isQueue q = true → Completes s (.qpush rd ra rb k) (fun t => svW t rd = (if p.2 then 0 else 1) ∧
          t.sv.pc = s.sv.pc + 4 ∧ t.sv.clocks = s.sv.clocks + (k.toNat + 4) / 2 + svWait s [ra, rb] ∧ t.sv.mem = s.sv.mem))) ∧
      (∀ code : BitVec 16, exec (.trap code) s = done (svFault (svIssued s) (7 + code.toNat * 2 ^ 16) s.sv.pc.toNat (s.sv.pc + 4))) ∧
      (exec .wfi s = .next (svAfter s [] 1 (fun x => { x with wfi := true, pc := x.pc + 4 }))) ∧
      (∀ x, retiFault s = some x → exec .reti s = done (svFault (svIssued s) x.1 x.2 s.sv.pc)) ∧
      (let sp := (svW s 14).toNat
       retiFault s = none → svEligible s (srOf (svRead s (sp + 28) 4)) = none → Completes s .reti (fun t =>
        t.sv.pc.toNat = svRead s (sp + 24) 4 ∧ svNow t = srOf (svRead s (sp + 28) 4) ∧
        (∀ i : Fin 5, (svW t (Fin.ofNat 16 i)).toNat = svRead s (sp + 4 * i) 4) ∧ (svW t 15).toNat = svRead s (sp + 20) 4 ∧
        svW t 14 = svW s 14 + 32 ∧ t.sv.mem = s.sv.mem)) ∧
      (∀ w : Word, svDecode w.toNat = none → exec (.illegalInstruction w) s = done (svFault (svIssued s) 1 s.sv.pc.toNat s.sv.pc))) ∧
    (∀ w : Word, svDecode w.toNat ≠ none → Ends s (.illegalInstruction w) s) ∧
    (svReady s = true → s.sv.inf = false → exec .interruptEntry s = done (svEnter (svIssued s))) ∧
    (svReady s = false ∨ s.sv.inf = true → Ends s .interruptEntry s) ∧
    (∀ t : Fin 2, ∀ at_, svRunning s = true → s.sv.tmrAt.find? (fun x => x.1 == t.val) = some (t.val, at_) →
      Completes s (.tmrExpiry t) (fun u => bit (svCsr u 0x12) (1 + t.val) = true ∧
        mget 0 u.sv.tmrAt t = at_ + 1000 * svCsr s (0x2C + t) ∧ Quiet { s with sv := u.sv } u)) ∧
    (∀ t : Fin 2, s.sv.tmrAt.find? (fun x => x.1 == t.val) = none → Ends s (.tmrExpiry t) s) ∧
    (svRunning s = true → s.sv.armed = true → svCsr s 0x2B * 2 ^ 32 + svCsr s 0x2A ≤ nowNs s → Completes s .tcmpMatch (fun u =>
      bit (svCsr u 0x12) 3 = true ∧ u.sv.armed = false ∧ Quiet { s with sv := u.sv } u)) ∧
    (svRunning s = false ∨ s.sv.armed = false → Ends s .tcmpMatch s) ∧
    (svWatching s = true → rdB s F.devSvStat_WARN 0 = false → Completes s .watchdogExpiry (fun t =>
      rdB t F.devSvStat_WARN 0 = true ∧ bit (svCsr t 0x12) 0 = true ∧ t.sv.wdAt = nowNs s ∧ rdB t F.devSvStat_RUNNING 0 = true)) ∧
    (svWatching s = true → rdB s F.devSvStat_WARN 0 = true → Machine.rd s F.devSvCtl_REACT 0 ≠ 3 →
      Completes s .watchdogExpiry (fun t => rdB t F.devSvStat_RUNNING 0 = false ∧ Machine.rd t F.devSvStat_HALT_CAUSE 0 = 3)) ∧
    (svWatching s = false → Ends s .watchdogExpiry s) ∧
    (rdB s F.devSvStat_RELOADING 0 = true → s.ledg.write = none → Ends s .svReloadDone (svReload s)) ∧
    (rdB s F.devSvStat_RELOADING 0 = false ∨ s.ledg.write ≠ none → Ends s .svReloadDone s)

/-! ## The ledger (R380 to R390) -/

/-- A record written into a slot reads back as a valid record of this device with its sequence, and changes no other slot. -/
def Obligations.LedgerRecord : Prop :=
  ∀ (s : State) (w : LedgWrite), w.slot < 8 → w.data.length = 1664 → s.nv.serial < 2 ^ 64 →
    ledgIntact (ledgStore s w) w.slot = true ∧ ledgOwn (ledgStore s w) w.slot = true ∧
    ledgSeq (ledgStore s w) w.slot = w.seq % 2 ^ 32 ∧
    ∀ k, k ≠ w.slot → ledgSlot (ledgStore s w) k = ledgSlot s k ∧ ledgIntact (ledgStore s w) k = ledgIntact s k

/-- The ledger's commands. A write that compared well stores its record, counts, and is the newest; the first failed compare
is tried once more in the next slot, the second ends the write, and the third failed write in a row stops the writing. The
interval starts a write unless one for a brown-out runs. The load happens once, takes the newest valid record of this device,
and reports a memory that does not respond or holds none. Full seconds and raw counts go into their counters. -/
def Obligations.LedgerCommands : Prop :=
  ∀ s : State, coreRuns s = true →
    (∀ ok, s.ledg.write = none → Ends s (.ledgerWriteDone ok) s) ∧
    (∀ w, s.ledg.write = some w → w.forReset = false → s.ledg.waiting = [] → Completes s (.ledgerWriteDone true) (fun t =>
      t.nv = (ledgStore s w).nv ∧ t.ledg.write = none ∧ t.ledg.newest = some (w.slot, w.seq) ∧ t.ledg.fails = 0 ∧
      rd t F.devLedgStat_WRITES 0 = min (rd s F.devLedgStat_WRITES 0 + 1) (2 ^ F.devLedgStat_WRITES.w - 1) ∧
      rdB t F.devLedgStat_BUSY 0 = false)) ∧
    (∀ w, s.ledg.write = some w → w.retry = false → Completes s (.ledgerWriteDone false) (fun t =>
      t.ledg.write = some { w with slot := (w.slot + 1) % 8, seq := (w.seq + 1) % 2 ^ 32, retry := true } ∧
      rd t F.devLedgStat_ERRS 0 = min (rd s F.devLedgStat_ERRS 0 + 1) (2 ^ F.devLedgStat_ERRS.w - 1))) ∧
    (∀ w, s.ledg.write = some w → w.retry = true → w.forReset = false → s.ledg.waiting = [] →
      Completes s (.ledgerWriteDone false) (fun t => t.ledg.write = none ∧ t.ledg.fails = s.ledg.fails + 1 ∧
        (2 ≤ s.ledg.fails → rdB t F.devLedgStat_MEM_FAIL 0 = true))) ∧
    (∀ w, s.ledg.write = some w → w.forReset = true → Completes s (.ledgerWriteDone true) (fun t =>
      t.pwr.rst = true ∧ t.nv.ledgMem = (ledgStore s w).nv.ledgMem)) ∧
    (s.ledg.write = none → Ends s .ledgerIntervalExpiry (ledgTrigger s 1 false)) ∧
    (∀ w, s.ledg.write = some w → w.bo = true → Ends s .ledgerIntervalExpiry s) ∧
    (∀ w, s.ledg.write = some w → w.bo = false → ledgCanWrite s = true → Ends s .ledgerIntervalExpiry
      { s with ledg := { s.ledg with waiting := s.ledg.waiting ++ [1] } }) ∧
    (rdB s F.devLedgStat_LOADED 0 = true ∨ mode s < mTest → Ends s .ledgerLoad s) ∧
    (rdB s F.devLedgStat_LOADED 0 = false → mTest ≤ mode s → Completes s .ledgerLoad (fun t =>
      rdB t F.devLedgStat_LOADED 0 = true ∧ t.nv = s.nv ∧
      (ledgSilent s = true → rdB t F.devLedgStat_NOMEM 0 = true) ∧
      (ledgSilent s = false → ledgNewest s = none → rdB t F.devLedgStat_NEW 0 = true) ∧
      (∀ k, ledgSilent s = false → ledgNewest s = some k → t.ledg.newest = some (k, ledgSeq s k) ∧
        (∀ n < 48, getObj t .axLedger n = fieldB (ledgSlot s k) (0xA0 + 32 * n) 32 % 2 ^ 230)))) ∧
    (Completes s .ledgerFold (fun t => mget 0 t.ledg.acc accPower = mget 0 s.ledg.acc accPower + 1 ∧
      mget 0 t.ledg.base 0 = rd s F.devSpecTot_SQUASH_TOT 0 ∧
      (let d := (rd s F.devSpecTot_SQUASH_TOT 0 + 2 ^ 32 - mget 0 s.ledg.base 0) % 2 ^ 32
       rd t F.devLedger_SQUASH 0 = min (rd s F.devLedger_SQUASH 0 + d) (2 ^ F.devLedger_SQUASH.w - 1)) ∧
      ∀ n < 48, mget 0 t.ledg.acc (accAxis n 0) = mget 0 s.ledg.acc (accAxis n 0) + b2n (energised s n))) ∧
    (Completes s .ledgerSecond (fun t =>
      rd t F.devLedger_POWER_ON 0 = min (rd s F.devLedger_POWER_ON 0 + b2n (decide (1000 ≤ mget 0 s.ledg.acc accPower)))
        (2 ^ F.devLedger_POWER_ON.w - 1) ∧
      (∀ n < 48, rd t F.axLedger_ENERGISED n = min (rd s F.axLedger_ENERGISED n +
        b2n (decide (1000 ≤ mget 0 s.ledg.acc (accAxis n 0)))) (2 ^ F.axLedger_ENERGISED.w - 1)) ∧
      mget 0 t.ledg.acc accPower = mget 0 s.ledg.acc accPower - (if 1000 ≤ mget 0 s.ledg.acc accPower then 1000 else 0) ∧
      t.nv = s.nv))

/-! ## Events and messages (R403 to R412, R429) -/

/-- The events of one command are pushed in the order of their codes, then of their axes, none lost and none added; events of one
code and axis keep their order. Before the end of LOAD up to sixteen wait, and the others are counted. -/
def Obligations.EventOrder : Prop :=
  (∀ es : List Ev, (evSort es.reverse).Perm es ∧
    (evSort es.reverse).Pairwise (fun a b => a.code < b.code ∨ a.code = b.code ∧ a.axis ≤ b.axis) ∧
    ∀ c n, (evSort es.reverse).filter (fun e => e.code == c && e.axis == n) = es.filter (fun e => e.code == c && e.axis == n)) ∧
  (∀ (s : State) (e : Ev), (s.ctl.evPre.length < 16 → holdEvent s e = { s with ctl := { s.ctl with evPre := s.ctl.evPre ++ [e] } }) ∧
    (16 ≤ s.ctl.evPre.length → (holdEvent s e).ctl = s.ctl ∧
      rd (holdEvent s e) F.devEvStat_PRE_LOST 0 = min (rd s F.devEvStat_PRE_LOST 0 + 1) 65535)) ∧
  ∀ (s : State) (e : Ev), ∃ l, (logEvent s e).ctl.evLog = l ++ [e] ∧ (logEvent s e).ctl.evLog.length ≤ 4096 ∧ l <:+ s.ctl.evLog

/-- Messages: a SUBSCRIBE that fits starts, replaces or ends its subscription, and any other changes none; a delivery
sends whole records of its subscription; an EVENT does nothing; a PUSH enters its queue through port 5, or is refused; a
TRACE_READ answers samples of a capture that is done. The service port and the test port: a good frame with a free buffer
is taken, any other sets BAD; with no message waiting a read returns an empty frame; a status read shows BAD and clears
it; while CORE does not run the port does nothing; the boundary cells act only while PORST_N is low. -/
def Obligations.MessagesAndPorts : Prop :=
  (∀ (s : State) (src : Src), coreRuns s = true →
    (∀ r : SubReq, subStatus (takeMsg s src) src r = 0 → r.cancel = false → Completes s (.msgSubscribe src r) (fun t =>
      subOf t r.queue.toNat = some ⟨r.svc, r.dstNode, r.dstQueue.toNat, r.rsize, [], 0⟩ ∧
      ∀ q, q ≠ r.queue.toNat → subOf t q = subOf s q)) ∧
    (∀ r : SubReq, subStatus (takeMsg s src) src r = 0 → r.cancel = true → Completes s (.msgSubscribe src r) (fun t =>
      subOf t r.queue.toNat = none ∧ ∀ q, q ≠ r.queue.toNat → subOf t q = subOf s q)) ∧
    (∀ r : SubReq, subStatus (takeMsg s src) src r ≠ 0 → Completes s (.msgSubscribe src r) (fun t =>
      t.msg.subs = s.msg.subs)) ∧
    (∀ q : Halfword, subOf s q.toNat = none → Ends s (.subscriptionDelivery q) s) ∧
    (∀ (q : Halfword) u, subOf s q.toNat = some u → subOpen s q.toNat u = false ∨ subFit q.toNat u = 0 → Ends s (.subscriptionDelivery q) s) ∧
    (∀ (q : Halfword) u, subOf s q.toNat = some u → subOpen s q.toNat u = true → 0 < subFit q.toNat u →
      Ends s (.subscriptionDelivery q) (subDeliver s q.toNat u)) ∧
    (∀ bs, Ends s (.msgEvent src bs) (takeMsg s src)) ∧
    (∀ (q : Halfword) prio bs, (bs.length < 2 ∨ 228 < bs.length ∨ bs.length % 2 = 1 ∨ isQueue q.toNat = false ∨ tooMany (takeMsg s src) src = true) →
      EndsAnswered s (.msgPush src q prio bs) s) ∧
    (∀ (q : Halfword) prio bs, fromFabric src = true → EndsAnswered s (.msgPush src q prio bs) s) ∧
    (∀ (q : Halfword) prio bs, 2 ≤ bs.length → bs.length ≤ 228 → bs.length % 2 = 0 → isQueue q.toNat = true →
      tooMany (takeMsg s src) src = false → fromFabric src = false →
      let p := pushFor (takeMsg s src) 5 q.toNat prio.toNat (halfwords bs)
      exec (.msgPush src q prio bs) s = done (reply p.1 src 5 0 (if p.2 then 0 else 5) [])) ∧
    (∀ prb count first, EndsAnswered s (.msgTraceRead src prb count first) s) ∧
    (∀ (prb : Byte) (count : Halfword) (first : Word), tooMany (takeMsg s src) src = false → trcState s = trcDone → prb.toNat ≤ 63 →
      rdB s F.devTrcProbe_EN prb.toNat = true → first.toNat < (probe s prb.toNat).ring.length → rdB s F.devTrcProbe_W32 prb.toNat = true →
      let xs := ((probe s prb.toNat).ring.drop first.toNat).take (min count.toNat 56)
      exec (.msgTraceRead src prb count first) s = done (reply (takeMsg s src) src 6 0 0
        (leBytes 1 prb.toNat ++ [0] ++ leBytes 2 xs.length ++ leBytes 4 first.toNat ++ xs.flatMap (fun x => leBytes 4 (tc 32 x)))))) ∧
  (∀ s : State,
    (coreRuns s = true → Calm s → ∀ (len : Nat) (m : List Byte) (crc : Word),
      (8 ≤ len → len ≤ 240 → m.length = len → crc.toNat = crc32 (leBytes 2 len ++ m) → svcReady s = true → msgFits false m = true →
        exec (.svcSend len m crc) s = .next { s with msg := { s.msg with
          inbox := s.msg.inbox ++ [⟨.svc (BitVec.ofNat 16 (fieldB m 2 2)), m⟩] } }) ∧
      (len < 8 ∨ 240 < len ∨ m.length ≠ len ∨ crc.toNat ≠ crc32 (leBytes 2 len ++ m) ∨ svcReady s = false →
        exec (.svcSend len m crc) s = .next { s with msg := { s.msg with bad := true } })) ∧
    (coreRuns s = true → Calm s → ∀ n, s.msg.svcLens = [] →
      exec (.svcRecv n) s = .next { s with msg := { s.msg with
        svcOut := (svcFrame []).take n ++ List.replicate (n - 6) 0 } }) ∧
    (coreRuns s = true → Calm s → exec .svcStat s = .next { s with msg := { s.msg with
      bad := false
      svcOut := leBytes 1 (b2n (svcReady s) + 2 * b2n (svcWaits s) + 4 * b2n s.msg.bad + 8) } }) ∧
    (coreRuns s = false → ∀ len m crc n, Ends s (.svcSend len m crc) s ∧ Ends s (.svcRecv n) s ∧ Ends s .svcStat s) ∧
    (∀ cells, s.pwr.porstLow = true → Ends s (.jtagExtest cells) { s with pwr := { s.pwr with extest := some cells } }) ∧
    (∀ cells, s.pwr.porstLow = false → Ends s (.jtagExtest cells) s))

/-! ## Words and memories -/

/-- The words of the supervisor's instructions: every well-formed instruction's word, with every operand at every value
the format holds, decodes to the instruction, and every word that decodes is the word of what it decodes to, but for the
field ra of a CSRS or CSRC, of which R360 asks nothing: there the encoder writes 0. Words written out from the formats:
LUI, LW and CSRR of the spec's example program; a CSRS whose field ra is 6; a CSRR whose field ra is 6 is illegal, and so
are op 0 and an R form whose low bits are not 0. -/
def Obligations.SvWordsRoundTrip : Prop :=
  ((∀ (c : Instr) (w : Nat), c.wf = true → svEncode c = some w → w < 2 ^ 32 ∧ svDecode w = some c) ∧
  ∀ (c : Instr) (w : Nat), w < 2 ^ 32 → svDecode w = some c → c.wf = true ∧
    svEncode c = some (if w / 2 ^ 26 = 0x2F ∨ w / 2 ^ 26 = 0x30 then w - w / 2 ^ 18 % 16 * 2 ^ 18 else w)) ∧
  (svDecode 0x5C4080C0 = some (.lui 1 0x80C0) ∧ svDecode 0x608417BC = some (.lw 2 1 0x17BC) ∧
  svDecode 0xB4C00031 = some (.csrr 3 0x31) ∧ svDecode 0xBF180026 = some (.csrs 0x26 12) ∧
  svDecode 0xB7180026 = none ∧ svDecode 0 = none ∧ svDecode 0x04000001 = none ∧ svDecode 0xC8000000 = none)

/-- Every step that answers a next state keeps the memories in their canonical form and takes one command off the queue. -/
def Obligations.StepKeepsMemories : Prop :=
  ∀ s t : State, NvCanonical s → step s = .next t → NvCanonical t ∧ t.pending = s.pending.tail
end

