-- ==== Sys2Proof/Laws/Maps.lean ====
section
/-!
SUPPORT. Laws of the sparse maps, the byte memories and the fields of a word: what a write leaves at its own place and at every
other, and that the canonical form is kept.
-/

namespace Sys2Proof.Machine

variable {α : Type}

/-! ## Maps -/

@[simp] theorem mget_nil (d : α) (k : Nat) : mget d [] k = d := rfl

@[simp] theorem mget_mins_same (d : α) (m : List (Nat × α)) (k : Nat) (a : α) : mget d (mins m k a) k = a := by
  induction m with
  | nil => simp [mins, mget]
  | cons x m ih =>
    obtain ⟨j, b⟩ := x
    simp only [mins]
    split
    · simp [mget]
    · split
      · simp [mget]
      · rename_i h; simp [mget, h, ih]

theorem mget_mins_ne (d : α) (m : List (Nat × α)) (k j : Nat) (a : α) (h : j ≠ k) :
    mget d (mins m k a) j = mget d m j := by
  induction m with
  | nil => simp [mins, mget, Ne.symm h]
  | cons x m ih =>
    obtain ⟨i, b⟩ := x
    simp only [mins]
    split
    · simp [mget, Ne.symm h]
    · split
      · rename_i hi; subst hi; simp [mget, Ne.symm h]
      · simp only [mget, ih]

@[simp] theorem mget_mdel_same (d : α) (m : List (Nat × α)) (k : Nat) : mget d (mdel m k) k = d := by
  induction m with
  | nil => rfl
  | cons x m ih =>
    obtain ⟨i, b⟩ := x
    simp only [mdel]
    split
    · exact ih
    · rename_i h; simp [mget, h, ih]

theorem mget_mdel_ne (d : α) (m : List (Nat × α)) (k j : Nat) (h : j ≠ k) : mget d (mdel m k) j = mget d m j := by
  induction m with
  | nil => rfl
  | cons x m ih =>
    obtain ⟨i, b⟩ := x
    simp only [mdel]
    split
    · rename_i hi; subst hi; simp [mget, Ne.symm h, ih]
    · simp only [mget, ih]

@[simp] theorem mget_mset_same [DecidableEq α] (d : α) (m : List (Nat × α)) (k : Nat) (a : α) :
    mget d (mset d m k a) k = a := by
  unfold mset
  split
  · rename_i h; simp [h]
  · simp

theorem mget_mset_ne [DecidableEq α] (d e : α) (m : List (Nat × α)) (k j : Nat) (a : α) (h : j ≠ k) :
    mget e (mset d m k a) j = mget e m j := by
  unfold mset
  split
  · exact mget_mdel_ne e m k j h
  · exact mget_mins_ne e m k j a h

/-! ## The canonical form -/

theorem mwfFrom_weaken [DecidableEq α] (d : α) (lo lo' : Nat) (m : List (Nat × α)) (h : lo' ≤ lo)
    (hm : mwfFrom d lo m = true) : mwfFrom d lo' m = true := by
  cases m with
  | nil => rfl
  | cons x m => simp [mwfFrom] at hm ⊢; exact ⟨⟨by omega, hm.1.2⟩, hm.2⟩

theorem mwfFrom_mdel [DecidableEq α] (d : α) (m : List (Nat × α)) (lo k : Nat) (hm : mwfFrom d lo m = true) :
    mwfFrom d lo (mdel m k) = true := by
  induction m generalizing lo with
  | nil => rfl
  | cons x m ih =>
    obtain ⟨j, b⟩ := x
    simp only [mwfFrom, Bool.and_eq_true, decide_eq_true_eq] at hm
    simp only [mdel]
    split
    · exact ih lo (mwfFrom_weaken d _ _ m (by omega) hm.2)
    · simp only [mwfFrom, Bool.and_eq_true, decide_eq_true_eq]; exact ⟨hm.1, ih _ hm.2⟩

theorem mwfFrom_mins [DecidableEq α] (d : α) (m : List (Nat × α)) (lo k : Nat) (a : α) (ha : a ≠ d) (hk : lo ≤ k)
    (hm : mwfFrom d lo m = true) : mwfFrom d lo (mins m k a) = true := by
  induction m generalizing lo with
  | nil => simp [mins, mwfFrom, ha, hk]
  | cons x m ih =>
    obtain ⟨j, b⟩ := x
    simp only [mwfFrom, Bool.and_eq_true, decide_eq_true_eq] at hm
    simp only [mins]
    split
    · simp only [mwfFrom, Bool.and_eq_true, decide_eq_true_eq]; exact ⟨⟨hk, ha⟩, ⟨⟨by omega, hm.1.2⟩, hm.2⟩⟩
    · split
      · rename_i h; subst h; simp only [mwfFrom, Bool.and_eq_true, decide_eq_true_eq]; exact ⟨⟨hk, ha⟩, hm.2⟩
      · simp only [mwfFrom, Bool.and_eq_true, decide_eq_true_eq]; exact ⟨hm.1, ih _ (by omega) hm.2⟩

/-- A write keeps the canonical form. -/
theorem mwf_mset [DecidableEq α] (d : α) (m : List (Nat × α)) (k : Nat) (a : α) (hm : mwf d m = true) :
    mwf d (mset d m k a) = true := by
  unfold mset mwf at *
  split
  · exact mwfFrom_mdel d m 0 k hm
  · rename_i h; exact mwfFrom_mins d m 0 k a h (by omega) hm

/-- A byte string written keeps the canonical form of a memory. -/
theorem mwf_memWrite (d : Byte) (m : List (Nat × Byte)) (a : Nat) (bs : List Byte) (hm : mwf d m = true) :
    mwf d (memWrite d m a bs) = true := by
  induction bs generalizing m a with
  | nil => exact hm
  | cons b bs ih => exact ih _ _ (mwf_mset d m a b hm)

/-! ## Byte memories -/

/-- A byte string written leaves every address outside it. -/
theorem mget_memWrite_ne (d : Byte) (m : List (Nat × Byte)) (a k : Nat) (bs : List Byte)
    (h : k < a ∨ a + bs.length ≤ k) : mget d (memWrite d m a bs) k = mget d m k := by
  induction bs generalizing m a with
  | nil => rfl
  | cons b bs ih =>
    simp only [List.length_cons] at h
    simp only [memWrite]
    rw [ih _ _ (by omega), mget_mset_ne d d m a k b (by omega)]

/-- A byte string written reads back. -/
theorem mget_memWrite_in (d : Byte) (m : List (Nat × Byte)) (a i : Nat) (bs : List Byte) (h : i < bs.length) :
    mget d (memWrite d m a bs) (a + i) = bs[i] := by
  induction bs generalizing m a i with
  | nil => simp at h
  | cons b bs ih =>
    simp only [memWrite]
    cases i with
    | zero => rw [mget_memWrite_ne _ _ _ _ _ (by omega)]; simp
    | succ i =>
      have := ih (mset d m a b) (a + 1) i (by simpa using h)
      simpa [Nat.add_assoc, Nat.add_comm 1 i] using this

@[simp] theorem memBytes_length (d : Byte) (m : List (Nat × Byte)) (a n : Nat) : (memBytes d m a n).length = n := by
  induction n generalizing a with
  | zero => rfl
  | succ n ih => simp [memBytes, ih]

@[simp] theorem leBytes_length (n v : Nat) : (leBytes n v).length = n := by
  induction n generalizing v with
  | zero => rfl
  | succ n ih => simp [leBytes, ih]

/-- The bytes of a value give it back, to their number. -/
theorem leVal_leBytes (n v : Nat) : leVal (leBytes n v) = v % 256 ^ n := by
  induction n generalizing v with
  | zero => simp [leBytes, leVal, Nat.mod_one]
  | succ n ih =>
    rw [leBytes, leVal, ih, BitVec.toNat_ofNat, Nat.pow_succ 256 n, Nat.mul_comm (256 ^ n) 256, Nat.mod_mul]

/-! ## Fields of a word -/

theorem setBits_lt (v lo w x : Nat) : v % 2 ^ lo + (x % 2 ^ w) * 2 ^ lo < 2 ^ (lo + w) := by
  have h1 : v % 2 ^ lo < 2 ^ lo := Nat.mod_lt _ (Nat.two_pow_pos lo)
  have h2 : x % 2 ^ w < 2 ^ w := Nat.mod_lt _ (Nat.two_pow_pos w)
  calc v % 2 ^ lo + (x % 2 ^ w) * 2 ^ lo < 2 ^ lo + (x % 2 ^ w) * 2 ^ lo := by omega
    _ = (x % 2 ^ w + 1) * 2 ^ lo := by rw [Nat.add_mul, Nat.one_mul, Nat.add_comm]
    _ ≤ 2 ^ w * 2 ^ lo := Nat.mul_le_mul_right _ h2
    _ = 2 ^ (lo + w) := by rw [Nat.pow_add, Nat.mul_comm]

/-- A field holds what is written there, to its width. -/
@[simp] theorem bits_setBits_same (v lo w x : Nat) : bits (setBits v lo w x) lo w = x % 2 ^ w := by
  unfold bits setBits
  have h1 : v % 2 ^ lo < 2 ^ lo := Nat.mod_lt _ (Nat.two_pow_pos lo)
  rw [Nat.pow_add, ← Nat.mul_assoc, Nat.mul_right_comm _ (2 ^ lo) (2 ^ w), Nat.add_assoc, ← Nat.add_mul,
    Nat.add_mul_div_right _ _ (Nat.two_pow_pos lo), Nat.div_eq_of_lt h1, Nat.zero_add, Nat.add_mul_mod_self_right,
    Nat.mod_mod]

/-- A field below the one written keeps its value. -/
theorem bits_setBits_below (v lo w x l u : Nat) (h : l + u ≤ lo) : bits (setBits v lo w x) l u = bits v l u := by
  unfold bits
  rw [← Nat.mod_mul_right_div_self, ← Nat.mod_mul_right_div_self, ← Nat.pow_add]
  have : setBits v lo w x % 2 ^ (l + u) = v % 2 ^ (l + u) := by
    unfold setBits
    obtain ⟨c, rfl⟩ := Nat.le.dest h
    rw [show l + u + c + w = l + u + (c + w) from by omega, Nat.pow_add 2 (l + u) c, Nat.pow_add 2 (l + u) (c + w)]
    simp only [Nat.add_mod, Nat.mul_mod, Nat.mod_self, Nat.zero_mul, Nat.mul_zero, Nat.zero_mod, Nat.add_zero,
      Nat.mod_mod, Nat.mod_mul_right_mod]
  rw [this]

/-- A field above the one written keeps its value. -/
theorem bits_setBits_above (v lo w x l u : Nat) (h : lo + w ≤ l) : bits (setBits v lo w x) l u = bits v l u := by
  unfold bits
  have : setBits v lo w x / 2 ^ l = v / 2 ^ l := by
    obtain ⟨c, rfl⟩ := Nat.le.dest h
    rw [Nat.pow_add 2 (lo + w) c, ← Nat.div_div_eq_div_mul, ← Nat.div_div_eq_div_mul]
    unfold setBits
    rw [Nat.add_mul_div_right _ _ (Nat.two_pow_pos _), Nat.div_eq_of_lt (setBits_lt v lo w x), Nat.zero_add]
  rw [this]

theorem bits_lt (v lo w : Nat) : bits v lo w < 2 ^ w := Nat.mod_lt _ (Nat.two_pow_pos w)

end Sys2Proof.Machine
end

