-- ==== Sys2Proof/Laws/Bytes.lean ====
section
/-!
SUPPORT. Byte strings of the memories: what is written reads back; what was never written reads as the fill; a CRC fits its
word.
-/

namespace Sys2Proof.Machine

theorem getElem_memBytes (d : Byte) (m : List (Nat × Byte)) (a n i : Nat) (h : i < (memBytes d m a n).length) :
    (memBytes d m a n)[i] = mget d m (a + i) := by
  induction n generalizing a i with
  | zero => simp [memBytes] at h
  | succ n ih =>
    cases i with
    | zero => rfl
    | succ i =>
      simp only [memBytes, List.getElem_cons_succ]
      rw [ih]
      congr 1; omega

/-- Bytes written into a memory read back. -/
theorem memBytes_memWrite (d : Byte) (m : List (Nat × Byte)) (a : Nat) (bs : List Byte) :
    memBytes d (memWrite d m a bs) a bs.length = bs := by
  refine List.ext_getElem (memBytes_length ..) (fun i h k => ?_)
  rw [getElem_memBytes]
  exact mget_memWrite_in d m a i bs k

/-- Bytes outside what was written read as before. -/
theorem memBytes_memWrite_ne (d : Byte) (m : List (Nat × Byte)) (a b n : Nat) (bs : List Byte)
    (h : b + n ≤ a ∨ a + bs.length ≤ b) : memBytes d (memWrite d m a bs) b n = memBytes d m b n := by
  refine List.ext_getElem (by simp) (fun i h1 h2 => ?_)
  rw [getElem_memBytes, getElem_memBytes]
  rw [memBytes_length] at h1
  exact mget_memWrite_ne d m a (b + i) bs (by omega)

theorem memBytes_empty (d : Byte) (a n : Nat) : memBytes d [] a n = List.replicate n d := by
  induction n generalizing a with
  | zero => rfl
  | succ n ih => simp [memBytes, mget, ih, List.replicate_succ]

theorem leVal_zeros (m : Nat) : leVal (List.replicate m 0) = 0 := by
  induction m with
  | zero => rfl
  | succ m ih => simp only [List.replicate_succ, leVal, ih]; rfl

theorem fieldB_zeros (n off k : Nat) : fieldB (List.replicate n 0) off k = 0 := by
  simp only [fieldB, sliceB, List.drop_replicate, List.take_replicate, List.replicate_append_replicate, leVal_zeros]

theorem crcBit_lt (poly c : Nat) (hp : poly < 2 ^ 32) (hc : c < 2 ^ 32) : crcBit poly c < 2 ^ 32 := by
  unfold crcBit
  split
  · exact Nat.xor_lt_two_pow (by omega) hp
  · omega

theorem crcByte_lt (poly c b : Nat) (hp : poly < 2 ^ 32) (hc : c < 2 ^ 32) (hb : b < 2 ^ 32) : crcByte poly c b < 2 ^ 32 := by
  unfold crcByte
  exact crcBit_lt _ _ hp (crcBit_lt _ _ hp (crcBit_lt _ _ hp (crcBit_lt _ _ hp (crcBit_lt _ _ hp (crcBit_lt _ _ hp
    (crcBit_lt _ _ hp (crcBit_lt _ _ hp (Nat.xor_lt_two_pow hc hb))))))))

theorem crcRun_lt (poly c : Nat) (bs : List Byte) (hp : poly < 2 ^ 32) (hc : c < 2 ^ 32) : crcRun poly c bs < 2 ^ 32 := by
  induction bs generalizing c with
  | nil => exact hc
  | cons b bs ih => exact ih _ (crcByte_lt _ _ _ hp hc (by have := b.isLt; omega))

/-- The checksum of R36 is a 32-bit word. -/
theorem crc32_lt (bs : List Byte) : crc32 bs < 2 ^ 32 :=
  Nat.xor_lt_two_pow (crcRun_lt _ _ _ (by decide) (by decide)) (by decide)

end Sys2Proof.Machine
end

