-- ==== Sys2Proof/Laws/Regs.lean ====
section
/-!
SUPPORT. Laws of the object registers: what a write of an object or a field leaves at its own place, in the object's other
fields and in other objects.
-/

namespace Sys2Proof.Machine

@[simp] theorem getObj_setObj_same (s : State) (o : ObjId) (i v : Nat) : getObj (setObj s o i v) o i = v := by
  simp [getObj, setObj]

/-- Another object keeps its value. -/
theorem getObj_setObj_ne (s : State) (o p : ObjId) (i j v : Nat) (h : objKey p j ≠ objKey o i) :
    getObj (setObj s o i v) p j = getObj s p j := by
  simp only [getObj, setObj]
  exact mget_mset_ne _ _ _ _ _ _ h

/-- A field reads as it was written, to its width. -/
theorem rd_wr_same (s : State) (f : Fld) (i x : Nat) : rd (wr s f i x) f i = x % 2 ^ f.w := by
  simp [rd, wr, fget, fset]

/-- A field of the same object that does not overlap keeps its value. -/
theorem rd_wr_field (s : State) (f g : Fld) (i x : Nat) (ho : g.obj = f.obj)
    (h : g.lo + g.w ≤ f.lo ∨ f.lo + f.w ≤ g.lo) : rd (wr s f i x) g i = rd s g i := by
  simp only [rd, wr, ho, getObj_setObj_same, fget, fset]
  cases h with
  | inl h => exact bits_setBits_below _ _ _ _ _ _ h
  | inr h => exact bits_setBits_above _ _ _ _ _ _ h

/-- A field of another object keeps its value. -/
theorem rd_wr_obj (s : State) (f g : Fld) (i j x : Nat) (h : objKey g.obj j ≠ objKey f.obj i) :
    rd (wr s f i x) g j = rd s g j := by
  simp only [rd, wr, getObj_setObj_ne _ _ _ _ _ _ h]

/-- A one-bit field. -/
theorem rdB_wrB_same (s : State) (f : Fld) (i : Nat) (b : Bool) (h : f.w = 1) : rdB (wrB s f i b) f i = b := by
  rw [rdB, wrB, rd_wr_same, h]; cases b <;> rfl

/-- A register write touches nothing but the registers. -/
theorem wr_eq (s : State) (f : Fld) (i x : Nat) : wr s f i x = { s with regs := (wr s f i x).regs } := rfl

theorem setObj_eq (s : State) (o : ObjId) (i v : Nat) : setObj s o i v = { s with regs := (setObj s o i v).regs } := rfl

/-- At any other key the register map is unchanged. -/
theorem regs_setObj_other (s : State) (o : ObjId) (i v k : Nat) (d : Nat) (h : k ≠ objKey o i) :
    mget d (setObj s o i v).regs k = mget d s.regs k := mget_mset_ne _ _ _ _ _ _ h

end Sys2Proof.Machine
end

