-- ==== Sys2Proof/Laws/Quiet.lean ====
section
/-!
SUPPORT. What pushing event records and answering messages can change: once for each operation of Machine/Pool.lean,
Machine/Trace.lean and Machine/Ops.lean that a command's end runs through.
-/

namespace Sys2Proof.Machine

/-! ## The relation -/

theorem Quiet.refl (s : State) : Quiet s s := ⟨fun _ _ _ => rfl, rfl, rfl, rfl⟩

theorem Quiet.trans {s t u : State} (h : Quiet s t) (k : Quiet t u) : Quiet s u where
  regs := fun x d hx => (k.regs x d hx).trans (h.regs x d hx)
  rest := by
    have a := h.rest; have b := k.rest
    cases s; cases t; cases u; simp only [State.mk.injEq] at a b ⊢
    simp_all
  ctl := by
    have a := h.ctl; have b := k.ctl
    generalize s.ctl = x at *; generalize t.ctl = y at *; generalize u.ctl = z at *
    cases x; cases y; cases z; simp only [Ctl.mk.injEq] at a b ⊢; simp_all
  msg := by
    have a := h.msg; have b := k.msg
    generalize s.msg = x at *; generalize t.msg = y at *; generalize u.msg = z at *
    cases x; cases y; cases z; simp only [Msg.mk.injEq] at a b ⊢; simp_all

theorem quiet_qm (s : State) (q : Qm) : Quiet s { s with qm := q } := ⟨fun _ _ _ => rfl, rfl, rfl, rfl⟩

theorem quiet_probes (s : State) (p : List (Nat × Probe)) : Quiet s { s with probes := p } :=
  ⟨fun _ _ _ => rfl, rfl, rfl, rfl⟩

theorem quiet_setObj (s : State) (o : ObjId) (i v : Nat) (h : objKey o i ∈ recordKeys) : Quiet s (setObj s o i v) where
  regs := fun k d hk => regs_setObj_other s o i v k d (fun e => hk (e ▸ h))
  rest := rfl
  ctl := rfl
  msg := rfl

theorem quiet_wr (s : State) (f : Fld) (x : Nat) (h : objKey f.obj 0 ∈ recordKeys) : Quiet s (wr s f 0 x) :=
  quiet_setObj s _ _ _ h

theorem quiet_raise (s : State) (c a g : Nat) : Quiet s (raise s c a g) := ⟨fun _ _ _ => rfl, rfl, rfl, rfl⟩

theorem quiet_raiseD (s : State) (c g : Nat) : Quiet s (raiseD s c g) := quiet_raise s c devAxis g

theorem quiet_evs (s : State) (a b c : List Ev) :
    Quiet s { s with ctl := { s.ctl with evNew := a, evPre := b, evLog := c } } := ⟨fun _ _ _ => rfl, rfl, rfl, rfl⟩

theorem key_qmCnt : objKey .devQmCnt 0 ∈ recordKeys := by decide
theorem key_evStat : objKey .devEvStat 0 ∈ recordKeys := by decide
theorem key_trcStat : objKey .devTrcStat 0 ∈ recordKeys := by decide
theorem key_trcTime : objKey .devTrcTime 0 ∈ recordKeys := by decide

theorem quiet_foldl {α : Type} (f : State → α → State) (h : ∀ s a, Quiet s (f s a)) (l : List α) (s : State) :
    Quiet s (l.foldl f s) := by
  induction l generalizing s with
  | nil => exact Quiet.refl s
  | cons a l ih => exact (h s a).trans (ih _)

/-! ## Pushing -/

theorem quiet_setQd (s : State) (q : Nat) (d : QDesc) : Quiet s (setQd s q d) := quiet_qm s _

theorem quiet_watermark (s : State) (q a b : Nat) : Quiet s (watermark s q a b) := by
  unfold watermark
  simp only []
  split
  · exact quiet_setQd s _ _
  · split
    · exact (quiet_setQd s _ _).trans (quiet_raiseD _ _ _)
    · split
      · exact (quiet_setQd s _ _).trans (quiet_raiseD _ _ _)
      · exact Quiet.refl s

theorem quiet_dropReplies (s : State) (q : Nat) : Quiet s (dropReplies s q) := by
  unfold dropReplies
  split
  · exact ⟨fun _ _ _ => rfl, rfl, rfl, rfl⟩
  · exact ⟨fun _ _ _ => rfl, rfl, rfl, rfl⟩
  · exact Quiet.refl s

theorem quiet_startReset (s : State) (q r : Nat) : Quiet s (startReset s q r) := by
  unfold startReset
  simp only []
  split
  · exact Quiet.refl s
  · exact (((quiet_setQd s _ _).trans (quiet_dropReplies _ _)).trans (quiet_wr _ F.devQmCnt_RESETS _ key_qmCnt)).trans
      (quiet_raiseD _ _ _)

theorem quiet_drops (s : State) : Quiet s (incSat s F.devQmCnt_DROPS 0) := quiet_wr _ F.devQmCnt_DROPS _ key_qmCnt

theorem quiet_freeListFault (s : State) : Quiet s (freeListFault s) := by
  unfold freeListFault
  split
  · exact quiet_qm s _
  · exact Quiet.refl s

/-- Appending a marker changes the queues, and may start a reset or a rebuild. -/
theorem quiet_appendMark (s : State) (q : Nat) (d : QDesc) (k : QMark) : Quiet s (appendMark s q d k) := by
  unfold appendMark
  split
  · simp only []
    have h : Quiet s (if cellsFor d 1 = 0 then s else freeListFault s) := by
      split
      · exact Quiet.refl s
      · exact quiet_freeListFault s
    generalize (if cellsFor d 1 = 0 then s else freeListFault s) = u at h ⊢
    split
    · split
      · exact (h.trans (quiet_setQd _ _ _)).trans (quiet_startReset _ _ _)
      · exact (h.trans (quiet_qm u _)).trans (quiet_setQd _ _ _)
    · exact h.trans (quiet_setQd _ _ _)
  · exact quiet_setQd _ _ _

theorem quiet_dropGap (s : State) (q : Nat) : Quiet s (dropGap s q) := by
  unfold dropGap
  simp only []
  refine (quiet_drops s).trans ?_
  generalize incSat s F.devQmCnt_DROPS 0 = u
  split
  · split
    · exact quiet_setQd _ _ _
    · exact (quiet_setQd _ _ _).trans (quiet_qm _ _)
  · have h : ∀ v : State, Quiet u v → Quiet u (if q = 0 then v else raiseD v 96 q) := by
      intro v hv; split
      · exact hv
      · exact hv.trans (quiet_raiseD _ _ _)
    apply h
    split
    · exact (quiet_setQd _ _ _).trans (quiet_qm _ _)
    · exact quiet_appendMark _ _ _ _

theorem quiet_dropReset (s : State) (q : Nat) : Quiet s (dropReset s q) := by
  unfold dropReset
  simp only []
  have h : Quiet s (incSat (incSat s F.devQmCnt_DROPS 0) F.devQmCnt_SWEEP_DROPS 0) :=
    (quiet_drops s).trans (quiet_wr _ F.devQmCnt_SWEEP_DROPS _ key_qmCnt)
  split
  · exact h.trans (quiet_setQd _ _ _)
  · exact h

theorem quiet_placeMark (s : State) (q : Nat) : Quiet s (placeMark s q) := by
  unfold placeMark
  simp only []
  split
  · split
    · exact quiet_appendMark _ _ _ _
    · exact Quiet.refl s
  · exact Quiet.refl s

theorem quiet_noteRecord (s : State) (q k : Nat) : Quiet s (noteRecord s q k) := by
  unfold noteRecord
  split
  · exact quiet_qm s _
  · exact Quiet.refl s

theorem quiet_pushWords (s : State) (q : Nat) (r : List QWord) : Quiet s (pushWords s q r).1 := by
  unfold pushWords
  simp only []
  have h : Quiet s (if cellsFor (qd s q) (newWords s.qm (qd s q) r.length) = 0 then s else freeListFault s) := by
    split
    · exact Quiet.refl s
    · exact quiet_freeListFault s
  generalize (if cellsFor (qd s q) (newWords s.qm (qd s q) r.length) = 0 then s else freeListFault s) = u at h ⊢
  split
  · split
    · exact (h.trans (quiet_startReset _ _ _)).trans (quiet_dropReset _ _)
    · exact (((h.trans (quiet_qm u _)).trans (quiet_setQd _ _ _)).trans (quiet_noteRecord _ _ _)).trans (quiet_watermark _ _ _ _)
  · exact h.trans (quiet_dropGap u q)

theorem quiet_pushPool (s : State) (q : Nat) (r : List QWord) : Quiet s (pushPool s q r).1 := by
  unfold pushPool
  simp only []
  have h := quiet_placeMark s q
  split
  · exact h.trans (quiet_dropReset _ _)
  · exact h.trans (quiet_pushWords _ _ _)

theorem quiet_pushSorted (s : State) (port q p : Nat) (r : List QWord) : Quiet s (pushSorted s port q p r).1 := by
  unfold pushSorted
  split
  · split
    · simp only []
      split
      · exact ((quiet_qm s _).trans (quiet_setQd _ _ _)).trans (quiet_watermark _ _ _ _)
      · exact quiet_dropGap s q
    · exact quiet_drops s
  · exact quiet_drops s

/-- A push changes the queues, their counters and the framing of replies; it raises events. -/
theorem quiet_qPush (s : State) (port q p : Nat) (r : List QWord) : Quiet s (qPush s port q p r).1 := by
  unfold qPush
  split
  · exact Quiet.refl s
  · split
    · exact quiet_dropReset s q
    · split
      · exact quiet_pushSorted s port q p r
      · split
        · exact (quiet_startReset s _ _).trans (quiet_dropReset _ _)
        · split
          · exact (quiet_setQd s _ _).trans (quiet_drops _)
          · split
            · exact (quiet_startReset s _ _).trans (quiet_dropReset _ _)
            · exact quiet_pushPool s q r

theorem quiet_qPushBytes (s : State) (port q : Nat) (bs : List Byte) : Quiet s (qPushBytes s port q bs).1 :=
  quiet_qPush s port q 0 _

/-! ## The trace an event triggers -/

theorem quiet_setProbe (s : State) (j : Nat) (x : Probe) : Quiet s (setProbe s j x) := quiet_probes s _

theorem quiet_trcPush (s : State) (j : Nat) : Quiet s (trcPush s j) := by
  unfold trcPush
  split
  · exact quiet_foldl _ (fun t x => quiet_qPush t _ _ _ _) _ s
  · exact Quiet.refl s

theorem quiet_trcFinish (s : State) : Quiet s (trcFinish s) := by
  unfold trcFinish
  split
  · simp only []
    have h : Quiet s (raiseD (wr s F.devTrcStat_STATE 0 trcDone) 0x47 0) :=
      (quiet_wr s F.devTrcStat_STATE _ key_trcStat).trans (quiet_raiseD _ _ _)
    split
    · exact h.trans (quiet_foldl _ (fun t j => quiet_trcPush t j) _ _)
    · exact h
  · exact Quiet.refl s

theorem quiet_trcTrigger (s : State) : Quiet s (trcTrigger s) := by
  unfold trcTrigger
  split
  · simp only []
    refine Quiet.trans ?_ (quiet_trcFinish _)
    have h := (quiet_foldl (fun t (j : Nat) =>
      let p := probe t j
      setProbe t j { p with
        ring := p.ring.drop (p.ring.length - trcPre s), post := 0, stopped := decide (trcDepth s ≤ trcPre s) })
      (fun t j => quiet_setProbe t _ _) (trcProbes s) s)
    have h2 := (h.trans (quiet_wr _ F.devTrcTime_TRIG_TIME (nowNs s) key_trcTime)).trans
      (quiet_wr _ F.devTrcStat_STATE trcTriggered key_trcStat)
    split
    · exact h2.trans (quiet_wr _ F.devTrcStat_PRE_SHORT _ key_trcStat)
    · exact h2
  · exact Quiet.refl s

/-! ## Events -/

theorem quiet_pushEvent (s : State) (e : Ev) : Quiet s (pushEvent s e) := by
  unfold pushEvent evTrace logEvent
  refine (quiet_qPushBytes s 7 (evQueue e) (evBytes e)).trans ?_
  generalize (qPushBytes s 7 (evQueue e) (evBytes e)).1 = u
  simp only []
  split
  · exact (quiet_evs u u.ctl.evNew u.ctl.evPre _).trans (quiet_trcTrigger _)
  · exact quiet_evs u u.ctl.evNew u.ctl.evPre _

theorem quiet_holdEvent (s : State) (e : Ev) : Quiet s (holdEvent s e) := by
  unfold holdEvent
  split
  · exact quiet_evs s s.ctl.evNew _ s.ctl.evLog
  · exact quiet_wr s F.devEvStat_PRE_LOST _ key_evStat

theorem quiet_flushRound (s : State) : Quiet s (flushRound s) := by
  unfold flushRound
  refine (quiet_evs s [] s.ctl.evPre s.ctl.evLog).trans ?_
  simp only []
  apply quiet_foldl
  intro t e
  split
  · exact quiet_pushEvent t e
  · exact quiet_holdEvent t e

/-- Pushing what a command has raised changes nothing else. -/
theorem quiet_flush (n : Nat) (s : State) : Quiet s (flushEvents n s) := by
  induction n generalizing s with
  | zero => exact Quiet.refl s
  | succ n ih =>
    unfold flushEvents
    split
    · exact Quiet.refl s
    · exact (quiet_flushRound s).trans (ih _)

/-- The end of a command: a next state, the same but for records. -/
theorem done_quiet (s : State) : ∃ t, done s = .next t ∧ Quiet s t := ⟨_, rfl, quiet_flush _ s⟩

/-- With nothing raised, the end of a command leaves the state as it is. -/
theorem done_calm (s : State) (h : Calm s) : done s = .next s := by
  simp [done, flushFuel, flushEvents, show s.ctl.evNew = [] from h]

theorem clocked_run (s : State) (o : Out) (h : coreRuns s = true) : clocked s o = o := by simp [clocked, h]

theorem clocked_stop (s : State) (o : Out) (h : coreRuns s = false) : clocked s o = done s := by simp [clocked, h]

/-! ## Answers -/

theorem Quiet.answered {s t : State} (h : Quiet s t) : Answered s t := ⟨s.msg, h⟩

theorem Answered.quiet {s t u : State} (h : Answered s t) (k : Quiet t u) : Answered s u :=
  let ⟨m, hm⟩ := h
  ⟨m, hm.trans k⟩

theorem Answered.msg {s t : State} (h : Answered s t) (m : Msg) : Answered s { t with msg := m } := by
  obtain ⟨n, hn⟩ := h
  refine ⟨m, hn.regs, ?_, hn.ctl, ?_⟩
  · have a := hn.rest
    cases s; cases t; simp only [State.mk.injEq] at a ⊢; simp_all
  · rfl

theorem Answered.trans {s t u : State} (h : Answered s t) (k : Answered t u) : Answered s u := by
  obtain ⟨m, hm⟩ := k
  exact (h.msg m).quiet hm

theorem answered_reply (s : State) (src : Src) (typ op st : Nat) (body : List Byte) :
    Answered s (reply s src typ op st body) := by
  unfold reply
  split
  · simp only []
    split
    · exact Answered.msg (quiet_qPushBytes _ _ _ _).answered _
    · exact (quiet_qPushBytes _ _ _ _).answered
  · simp only []
    split
    · exact Answered.msg (quiet_qPushBytes _ _ _ _).answered _
    · exact (quiet_qPushBytes _ _ _ _).answered
  · exact Answered.msg (Quiet.refl s).answered _
  · exact Answered.msg (Quiet.refl s).answered _
  · exact (Quiet.refl s).answered

theorem answered_takeMsg (s : State) (src : Src) : Answered s (takeMsg s src) := Answered.msg (Quiet.refl s).answered _

theorem answered_hold (s : State) (src : Src) : Answered s (hold s src) := by
  unfold hold
  split
  · exact Answered.msg (Quiet.refl s).answered _
  · exact Answered.msg (Quiet.refl s).answered _
  · exact (Quiet.refl s).answered

theorem answered_release (s : State) (src : Src) : Answered s (release s src) := by
  unfold release
  split
  · exact Answered.msg (Quiet.refl s).answered _
  · exact Answered.msg (Quiet.refl s).answered _
  · exact (Quiet.refl s).answered

theorem answered_writeAnswer (src : Src) (addr : Nat) (r : State × Nat) : Answered r.1 (writeAnswer src addr r) := by
  unfold writeAnswer
  split
  · exact answered_reply _ _ _ _ _ _
  · split
    · exact answered_reply _ _ _ _ _ _
    · exact answered_reply _ _ _ _ _ _
    · exact (Quiet.refl _).answered

/-- The end of a command after an answered state. -/
theorem done_answered {s t : State} (h : Answered s t) : ∃ u, done t = .next u ∧ Answered s u :=
  ⟨_, rfl, h.quiet (quiet_flush _ t)⟩

end Sys2Proof.Machine
end

