-- ==== Sys2Proof/Laws/State.lean ====
section
/-!
SUPPORT. The fields of State under each elementary update: the field an update names takes what it is given, every other field
stays.
-/

namespace Sys2Proof.Machine

/-! ## setObj -/

@[simp] theorem setObj_pending (s : State) (o : ObjId) (i v : Nat) : (setObj s o i v).pending = s.pending := rfl
@[simp] theorem setObj_regs (s : State) (o : ObjId) (i v : Nat) : (setObj s o i v).regs = mset (objReset o i) s.regs (objKey o i) v
    := rfl
@[simp] theorem setObj_pwr (s : State) (o : ObjId) (i v : Nat) : (setObj s o i v).pwr = s.pwr := rfl
@[simp] theorem setObj_nv (s : State) (o : ObjId) (i v : Nat) : (setObj s o i v).nv = s.nv := rfl
@[simp] theorem setObj_ctl (s : State) (o : ObjId) (i v : Nat) : (setObj s o i v).ctl = s.ctl := rfl
@[simp] theorem setObj_load (s : State) (o : ObjId) (i v : Nat) : (setObj s o i v).load = s.load := rfl
@[simp] theorem setObj_qm (s : State) (o : ObjId) (i v : Nat) : (setObj s o i v).qm = s.qm := rfl
@[simp] theorem setObj_msg (s : State) (o : ObjId) (i v : Nat) : (setObj s o i v).msg = s.msg := rfl
@[simp] theorem setObj_axes (s : State) (o : ObjId) (i v : Nat) : (setObj s o i v).axes = s.axes := rfl
@[simp] theorem setObj_grps (s : State) (o : ObjId) (i v : Nat) : (setObj s o i v).grps = s.grps := rfl
@[simp] theorem setObj_auxs (s : State) (o : ObjId) (i v : Nat) : (setObj s o i v).auxs = s.auxs := rfl
@[simp] theorem setObj_auxos (s : State) (o : ObjId) (i v : Nat) : (setObj s o i v).auxos = s.auxos := rfl
@[simp] theorem setObj_encs (s : State) (o : ObjId) (i v : Nat) : (setObj s o i v).encs = s.encs := rfl
@[simp] theorem setObj_conv (s : State) (o : ObjId) (i v : Nat) : (setObj s o i v).conv = s.conv := rfl
@[simp] theorem setObj_c1 (s : State) (o : ObjId) (i v : Nat) : (setObj s o i v).c1 = s.c1 := rfl
@[simp] theorem setObj_prot (s : State) (o : ObjId) (i v : Nat) : (setObj s o i v).prot = s.prot := rfl
@[simp] theorem setObj_mons (s : State) (o : ObjId) (i v : Nat) : (setObj s o i v).mons = s.mons := rfl
@[simp] theorem setObj_probes (s : State) (o : ObjId) (i v : Nat) : (setObj s o i v).probes = s.probes := rfl
@[simp] theorem setObj_red (s : State) (o : ObjId) (i v : Nat) : (setObj s o i v).red = s.red := rfl
@[simp] theorem setObj_place (s : State) (o : ObjId) (i v : Nat) : (setObj s o i v).place = s.place := rfl
@[simp] theorem setObj_ledg (s : State) (o : ObjId) (i v : Nat) : (setObj s o i v).ledg = s.ledg := rfl
@[simp] theorem setObj_sv (s : State) (o : ObjId) (i v : Nat) : (setObj s o i v).sv = s.sv := rfl
@[simp] theorem setObj_fab (s : State) (o : ObjId) (i v : Nat) : (setObj s o i v).fab = s.fab := rfl

/-! ## wr -/

@[simp] theorem wr_pending (s : State) (f : Fld) (i x : Nat) : (wr s f i x).pending = s.pending := rfl
@[simp] theorem wr_pwr (s : State) (f : Fld) (i x : Nat) : (wr s f i x).pwr = s.pwr := rfl
@[simp] theorem wr_nv (s : State) (f : Fld) (i x : Nat) : (wr s f i x).nv = s.nv := rfl
@[simp] theorem wr_ctl (s : State) (f : Fld) (i x : Nat) : (wr s f i x).ctl = s.ctl := rfl
@[simp] theorem wr_load (s : State) (f : Fld) (i x : Nat) : (wr s f i x).load = s.load := rfl
@[simp] theorem wr_qm (s : State) (f : Fld) (i x : Nat) : (wr s f i x).qm = s.qm := rfl
@[simp] theorem wr_msg (s : State) (f : Fld) (i x : Nat) : (wr s f i x).msg = s.msg := rfl
@[simp] theorem wr_axes (s : State) (f : Fld) (i x : Nat) : (wr s f i x).axes = s.axes := rfl
@[simp] theorem wr_grps (s : State) (f : Fld) (i x : Nat) : (wr s f i x).grps = s.grps := rfl
@[simp] theorem wr_auxs (s : State) (f : Fld) (i x : Nat) : (wr s f i x).auxs = s.auxs := rfl
@[simp] theorem wr_auxos (s : State) (f : Fld) (i x : Nat) : (wr s f i x).auxos = s.auxos := rfl
@[simp] theorem wr_encs (s : State) (f : Fld) (i x : Nat) : (wr s f i x).encs = s.encs := rfl
@[simp] theorem wr_conv (s : State) (f : Fld) (i x : Nat) : (wr s f i x).conv = s.conv := rfl
@[simp] theorem wr_c1 (s : State) (f : Fld) (i x : Nat) : (wr s f i x).c1 = s.c1 := rfl
@[simp] theorem wr_prot (s : State) (f : Fld) (i x : Nat) : (wr s f i x).prot = s.prot := rfl
@[simp] theorem wr_mons (s : State) (f : Fld) (i x : Nat) : (wr s f i x).mons = s.mons := rfl
@[simp] theorem wr_probes (s : State) (f : Fld) (i x : Nat) : (wr s f i x).probes = s.probes := rfl
@[simp] theorem wr_red (s : State) (f : Fld) (i x : Nat) : (wr s f i x).red = s.red := rfl
@[simp] theorem wr_place (s : State) (f : Fld) (i x : Nat) : (wr s f i x).place = s.place := rfl
@[simp] theorem wr_ledg (s : State) (f : Fld) (i x : Nat) : (wr s f i x).ledg = s.ledg := rfl
@[simp] theorem wr_sv (s : State) (f : Fld) (i x : Nat) : (wr s f i x).sv = s.sv := rfl
@[simp] theorem wr_fab (s : State) (f : Fld) (i x : Nat) : (wr s f i x).fab = s.fab := rfl

/-! ## setAx -/

@[simp] theorem setAx_pending (s : State) (n : Nat) (a : Axis) : (setAx s n a).pending = s.pending := rfl
@[simp] theorem setAx_regs (s : State) (n : Nat) (a : Axis) : (setAx s n a).regs = s.regs := rfl
@[simp] theorem setAx_pwr (s : State) (n : Nat) (a : Axis) : (setAx s n a).pwr = s.pwr := rfl
@[simp] theorem setAx_nv (s : State) (n : Nat) (a : Axis) : (setAx s n a).nv = s.nv := rfl
@[simp] theorem setAx_ctl (s : State) (n : Nat) (a : Axis) : (setAx s n a).ctl = s.ctl := rfl
@[simp] theorem setAx_load (s : State) (n : Nat) (a : Axis) : (setAx s n a).load = s.load := rfl
@[simp] theorem setAx_qm (s : State) (n : Nat) (a : Axis) : (setAx s n a).qm = s.qm := rfl
@[simp] theorem setAx_msg (s : State) (n : Nat) (a : Axis) : (setAx s n a).msg = s.msg := rfl
@[simp] theorem setAx_axes (s : State) (n : Nat) (a : Axis) : (setAx s n a).axes = mset Axis.reset s.axes n a := rfl
@[simp] theorem setAx_grps (s : State) (n : Nat) (a : Axis) : (setAx s n a).grps = s.grps := rfl
@[simp] theorem setAx_auxs (s : State) (n : Nat) (a : Axis) : (setAx s n a).auxs = s.auxs := rfl
@[simp] theorem setAx_auxos (s : State) (n : Nat) (a : Axis) : (setAx s n a).auxos = s.auxos := rfl
@[simp] theorem setAx_encs (s : State) (n : Nat) (a : Axis) : (setAx s n a).encs = s.encs := rfl
@[simp] theorem setAx_conv (s : State) (n : Nat) (a : Axis) : (setAx s n a).conv = s.conv := rfl
@[simp] theorem setAx_c1 (s : State) (n : Nat) (a : Axis) : (setAx s n a).c1 = s.c1 := rfl
@[simp] theorem setAx_prot (s : State) (n : Nat) (a : Axis) : (setAx s n a).prot = s.prot := rfl
@[simp] theorem setAx_mons (s : State) (n : Nat) (a : Axis) : (setAx s n a).mons = s.mons := rfl
@[simp] theorem setAx_probes (s : State) (n : Nat) (a : Axis) : (setAx s n a).probes = s.probes := rfl
@[simp] theorem setAx_red (s : State) (n : Nat) (a : Axis) : (setAx s n a).red = s.red := rfl
@[simp] theorem setAx_place (s : State) (n : Nat) (a : Axis) : (setAx s n a).place = s.place := rfl
@[simp] theorem setAx_ledg (s : State) (n : Nat) (a : Axis) : (setAx s n a).ledg = s.ledg := rfl
@[simp] theorem setAx_sv (s : State) (n : Nat) (a : Axis) : (setAx s n a).sv = s.sv := rfl
@[simp] theorem setAx_fab (s : State) (n : Nat) (a : Axis) : (setAx s n a).fab = s.fab := rfl

/-! ## modExc -/

@[simp] theorem modExc_pending (s : State) (n : Nat) (f : AxExc → AxExc) : (modExc s n f).pending = s.pending := rfl
@[simp] theorem modExc_regs (s : State) (n : Nat) (f : AxExc → AxExc) : (modExc s n f).regs = s.regs := rfl
@[simp] theorem modExc_pwr (s : State) (n : Nat) (f : AxExc → AxExc) : (modExc s n f).pwr = s.pwr := rfl
@[simp] theorem modExc_nv (s : State) (n : Nat) (f : AxExc → AxExc) : (modExc s n f).nv = s.nv := rfl
@[simp] theorem modExc_ctl (s : State) (n : Nat) (f : AxExc → AxExc) : (modExc s n f).ctl = s.ctl := rfl
@[simp] theorem modExc_load (s : State) (n : Nat) (f : AxExc → AxExc) : (modExc s n f).load = s.load := rfl
@[simp] theorem modExc_qm (s : State) (n : Nat) (f : AxExc → AxExc) : (modExc s n f).qm = s.qm := rfl
@[simp] theorem modExc_msg (s : State) (n : Nat) (f : AxExc → AxExc) : (modExc s n f).msg = s.msg := rfl
@[simp] theorem modExc_grps (s : State) (n : Nat) (f : AxExc → AxExc) : (modExc s n f).grps = s.grps := rfl
@[simp] theorem modExc_auxs (s : State) (n : Nat) (f : AxExc → AxExc) : (modExc s n f).auxs = s.auxs := rfl
@[simp] theorem modExc_auxos (s : State) (n : Nat) (f : AxExc → AxExc) : (modExc s n f).auxos = s.auxos := rfl
@[simp] theorem modExc_encs (s : State) (n : Nat) (f : AxExc → AxExc) : (modExc s n f).encs = s.encs := rfl
@[simp] theorem modExc_conv (s : State) (n : Nat) (f : AxExc → AxExc) : (modExc s n f).conv = s.conv := rfl
@[simp] theorem modExc_c1 (s : State) (n : Nat) (f : AxExc → AxExc) : (modExc s n f).c1 = s.c1 := rfl
@[simp] theorem modExc_prot (s : State) (n : Nat) (f : AxExc → AxExc) : (modExc s n f).prot = s.prot := rfl
@[simp] theorem modExc_mons (s : State) (n : Nat) (f : AxExc → AxExc) : (modExc s n f).mons = s.mons := rfl
@[simp] theorem modExc_probes (s : State) (n : Nat) (f : AxExc → AxExc) : (modExc s n f).probes = s.probes := rfl
@[simp] theorem modExc_red (s : State) (n : Nat) (f : AxExc → AxExc) : (modExc s n f).red = s.red := rfl
@[simp] theorem modExc_place (s : State) (n : Nat) (f : AxExc → AxExc) : (modExc s n f).place = s.place := rfl
@[simp] theorem modExc_ledg (s : State) (n : Nat) (f : AxExc → AxExc) : (modExc s n f).ledg = s.ledg := rfl
@[simp] theorem modExc_sv (s : State) (n : Nat) (f : AxExc → AxExc) : (modExc s n f).sv = s.sv := rfl
@[simp] theorem modExc_fab (s : State) (n : Nat) (f : AxExc → AxExc) : (modExc s n f).fab = s.fab := rfl

/-! ## modFe -/

@[simp] theorem modFe_pending (s : State) (n : Nat) (f : AxFe → AxFe) : (modFe s n f).pending = s.pending := rfl
@[simp] theorem modFe_regs (s : State) (n : Nat) (f : AxFe → AxFe) : (modFe s n f).regs = s.regs := rfl
@[simp] theorem modFe_pwr (s : State) (n : Nat) (f : AxFe → AxFe) : (modFe s n f).pwr = s.pwr := rfl
@[simp] theorem modFe_nv (s : State) (n : Nat) (f : AxFe → AxFe) : (modFe s n f).nv = s.nv := rfl
@[simp] theorem modFe_ctl (s : State) (n : Nat) (f : AxFe → AxFe) : (modFe s n f).ctl = s.ctl := rfl
@[simp] theorem modFe_load (s : State) (n : Nat) (f : AxFe → AxFe) : (modFe s n f).load = s.load := rfl
@[simp] theorem modFe_qm (s : State) (n : Nat) (f : AxFe → AxFe) : (modFe s n f).qm = s.qm := rfl
@[simp] theorem modFe_msg (s : State) (n : Nat) (f : AxFe → AxFe) : (modFe s n f).msg = s.msg := rfl
@[simp] theorem modFe_grps (s : State) (n : Nat) (f : AxFe → AxFe) : (modFe s n f).grps = s.grps := rfl
@[simp] theorem modFe_auxs (s : State) (n : Nat) (f : AxFe → AxFe) : (modFe s n f).auxs = s.auxs := rfl
@[simp] theorem modFe_auxos (s : State) (n : Nat) (f : AxFe → AxFe) : (modFe s n f).auxos = s.auxos := rfl
@[simp] theorem modFe_encs (s : State) (n : Nat) (f : AxFe → AxFe) : (modFe s n f).encs = s.encs := rfl
@[simp] theorem modFe_conv (s : State) (n : Nat) (f : AxFe → AxFe) : (modFe s n f).conv = s.conv := rfl
@[simp] theorem modFe_c1 (s : State) (n : Nat) (f : AxFe → AxFe) : (modFe s n f).c1 = s.c1 := rfl
@[simp] theorem modFe_prot (s : State) (n : Nat) (f : AxFe → AxFe) : (modFe s n f).prot = s.prot := rfl
@[simp] theorem modFe_mons (s : State) (n : Nat) (f : AxFe → AxFe) : (modFe s n f).mons = s.mons := rfl
@[simp] theorem modFe_probes (s : State) (n : Nat) (f : AxFe → AxFe) : (modFe s n f).probes = s.probes := rfl
@[simp] theorem modFe_red (s : State) (n : Nat) (f : AxFe → AxFe) : (modFe s n f).red = s.red := rfl
@[simp] theorem modFe_place (s : State) (n : Nat) (f : AxFe → AxFe) : (modFe s n f).place = s.place := rfl
@[simp] theorem modFe_ledg (s : State) (n : Nat) (f : AxFe → AxFe) : (modFe s n f).ledg = s.ledg := rfl
@[simp] theorem modFe_sv (s : State) (n : Nat) (f : AxFe → AxFe) : (modFe s n f).sv = s.sv := rfl
@[simp] theorem modFe_fab (s : State) (n : Nat) (f : AxFe → AxFe) : (modFe s n f).fab = s.fab := rfl

/-! ## modFlt -/

@[simp] theorem modFlt_pending (s : State) (n : Nat) (f : AxFlt → AxFlt) : (modFlt s n f).pending = s.pending := rfl
@[simp] theorem modFlt_regs (s : State) (n : Nat) (f : AxFlt → AxFlt) : (modFlt s n f).regs = s.regs := rfl
@[simp] theorem modFlt_pwr (s : State) (n : Nat) (f : AxFlt → AxFlt) : (modFlt s n f).pwr = s.pwr := rfl
@[simp] theorem modFlt_nv (s : State) (n : Nat) (f : AxFlt → AxFlt) : (modFlt s n f).nv = s.nv := rfl
@[simp] theorem modFlt_ctl (s : State) (n : Nat) (f : AxFlt → AxFlt) : (modFlt s n f).ctl = s.ctl := rfl
@[simp] theorem modFlt_load (s : State) (n : Nat) (f : AxFlt → AxFlt) : (modFlt s n f).load = s.load := rfl
@[simp] theorem modFlt_qm (s : State) (n : Nat) (f : AxFlt → AxFlt) : (modFlt s n f).qm = s.qm := rfl
@[simp] theorem modFlt_msg (s : State) (n : Nat) (f : AxFlt → AxFlt) : (modFlt s n f).msg = s.msg := rfl
@[simp] theorem modFlt_grps (s : State) (n : Nat) (f : AxFlt → AxFlt) : (modFlt s n f).grps = s.grps := rfl
@[simp] theorem modFlt_auxs (s : State) (n : Nat) (f : AxFlt → AxFlt) : (modFlt s n f).auxs = s.auxs := rfl
@[simp] theorem modFlt_auxos (s : State) (n : Nat) (f : AxFlt → AxFlt) : (modFlt s n f).auxos = s.auxos := rfl
@[simp] theorem modFlt_encs (s : State) (n : Nat) (f : AxFlt → AxFlt) : (modFlt s n f).encs = s.encs := rfl
@[simp] theorem modFlt_conv (s : State) (n : Nat) (f : AxFlt → AxFlt) : (modFlt s n f).conv = s.conv := rfl
@[simp] theorem modFlt_c1 (s : State) (n : Nat) (f : AxFlt → AxFlt) : (modFlt s n f).c1 = s.c1 := rfl
@[simp] theorem modFlt_prot (s : State) (n : Nat) (f : AxFlt → AxFlt) : (modFlt s n f).prot = s.prot := rfl
@[simp] theorem modFlt_mons (s : State) (n : Nat) (f : AxFlt → AxFlt) : (modFlt s n f).mons = s.mons := rfl
@[simp] theorem modFlt_probes (s : State) (n : Nat) (f : AxFlt → AxFlt) : (modFlt s n f).probes = s.probes := rfl
@[simp] theorem modFlt_red (s : State) (n : Nat) (f : AxFlt → AxFlt) : (modFlt s n f).red = s.red := rfl
@[simp] theorem modFlt_place (s : State) (n : Nat) (f : AxFlt → AxFlt) : (modFlt s n f).place = s.place := rfl
@[simp] theorem modFlt_ledg (s : State) (n : Nat) (f : AxFlt → AxFlt) : (modFlt s n f).ledg = s.ledg := rfl
@[simp] theorem modFlt_sv (s : State) (n : Nat) (f : AxFlt → AxFlt) : (modFlt s n f).sv = s.sv := rfl
@[simp] theorem modFlt_fab (s : State) (n : Nat) (f : AxFlt → AxFlt) : (modFlt s n f).fab = s.fab := rfl

/-! ## modTrk -/

@[simp] theorem modTrk_pending (s : State) (n : Nat) (f : AxTrk → AxTrk) : (modTrk s n f).pending = s.pending := rfl
@[simp] theorem modTrk_regs (s : State) (n : Nat) (f : AxTrk → AxTrk) : (modTrk s n f).regs = s.regs := rfl
@[simp] theorem modTrk_pwr (s : State) (n : Nat) (f : AxTrk → AxTrk) : (modTrk s n f).pwr = s.pwr := rfl
@[simp] theorem modTrk_nv (s : State) (n : Nat) (f : AxTrk → AxTrk) : (modTrk s n f).nv = s.nv := rfl
@[simp] theorem modTrk_ctl (s : State) (n : Nat) (f : AxTrk → AxTrk) : (modTrk s n f).ctl = s.ctl := rfl
@[simp] theorem modTrk_load (s : State) (n : Nat) (f : AxTrk → AxTrk) : (modTrk s n f).load = s.load := rfl
@[simp] theorem modTrk_qm (s : State) (n : Nat) (f : AxTrk → AxTrk) : (modTrk s n f).qm = s.qm := rfl
@[simp] theorem modTrk_msg (s : State) (n : Nat) (f : AxTrk → AxTrk) : (modTrk s n f).msg = s.msg := rfl
@[simp] theorem modTrk_grps (s : State) (n : Nat) (f : AxTrk → AxTrk) : (modTrk s n f).grps = s.grps := rfl
@[simp] theorem modTrk_auxs (s : State) (n : Nat) (f : AxTrk → AxTrk) : (modTrk s n f).auxs = s.auxs := rfl
@[simp] theorem modTrk_auxos (s : State) (n : Nat) (f : AxTrk → AxTrk) : (modTrk s n f).auxos = s.auxos := rfl
@[simp] theorem modTrk_encs (s : State) (n : Nat) (f : AxTrk → AxTrk) : (modTrk s n f).encs = s.encs := rfl
@[simp] theorem modTrk_conv (s : State) (n : Nat) (f : AxTrk → AxTrk) : (modTrk s n f).conv = s.conv := rfl
@[simp] theorem modTrk_c1 (s : State) (n : Nat) (f : AxTrk → AxTrk) : (modTrk s n f).c1 = s.c1 := rfl
@[simp] theorem modTrk_prot (s : State) (n : Nat) (f : AxTrk → AxTrk) : (modTrk s n f).prot = s.prot := rfl
@[simp] theorem modTrk_mons (s : State) (n : Nat) (f : AxTrk → AxTrk) : (modTrk s n f).mons = s.mons := rfl
@[simp] theorem modTrk_probes (s : State) (n : Nat) (f : AxTrk → AxTrk) : (modTrk s n f).probes = s.probes := rfl
@[simp] theorem modTrk_red (s : State) (n : Nat) (f : AxTrk → AxTrk) : (modTrk s n f).red = s.red := rfl
@[simp] theorem modTrk_place (s : State) (n : Nat) (f : AxTrk → AxTrk) : (modTrk s n f).place = s.place := rfl
@[simp] theorem modTrk_ledg (s : State) (n : Nat) (f : AxTrk → AxTrk) : (modTrk s n f).ledg = s.ledg := rfl
@[simp] theorem modTrk_sv (s : State) (n : Nat) (f : AxTrk → AxTrk) : (modTrk s n f).sv = s.sv := rfl
@[simp] theorem modTrk_fab (s : State) (n : Nat) (f : AxTrk → AxTrk) : (modTrk s n f).fab = s.fab := rfl

/-! ## modPwm -/

@[simp] theorem modPwm_pending (s : State) (n : Nat) (f : AxPwm → AxPwm) : (modPwm s n f).pending = s.pending := rfl
@[simp] theorem modPwm_regs (s : State) (n : Nat) (f : AxPwm → AxPwm) : (modPwm s n f).regs = s.regs := rfl
@[simp] theorem modPwm_pwr (s : State) (n : Nat) (f : AxPwm → AxPwm) : (modPwm s n f).pwr = s.pwr := rfl
@[simp] theorem modPwm_nv (s : State) (n : Nat) (f : AxPwm → AxPwm) : (modPwm s n f).nv = s.nv := rfl
@[simp] theorem modPwm_ctl (s : State) (n : Nat) (f : AxPwm → AxPwm) : (modPwm s n f).ctl = s.ctl := rfl
@[simp] theorem modPwm_load (s : State) (n : Nat) (f : AxPwm → AxPwm) : (modPwm s n f).load = s.load := rfl
@[simp] theorem modPwm_qm (s : State) (n : Nat) (f : AxPwm → AxPwm) : (modPwm s n f).qm = s.qm := rfl
@[simp] theorem modPwm_msg (s : State) (n : Nat) (f : AxPwm → AxPwm) : (modPwm s n f).msg = s.msg := rfl
@[simp] theorem modPwm_grps (s : State) (n : Nat) (f : AxPwm → AxPwm) : (modPwm s n f).grps = s.grps := rfl
@[simp] theorem modPwm_auxs (s : State) (n : Nat) (f : AxPwm → AxPwm) : (modPwm s n f).auxs = s.auxs := rfl
@[simp] theorem modPwm_auxos (s : State) (n : Nat) (f : AxPwm → AxPwm) : (modPwm s n f).auxos = s.auxos := rfl
@[simp] theorem modPwm_encs (s : State) (n : Nat) (f : AxPwm → AxPwm) : (modPwm s n f).encs = s.encs := rfl
@[simp] theorem modPwm_conv (s : State) (n : Nat) (f : AxPwm → AxPwm) : (modPwm s n f).conv = s.conv := rfl
@[simp] theorem modPwm_c1 (s : State) (n : Nat) (f : AxPwm → AxPwm) : (modPwm s n f).c1 = s.c1 := rfl
@[simp] theorem modPwm_prot (s : State) (n : Nat) (f : AxPwm → AxPwm) : (modPwm s n f).prot = s.prot := rfl
@[simp] theorem modPwm_mons (s : State) (n : Nat) (f : AxPwm → AxPwm) : (modPwm s n f).mons = s.mons := rfl
@[simp] theorem modPwm_probes (s : State) (n : Nat) (f : AxPwm → AxPwm) : (modPwm s n f).probes = s.probes := rfl
@[simp] theorem modPwm_red (s : State) (n : Nat) (f : AxPwm → AxPwm) : (modPwm s n f).red = s.red := rfl
@[simp] theorem modPwm_place (s : State) (n : Nat) (f : AxPwm → AxPwm) : (modPwm s n f).place = s.place := rfl
@[simp] theorem modPwm_ledg (s : State) (n : Nat) (f : AxPwm → AxPwm) : (modPwm s n f).ledg = s.ledg := rfl
@[simp] theorem modPwm_sv (s : State) (n : Nat) (f : AxPwm → AxPwm) : (modPwm s n f).sv = s.sv := rfl
@[simp] theorem modPwm_fab (s : State) (n : Nat) (f : AxPwm → AxPwm) : (modPwm s n f).fab = s.fab := rfl

/-! ## modLoop -/

@[simp] theorem modLoop_pending (s : State) (n : Nat) (f : AxLoop → AxLoop) : (modLoop s n f).pending = s.pending := rfl
@[simp] theorem modLoop_regs (s : State) (n : Nat) (f : AxLoop → AxLoop) : (modLoop s n f).regs = s.regs := rfl
@[simp] theorem modLoop_pwr (s : State) (n : Nat) (f : AxLoop → AxLoop) : (modLoop s n f).pwr = s.pwr := rfl
@[simp] theorem modLoop_nv (s : State) (n : Nat) (f : AxLoop → AxLoop) : (modLoop s n f).nv = s.nv := rfl
@[simp] theorem modLoop_ctl (s : State) (n : Nat) (f : AxLoop → AxLoop) : (modLoop s n f).ctl = s.ctl := rfl
@[simp] theorem modLoop_load (s : State) (n : Nat) (f : AxLoop → AxLoop) : (modLoop s n f).load = s.load := rfl
@[simp] theorem modLoop_qm (s : State) (n : Nat) (f : AxLoop → AxLoop) : (modLoop s n f).qm = s.qm := rfl
@[simp] theorem modLoop_msg (s : State) (n : Nat) (f : AxLoop → AxLoop) : (modLoop s n f).msg = s.msg := rfl
@[simp] theorem modLoop_grps (s : State) (n : Nat) (f : AxLoop → AxLoop) : (modLoop s n f).grps = s.grps := rfl
@[simp] theorem modLoop_auxs (s : State) (n : Nat) (f : AxLoop → AxLoop) : (modLoop s n f).auxs = s.auxs := rfl
@[simp] theorem modLoop_auxos (s : State) (n : Nat) (f : AxLoop → AxLoop) : (modLoop s n f).auxos = s.auxos := rfl
@[simp] theorem modLoop_encs (s : State) (n : Nat) (f : AxLoop → AxLoop) : (modLoop s n f).encs = s.encs := rfl
@[simp] theorem modLoop_conv (s : State) (n : Nat) (f : AxLoop → AxLoop) : (modLoop s n f).conv = s.conv := rfl
@[simp] theorem modLoop_c1 (s : State) (n : Nat) (f : AxLoop → AxLoop) : (modLoop s n f).c1 = s.c1 := rfl
@[simp] theorem modLoop_prot (s : State) (n : Nat) (f : AxLoop → AxLoop) : (modLoop s n f).prot = s.prot := rfl
@[simp] theorem modLoop_mons (s : State) (n : Nat) (f : AxLoop → AxLoop) : (modLoop s n f).mons = s.mons := rfl
@[simp] theorem modLoop_probes (s : State) (n : Nat) (f : AxLoop → AxLoop) : (modLoop s n f).probes = s.probes := rfl
@[simp] theorem modLoop_red (s : State) (n : Nat) (f : AxLoop → AxLoop) : (modLoop s n f).red = s.red := rfl
@[simp] theorem modLoop_place (s : State) (n : Nat) (f : AxLoop → AxLoop) : (modLoop s n f).place = s.place := rfl
@[simp] theorem modLoop_ledg (s : State) (n : Nat) (f : AxLoop → AxLoop) : (modLoop s n f).ledg = s.ledg := rfl
@[simp] theorem modLoop_sv (s : State) (n : Nat) (f : AxLoop → AxLoop) : (modLoop s n f).sv = s.sv := rfl
@[simp] theorem modLoop_fab (s : State) (n : Nat) (f : AxLoop → AxLoop) : (modLoop s n f).fab = s.fab := rfl

/-! ## setGrp -/

@[simp] theorem setGrp_pending (s : State) (g : Nat) (x : Grp) : (setGrp s g x).pending = s.pending := rfl
@[simp] theorem setGrp_regs (s : State) (g : Nat) (x : Grp) : (setGrp s g x).regs = s.regs := rfl
@[simp] theorem setGrp_pwr (s : State) (g : Nat) (x : Grp) : (setGrp s g x).pwr = s.pwr := rfl
@[simp] theorem setGrp_nv (s : State) (g : Nat) (x : Grp) : (setGrp s g x).nv = s.nv := rfl
@[simp] theorem setGrp_ctl (s : State) (g : Nat) (x : Grp) : (setGrp s g x).ctl = s.ctl := rfl
@[simp] theorem setGrp_load (s : State) (g : Nat) (x : Grp) : (setGrp s g x).load = s.load := rfl
@[simp] theorem setGrp_qm (s : State) (g : Nat) (x : Grp) : (setGrp s g x).qm = s.qm := rfl
@[simp] theorem setGrp_msg (s : State) (g : Nat) (x : Grp) : (setGrp s g x).msg = s.msg := rfl
@[simp] theorem setGrp_axes (s : State) (g : Nat) (x : Grp) : (setGrp s g x).axes = s.axes := rfl
@[simp] theorem setGrp_grps (s : State) (g : Nat) (x : Grp) : (setGrp s g x).grps = mset Grp.reset s.grps g x := rfl
@[simp] theorem setGrp_auxs (s : State) (g : Nat) (x : Grp) : (setGrp s g x).auxs = s.auxs := rfl
@[simp] theorem setGrp_auxos (s : State) (g : Nat) (x : Grp) : (setGrp s g x).auxos = s.auxos := rfl
@[simp] theorem setGrp_encs (s : State) (g : Nat) (x : Grp) : (setGrp s g x).encs = s.encs := rfl
@[simp] theorem setGrp_conv (s : State) (g : Nat) (x : Grp) : (setGrp s g x).conv = s.conv := rfl
@[simp] theorem setGrp_c1 (s : State) (g : Nat) (x : Grp) : (setGrp s g x).c1 = s.c1 := rfl
@[simp] theorem setGrp_prot (s : State) (g : Nat) (x : Grp) : (setGrp s g x).prot = s.prot := rfl
@[simp] theorem setGrp_mons (s : State) (g : Nat) (x : Grp) : (setGrp s g x).mons = s.mons := rfl
@[simp] theorem setGrp_probes (s : State) (g : Nat) (x : Grp) : (setGrp s g x).probes = s.probes := rfl
@[simp] theorem setGrp_red (s : State) (g : Nat) (x : Grp) : (setGrp s g x).red = s.red := rfl
@[simp] theorem setGrp_place (s : State) (g : Nat) (x : Grp) : (setGrp s g x).place = s.place := rfl
@[simp] theorem setGrp_ledg (s : State) (g : Nat) (x : Grp) : (setGrp s g x).ledg = s.ledg := rfl
@[simp] theorem setGrp_sv (s : State) (g : Nat) (x : Grp) : (setGrp s g x).sv = s.sv := rfl
@[simp] theorem setGrp_fab (s : State) (g : Nat) (x : Grp) : (setGrp s g x).fab = s.fab := rfl

/-! ## setAux -/

@[simp] theorem setAux_pending (s : State) (k : Nat) (x : Aux) : (setAux s k x).pending = s.pending := rfl
@[simp] theorem setAux_regs (s : State) (k : Nat) (x : Aux) : (setAux s k x).regs = s.regs := rfl
@[simp] theorem setAux_pwr (s : State) (k : Nat) (x : Aux) : (setAux s k x).pwr = s.pwr := rfl
@[simp] theorem setAux_nv (s : State) (k : Nat) (x : Aux) : (setAux s k x).nv = s.nv := rfl
@[simp] theorem setAux_ctl (s : State) (k : Nat) (x : Aux) : (setAux s k x).ctl = s.ctl := rfl
@[simp] theorem setAux_load (s : State) (k : Nat) (x : Aux) : (setAux s k x).load = s.load := rfl
@[simp] theorem setAux_qm (s : State) (k : Nat) (x : Aux) : (setAux s k x).qm = s.qm := rfl
@[simp] theorem setAux_msg (s : State) (k : Nat) (x : Aux) : (setAux s k x).msg = s.msg := rfl
@[simp] theorem setAux_axes (s : State) (k : Nat) (x : Aux) : (setAux s k x).axes = s.axes := rfl
@[simp] theorem setAux_grps (s : State) (k : Nat) (x : Aux) : (setAux s k x).grps = s.grps := rfl
@[simp] theorem setAux_auxs (s : State) (k : Nat) (x : Aux) : (setAux s k x).auxs = mset (Aux.reset k) s.auxs k x := rfl
@[simp] theorem setAux_auxos (s : State) (k : Nat) (x : Aux) : (setAux s k x).auxos = s.auxos := rfl
@[simp] theorem setAux_encs (s : State) (k : Nat) (x : Aux) : (setAux s k x).encs = s.encs := rfl
@[simp] theorem setAux_conv (s : State) (k : Nat) (x : Aux) : (setAux s k x).conv = s.conv := rfl
@[simp] theorem setAux_c1 (s : State) (k : Nat) (x : Aux) : (setAux s k x).c1 = s.c1 := rfl
@[simp] theorem setAux_prot (s : State) (k : Nat) (x : Aux) : (setAux s k x).prot = s.prot := rfl
@[simp] theorem setAux_mons (s : State) (k : Nat) (x : Aux) : (setAux s k x).mons = s.mons := rfl
@[simp] theorem setAux_probes (s : State) (k : Nat) (x : Aux) : (setAux s k x).probes = s.probes := rfl
@[simp] theorem setAux_red (s : State) (k : Nat) (x : Aux) : (setAux s k x).red = s.red := rfl
@[simp] theorem setAux_place (s : State) (k : Nat) (x : Aux) : (setAux s k x).place = s.place := rfl
@[simp] theorem setAux_ledg (s : State) (k : Nat) (x : Aux) : (setAux s k x).ledg = s.ledg := rfl
@[simp] theorem setAux_sv (s : State) (k : Nat) (x : Aux) : (setAux s k x).sv = s.sv := rfl
@[simp] theorem setAux_fab (s : State) (k : Nat) (x : Aux) : (setAux s k x).fab = s.fab := rfl

/-! ## setAuxo -/

@[simp] theorem setAuxo_pending (s : State) (k : Nat) (x : Auxo) : (setAuxo s k x).pending = s.pending := rfl
@[simp] theorem setAuxo_regs (s : State) (k : Nat) (x : Auxo) : (setAuxo s k x).regs = s.regs := rfl
@[simp] theorem setAuxo_pwr (s : State) (k : Nat) (x : Auxo) : (setAuxo s k x).pwr = s.pwr := rfl
@[simp] theorem setAuxo_nv (s : State) (k : Nat) (x : Auxo) : (setAuxo s k x).nv = s.nv := rfl
@[simp] theorem setAuxo_ctl (s : State) (k : Nat) (x : Auxo) : (setAuxo s k x).ctl = s.ctl := rfl
@[simp] theorem setAuxo_load (s : State) (k : Nat) (x : Auxo) : (setAuxo s k x).load = s.load := rfl
@[simp] theorem setAuxo_qm (s : State) (k : Nat) (x : Auxo) : (setAuxo s k x).qm = s.qm := rfl
@[simp] theorem setAuxo_msg (s : State) (k : Nat) (x : Auxo) : (setAuxo s k x).msg = s.msg := rfl
@[simp] theorem setAuxo_axes (s : State) (k : Nat) (x : Auxo) : (setAuxo s k x).axes = s.axes := rfl
@[simp] theorem setAuxo_grps (s : State) (k : Nat) (x : Auxo) : (setAuxo s k x).grps = s.grps := rfl
@[simp] theorem setAuxo_auxs (s : State) (k : Nat) (x : Auxo) : (setAuxo s k x).auxs = s.auxs := rfl
@[simp] theorem setAuxo_auxos (s : State) (k : Nat) (x : Auxo) : (setAuxo s k x).auxos = mset Auxo.reset s.auxos k x := rfl
@[simp] theorem setAuxo_encs (s : State) (k : Nat) (x : Auxo) : (setAuxo s k x).encs = s.encs := rfl
@[simp] theorem setAuxo_conv (s : State) (k : Nat) (x : Auxo) : (setAuxo s k x).conv = s.conv := rfl
@[simp] theorem setAuxo_c1 (s : State) (k : Nat) (x : Auxo) : (setAuxo s k x).c1 = s.c1 := rfl
@[simp] theorem setAuxo_prot (s : State) (k : Nat) (x : Auxo) : (setAuxo s k x).prot = s.prot := rfl
@[simp] theorem setAuxo_mons (s : State) (k : Nat) (x : Auxo) : (setAuxo s k x).mons = s.mons := rfl
@[simp] theorem setAuxo_probes (s : State) (k : Nat) (x : Auxo) : (setAuxo s k x).probes = s.probes := rfl
@[simp] theorem setAuxo_red (s : State) (k : Nat) (x : Auxo) : (setAuxo s k x).red = s.red := rfl
@[simp] theorem setAuxo_place (s : State) (k : Nat) (x : Auxo) : (setAuxo s k x).place = s.place := rfl
@[simp] theorem setAuxo_ledg (s : State) (k : Nat) (x : Auxo) : (setAuxo s k x).ledg = s.ledg := rfl
@[simp] theorem setAuxo_sv (s : State) (k : Nat) (x : Auxo) : (setAuxo s k x).sv = s.sv := rfl
@[simp] theorem setAuxo_fab (s : State) (k : Nat) (x : Auxo) : (setAuxo s k x).fab = s.fab := rfl

/-! ## setEnc -/

@[simp] theorem setEnc_pending (s : State) (k : Nat) (x : Enc) : (setEnc s k x).pending = s.pending := rfl
@[simp] theorem setEnc_regs (s : State) (k : Nat) (x : Enc) : (setEnc s k x).regs = s.regs := rfl
@[simp] theorem setEnc_pwr (s : State) (k : Nat) (x : Enc) : (setEnc s k x).pwr = s.pwr := rfl
@[simp] theorem setEnc_nv (s : State) (k : Nat) (x : Enc) : (setEnc s k x).nv = s.nv := rfl
@[simp] theorem setEnc_ctl (s : State) (k : Nat) (x : Enc) : (setEnc s k x).ctl = s.ctl := rfl
@[simp] theorem setEnc_load (s : State) (k : Nat) (x : Enc) : (setEnc s k x).load = s.load := rfl
@[simp] theorem setEnc_qm (s : State) (k : Nat) (x : Enc) : (setEnc s k x).qm = s.qm := rfl
@[simp] theorem setEnc_msg (s : State) (k : Nat) (x : Enc) : (setEnc s k x).msg = s.msg := rfl
@[simp] theorem setEnc_axes (s : State) (k : Nat) (x : Enc) : (setEnc s k x).axes = s.axes := rfl
@[simp] theorem setEnc_grps (s : State) (k : Nat) (x : Enc) : (setEnc s k x).grps = s.grps := rfl
@[simp] theorem setEnc_auxs (s : State) (k : Nat) (x : Enc) : (setEnc s k x).auxs = s.auxs := rfl
@[simp] theorem setEnc_auxos (s : State) (k : Nat) (x : Enc) : (setEnc s k x).auxos = s.auxos := rfl
@[simp] theorem setEnc_encs (s : State) (k : Nat) (x : Enc) : (setEnc s k x).encs = mset Enc.reset s.encs k x := rfl
@[simp] theorem setEnc_conv (s : State) (k : Nat) (x : Enc) : (setEnc s k x).conv = s.conv := rfl
@[simp] theorem setEnc_c1 (s : State) (k : Nat) (x : Enc) : (setEnc s k x).c1 = s.c1 := rfl
@[simp] theorem setEnc_prot (s : State) (k : Nat) (x : Enc) : (setEnc s k x).prot = s.prot := rfl
@[simp] theorem setEnc_mons (s : State) (k : Nat) (x : Enc) : (setEnc s k x).mons = s.mons := rfl
@[simp] theorem setEnc_probes (s : State) (k : Nat) (x : Enc) : (setEnc s k x).probes = s.probes := rfl
@[simp] theorem setEnc_red (s : State) (k : Nat) (x : Enc) : (setEnc s k x).red = s.red := rfl
@[simp] theorem setEnc_place (s : State) (k : Nat) (x : Enc) : (setEnc s k x).place = s.place := rfl
@[simp] theorem setEnc_ledg (s : State) (k : Nat) (x : Enc) : (setEnc s k x).ledg = s.ledg := rfl
@[simp] theorem setEnc_sv (s : State) (k : Nat) (x : Enc) : (setEnc s k x).sv = s.sv := rfl
@[simp] theorem setEnc_fab (s : State) (k : Nat) (x : Enc) : (setEnc s k x).fab = s.fab := rfl

/-! ## setMon -/

@[simp] theorem setMon_pending (s : State) (c : Nat) (x : Mon) : (setMon s c x).pending = s.pending := rfl
@[simp] theorem setMon_regs (s : State) (c : Nat) (x : Mon) : (setMon s c x).regs = s.regs := rfl
@[simp] theorem setMon_pwr (s : State) (c : Nat) (x : Mon) : (setMon s c x).pwr = s.pwr := rfl
@[simp] theorem setMon_nv (s : State) (c : Nat) (x : Mon) : (setMon s c x).nv = s.nv := rfl
@[simp] theorem setMon_ctl (s : State) (c : Nat) (x : Mon) : (setMon s c x).ctl = s.ctl := rfl
@[simp] theorem setMon_load (s : State) (c : Nat) (x : Mon) : (setMon s c x).load = s.load := rfl
@[simp] theorem setMon_qm (s : State) (c : Nat) (x : Mon) : (setMon s c x).qm = s.qm := rfl
@[simp] theorem setMon_msg (s : State) (c : Nat) (x : Mon) : (setMon s c x).msg = s.msg := rfl
@[simp] theorem setMon_axes (s : State) (c : Nat) (x : Mon) : (setMon s c x).axes = s.axes := rfl
@[simp] theorem setMon_grps (s : State) (c : Nat) (x : Mon) : (setMon s c x).grps = s.grps := rfl
@[simp] theorem setMon_auxs (s : State) (c : Nat) (x : Mon) : (setMon s c x).auxs = s.auxs := rfl
@[simp] theorem setMon_auxos (s : State) (c : Nat) (x : Mon) : (setMon s c x).auxos = s.auxos := rfl
@[simp] theorem setMon_encs (s : State) (c : Nat) (x : Mon) : (setMon s c x).encs = s.encs := rfl
@[simp] theorem setMon_conv (s : State) (c : Nat) (x : Mon) : (setMon s c x).conv = s.conv := rfl
@[simp] theorem setMon_c1 (s : State) (c : Nat) (x : Mon) : (setMon s c x).c1 = s.c1 := rfl
@[simp] theorem setMon_prot (s : State) (c : Nat) (x : Mon) : (setMon s c x).prot = s.prot := rfl
@[simp] theorem setMon_mons (s : State) (c : Nat) (x : Mon) : (setMon s c x).mons = mset Mon.reset s.mons c x := rfl
@[simp] theorem setMon_probes (s : State) (c : Nat) (x : Mon) : (setMon s c x).probes = s.probes := rfl
@[simp] theorem setMon_red (s : State) (c : Nat) (x : Mon) : (setMon s c x).red = s.red := rfl
@[simp] theorem setMon_place (s : State) (c : Nat) (x : Mon) : (setMon s c x).place = s.place := rfl
@[simp] theorem setMon_ledg (s : State) (c : Nat) (x : Mon) : (setMon s c x).ledg = s.ledg := rfl
@[simp] theorem setMon_sv (s : State) (c : Nat) (x : Mon) : (setMon s c x).sv = s.sv := rfl
@[simp] theorem setMon_fab (s : State) (c : Nat) (x : Mon) : (setMon s c x).fab = s.fab := rfl

/-! ## setProbe -/

@[simp] theorem setProbe_pending (s : State) (j : Nat) (x : Probe) : (setProbe s j x).pending = s.pending := rfl
@[simp] theorem setProbe_regs (s : State) (j : Nat) (x : Probe) : (setProbe s j x).regs = s.regs := rfl
@[simp] theorem setProbe_pwr (s : State) (j : Nat) (x : Probe) : (setProbe s j x).pwr = s.pwr := rfl
@[simp] theorem setProbe_nv (s : State) (j : Nat) (x : Probe) : (setProbe s j x).nv = s.nv := rfl
@[simp] theorem setProbe_ctl (s : State) (j : Nat) (x : Probe) : (setProbe s j x).ctl = s.ctl := rfl
@[simp] theorem setProbe_load (s : State) (j : Nat) (x : Probe) : (setProbe s j x).load = s.load := rfl
@[simp] theorem setProbe_qm (s : State) (j : Nat) (x : Probe) : (setProbe s j x).qm = s.qm := rfl
@[simp] theorem setProbe_msg (s : State) (j : Nat) (x : Probe) : (setProbe s j x).msg = s.msg := rfl
@[simp] theorem setProbe_axes (s : State) (j : Nat) (x : Probe) : (setProbe s j x).axes = s.axes := rfl
@[simp] theorem setProbe_grps (s : State) (j : Nat) (x : Probe) : (setProbe s j x).grps = s.grps := rfl
@[simp] theorem setProbe_auxs (s : State) (j : Nat) (x : Probe) : (setProbe s j x).auxs = s.auxs := rfl
@[simp] theorem setProbe_auxos (s : State) (j : Nat) (x : Probe) : (setProbe s j x).auxos = s.auxos := rfl
@[simp] theorem setProbe_encs (s : State) (j : Nat) (x : Probe) : (setProbe s j x).encs = s.encs := rfl
@[simp] theorem setProbe_conv (s : State) (j : Nat) (x : Probe) : (setProbe s j x).conv = s.conv := rfl
@[simp] theorem setProbe_c1 (s : State) (j : Nat) (x : Probe) : (setProbe s j x).c1 = s.c1 := rfl
@[simp] theorem setProbe_prot (s : State) (j : Nat) (x : Probe) : (setProbe s j x).prot = s.prot := rfl
@[simp] theorem setProbe_mons (s : State) (j : Nat) (x : Probe) : (setProbe s j x).mons = s.mons := rfl
@[simp] theorem setProbe_probes (s : State) (j : Nat) (x : Probe) : (setProbe s j x).probes = mset Probe.reset s.probes j x := rfl
@[simp] theorem setProbe_red (s : State) (j : Nat) (x : Probe) : (setProbe s j x).red = s.red := rfl
@[simp] theorem setProbe_place (s : State) (j : Nat) (x : Probe) : (setProbe s j x).place = s.place := rfl
@[simp] theorem setProbe_ledg (s : State) (j : Nat) (x : Probe) : (setProbe s j x).ledg = s.ledg := rfl
@[simp] theorem setProbe_sv (s : State) (j : Nat) (x : Probe) : (setProbe s j x).sv = s.sv := rfl
@[simp] theorem setProbe_fab (s : State) (j : Nat) (x : Probe) : (setProbe s j x).fab = s.fab := rfl

/-! ## setQd -/

@[simp] theorem setQd_pending (s : State) (q : Nat) (d : QDesc) : (setQd s q d).pending = s.pending := rfl
@[simp] theorem setQd_regs (s : State) (q : Nat) (d : QDesc) : (setQd s q d).regs = s.regs := rfl
@[simp] theorem setQd_pwr (s : State) (q : Nat) (d : QDesc) : (setQd s q d).pwr = s.pwr := rfl
@[simp] theorem setQd_nv (s : State) (q : Nat) (d : QDesc) : (setQd s q d).nv = s.nv := rfl
@[simp] theorem setQd_ctl (s : State) (q : Nat) (d : QDesc) : (setQd s q d).ctl = s.ctl := rfl
@[simp] theorem setQd_load (s : State) (q : Nat) (d : QDesc) : (setQd s q d).load = s.load := rfl
@[simp] theorem setQd_qm (s : State) (q : Nat) (d : QDesc) : (setQd s q d).qm = { s.qm with descs := mset (qInit q) s.qm.descs q d }
    := rfl
@[simp] theorem setQd_msg (s : State) (q : Nat) (d : QDesc) : (setQd s q d).msg = s.msg := rfl
@[simp] theorem setQd_axes (s : State) (q : Nat) (d : QDesc) : (setQd s q d).axes = s.axes := rfl
@[simp] theorem setQd_grps (s : State) (q : Nat) (d : QDesc) : (setQd s q d).grps = s.grps := rfl
@[simp] theorem setQd_auxs (s : State) (q : Nat) (d : QDesc) : (setQd s q d).auxs = s.auxs := rfl
@[simp] theorem setQd_auxos (s : State) (q : Nat) (d : QDesc) : (setQd s q d).auxos = s.auxos := rfl
@[simp] theorem setQd_encs (s : State) (q : Nat) (d : QDesc) : (setQd s q d).encs = s.encs := rfl
@[simp] theorem setQd_conv (s : State) (q : Nat) (d : QDesc) : (setQd s q d).conv = s.conv := rfl
@[simp] theorem setQd_c1 (s : State) (q : Nat) (d : QDesc) : (setQd s q d).c1 = s.c1 := rfl
@[simp] theorem setQd_prot (s : State) (q : Nat) (d : QDesc) : (setQd s q d).prot = s.prot := rfl
@[simp] theorem setQd_mons (s : State) (q : Nat) (d : QDesc) : (setQd s q d).mons = s.mons := rfl
@[simp] theorem setQd_probes (s : State) (q : Nat) (d : QDesc) : (setQd s q d).probes = s.probes := rfl
@[simp] theorem setQd_red (s : State) (q : Nat) (d : QDesc) : (setQd s q d).red = s.red := rfl
@[simp] theorem setQd_place (s : State) (q : Nat) (d : QDesc) : (setQd s q d).place = s.place := rfl
@[simp] theorem setQd_ledg (s : State) (q : Nat) (d : QDesc) : (setQd s q d).ledg = s.ledg := rfl
@[simp] theorem setQd_sv (s : State) (q : Nat) (d : QDesc) : (setQd s q d).sv = s.sv := rfl
@[simp] theorem setQd_fab (s : State) (q : Nat) (d : QDesc) : (setQd s q d).fab = s.fab := rfl

/-! ## modLoad -/

@[simp] theorem modLoad_pending (s : State) (f : Load → Load) : (modLoad s f).pending = s.pending := rfl
@[simp] theorem modLoad_regs (s : State) (f : Load → Load) : (modLoad s f).regs = s.regs := rfl
@[simp] theorem modLoad_pwr (s : State) (f : Load → Load) : (modLoad s f).pwr = s.pwr := rfl
@[simp] theorem modLoad_nv (s : State) (f : Load → Load) : (modLoad s f).nv = s.nv := rfl
@[simp] theorem modLoad_ctl (s : State) (f : Load → Load) : (modLoad s f).ctl = s.ctl := rfl
@[simp] theorem modLoad_load (s : State) (f : Load → Load) : (modLoad s f).load = f s.load := rfl
@[simp] theorem modLoad_qm (s : State) (f : Load → Load) : (modLoad s f).qm = s.qm := rfl
@[simp] theorem modLoad_msg (s : State) (f : Load → Load) : (modLoad s f).msg = s.msg := rfl
@[simp] theorem modLoad_axes (s : State) (f : Load → Load) : (modLoad s f).axes = s.axes := rfl
@[simp] theorem modLoad_grps (s : State) (f : Load → Load) : (modLoad s f).grps = s.grps := rfl
@[simp] theorem modLoad_auxs (s : State) (f : Load → Load) : (modLoad s f).auxs = s.auxs := rfl
@[simp] theorem modLoad_auxos (s : State) (f : Load → Load) : (modLoad s f).auxos = s.auxos := rfl
@[simp] theorem modLoad_encs (s : State) (f : Load → Load) : (modLoad s f).encs = s.encs := rfl
@[simp] theorem modLoad_conv (s : State) (f : Load → Load) : (modLoad s f).conv = s.conv := rfl
@[simp] theorem modLoad_c1 (s : State) (f : Load → Load) : (modLoad s f).c1 = s.c1 := rfl
@[simp] theorem modLoad_prot (s : State) (f : Load → Load) : (modLoad s f).prot = s.prot := rfl
@[simp] theorem modLoad_mons (s : State) (f : Load → Load) : (modLoad s f).mons = s.mons := rfl
@[simp] theorem modLoad_probes (s : State) (f : Load → Load) : (modLoad s f).probes = s.probes := rfl
@[simp] theorem modLoad_red (s : State) (f : Load → Load) : (modLoad s f).red = s.red := rfl
@[simp] theorem modLoad_place (s : State) (f : Load → Load) : (modLoad s f).place = s.place := rfl
@[simp] theorem modLoad_ledg (s : State) (f : Load → Load) : (modLoad s f).ledg = s.ledg := rfl
@[simp] theorem modLoad_sv (s : State) (f : Load → Load) : (modLoad s f).sv = s.sv := rfl
@[simp] theorem modLoad_fab (s : State) (f : Load → Load) : (modLoad s f).fab = s.fab := rfl

/-! ## modFab -/

@[simp] theorem modFab_pending (s : State) (f : Fab → Fab) : (modFab s f).pending = s.pending := rfl
@[simp] theorem modFab_regs (s : State) (f : Fab → Fab) : (modFab s f).regs = s.regs := rfl
@[simp] theorem modFab_pwr (s : State) (f : Fab → Fab) : (modFab s f).pwr = s.pwr := rfl
@[simp] theorem modFab_nv (s : State) (f : Fab → Fab) : (modFab s f).nv = s.nv := rfl
@[simp] theorem modFab_ctl (s : State) (f : Fab → Fab) : (modFab s f).ctl = s.ctl := rfl
@[simp] theorem modFab_load (s : State) (f : Fab → Fab) : (modFab s f).load = s.load := rfl
@[simp] theorem modFab_qm (s : State) (f : Fab → Fab) : (modFab s f).qm = s.qm := rfl
@[simp] theorem modFab_msg (s : State) (f : Fab → Fab) : (modFab s f).msg = s.msg := rfl
@[simp] theorem modFab_axes (s : State) (f : Fab → Fab) : (modFab s f).axes = s.axes := rfl
@[simp] theorem modFab_grps (s : State) (f : Fab → Fab) : (modFab s f).grps = s.grps := rfl
@[simp] theorem modFab_auxs (s : State) (f : Fab → Fab) : (modFab s f).auxs = s.auxs := rfl
@[simp] theorem modFab_auxos (s : State) (f : Fab → Fab) : (modFab s f).auxos = s.auxos := rfl
@[simp] theorem modFab_encs (s : State) (f : Fab → Fab) : (modFab s f).encs = s.encs := rfl
@[simp] theorem modFab_conv (s : State) (f : Fab → Fab) : (modFab s f).conv = s.conv := rfl
@[simp] theorem modFab_c1 (s : State) (f : Fab → Fab) : (modFab s f).c1 = s.c1 := rfl
@[simp] theorem modFab_prot (s : State) (f : Fab → Fab) : (modFab s f).prot = s.prot := rfl
@[simp] theorem modFab_mons (s : State) (f : Fab → Fab) : (modFab s f).mons = s.mons := rfl
@[simp] theorem modFab_probes (s : State) (f : Fab → Fab) : (modFab s f).probes = s.probes := rfl
@[simp] theorem modFab_red (s : State) (f : Fab → Fab) : (modFab s f).red = s.red := rfl
@[simp] theorem modFab_place (s : State) (f : Fab → Fab) : (modFab s f).place = s.place := rfl
@[simp] theorem modFab_ledg (s : State) (f : Fab → Fab) : (modFab s f).ledg = s.ledg := rfl
@[simp] theorem modFab_sv (s : State) (f : Fab → Fab) : (modFab s f).sv = s.sv := rfl
@[simp] theorem modFab_fab (s : State) (f : Fab → Fab) : (modFab s f).fab = f s.fab := rfl

/-! ## modRed -/

@[simp] theorem modRed_pending (s : State) (f : Red → Red) : (modRed s f).pending = s.pending := rfl
@[simp] theorem modRed_regs (s : State) (f : Red → Red) : (modRed s f).regs = s.regs := rfl
@[simp] theorem modRed_pwr (s : State) (f : Red → Red) : (modRed s f).pwr = s.pwr := rfl
@[simp] theorem modRed_nv (s : State) (f : Red → Red) : (modRed s f).nv = s.nv := rfl
@[simp] theorem modRed_ctl (s : State) (f : Red → Red) : (modRed s f).ctl = s.ctl := rfl
@[simp] theorem modRed_load (s : State) (f : Red → Red) : (modRed s f).load = s.load := rfl
@[simp] theorem modRed_qm (s : State) (f : Red → Red) : (modRed s f).qm = s.qm := rfl
@[simp] theorem modRed_msg (s : State) (f : Red → Red) : (modRed s f).msg = s.msg := rfl
@[simp] theorem modRed_axes (s : State) (f : Red → Red) : (modRed s f).axes = s.axes := rfl
@[simp] theorem modRed_grps (s : State) (f : Red → Red) : (modRed s f).grps = s.grps := rfl
@[simp] theorem modRed_auxs (s : State) (f : Red → Red) : (modRed s f).auxs = s.auxs := rfl
@[simp] theorem modRed_auxos (s : State) (f : Red → Red) : (modRed s f).auxos = s.auxos := rfl
@[simp] theorem modRed_encs (s : State) (f : Red → Red) : (modRed s f).encs = s.encs := rfl
@[simp] theorem modRed_conv (s : State) (f : Red → Red) : (modRed s f).conv = s.conv := rfl
@[simp] theorem modRed_c1 (s : State) (f : Red → Red) : (modRed s f).c1 = s.c1 := rfl
@[simp] theorem modRed_prot (s : State) (f : Red → Red) : (modRed s f).prot = s.prot := rfl
@[simp] theorem modRed_mons (s : State) (f : Red → Red) : (modRed s f).mons = s.mons := rfl
@[simp] theorem modRed_probes (s : State) (f : Red → Red) : (modRed s f).probes = s.probes := rfl
@[simp] theorem modRed_red (s : State) (f : Red → Red) : (modRed s f).red = f s.red := rfl
@[simp] theorem modRed_place (s : State) (f : Red → Red) : (modRed s f).place = s.place := rfl
@[simp] theorem modRed_ledg (s : State) (f : Red → Red) : (modRed s f).ledg = s.ledg := rfl
@[simp] theorem modRed_sv (s : State) (f : Red → Red) : (modRed s f).sv = s.sv := rfl
@[simp] theorem modRed_fab (s : State) (f : Red → Red) : (modRed s f).fab = s.fab := rfl

/-! ## modPlace -/

@[simp] theorem modPlace_pending (s : State) (f : Place → Place) : (modPlace s f).pending = s.pending := rfl
@[simp] theorem modPlace_regs (s : State) (f : Place → Place) : (modPlace s f).regs = s.regs := rfl
@[simp] theorem modPlace_pwr (s : State) (f : Place → Place) : (modPlace s f).pwr = s.pwr := rfl
@[simp] theorem modPlace_nv (s : State) (f : Place → Place) : (modPlace s f).nv = s.nv := rfl
@[simp] theorem modPlace_ctl (s : State) (f : Place → Place) : (modPlace s f).ctl = s.ctl := rfl
@[simp] theorem modPlace_load (s : State) (f : Place → Place) : (modPlace s f).load = s.load := rfl
@[simp] theorem modPlace_qm (s : State) (f : Place → Place) : (modPlace s f).qm = s.qm := rfl
@[simp] theorem modPlace_msg (s : State) (f : Place → Place) : (modPlace s f).msg = s.msg := rfl
@[simp] theorem modPlace_axes (s : State) (f : Place → Place) : (modPlace s f).axes = s.axes := rfl
@[simp] theorem modPlace_grps (s : State) (f : Place → Place) : (modPlace s f).grps = s.grps := rfl
@[simp] theorem modPlace_auxs (s : State) (f : Place → Place) : (modPlace s f).auxs = s.auxs := rfl
@[simp] theorem modPlace_auxos (s : State) (f : Place → Place) : (modPlace s f).auxos = s.auxos := rfl
@[simp] theorem modPlace_encs (s : State) (f : Place → Place) : (modPlace s f).encs = s.encs := rfl
@[simp] theorem modPlace_conv (s : State) (f : Place → Place) : (modPlace s f).conv = s.conv := rfl
@[simp] theorem modPlace_c1 (s : State) (f : Place → Place) : (modPlace s f).c1 = s.c1 := rfl
@[simp] theorem modPlace_prot (s : State) (f : Place → Place) : (modPlace s f).prot = s.prot := rfl
@[simp] theorem modPlace_mons (s : State) (f : Place → Place) : (modPlace s f).mons = s.mons := rfl
@[simp] theorem modPlace_probes (s : State) (f : Place → Place) : (modPlace s f).probes = s.probes := rfl
@[simp] theorem modPlace_red (s : State) (f : Place → Place) : (modPlace s f).red = s.red := rfl
@[simp] theorem modPlace_place (s : State) (f : Place → Place) : (modPlace s f).place = f s.place := rfl
@[simp] theorem modPlace_ledg (s : State) (f : Place → Place) : (modPlace s f).ledg = s.ledg := rfl
@[simp] theorem modPlace_sv (s : State) (f : Place → Place) : (modPlace s f).sv = s.sv := rfl
@[simp] theorem modPlace_fab (s : State) (f : Place → Place) : (modPlace s f).fab = s.fab := rfl

/-! ## modSv -/

@[simp] theorem modSv_pending (s : State) (f : Sv → Sv) : (modSv s f).pending = s.pending := rfl
@[simp] theorem modSv_regs (s : State) (f : Sv → Sv) : (modSv s f).regs = s.regs := rfl
@[simp] theorem modSv_pwr (s : State) (f : Sv → Sv) : (modSv s f).pwr = s.pwr := rfl
@[simp] theorem modSv_nv (s : State) (f : Sv → Sv) : (modSv s f).nv = s.nv := rfl
@[simp] theorem modSv_ctl (s : State) (f : Sv → Sv) : (modSv s f).ctl = s.ctl := rfl
@[simp] theorem modSv_load (s : State) (f : Sv → Sv) : (modSv s f).load = s.load := rfl
@[simp] theorem modSv_qm (s : State) (f : Sv → Sv) : (modSv s f).qm = s.qm := rfl
@[simp] theorem modSv_msg (s : State) (f : Sv → Sv) : (modSv s f).msg = s.msg := rfl
@[simp] theorem modSv_axes (s : State) (f : Sv → Sv) : (modSv s f).axes = s.axes := rfl
@[simp] theorem modSv_grps (s : State) (f : Sv → Sv) : (modSv s f).grps = s.grps := rfl
@[simp] theorem modSv_auxs (s : State) (f : Sv → Sv) : (modSv s f).auxs = s.auxs := rfl
@[simp] theorem modSv_auxos (s : State) (f : Sv → Sv) : (modSv s f).auxos = s.auxos := rfl
@[simp] theorem modSv_encs (s : State) (f : Sv → Sv) : (modSv s f).encs = s.encs := rfl
@[simp] theorem modSv_conv (s : State) (f : Sv → Sv) : (modSv s f).conv = s.conv := rfl
@[simp] theorem modSv_c1 (s : State) (f : Sv → Sv) : (modSv s f).c1 = s.c1 := rfl
@[simp] theorem modSv_prot (s : State) (f : Sv → Sv) : (modSv s f).prot = s.prot := rfl
@[simp] theorem modSv_mons (s : State) (f : Sv → Sv) : (modSv s f).mons = s.mons := rfl
@[simp] theorem modSv_probes (s : State) (f : Sv → Sv) : (modSv s f).probes = s.probes := rfl
@[simp] theorem modSv_red (s : State) (f : Sv → Sv) : (modSv s f).red = s.red := rfl
@[simp] theorem modSv_place (s : State) (f : Sv → Sv) : (modSv s f).place = s.place := rfl
@[simp] theorem modSv_ledg (s : State) (f : Sv → Sv) : (modSv s f).ledg = s.ledg := rfl
@[simp] theorem modSv_sv (s : State) (f : Sv → Sv) : (modSv s f).sv = f s.sv := rfl
@[simp] theorem modSv_fab (s : State) (f : Sv → Sv) : (modSv s f).fab = s.fab := rfl

/-! ## setRtc -/

@[simp] theorem setRtc_pending (s : State) (r : Rtc) : (setRtc s r).pending = s.pending := rfl
@[simp] theorem setRtc_regs (s : State) (r : Rtc) : (setRtc s r).regs = s.regs := rfl
@[simp] theorem setRtc_pwr (s : State) (r : Rtc) : (setRtc s r).pwr = s.pwr := rfl
@[simp] theorem setRtc_nv (s : State) (r : Rtc) : (setRtc s r).nv = { s.nv with rtc := r } := rfl
@[simp] theorem setRtc_ctl (s : State) (r : Rtc) : (setRtc s r).ctl = s.ctl := rfl
@[simp] theorem setRtc_load (s : State) (r : Rtc) : (setRtc s r).load = s.load := rfl
@[simp] theorem setRtc_qm (s : State) (r : Rtc) : (setRtc s r).qm = s.qm := rfl
@[simp] theorem setRtc_msg (s : State) (r : Rtc) : (setRtc s r).msg = s.msg := rfl
@[simp] theorem setRtc_axes (s : State) (r : Rtc) : (setRtc s r).axes = s.axes := rfl
@[simp] theorem setRtc_grps (s : State) (r : Rtc) : (setRtc s r).grps = s.grps := rfl
@[simp] theorem setRtc_auxs (s : State) (r : Rtc) : (setRtc s r).auxs = s.auxs := rfl
@[simp] theorem setRtc_auxos (s : State) (r : Rtc) : (setRtc s r).auxos = s.auxos := rfl
@[simp] theorem setRtc_encs (s : State) (r : Rtc) : (setRtc s r).encs = s.encs := rfl
@[simp] theorem setRtc_conv (s : State) (r : Rtc) : (setRtc s r).conv = s.conv := rfl
@[simp] theorem setRtc_c1 (s : State) (r : Rtc) : (setRtc s r).c1 = s.c1 := rfl
@[simp] theorem setRtc_prot (s : State) (r : Rtc) : (setRtc s r).prot = s.prot := rfl
@[simp] theorem setRtc_mons (s : State) (r : Rtc) : (setRtc s r).mons = s.mons := rfl
@[simp] theorem setRtc_probes (s : State) (r : Rtc) : (setRtc s r).probes = s.probes := rfl
@[simp] theorem setRtc_red (s : State) (r : Rtc) : (setRtc s r).red = s.red := rfl
@[simp] theorem setRtc_place (s : State) (r : Rtc) : (setRtc s r).place = s.place := rfl
@[simp] theorem setRtc_ledg (s : State) (r : Rtc) : (setRtc s r).ledg = s.ledg := rfl
@[simp] theorem setRtc_sv (s : State) (r : Rtc) : (setRtc s r).sv = s.sv := rfl
@[simp] theorem setRtc_fab (s : State) (r : Rtc) : (setRtc s r).fab = s.fab := rfl

/-! ## draw -/

@[simp] theorem draw_pending (s : State) : (draw s).pending = s.pending := rfl
@[simp] theorem draw_regs (s : State) : (draw s).regs = s.regs := rfl
@[simp] theorem draw_pwr (s : State) : (draw s).pwr = s.pwr := rfl
@[simp] theorem draw_nv (s : State) : (draw s).nv = s.nv := rfl
@[simp] theorem draw_ctl (s : State) : (draw s).ctl = { s.ctl with freeCnt := s.ctl.freeCnt + 1 } := rfl
@[simp] theorem draw_load (s : State) : (draw s).load = s.load := rfl
@[simp] theorem draw_qm (s : State) : (draw s).qm = s.qm := rfl
@[simp] theorem draw_msg (s : State) : (draw s).msg = s.msg := rfl
@[simp] theorem draw_axes (s : State) : (draw s).axes = s.axes := rfl
@[simp] theorem draw_grps (s : State) : (draw s).grps = s.grps := rfl
@[simp] theorem draw_auxs (s : State) : (draw s).auxs = s.auxs := rfl
@[simp] theorem draw_auxos (s : State) : (draw s).auxos = s.auxos := rfl
@[simp] theorem draw_encs (s : State) : (draw s).encs = s.encs := rfl
@[simp] theorem draw_conv (s : State) : (draw s).conv = s.conv := rfl
@[simp] theorem draw_c1 (s : State) : (draw s).c1 = s.c1 := rfl
@[simp] theorem draw_prot (s : State) : (draw s).prot = s.prot := rfl
@[simp] theorem draw_mons (s : State) : (draw s).mons = s.mons := rfl
@[simp] theorem draw_probes (s : State) : (draw s).probes = s.probes := rfl
@[simp] theorem draw_red (s : State) : (draw s).red = s.red := rfl
@[simp] theorem draw_place (s : State) : (draw s).place = s.place := rfl
@[simp] theorem draw_ledg (s : State) : (draw s).ledg = s.ledg := rfl
@[simp] theorem draw_sv (s : State) : (draw s).sv = s.sv := rfl
@[simp] theorem draw_fab (s : State) : (draw s).fab = s.fab := rfl

/-! ## raise -/

@[simp] theorem raise_pending (s : State) (c a g : Nat) : (raise s c a g).pending = s.pending := rfl
@[simp] theorem raise_regs (s : State) (c a g : Nat) : (raise s c a g).regs = s.regs := rfl
@[simp] theorem raise_pwr (s : State) (c a g : Nat) : (raise s c a g).pwr = s.pwr := rfl
@[simp] theorem raise_nv (s : State) (c a g : Nat) : (raise s c a g).nv = s.nv := rfl
@[simp] theorem raise_load (s : State) (c a g : Nat) : (raise s c a g).load = s.load := rfl
@[simp] theorem raise_qm (s : State) (c a g : Nat) : (raise s c a g).qm = s.qm := rfl
@[simp] theorem raise_msg (s : State) (c a g : Nat) : (raise s c a g).msg = s.msg := rfl
@[simp] theorem raise_axes (s : State) (c a g : Nat) : (raise s c a g).axes = s.axes := rfl
@[simp] theorem raise_grps (s : State) (c a g : Nat) : (raise s c a g).grps = s.grps := rfl
@[simp] theorem raise_auxs (s : State) (c a g : Nat) : (raise s c a g).auxs = s.auxs := rfl
@[simp] theorem raise_auxos (s : State) (c a g : Nat) : (raise s c a g).auxos = s.auxos := rfl
@[simp] theorem raise_encs (s : State) (c a g : Nat) : (raise s c a g).encs = s.encs := rfl
@[simp] theorem raise_conv (s : State) (c a g : Nat) : (raise s c a g).conv = s.conv := rfl
@[simp] theorem raise_c1 (s : State) (c a g : Nat) : (raise s c a g).c1 = s.c1 := rfl
@[simp] theorem raise_prot (s : State) (c a g : Nat) : (raise s c a g).prot = s.prot := rfl
@[simp] theorem raise_mons (s : State) (c a g : Nat) : (raise s c a g).mons = s.mons := rfl
@[simp] theorem raise_probes (s : State) (c a g : Nat) : (raise s c a g).probes = s.probes := rfl
@[simp] theorem raise_red (s : State) (c a g : Nat) : (raise s c a g).red = s.red := rfl
@[simp] theorem raise_place (s : State) (c a g : Nat) : (raise s c a g).place = s.place := rfl
@[simp] theorem raise_ledg (s : State) (c a g : Nat) : (raise s c a g).ledg = s.ledg := rfl
@[simp] theorem raise_sv (s : State) (c a g : Nat) : (raise s c a g).sv = s.sv := rfl
@[simp] theorem raise_fab (s : State) (c a g : Nat) : (raise s c a g).fab = s.fab := rfl

/-! ## trigger -/

@[simp] theorem trigger_pending (s : State) (m c : Nat) (w : Option Src) : (trigger s m c w).pending = s.pending := rfl
@[simp] theorem trigger_regs (s : State) (m c : Nat) (w : Option Src) : (trigger s m c w).regs = s.regs := rfl
@[simp] theorem trigger_pwr (s : State) (m c : Nat) (w : Option Src) : (trigger s m c w).pwr = s.pwr := rfl
@[simp] theorem trigger_nv (s : State) (m c : Nat) (w : Option Src) : (trigger s m c w).nv = s.nv := rfl
@[simp] theorem trigger_ctl (s : State) (m c : Nat) (w : Option Src) : (trigger s m c w).ctl = { s.ctl with trigs := s.ctl.trigs ++
    [⟨m, c, w⟩] } := rfl
@[simp] theorem trigger_load (s : State) (m c : Nat) (w : Option Src) : (trigger s m c w).load = s.load := rfl
@[simp] theorem trigger_qm (s : State) (m c : Nat) (w : Option Src) : (trigger s m c w).qm = s.qm := rfl
@[simp] theorem trigger_msg (s : State) (m c : Nat) (w : Option Src) : (trigger s m c w).msg = s.msg := rfl
@[simp] theorem trigger_axes (s : State) (m c : Nat) (w : Option Src) : (trigger s m c w).axes = s.axes := rfl
@[simp] theorem trigger_grps (s : State) (m c : Nat) (w : Option Src) : (trigger s m c w).grps = s.grps := rfl
@[simp] theorem trigger_auxs (s : State) (m c : Nat) (w : Option Src) : (trigger s m c w).auxs = s.auxs := rfl
@[simp] theorem trigger_auxos (s : State) (m c : Nat) (w : Option Src) : (trigger s m c w).auxos = s.auxos := rfl
@[simp] theorem trigger_encs (s : State) (m c : Nat) (w : Option Src) : (trigger s m c w).encs = s.encs := rfl
@[simp] theorem trigger_conv (s : State) (m c : Nat) (w : Option Src) : (trigger s m c w).conv = s.conv := rfl
@[simp] theorem trigger_c1 (s : State) (m c : Nat) (w : Option Src) : (trigger s m c w).c1 = s.c1 := rfl
@[simp] theorem trigger_prot (s : State) (m c : Nat) (w : Option Src) : (trigger s m c w).prot = s.prot := rfl
@[simp] theorem trigger_mons (s : State) (m c : Nat) (w : Option Src) : (trigger s m c w).mons = s.mons := rfl
@[simp] theorem trigger_probes (s : State) (m c : Nat) (w : Option Src) : (trigger s m c w).probes = s.probes := rfl
@[simp] theorem trigger_red (s : State) (m c : Nat) (w : Option Src) : (trigger s m c w).red = s.red := rfl
@[simp] theorem trigger_place (s : State) (m c : Nat) (w : Option Src) : (trigger s m c w).place = s.place := rfl
@[simp] theorem trigger_ledg (s : State) (m c : Nat) (w : Option Src) : (trigger s m c w).ledg = s.ledg := rfl
@[simp] theorem trigger_sv (s : State) (m c : Nat) (w : Option Src) : (trigger s m c w).sv = s.sv := rfl
@[simp] theorem trigger_fab (s : State) (m c : Nat) (w : Option Src) : (trigger s m c w).fab = s.fab := rfl

/-! ## takeMsg -/

@[simp] theorem takeMsg_pending (s : State) (w : Src) : (takeMsg s w).pending = s.pending := rfl
@[simp] theorem takeMsg_regs (s : State) (w : Src) : (takeMsg s w).regs = s.regs := rfl
@[simp] theorem takeMsg_pwr (s : State) (w : Src) : (takeMsg s w).pwr = s.pwr := rfl
@[simp] theorem takeMsg_nv (s : State) (w : Src) : (takeMsg s w).nv = s.nv := rfl
@[simp] theorem takeMsg_ctl (s : State) (w : Src) : (takeMsg s w).ctl = s.ctl := rfl
@[simp] theorem takeMsg_load (s : State) (w : Src) : (takeMsg s w).load = s.load := rfl
@[simp] theorem takeMsg_qm (s : State) (w : Src) : (takeMsg s w).qm = s.qm := rfl
@[simp] theorem takeMsg_axes (s : State) (w : Src) : (takeMsg s w).axes = s.axes := rfl
@[simp] theorem takeMsg_grps (s : State) (w : Src) : (takeMsg s w).grps = s.grps := rfl
@[simp] theorem takeMsg_auxs (s : State) (w : Src) : (takeMsg s w).auxs = s.auxs := rfl
@[simp] theorem takeMsg_auxos (s : State) (w : Src) : (takeMsg s w).auxos = s.auxos := rfl
@[simp] theorem takeMsg_encs (s : State) (w : Src) : (takeMsg s w).encs = s.encs := rfl
@[simp] theorem takeMsg_conv (s : State) (w : Src) : (takeMsg s w).conv = s.conv := rfl
@[simp] theorem takeMsg_c1 (s : State) (w : Src) : (takeMsg s w).c1 = s.c1 := rfl
@[simp] theorem takeMsg_prot (s : State) (w : Src) : (takeMsg s w).prot = s.prot := rfl
@[simp] theorem takeMsg_mons (s : State) (w : Src) : (takeMsg s w).mons = s.mons := rfl
@[simp] theorem takeMsg_probes (s : State) (w : Src) : (takeMsg s w).probes = s.probes := rfl
@[simp] theorem takeMsg_red (s : State) (w : Src) : (takeMsg s w).red = s.red := rfl
@[simp] theorem takeMsg_place (s : State) (w : Src) : (takeMsg s w).place = s.place := rfl
@[simp] theorem takeMsg_ledg (s : State) (w : Src) : (takeMsg s w).ledg = s.ledg := rfl
@[simp] theorem takeMsg_sv (s : State) (w : Src) : (takeMsg s w).sv = s.sv := rfl
@[simp] theorem takeMsg_fab (s : State) (w : Src) : (takeMsg s w).fab = s.fab := rfl

end Sys2Proof.Machine
end

