-- ==== Sys2Proof/Tests/Slice0.lean ====
section
/-!
SUPPORT. Tests: ill-formed commands that WellFormed refuses, words and worked examples of the spec, and for every statement a
state and operands that meet its premises.
-/

namespace Sys2Proof.Tests

open Sys2Proof Sys2Proof.Machine

set_option maxRecDepth 20000

/-! ## States -/

/-- Powered, out of reset, PLL locked. -/
def up : State := { State.reset with pwr := { State.reset.pwr with rst := false, locked := true, inRange := 31 } }

/-- `up` in a device mode. -/
def at_ (m : Nat) : State := wr up F.devMode_MODE 0 m

/-- An axis in a mode. -/
def axAt (s : State) (n m : Nat) : State := wr s F.axMode_MODE n m

/-- The state a command leaves. -/
def next (c : Instr) (s : State) : State := match exec c s with | .next t => t | _ => s

/-- RUN with axis 3 in VELOCITY. -/
def running : State := axAt (at_ mRun) 3 aVelocity

/-- A link in a state, with a fabric key. -/
def linked (st : Nat) : State :=
  let s := { at_ mRun with nv := { up.nv with fkey := 5 } }
  wr (wr s F.lkStat_STATE 2 st) F.lkCfg_EN 2 1

/-- The supervisor core at address 0x100, w1 = 8, w2 = 3, w14 at the top of the SRAM, in thread code. -/
def core : State :=
  let s := wr (at_ mStandby) F.devSvStat_RUNNING 0 1
  { s with sv := { s.sv with
    pc := 0x100
    w := ((s.sv.w.set 1 8).set 2 3).set 14 0x80000 } }

/-- A service-port message and the test port. -/
def svc : Src := .svc 1

/-! ## Ill-formed commands -/

def badSrc : Src := .fabric 0 64 0 .ctl 0
def longFrame : Frame := ⟨0, 0, 0, List.replicate 285 0, .complete⟩

theorem test_wf_node : (Instr.evDump badSrc).wf = false := by decide
theorem test_wf_nodes : [Instr.resetRequest badSrc 0, .modeRequest badSrc 0, .imageWriteEnd badSrc 0, .imageWriteSwitch badSrc 0,
  .trimWriteCommit badSrc 0, .trimWriteClose badSrc, .excTimingWrite badSrc 0 false 0, .excGroupStop badSrc 0,
  .excGroupStart badSrc 0, .sqRetry badSrc 0, .muxSourceWrite badSrc 0 false 0, .auxSourceWrite badSrc 0 0,
  .posSetWrite badSrc 0 0, .encResync badSrc 0, .axisModeRequest badSrc 0 0, .paramWrite badSrc 0 (.coef 0) 0,
  .pairSetWrite badSrc 0 0 0, .traceArm badSrc, .traceStop badSrc, .sscWrite badSrc 0, .tripRearm badSrc 0,
  .tripCfgWrite badSrc 0 0, .monSpanWrite badSrc 0 0, .queueResetRequest badSrc 0, .queueNoticeRead badSrc 0,
  .fabUnquar badSrc 0, .linkReconfigure badSrc 0 0, .fabCmdSync badSrc, .svRestart badSrc, .svHaltCommand badSrc,
  .ledgerSnap badSrc, .ledgerClrAxis badSrc 0, .calSet badSrc 0, .msgTraceRead badSrc 0 0 0,
  .evRaise badSrc 0].all (fun c => !c.wf) = true := by decide
theorem test_wf_access : (Instr.jtagObjectAccess true 0 (2 ^ 32)).wf = false := by decide
theorem test_wf_write : [Instr.registerWrite .jtag 0 (2 ^ 32), .msgWrite svc 0 (2 ^ 32)].all (fun c => !c.wf) = true := by decide
theorem test_wf_test_run : (Instr.testRunDone ⟨false, false, [], [], [], [], [(48, 1)], 0⟩).wf = false := by decide
theorem test_wf_begin_slot : (Instr.imageWriteBegin svc 256 0).wf = false := by decide
theorem test_wf_begin_len : (Instr.imageWriteBegin svc 0 (2 ^ 32)).wf = false := by decide
theorem test_wf_data : [Instr.imageWriteData svc 256 0 [], .imageWriteData svc 0 (2 ^ 32) [],
  .imageWriteData svc 0 0 (List.replicate 225 0)].all (fun c => !c.wf) = true := by decide
theorem test_wf_end : [Instr.imageWriteEnd svc 256, .imageWriteSwitch svc 256].all (fun c => !c.wf) = true := by decide
theorem test_wf_trim : [Instr.trimWriteOpen svc 256, .trimWriteData svc (2 ^ 32) [],
  .trimWriteData svc 0 (List.replicate 225 0)].all (fun c => !c.wf) = true := by decide
theorem test_wf_otp : [Instr.otpWrite .jtag .lock (2 ^ 32), .otpWrite .jtag .khash (2 ^ 256), .otpWrite .jtag .fkey (2 ^ 128)].all
  (fun c => !c.wf) = true := by decide
theorem test_wf_chain : (Instr.filterChainWrite .jtag (.sq 0) (2 ^ 96)).wf = false := by decide
theorem test_wf_words : [Instr.pwmTimingWrite .jtag 0 (2 ^ 64), .excDrvWrite .jtag 0 (2 ^ 64)].all (fun c => !c.wf) = true := by decide
theorem test_wf_push : [Instr.queuePush 0 0 0 [], .queuePush 0 0 0 (List.replicate 121 (0, false))].all (fun c => !c.wf) = true := by
  decide
theorem test_wf_peek : [Instr.queuePeek 0 65536, .queueDiscard 0 65536].all (fun c => !c.wf) = true := by decide
theorem test_wf_frame : [Instr.helloReceive 0 longFrame, .joinReceive 0 longFrame, .frameReceive 0 longFrame,
  .lsrReceive 0 longFrame, .routeFailReceive 0 longFrame, .tsyncRequestReceive 0 longFrame, .tsyncResponseReceive 0 longFrame,
  .syncReceive 0 longFrame, .twinFrameReceive 0 longFrame].all (fun c => !c.wf) = true := by decide
theorem test_wf_flow : [Instr.flowEntryExpiry ⟨64, 0, 0, 0⟩, .flowEntryExpiry ⟨0, 65536, 0, 0⟩, .flowEntryExpiry ⟨0, 0, 65536, 0⟩,
  .flowEntryExpiry ⟨0, 0, 0, 4⟩].all (fun c => !c.wf) = true := by decide
theorem test_wf_hash : (Instr.placeHashCompare [⟨64, 0⟩]).wf = false := by decide
theorem test_wf_place : [Instr.placeInputTimeout 64, .planComputed [⟨64, 0, 0, 0, 0, 0, [], [], [], 0, []⟩],
  .planComputed [⟨0, 0, 0, 0, 0, 0, [⟨0, 4, 0, 0, 0, 0⟩], [], [], 0, []⟩]].all (fun c => !c.wf) = true := by decide
theorem test_wf_member : (Instr.twinAbsenceTimeout 2).wf = false := by decide
theorem test_wf_shift : [Instr.shli 0 0 32, .shri 0 0 32, .srai 0 0 32].all (fun c => !c.wf) = true := by decide
theorem test_wf_calendar : (Instr.calendarFollow (2 ^ 128)).wf = false := by decide
theorem test_wf_read : (Instr.msgRead svc 0 256).wf = false := by decide
theorem test_wf_subscribe : [Instr.msgSubscribe svc ⟨0, false, false, 256, 0, 1⟩, .msgSubscribe svc ⟨0, false, false, 0, 0, 256⟩].all
  (fun c => !c.wf) = true := by decide
theorem test_wf_event : [Instr.msgEvent svc [], .msgEvent svc (List.replicate 17 0), .msgEvent svc (List.replicate 240 0)].all
  (fun c => !c.wf) = true := by decide
theorem test_wf_msg_push : [Instr.msgPush svc 0 0 [0], .msgPush svc 0 0 [], .msgPush svc 0 0 (List.replicate 230 0)].all
  (fun c => !c.wf) = true := by decide
theorem test_wf_svc : (Instr.svcSend 65536 [] 0).wf = false := by decide

/-! ## Words and worked examples -/

/-- R359, R379: words of the spec's example program. -/
theorem test_word_lui : svDecode 0x5C4080C0 = some (.lui 1 0x80C0) := by decide
theorem test_word_lw : svDecode 0x608417BC = some (.lw 2 1 0x17BC) := by decide
theorem test_word_csrr : svDecode 0xB4C00031 = some (.csrr 3 0x31) := by decide

/-- R409: CRC-32 of the check string "123456789". -/
theorem test_crc32 : crc32 [0x31, 0x32, 0x33, 0x34, 0x35, 0x36, 0x37, 0x38, 0x39] = 0xCBF43926 := by decide


/-! ## Premises of the statements: reset to images -/

/-- Every `Ends`, `Completes` and field of `s` below is met by the state and operands named. -/
theorem wit_NoCommandStops : coreRuns State.reset = false ∧ outsideCore .modeTransition = false := by decide
theorem wit_ResetClears : (2000 ≤ 2000) ∧ (999 < 1000) ∧ (1000 ≤ 1000 ∧ 1999 < 2000) ∧ (Rail.core ≠ .io) ∧
    (bit up.pwr.inRange 3 = true ∧ bit State.reset.pwr.inRange 3 = false) := by decide
theorem wit_StartOfOperation :
    let s := { State.reset with pwr := { State.reset.pwr with inRange := 31 } }
    (s.pwr.rst = true ∧ s.pwr.inRange = 31) ∧
    ({ s with pwr := { s.pwr with rst := false } }.pwr.rst = false ∧ { s with pwr := { s.pwr with rst := false } }.pwr.locked = false) := by
  decide
theorem wit_SupplyAndClocks :
    (coreRuns up = true ∧ rdB up F.devLedgStat_LOADED 0 = false ∧ svRunning core = true) ∧
    (let s := wr (at_ mTest) F.devLedgStat_LOADED 0 1
     rdB s F.devLedgStat_LOADED 0 = true ∧ mTest ≤ mode s) ∧
    (up.pwr.locked = true ∧ up.pwr.rst = false ∧ up.pwr.coreLost = false ∧ up.pwr.pwmLost = false ∧ up.pwr.convLost = false) ∧
    (rdB running F.axTripStat_LATCH 3 = false ∧ 3 ≤ axMode running 3 ∧ axMode running 3 ≤ 6) := by decide
theorem wit_Calendar :
    let s := { up with nv := { up.nv with rtc := { up.nv.rtc with running := true, sec := 63, sets := [7] } } }
    (rtcDead s = false ∧ s.nv.rtc.running = true ∧ (s.nv.rtc.sec + 1) % 64 = 0 ∧ s.nv.rtc.sets = [7]) ∧
    ((s.nv.rtc.sec + 2) % 64 ≠ 0) ∧
    (let f := wr (wr (wr (wr s F.devCalCfg_CAL_SRC 0 1) F.devFabStat_ID_VALID 0 1) F.devFabStat_GM 0 5) F.devFabStat_TIME_LOCK 0 1
     rtcDead f = false ∧ coreRuns f = true ∧ rdB f F.devCalCfg_CAL_SRC 0 = true ∧ isGm f = false ∧
     rdB f F.devFabStat_TIME_LOCK 0 = true ∧ bit (2 ^ 32 + 9) 32 = true ∧ f.nv.rtc.valid = false) ∧
    ({ up with nv := { up.nv with rtc := { up.nv.rtc with running := false } } }.nv.rtc.running = false) := by decide
theorem wit_BestTrigger :
    let l : List Trig := [⟨mStandby, 9, none⟩, ⟨mSafestop, 10, none⟩, ⟨mHold, 10, none⟩]
    bestTrig running l = some ⟨mSafestop, 10, none⟩ ∧ bestTrig running [⟨mStandby, 9, none⟩] = none := by decide
theorem wit_ModeTransition :
    bestTrig up up.ctl.trigs = none ∧ bestTrig running [⟨mHold, 10, none⟩] = some ⟨mHold, 10, none⟩ ∧
    (mLatch < 16 ∧ 15 < 256) ∧ svRunning core = true := by decide
theorem wit_TestAndTimers :
    (mode (at_ mTest) = mTest ∧ 0 ∈ runFailures (at_ mTest) ⟨false, false, [0], [], [], [], [], 0⟩ ∧ testFailed (at_ mTest) 0 = false) ∧
    mode (at_ mDiscover) = mDiscover ∧
    (let s := { running with prot := { running.prot with settling := true } }
     mode s = mRun ∧ s.prot.settling = true ∧ s.red.hand = none ∧
     { s with red := { s.red with hand := some ⟨0, [], [], false, false⟩ } }.red.hand ≠ none) ∧
    (let s := wr (axAt (at_ mSafestop) 47 aVelocity) F.axMode_STOPPING 47 1
     mode s = mSafestop ∧ driving s 47 = true ∧ rdB s F.axMode_STOPPING 47 = true) ∧
    (∀ n < 48, driving (at_ mSafestop) n = true → rdB (at_ mSafestop) F.axMode_STOPPING n = false) := by decide

/-- Bytes at the start of the flash, in LOAD. -/
def flashed (l : List Byte) : State :=
  let s := at_ mLoad
  { s with nv := { s.nv with flash := memWrite 0xFF [] 0 l } }
theorem hdrCopy_flashed (l : List Byte) (h : l.length = 256) : hdrCopy (flashed l) 0 = l := by
  have w := memBytes_memWrite 0xFF [] 0 l
  rw [h] at w
  exact w

theorem wit_StartupSlots_probe :
    (mode (at_ mLoad) = mLoad ∧ (at_ mLoad).load.flashOk = false ∧ rd (at_ mLoad) F.devBootStatus_A_RESULT 0 = 0) ∧
    flashUsable ⟨0, none⟩ = false ∧ flashUsable ⟨0xEF4018, none⟩ = true ∧ hdrInUse (at_ mLoad) = none := by decide
theorem wit_StartupSlots_header : ∃ l k, mode (flashed l) = mLoad ∧ (flashed l).load.flashOk = false ∧
    rd (flashed l) F.devBootStatus_A_RESULT 0 = 0 ∧ hdrInUse (flashed l) = some k := by
  have p : ∀ l, mode (flashed l) = mLoad ∧ (flashed l).load.flashOk = false ∧ rd (flashed l) F.devBootStatus_A_RESULT 0 = 0 :=
    fun l => ⟨show mode (at_ mLoad) = mLoad by decide, rfl, show rd (at_ mLoad) F.devBootStatus_A_RESULT 0 = 0 by decide⟩
  refine ⟨hdrRecord 1 7, ?_⟩
  have h : hdrCopy (flashed (hdrRecord 1 7)) 0 = hdrRecord 1 7 :=
    hdrCopy_flashed _ (by simp only [hdrRecord, List.length_append, leBytes_length, List.length_replicate])
  have d : ∀ bs : List Byte, bs.length = 252 →
      fieldB (bs ++ leBytes 4 (crc32 bs)) 0xFC 4 = crc32 ((bs ++ leBytes 4 (crc32 bs)).take 0xFC) := fun bs h => by
    have e : (bs ++ leBytes 4 (crc32 bs)).drop 252 = leBytes 4 (crc32 bs) := List.drop_left' h
    have g : (bs ++ leBytes 4 (crc32 bs)).take 252 = bs := List.take_left' h
    have f : fieldB (bs ++ leBytes 4 (crc32 bs)) 0xFC 4 = leVal (leBytes 4 (crc32 bs)) := by
      simp only [fieldB, sliceB, e]
      rfl
    rw [f, g, leVal_leBytes]
    exact Nat.mod_eq_of_lt (crc32_lt bs)
  have k : hdrGood (hdrRecord 1 7) = true := by
    have c : fieldB (hdrRecord 1 7) 0xFC 4 = crc32 ((hdrRecord 1 7).take 0xFC) := by
      unfold hdrRecord
      exact d _ rfl
    simp only [hdrGood, c, decide_true, Bool.and_true, Bool.and_eq_true, decide_eq_true_eq]
    exact ⟨⟨⟨⟨rfl, rfl⟩, by decide +kernel⟩, rfl⟩, rfl⟩
  have x : ∃ k, hdrInUse (flashed (hdrRecord 1 7)) = some k := by
    simp only [hdrInUse, h, k, if_true]
    split <;> exact ⟨_, rfl⟩
  exact x.elim fun y hy => ⟨y, (p _).1, (p _).2.1, (p _).2.2, hy⟩
theorem wit_StartupSlots_attempt :
    let s := { at_ mLoad with load := { up.load with toTry := [1] } }
    mode s = mLoad ∧ s.load.toTry = 1 :: [] ∧ (checkSlot s 1).2 = none := by decide
theorem wit_ImageWrites_begin :
    coreRuns (at_ mMaint) = true ∧ beginStatus (takeMsg (at_ mMaint) svc) svc 1 148 = 0 ∧
      beginStatus (takeMsg (at_ mMaint) svc) svc 0 1048680 = 0 := by decide
/-- A session for slot 0 whose sectors are being erased. -/
def session : State :=
  { at_ mMaint with load := { up.load with img := some ⟨0, 148, []⟩, jobs := [.erase svc 0 148] } }
theorem wit_ImageWrites_data : dataStatus (takeMsg session svc) svc 0 0 1 = 0 ∧ dataStatus (takeMsg session svc) svc 0 36 112 = 0 ∧
    tooMany (takeMsg session svc) svc = false ∧ session.load.jobs = .erase svc 0 148 :: [] := by decide
theorem wit_ImageWrites_jobs (j : Job) : { up with load := { up.load with jobs := [j] } }.load.jobs = j :: [] := rfl
theorem wit_ImageWrites_switch :
    let s := { at_ mMaint with load := { up.load with okSlots := [1] } }
    imageMode s = true ∧ 1 ∈ s.load.okSlots := by decide
/-- A trim session of kind 1. -/
def trimming : State := { at_ mMaint with load := { up.load with trimKind := some 1 } }
theorem wit_TrimAndOtp : (mode (at_ mMaint) = mMaint ∧ (at_ mMaint).load.img = none ∧ trimOpen (at_ mMaint) = false) ∧
    trimming.load.trimKind = some 1 ∧ tooMany (takeMsg trimming svc) svc = false := by decide
theorem staging_trimming (n : Nat) :
    staging { trimming with nv := { trimming.nv with serial := n } } = List.replicate 16384 0 := memBytes_empty 0 0 16384
theorem trimStore_trimming (n : Nat) :
    trimStore { trimming with nv := { trimming.nv with serial := n } } = List.replicate 16384 0 := memBytes_empty 0 0 16384
theorem wit_TrimAndOtp_fails (crc : Nat) : commitFails { trimming with nv := { trimming.nv with serial := 1 } } crc ≠ 0 := by
  simp only [commitFails, staging_trimming, fieldB_zeros]
  split <;> simp
theorem wit_TrimAndOtp_good : commitFails { trimming with nv := { trimming.nv with serial := 0 } }
    (trimCrc (List.replicate 16384 0)) = 0 := by
  simp only [commitFails, staging_trimming, trimStore_trimming, fieldB_zeros]
  generalize trimCrc _ = x
  rw [if_neg (by simp), if_neg (by simp), if_neg (by decide), if_neg (by decide)]

/-! ## Premises of the statements: excitation to timers -/

/-- Group 1 enabled in RUN. -/
def grpOn : State := wr (at_ mRun) F.devExcGrp_EN 1 1

theorem wit_Excitation :
    (excTiming (mode (at_ mTest)) = false ∧ coreRuns (at_ mTest) = true) ∧
    (excTiming (mode running) = true ∧ rdB running F.devExcGrp_EN 1 = false ∧ (grp running 1).running = false) ∧
    ((grp (setGrp running 1 { Grp.reset with running := true }) 1).running = true) ∧
    (rdB grpOn F.devExcGrp_EN 1 = true ∧ (grp grpOn 1).running = false) ∧
    (let s := setGrp grpOn 1 { Grp.reset with running := true, pos := true }
     (grp s 1).running = true ∧ (grp s 1).holding = false ∧ (grp s 1).pos = true) ∧
    (let s := wr (setGrp grpOn 1 { Grp.reset with running := true }) F.devExcGrp_HALF_PERIOD 1 7500
     (grp s 1).pos = false ∧ ¬ ((grp s 1).half = grpHalf s 1 ∧ (grp s 1).phase = grpPhase s 1) ∧ onGrid s 1 (nowCyc s) = true ∧
     onGrid { s with ctl := { s.ctl with epoch := 1 } } 1 (nowCyc s) = false) ∧
    detIdle up 0 = true ∧
    (let s := modExc running 0 (fun e => { e with drive := true })
     detIdle s 0 = false ∧ rdB s F.axExcDstat_OPEN 0 = false ∧ rdB s F.axExcDstat_COMPL 0 = false) := by decide
theorem wit_HoldStrobe : coreRuns up = true ∧ (47 : Fin 49).val < 48 ∧ (48 : Fin 49).val = 48 := by decide
/-- A conversion of slot 199 in flight. -/
def converting : State :=
  { up with conv := [(199, [⟨5, .none, 0, false, 0, false, none, 0, []⟩])] }
theorem wit_ConverterTrim : coreRuns converting = true ∧ mget [] converting.conv (199 : Fin 200) ≠ [] ∧
    (mget [] converting.c1 (199 : Fin 200)).length < 2 := by decide
theorem wit_RangesAndSources :
    ((ax up 47).pwm.active = false ∧ newRange (wr up F.axFeCtl_R_FIX 47 0) 47 false = none ∧
      newRange (wr (wr up F.axFeCtl_R_AUTO 47 0) F.axFeCtl_R_FIX 47 2) 47 false = some 2) ∧
    (srcObj up 0 true = srcOf up 0 true ∧ srcObj (wr up F.axFeCtl_ISRC 0 3) 0 true ≠ srcOf (wr up F.axFeCtl_ISRC 0 3) 0 true) := by decide
theorem wit_FrontEndFaults : (1 : Fin 192).val % 4 < 2 ∧ 2 ≤ (15 : Fin 192).val % 4 ∧ driving running ((15 : Fin 192).val / 4) = true ∧
    (191 : Fin 200).val < 192 ∧ 192 ≤ (192 : Fin 200).val := by decide
theorem wit_AuxoAndChains :
    rdB up F.devAuxoCtl_EN 0 = false ∧
    (let s := wr (wr running F.devAuxoCtl_EN 0 1) F.devAuxoCtl_KIND 0 3
     rdB s F.devAuxoCtl_EN 0 = true ∧ excTiming (mode s) = true ∧ auxoValid s 0 = true) ∧
    (let s := wr (wr running F.devAuxoCtl_EN 0 1) F.devAuxoCtl_KIND 0 1
     auxoValid s 0 = false ∧ (auxo s 0).bad = 0 ∧ 1 ≤ (auxo (setAuxo s 0 { auxo s 0 with bad := 1 }) 0).bad) ∧
    ((ax up 0).flt.cfgCu = getObj up .axFltCur 0 ∧ (ax (wr up F.axFltCur_RESP1 0 31) 0).flt.cfgCu ≠ getObj (wr up F.axFltCur_RESP1 0 31) .axFltCur 0) ∧
    ((auxCh up 0).cfg = getObj up .devFltAux 0 ∧ (auxCh (wr up F.devFltAux_RESP1 0 1) 0).cfg ≠ getObj (wr up F.devFltAux_RESP1 0 1) .devFltAux 0) := by
  decide
theorem wit_ObserverAndEncoder :
    (let s := modTrk running 3 (fun k => { k with run := true })
     isFollower s = false ∧ obsRuns s 3 = true ∧ template s 3 ≠ 3 ∧ template (wr s F.axLoopCfg_TEMPLATE 3 3) 3 = 3) ∧
    obsRuns running 0 = false ∧ encOff up 0 = true ∧
    (let s := wr (wr (wr running F.devEncCtl_EN 0 1) F.devEncStat_LIVE 0 1) F.axTrkStat_VALID 0 1
     encOff s 0 = false ∧ rdB s F.devEncStat_LIVE 0 = true ∧ rdB s F.devEncStat_WAIT 0 = false ∧ (enc s 0).resync = false ∧
     rdB s F.devEncStat_OVERRUN 0 = false ∧ rdB s F.axTrkStat_VALID (rd s F.devEncCtl_AXIS 0) = true ∧
     (let t := setEnc s 0 { enc s 0 with interval := 200, et := 3 }
      (enc t 0).interval ≠ 0 ∧ backlog (enc t 0).et (enc t 0).eo ≠ 0)) := by decide
/-- Axis 3 with a running timer. -/
def timed : State := modPwm running 3 (fun p => { p with active := true, loadAt := 1000, valley := 1000 })
/-- A parameter word that waits. -/
def waiting : State := { modLoop running 3 (fun l => { l with pend := [⟨svc, .coef 15, 5, some 0⟩] }) with ctl := { up.ctl with time := 2 ^ 60 } }
theorem wit_AxisBoundaries :
    (let s := modLoop up 3 (fun l => { l with req := some (aDisabled, svc) })
     (ax s 3).loop.req = some (aDisabled, svc) ∧ mayEnter s 3 aDisabled = true) ∧
    mayEnter up 3 aVelocity = false ∧
    ((ax waiting 3).loop.pend = [⟨svc, .coef 15, 5, some 0⟩] ∧ mayLand waiting 3 ⟨svc, .coef 15, 5, some 0⟩ = true) ∧
    mayLand { timed with ctl := { up.ctl with time := 0 } } 3 ⟨svc, .coef 15, 5, some 0⟩ = false ∧
    (let s := wr (axAt running 3 aGear) F.axGear_M_NODE 3 7
     axMode s 3 = aGear ∧ gearLocal s 3 = false ∧ (ax s 3).loop.gearHeld = false) := by decide
theorem wit_MissedEvaluation :
    rd (missEval (wr running F.axSpecCtl_MISS_LIMIT 3 2) 3 1 9) F.axSpecStat_MISS_RUN 3 < rd (wr running F.axSpecCtl_MISS_LIMIT 3 2) F.axSpecCtl_MISS_LIMIT 3 ∧
    (let s := wr running F.axSpecCtl_MISS_LIMIT 3 1
     rd s F.axSpecCtl_MISS_LIMIT 3 ≤ rd (missEval s 3 4 9) F.axSpecStat_MISS_RUN 3 ∧ rdB s F.axTripStat_LATCH 3 = false ∧
     driving s 3 = true) := by decide
theorem wit_RunAhead : mayPrecompute timed 3 = true ∧ roleOf timed 3 ≠ 1 ∧ mayPrecompute running 3 = false ∧
    192 ≤ (192 : Fin 200).val ∧ evaluates timed 3 = true := by decide
/-- A current sample of axis 3 whose strobe a load point selects. -/
def selected : State := { modLoop timed 3 (fun l => { l with sel := some 8500 }) with c1 := [(15, [⟨5, 128, ⟨5, .none, 0, false, 0, false, none, 0, []⟩⟩])] }
theorem wit_RunAhead_decision : (ax selected 3).loop.sel = some 8500 ∧ evaluates (slotRead selected 15).1 3 = true := by decide
/-- An evaluation for load point 8500. -/
def evalAt (s : State) : Eval :=
  ⟨8500, (precomputed s 3).kind, (precomputed s 3).par, (precomputed s 3).pred, (precomputed s 3).take, 0, 0, 0, false, (ax s 3).loop.st⟩
theorem wit_RunAhead_paths :
    (let s := modLoop timed 3 (fun l => { l with slow := some (evalAt timed) })
     (ax s 3).loop.slow = some (evalAt timed) ∧ (ax s 3).loop.compl = none ∧ (ax s 3).loop.retry = none) ∧
    (let s := modLoop timed 3 (fun l => { l with compl := some (evalAt timed) })
     (ax s 3).loop.compl = some (evalAt timed) ∧ Cmp.parity ≠ .agree ∧ rd s F.axCkStat_MM_RUN 3 < 2 ∧ driving s 3 = true) ∧
    (modPwm timed 3 (fun p => { p with box := [⟨1, 2, 3, 8500, (evalAt timed).take⟩] })).axes ≠ [] := by decide
theorem wit_RunAhead_meets : (meets timed 3 1000000 (nowCyc timed)).2 = true := by
  have h (c : Int) (l : Nat) : (meets timed 3 l c).2 =
      decide (c + 24 ≤ (2 * 1000 : Nat) - (b2n (drawBool timed).2 : Int) + (15000 * loadsTo timed 3 l : Nat)) := rfl
  rw [h]
  cases (drawBool timed).2 <;> decide
/-- `timed`, much later. -/
def timedLate : State := { timed with ctl := { up.ctl with time := 2 ^ 60 } }
theorem wit_RunAhead_late : (meets timedLate 3 8500 (nowCyc timedLate)).2 = false := by
  have h (c : Int) (l : Nat) : (meets timedLate 3 l c).2 =
      decide (c + 24 ≤ (2 * 1000 : Nat) - (b2n (drawBool timedLate).2 : Int) + (15000 * loadsTo timedLate 3 l : Nat)) := rfl
  rw [h]
  cases (drawBool timedLate).2 <;> decide
theorem wit_TimerLoads :
    (ax up 3).pwm.active = false ∧
    ((ax timed 3).pwm.active = true ∧ timed.prot.sscWait = false ∧ timed.pwr.pwmLost = false ∧ (ax timed 3).pwm.box = [] ∧
      (ax timed 3).pwm.dual = false ∧ rdB timed F.axPwmCfg_DUAL 3 = false) ∧
    (let s := modPwm timed 3 (fun p => { p with dual := true })
     (ax s 3).pwm.active = true ∧ (ax s 3).pwm.dual = true ∧ (ax s 3).pwm.box = []) ∧
    (let s := wr (modPwm timed 3 (fun p => { p with safe := true })) F.axPwmCfg_SAFE 3 1
     (ax s 3).pwm.safe = true ∧ rd s F.axPwmCfg_SAFE 3 = 1) ∧ (ax up 3).pwm.safe = false := by decide
theorem wit_TripTakesSafeState :
    (3 < 48 ∧ 15 < 16 ∧ driving running 3 = true ∧ rdB running F.axTripStat_LATCH 3 = false) ∧
    rd (wr running F.axPwmCfg_SAFE 3 2) F.axPwmCfg_SAFE 3 = 2 := by decide
theorem wit_TripSources :
    (1 ≤ cwBit .iaHi ∧ 1 ≤ cwBit .ibLo) ∧ rdB (wr up F.axTripCfg_CW_EN 0 1) F.axTripCfg_CW_EN 0 = true ∧ tripActive up 0 = false ∧
    (let s := wr (wr up F.devTripIn_EN 7 1) F.devTripIn_AXES 7 (2 ^ 47)
     bit (rd s F.devTripIn_AXES 7) 47 = true ∧ rdB s F.devTripIn_EN 7 = true) ∧ up.red.hand = none := by decide
theorem wit_TraceAndMonitor :
    rdB up F.devTrcProbe_EN 63 = false ∧
    (let s := wr (wr up F.devTrcProbe_EN 63 1) F.devTrcStat_STATE 0 trcArmed
     rdB s F.devTrcProbe_EN 63 = true ∧ (probe s 63).stopped = false ∧ trcState s = trcArmed ∧ rd s F.devTrcTrig_KIND 0 ≠ 2 ∧ s.ctl.evNew = []) ∧
    trcState (wr up F.devTrcStat_STATE 0 trcTriggered) = trcTriggered ∧
    (rd up F.monStat_STATE 15 ≠ monSpan ∧ monState up 15 ≠ monFed) ∧ rd (wr up F.monStat_STATE 15 monSpan) F.monStat_STATE 15 = monSpan ∧
    monState (wr running F.monCtl_EN 15 1) 15 = monFed ∧
    (let s := setMon (wr running F.monStat_SAFE 15 0) 15 { mon up 15 with span := 3 }
     rdB s F.monStat_SAFE 15 = false ∧ rdB s F.monStat_OPEN 15 = false ∧ (mon s 15).span = 3 ∧ rdB s F.monStat_COMPL 15 = false) ∧
    rdB up F.monStat_SAFE 15 = true := by decide

/-! ## Premises of the statements: queues and writes -/

/-- A marker of one dropped record. -/
def mark1 : QMark := ⟨1, 2, 1, false, false, 0, false, 0, 0, false⟩
/-- A record of two halfwords. -/
def rec2 : List QWord := [(5, false), (6, true)]
/-- The set-point queue of axis 0 holds one record. -/
def pushed : State := next (.queuePush 0 0x100 0 rec2) up
/-- A sorted queue with two entries of one priority. -/
def sorted2 : State := { up with qm := { up.qm with sorted := [(0x400, [⟨7, 2, false, false⟩, ⟨8, 2, false, false⟩])] } }
/-- A sorted queue whose first entry is its marker's place. -/
def sortedMark : State := setQd { up with qm := { up.qm with sorted := [(0x400, [⟨0, 0, false, true⟩])] } } 0x400
  { qd up 0x400 with mark := some mark1 }

theorem wit_PushThenPop : EmptyQueue up 0x100 :=
  ⟨by decide, by decide, by decide, by decide, by decide, by decide⟩
theorem wit_PushThenPop_operands : coreRuns up = true ∧ up.ctl.evNew = [] ∧ isFollower up = false ∧ 1 ≤ rec2.length ∧ rec2.length ≤ 4 ∧
    (1 ≤ [((5 : Halfword), false), (6, false), (7, false), (8, false)].length) := by decide
/-- A device of a twin that follows, with and without a driver it knows. -/
def follower : State := wr up F.devRedCfg_KIND 0 1
def following : State := { follower with red := { follower.red with
  drives := false, mems := [(0, { Member.reset with present := true, role := roleDriver })] } }
theorem wit_QueuePush :
    (let s := { follower with red := { follower.red with drives := false } }
     isFollower s = true ∧ driverOf s = none) ∧
    (isFollower following = true ∧ driverOf following = some 0 ∧ isSetQ 0x1BC = true) ∧
    isQueue 0x0004 = false ∧ isQueue 0x0500 = false ∧ isPool 0x0003 = true ∧ isPool 0xFFFE = true ∧
    (let s := setQd up 0x100 { qd up 0x100 with resetting := some ⟨6, 0, 0, false⟩ }
     (qd s 0x100).resetting = some ⟨6, 0, 0, false⟩ ∧ s.ctl.evNew = []) ∧
    ((qd up 0x40).resetting = none ∧ (qd up 0x40).quota = 0) ∧
    (isSorted 0x4FF = true ∧ (qd up 0x4FF).resetting = none ∧ sLevel (sEntries up 0x4FF) < 31) ∧
    (let s := setQd { up with qm := { up.qm with sorted := [(0x400, List.replicate 31 ⟨7, 2, false, false⟩)] } } 0x400
       { qd up 0x400 with mark := some mark1 }
     31 ≤ sLevel (sEntries s 0x400) ∧ (qd s 0x400).mark ≠ none ∧ (qd s 0x400).resetting = none) ∧
    ((qd up 0x100).quota ≠ 0 ∧ descFault (qd up 0x100) = none ∧ up.qm.freeBad = false ∧
      (newWords up.qm (qd up 0x100) rec2.length : Int) ≤ qFree (qd up 0x100) - 1 ∧
      canSupply up.qm (cellsFor (qd up 0x100) (newWords up.qm (qd up 0x100) rec2.length)) = true ∧
      (newWords up.qm (qd up 0x100) 221 : Int) > qFree (qd up 0x100) - 1) := by decide
theorem wit_QueuePop :
    (isPool 0x100 = true ∧ (qd up 0x100).held = 0 ∧ descFault (qd up 0x100) = none) ∧
    (qd pushed 0x100).resetting = none ∧ (qd pushed 0x100).quota ≠ 0 ∧ descFault (qd pushed 0x100) = none ∧
    (qd pushed 0x100).held ≠ 0 ∧ (match advHead pushed.qm 0x100 (qd pushed 0x100) with | .inl _ => true | .inr _ => false) = true ∧
    qWords (qd pushed 0x100) = 1 ∧ (qd pushed 0x100).wmHi = 0 ∧ (qd pushed 0x100).wmLo = 0 ∧ (qd pushed 0x100).mark = none ∧
    (slotAt pushed.qm (qd pushed 0x100).head (qd pushed 0x100).hofs).mark = false ∧ pushed.ctl.evNew = [] := by decide
theorem wit_SortedAndUpkeep :
    ((qd sorted2 0x400).resetting = none ∧ sPick (sEntries sorted2 0x400) 0 = some (0, ⟨7, 2, false, false⟩) ∧ sEntries up 0x400 = []) ∧
    ((qd sortedMark 0x400).mark = some mark1 ∧ sPick (sEntries sortedMark 0x400) 0 = some (0, ⟨0, 0, false, true⟩)) ∧
    (4 ≤ 0x40 ∧ trcState up ≠ trcArmed) ∧
    (let s := setQd up 0x100 { qd up 0x100 with resetting := some ⟨6, 0, 0, false⟩ }
     s.qm.sweep = none ∧ resetQueues s.qm = [0x100]) ∧
    { up with qm := { up.qm with sweep := some [0x100] } }.qm.sweep = some [0x100] ∧
    { up with qm := { up.qm with rebuild := true } }.qm.rebuild = true := by decide

theorem wit_AcceptedWrites :
    (writeOf up (.axisModeRequest .jtag 3 7) = some ⟨.jtag, .axMode, 3, 0x70⟩ ∧
      judge (takeMsg up .jtag) .jtag .axMode 3 0x70 ≠ 0) ∧
    (let s := { up with msg := { up.msg with waiting := 64 } }
     tooMany (takeMsg s svc) svc = true) ∧
    namedAt up svc 0x3 = none ∧ locate 0x3 = none := by decide
/-- Accepted writes: of a filter chain, a trip configuration, an excitation driver, an auxiliary source. -/
theorem wit_PlainWrites : Writes up (.excGroupStart svc 1) ⟨svc, .devExcGrp, 1, setBits (getObj up .devExcGrp 1) 31 1 1⟩ :=
  ⟨by decide, by decide, by decide, by decide, by decide⟩
theorem wit_PlainWrites_special : ObjId.devExcGrp ∉ specialObjs := by decide
theorem wit_WrittenFields :
    (∃ f ∈ (objRow .axTripCfg).fields, f.acc = .rw) ∧ (∃ f ∈ (objRow .devRedCfg).fields, f.acc = .rwm) ∧ isOtp .devRedCfg = false ∧
    (∃ f ∈ (objRow .axFeStat).fields, f.acc = .w1c) := by decide

/-- The four conditions of `Accepts`. -/
def acc (s : State) (w : WriteReq) : Bool :=
  coreRuns s && !tooMany (takeMsg s w.src) w.src && decide (judge (takeMsg s w.src) w.src w.obj w.inst w.word = 0) &&
    !forwards (takeMsg s w.src) w.obj w.inst
theorem accepts_acc (s : State) (w : WriteReq) (h : acc s w = true) : Accepts s w := by
  simp only [acc, Bool.and_eq_true, Bool.not_eq_true', decide_eq_true_eq] at h
  exact ⟨h.1.1.1, h.1.1.2, h.1.2, h.2⟩

theorem wit_AxisWrites_position : acc (wr (at_ mStandby) F.axTrkStat_VALID 3 1) ⟨svc, .axPosSet, 3, 2 ^ 64 - 1⟩ = true := by decide
theorem wit_AxisWrites_pair :
    let t := wr (wr (wr (at_ mStandby) F.axLoopCfg_TEMPLATE 3 2) F.axTrkStat_VALID 3 1) F.axTrkStat_VALID 4 1
    let s := { t with load := { t.load with bindings := [⟨1, 2, 3, 1, 0, 4⟩] } }
    acc s ⟨svc, .axPairSet, 3, 5⟩ = true := by decide
theorem wit_AxisWrites_mode : acc running ⟨svc, .axMode, 3, 0⟩ = true := by decide
theorem wit_AxisWrites_word : acc running ⟨svc, (wordObj 3 (.coef 15)).1, (wordObj 3 (.coef 15)).2, 7⟩ = true := by decide
theorem wit_AxisWrites_retry :
    let s := wr running F.axExcCtl_EN 3 1
    acc s ⟨svc, .axExcCtl, 3, setBits (getObj s .axExcCtl 3) 6 1 1⟩ = true ∧ isFollower s = false ∧ isDriver s = false ∧
      rdB s F.axExcCtl_EN 3 = true ∧ rd s F.axExcCtl_MODE 3 = 0 ∧ senseOn s 3 = false := by decide
theorem wit_AxisWrites_rearm : rd running F.devRedStat_EROLE 0 ≠ roleReleased ∧ tripActive running 3 = false ∧
    tripActive (wr (wr running F.axTripCfg_CW_EN 3 1) F.axTripStat_CW_LIVE 3 1) 3 = true := by decide
theorem wit_AxisWrites_config :
    acc running ⟨svc, .axTripCfg, 3, 0x800001⟩ = true ∧
    tripActive (setObj running .axTripCfg 3 (mergeVal .axTripCfg (getObj running .axTripCfg 3) 0x800001)) 3 = false ∧
    (let s := wr running F.axTripStat_CW_LIVE 3 1
     acc s ⟨svc, .axTripCfg, 3, 0x1800001⟩ = true ∧
     tripActive (setObj s .axTripCfg 3 (mergeVal .axTripCfg (getObj s .axTripCfg 3) (0x1800001))) 3 = true) := by decide
theorem wit_OutputWrites_trace :
    (acc up ⟨svc, .devTrcCtl, 0, setBits (getObj up .devTrcCtl 0) 0 2 1⟩ = true ∧ rd up F.devTrcTrig_KIND 0 ≠ 1) ∧
    (let s := wr up F.devTrcStat_STATE 0 trcTriggered
     acc s ⟨svc, .devTrcCtl, 0, setBits (getObj s .devTrcCtl 0) 0 2 2⟩ = true ∧ trcState s = trcTriggered) ∧
    acc up ⟨svc, .devTrcCtl, 0, setBits (getObj up .devTrcCtl 0) 0 2 2⟩ = true := by decide
theorem wit_OutputWrites_timer :
    acc (at_ mStandby) ⟨svc, .axPwmTim, 3, getObj (at_ mStandby) .axPwmTim 3⟩ = true ∧ (at_ mStandby).place.plan = none := by decide
theorem wit_OutputWrites_spread : acc (at_ mStandby) ⟨svc, .devPwmCfg, 0, 3⟩ = true ∧ rd (at_ mStandby) F.devPwmCfg_SSC 0 ≠ 3 := by decide
theorem wit_OutputWrites_span :
    let v := fset (getObj (at_ mStandby) .monCtl 15) F.monCtl_SPAN 1
    acc (at_ mStandby) ⟨svc, .monCtl, 15, v⟩ = true ∧ fget v F.monCtl_SPAN ≠ rd (at_ mStandby) F.monCtl_SPAN 15 ∧
    acc (at_ mStandby) ⟨svc, .monCtl, 15, getObj (at_ mStandby) .monCtl 15⟩ = true := by decide
theorem wit_OutputWrites_resync : acc running ⟨svc, .devEncCmd, 15, 1⟩ = true := by decide
theorem wit_DeviceWrites :
    (coreRuns up = true ∧ tooMany (takeMsg up svc) svc = false) ∧
    (let v := getObj up .lkCfg 7
     acc up ⟨svc, .lkCfg, 7, v⟩ = true ∧ fget v F.lkCfg_EN = rd up F.lkCfg_EN 7 ∧ fget v F.lkCfg_PRESET = rd up F.lkCfg_PRESET 7) ∧
    acc up ⟨svc, .lkCfg, 7, fset (getObj up .lkCfg 7) F.lkCfg_EN 1⟩ = true ∧ isGm up = true ∧
    (let s := { at_ mTest with load := { up.load with svHead := [1] } }
     acc s ⟨svc, .devSvCmd, 0, 1⟩ = true) ∧ svc ≠ .supervisor ∧ (2 ≤ mode (at_ mTest) ∧ rdB (at_ mTest) F.devCalCfg_CAL_SRC 0 = false) ∧
    (isPool 0xFFFE = true ∧ (qd up 0xFFFE).resetting = none ∧ isSorted 0x400 = true) ∧
    (0xF000 ≤ bits 0x2FF000 0 16 ∧ bits 0x2FF000 16 8 < 48 ∧ bits 0xFFFFFF 16 8 = 0xFF) ∧ acc (at_ mMaint) ⟨svc, otpAt .lock, 0, 1⟩ = true ∧
    acc (at_ mMaint) ⟨svc, otpAt .lock, 0, 0⟩ = true := by decide
/-- A node with an ID that is not the grandmaster. -/
def member : State := wr (wr (wr (linked lUp) F.devFabStat_ID_VALID 0 1) F.devFabStat_NODE_ID 0 2) F.devFabStat_GM 0 1
theorem wit_DeviceWrites_gm : isGm member = false ∧ coreRuns member = true ∧ tooMany (takeMsg member svc) svc = false := by decide
theorem wit_LedgerCleared : mode (at_ mMaint) = mMaint ∧ mode running ≠ mMaint ∧ tooMany (takeMsg running svc) svc = false := by decide
theorem wit_ModeRequests :
    (modeAllows (wr (at_ mStandby) F.devPlaceStat_STATE 0 2) mRun 9 = true ∧ modeAllows (at_ mTest) mRun 9 = false ∧
      ¬ (svc = .supervisor ∧ mRun = mMaint) ∧ ¬ (mRun = mStandby ∧ mode up = mMaint ∧ rdB up F.devMode_FROM_LATCH 0 = true)) ∧
    (resetAllowed (at_ mStandby) = true ∧ ledgCanWrite (at_ mStandby) = false) ∧ resetAllowed running = false ∧
    (let s := wr (at_ mStandby) F.devLedgStat_LOADED 0 1
     resetAllowed s = true ∧ ledgCanWrite s = true) := by decide
theorem wit_AddressedReads :
    (match readAt up (ownAddr up .devMode 0) with | some _ => true | none => false) = true ∧ readAt up 3 = none ∧
    locate (ownAddr up .devMode 0) = some (.devMode, 0) ∧ objThere .devMode 0 = true ∧ hasRc .devMode = false ∧
    nodeOk (takeMsg up svc) svc (ownAddr up .devMode 0) = true ∧ tooMany (takeMsg up svc) svc = false := by decide

/-! ## Premises of the statements: links, frames, placement -/

/-- Bytes from their values. -/
def bytesOf (l : List Nat) : List Byte := l.map (BitVec.ofNat 8)
/-- A HELLO of the node with serial 99. -/
def helloF : Frame := ⟨0, 0, 3, bytesOf [177, 2, 0, 0, 255, 255, 0, 0, 0, 0, 40, 63, 0, 0, 0, 0, 1, 2, 255, 1, 150, 72, 176, 0, 99, 0, 0, 0, 0, 0,
  0, 0, 0, 0, 0, 0, 0, 0, 0, 0, 0, 0, 0, 0, 0, 0, 0, 0, 0, 0, 0, 0, 0, 0, 0, 0, 0, 0, 0, 0, 0, 0, 0, 0, 73, 177, 160, 249], .complete⟩
/-- Its JOIN to the node with serial 0. -/
def joinF : Frame := ⟨0, 0, 3, bytesOf [177, 2, 0, 0, 255, 255, 0, 0, 0, 0, 56, 63, 0, 0, 0, 0, 2, 0, 0, 0, 0, 0, 0, 0, 99, 0, 0, 0, 0, 0, 0, 0, 0, 0,
  0, 0, 0, 0, 0, 0, 0, 0, 0, 0, 0, 0, 0, 0, 0, 0, 0, 0, 0, 0, 0, 0, 0, 0, 0, 0, 0, 0, 0, 0, 0, 0, 0, 0, 0, 0, 0, 0, 14, 2, 183, 100, 76, 71, 208,
  48, 229, 158, 90, 170], .complete⟩
/-- Its link state record. -/
def lsrF : Frame := ⟨7, 3, 3, bytesOf [113, 2, 0, 0, 255, 255, 0, 0, 0, 0, 40, 63, 0, 0, 0, 0, 3, 3, 0, 1, 8, 0, 0, 0, 99, 0, 0, 0, 0, 0, 0, 0, 1, 0,
  0, 0, 0, 0, 0, 0, 2, 2, 0, 0, 0, 0, 0, 0, 10, 0, 0, 0, 0, 0, 0, 0, 141, 198, 120, 6, 214, 61, 65, 109, 87, 124, 204, 170], .complete⟩
/-- A TSYNC request and a response. -/
def tsReqF : Frame := ⟨7, 3, 1, bytesOf [145, 2, 0, 0, 255, 255, 0, 0, 0, 0, 32, 63, 0, 0, 0, 0, 4, 1, 1, 0, 0, 0, 0, 0, 0, 0, 0, 0, 0, 0, 0, 0, 0, 0,
  0, 0, 0, 0, 0, 0, 0, 0, 0, 0, 0, 0, 0, 0, 4, 204, 110, 239, 130, 232, 112, 200, 0, 10, 122, 239], .complete⟩
def tsRespF : Frame := ⟨7, 3, 1, bytesOf [145, 2, 0, 0, 255, 255, 0, 0, 0, 0, 32, 63, 0, 0, 0, 0, 4, 2, 0, 0, 0, 0, 0, 0, 5, 0, 0, 0, 0, 0, 0, 0, 8, 0,
  0, 0, 0, 0, 0, 0, 10, 0, 0, 0, 0, 0, 0, 0, 39, 115, 232, 254, 58, 141, 227, 205, 232, 35, 246, 159], .complete⟩
/-- A SYNC, a ROUTE_FAIL, a TWIN frame and a frame of data. -/
def syncF : Frame := ⟨7, 3, 0, bytesOf [65, 2, 64, 0, 255, 255, 0, 0, 0, 0, 16, 63, 0, 0, 0, 0, 5, 0, 3, 0, 0, 0, 0, 0, 64, 66, 15, 0, 0, 0, 0, 0, 48, 228,
  138, 241], .complete⟩
def failF : Frame := ⟨7, 3, 0, bytesOf [1, 2, 66, 0, 255, 255, 0, 0, 0, 0, 8, 63, 0, 0, 0, 0, 6, 0, 3, 0, 0, 0, 0, 0, 49, 79, 43, 1], .complete⟩
def twinF : Frame := ⟨7, 3, 0, bytesOf [129, 2, 0, 0, 255, 255, 0, 0, 0, 0, 8, 63, 0, 0, 0, 0, 7, 0, 3, 0, 0, 0, 0, 0, 130, 80, 38, 100], .complete⟩
def dataF : Frame := ⟨7, 3, 0, bytesOf [1, 0, 66, 0, 0, 1, 5, 0, 9, 0, 4, 63, 0, 0, 0, 0, 1, 2, 3, 4, 148, 191, 1, 26], .complete⟩

theorem wit_Receives_hello : frameKind helloF = 1 ∧ (frameIn (linked lHello) 2 helloF).2.isSome = true := by decide +kernel
theorem wit_Receives_join : frameKind joinF = 2 ∧ (frameIn (linked lJoin) 2 joinF).2.isSome = true := by decide +kernel
theorem wit_Receives_lsr : frameKind lsrF = 3 ∧ (frameIn member 2 lsrF).2.isSome = true := by decide +kernel
theorem wit_Receives_request : frameKind tsReqF = 4 ∧ fieldB tsReqF.bytes 17 1 = 1 ∧ (frameIn member 2 tsReqF).2.isSome = true := by decide +kernel
theorem wit_Receives_response : frameKind tsRespF = 4 ∧ fieldB tsRespF.bytes 17 1 = 2 ∧ (frameIn member 2 tsRespF).2.isSome = true := by
  decide +kernel
theorem wit_Receives_sync : frameKind syncF = 5 ∧ (frameIn member 2 syncF).2.isSome = true := by decide +kernel
theorem wit_Receives_fail : frameKind failF = 6 ∧ (frameIn member 2 failF).2.isSome = true := by decide +kernel
/-- A device of a twin that drives, its port UP. -/
def twin : State :=
  let s := wr (wr (wr (linked lUp) F.devRedCfg_KIND 0 1) F.devRedCfg_PORT_A 0 2) F.devMode_MODE 0 mRun
  axAt { s with red := { s.red with drives := true, mems := [(0, { Member.reset with present := true })] } } 3 aVelocity
theorem wit_Receives_twin : frameKind twinF = 7 ∧ (frameIn twin 2 twinF).2.isSome = true := by decide +kernel
theorem wit_Receives_data : frameKind dataF = 0 ∧ (frameIn member 2 dataF).2.isSome = true := by decide +kernel
theorem wit_Receives_wrong : frameKind helloF ≠ 2 ∧ (frameIn (linked lHello) 2 { helloF with bytes := [1] }).2 = none := by decide +kernel

theorem wit_LinkStates :
    (lkState (linked lOff) 2 = lOff ∧ mayTrain (linked lOff) 2 = true) ∧
    (let s := wr (linked lDown) F.lkCfg_EN 2 0
     lkState s 2 = lDown ∧ rdB s F.lkCfg_EN 2 = false) ∧
    (lkState (linked lTrain) 2 = lTrain ∧ clause72 (linked lTrain) 2 = true ∧
      clause72 (wr (linked lTrain) F.lkCfg_PRESET 2 3) 2 = false) ∧
    lkState (linked lHello) 2 = lHello ∧ lkState (linked lJoin) 2 = lJoin ∧ lkState (linked lQuar) 2 = lQuar ∧
    isUp (linked lUp) 2 = true ∧ isUp (linked lHello) 2 = false := by decide
theorem wit_LinkStates_frames :
    (isUp (linked lDown) 2 = false ∧ lkState (linked lDown) 2 ≠ lHello ∧ lkState (linked lDown) 2 ≠ lJoin) ∧
    isUp (linked lUp) 2 = true ∧ frameKind { dataF with fate := .aborted } ≠ 1 ∧ frameKind { dataF with fate := .aborted } ≠ 2 := by
  decide +kernel
/-- An UP link with three frames unacknowledged. -/
def talking : State := modLk (linked lUp) 2 (fun l => { l with unacked := [⟨3, 1, [1]⟩, ⟨4, 1, [2]⟩, ⟨5, 1, [3]⟩] })
theorem wit_LinkWords :
    isUp talking 2 = true ∧ (lk talking 2).unacked = [⟨3, 1, [1]⟩] ++ ⟨4, 1, [2]⟩ :: [⟨5, 1, [3]⟩] ∧
    wordBody 1 (linkWord 1 4) = some 4 ∧ wordBody 2 (linkWord 2 4) = some 4 ∧ wordBody 3 (linkWord 3 0xFFFF) = some 0xFFFF ∧
    wordBody 4 (linkWord 4 15) = some 15 ∧ (lk talking 2).cong = [] ∧ (lk talking 2).rounds + 1 < 8 ∧
    isUp (linked lQuar) 2 = false ∧ [1, 2, 3, 4].all (fun k => wordBody k 0x000010 == none) = true := by decide
/-- A header of flow (1, 5, 0x1000, CTL), and a table that knows the flow. -/
def hdr1 (seq : Nat) : Hdr := { ownHdr up cCtl 2 0x1000 5 seq 0 with src := 1 }
def flowed : State := later { member with fab := { member.fab with flows := [⟨⟨1, 5, 0x1000, 1⟩, 5, 0⟩] } }
where later (s : State) : State := { s with ctl := { s.ctl with time := 2 ^ 70 } }
theorem wit_FlowTakesOnce :
    (flowIn member (hdr1 65535)).2 = true ∧ flowOf flowed (flowKey (hdr1 6)) = some ⟨⟨1, 5, 0x1000, 1⟩, 5, 0⟩ ∧
    (flowIn flowed (hdr1 32772)).2 = true ∧ (flowIn flowed (hdr1 32773)).2 = false ∧ flowOf member (flowKey (hdr1 6)) = none ∧
    member.fab.flows.length < flowMax := by decide
/-- A link that has a frame to send, with and without credits. -/
def queued : State := sendFctl (linked lUp) 2 cCtl false true ([4, 1] ++ List.replicate 30 0)
theorem wit_FramesPass_congestion : isUp queued 2 = true ∧ (lk queued 2).cong.contains 1 = false ∧
    (match classNext queued 2 1 with | some x => !hasCredits queued 2 1 x.2 | none => false) = true := by decide +kernel
theorem wit_FramesPass_quiet : isUp (linked lDown) 2 = false ∧ classNext (linked lUp) 2 1 = none ∧
    (modLk (linked lUp) 2 (fun l => { l with cong := [1] }) |> fun s => (lk s 2).cong.contains 1) = true := by decide +kernel
theorem wit_FramesPass_transit :
    let s := { flowed with fab := { flowed.fab with transit := [⟨2, 3, 1, 2, [1], 0, false⟩, ⟨1, 3, 2, 1, [1], 0, false⟩] } }
    (⟨1, 3, 2, 1, [1], 0, false⟩ : Transit) ∈ s.fab.transit ∧ (1 ≠ (2 : Fin 8).val) ∧
    (⟨⟨1, 5, 0x1000, 1⟩, 5, 0⟩ : Flow) ∈ s.fab.flows ∧ ¬ locNs s < 0 + 1000000000 := by decide
/-- A database with the node of serial 99. -/
def heard : State := { flowed with fab := { flowed.fab with lsdb := [⟨99, 3, 0, 8, 1, [⟨2, 2, 10, 0⟩], some 1, false, 0⟩] } }
theorem wit_Discovery :
    fabActive (at_ mTest) = false ∧ fabActive heard = true ∧ (ownLsr (ownUpdate heard)).isSome = true ∧
    (lsrOf heard.fab.lsdb 99).isSome = true ∧ (99 ≠ heard.nv.serial ∧ 0 + 350000000 ≤ locNs heard) ∧
    lsrOf heard.fab.lsdb 98 = none ∧ aloneNow heard = false ∧ isSettled heard = false ∧ aloneNow (linked lTrain) = true := by decide +kernel
theorem wit_Discovery_settled :
    let s := wr (wr (wr heard F.devFabStat_TIME_LOCK 0 1) F.lkNbr_SERIAL 2 99) F.lkCfg_EN 2 1
    fabActive s = true ∧ aloneNow s = false ∧ isSettled s = true := by decide +kernel
theorem wit_FabricTime :
    (isUp member 2 = true ∧ isTwin member 2 = false ∧ mode member ≠ mLatch) ∧ isTwin twin 2 = true ∧
    (let s := wr (linked lUp) F.devFabCfg_SYNC_PER 0 3
     fabActive s = true ∧ isGm s = true ∧ rd s F.devFabCfg_SYNC_PER 0 ≠ 0) ∧ isGm member = false ∧
    (let s := { flowed with fab := { flowed.fab with syncPend := some (3, 1000) } }
     1000 ≤ nowNs s ∧ s.place.moving = false) ∧
    nowNs { member with fab := { member.fab with syncPend := some (3, 1000) } } < 1000 := by decide
theorem wit_FabricTime_response :
    let s := modLk member 2 (fun l => { l with t1 := some 5 })
    (match frameIn s 2 tsRespF with
      | (r, some x) => decide ((lk r 2).t1 = some (fieldB x.payload 8 8) ∧ fieldB x.payload 2 2 = (lk r 2).xno) && !rdB r F.lkStat_PARENT 2
      | _ => false) = true := by decide +kernel

/-- An attempt to place this node and the node 1. -/
def placing : State :=
  let s := wr (at_ mPlace) F.devFabStat_ID_VALID 0 1
  { s with
    place := { s.place with run := some 0 },
    fab := { s.fab with lsdb := [⟨0, 2, 0, 1, 0, [⟨2, 2, 10, 99⟩], some 2, false, 0⟩, ⟨99, 1, 0, 8, 1, [⟨2, 2, 10, 0⟩], some 1, false, 0⟩] } }
def peer1 : PeerInput := ⟨1, 99, 0, 0, 0, 0, [], [], [], 0, []⟩
theorem wit_PlacementRuns_start :
    (mode (at_ mPlace) = mPlace ∧ (at_ mPlace).place.run = none ∧ rd (at_ mPlace) F.devPlaceStat_STATE 0 ≠ 4) ∧
    mode running ≠ mPlace ∧ rd (wr (at_ mPlace) F.devPlaceStat_STATE 0 4) F.devPlaceStat_STATE 0 = 4 ∧
    { placing with fab := { placing.fab with changes := 7 } }.place.run = some 0 ∧ 0 ≠ 7 ∧
    (let s := { flowed with place := { flowed.place with plan := some ⟨3, [], [], []⟩, since := some 0 } }
     s.place.plan ≠ none ∧ mode s ≠ mPlace ∧ mode s ≠ mLatch ∧ s.fab.changeAt + 1000000 ≤ locNs s ∧ 0 + 5000000 ≤ locNs s) := by decide
theorem wit_PlacementRuns_inputs : placingNodes placing = [1] ∧ allInputs placing [] = none ∧ (allInputs placing [peer1]).isSome = true ∧
    placing.fab.changes = 0 := by decide +kernel
theorem wit_PlacementRuns_hash :
    let s := { placing with place := { placing.place with next := some ⟨3, [], [], []⟩ } }
    (∀ i ∈ placingNodes s, (∃ x ∈ [(⟨1, 0⟩ : PeerHash)], x.node = i ∧ x.hash = rd s F.devPlanHash_HASH 0)) ∧
    (∃ i ∈ placingNodes s, ∃ x ∈ [(⟨1, 5⟩ : PeerHash)], x.node = i ∧ x.hash ≠ rd s F.devPlanHash_HASH 0) := by decide +kernel
theorem wit_PlacementRuns_plan :
    (match computePlan placing.fab.lsdb [ownInput placing, peer1] none 1 with | .inl _ => true | .inr _ => false) = true := by decide +kernel
theorem wit_PlacementRuns_fails :
    (match computePlan placing.fab.lsdb [{ ownInput placing with bindings := [⟨1, 2, 3, 0, 0, 0⟩, ⟨2, 2, 3, 0, 0, 0⟩] }, peer1] none 1 with
      | .inl _ => false | .inr _ => true) = true := by decide +kernel

theorem wit_TwinEvents :
    (mTest ≤ mode running ∧ mode running ≠ mLatch ∧ mode up < mTest ∧ (3 : BitVec 4) ≠ 0) ∧
    ((memberIds twin).find? (fun k => memberPort twin k == (2 : Fin 8).val) = some 0 ∧ isUp twin 2 = true) ∧
    (memberIds twin).find? (fun k => memberPort twin k == (3 : Fin 8).val) = none ∧
    (0 ∈ memberIds twin ∧ (mem twin 0).present = true ∧ 1 ∉ memberIds twin ∧ isTwin twin 2 = true) ∧
    (redKind twin = 1 ∧ driveModes (mode twin) = true ∧ driveModes (mode (wr twin F.devMode_MODE 0 mStandby)) = false ∧ redKind up ≠ 1) ∧
    rdB (wr twin F.devRedStat_RESYNC 0 1) F.devRedStat_RESYNC 0 = true ∧ rdB (wr twin F.devRedStat_ODD 0 1) F.devRedStat_ODD 0 = true ∧
    twin.red.odd = none := by decide
theorem wit_TwinEvents_handover :
    let s := { twin with red := { twin.red with hand := some ⟨0, [], [], false, false⟩ } }
    awaitsRelease s = true ∧ awaitsRelease twin = false := by decide

/-! ## Premises of the statements: supervisor, ledger, messages -/

theorem svGoes_of (s : State) (h : (coreRuns s && svReady s && (svFetchFault s).isNone && (svEligible s (svNow s)).isNone &&
    s.ctl.evNew.isEmpty) = true) : SvGoes s := by
  simp only [Bool.and_eq_true, Option.isNone_iff_eq_none, List.isEmpty_iff] at h
  exact ⟨h.1.1.1.1, h.1.1.1.2, h.1.1.2, h.1.2, h.2⟩
theorem wit_SvGoes : SvGoes core := svGoes_of core (by decide)
/-- `core` with an interrupt of source 9 eligible, one that cannot fetch, one that waits. -/
def interrupted : State := { core with sv := { core.sv with
  ie := true, mask := 8, csr := [(0x10, 0xFFFFFFFF), (0x12, 0xFFFF), (0x18, 0x77777777), (0x19, 0x77777777)] } }
def astray : State := { core with sv := { core.sv with pc := 0x100000 } }
def sleeping : State := { core with sv := { core.sv with wfi := true } }
theorem wit_SvArithmetic :
    (svEncode (.add 1 2 3)).isSome = true ∧ svReady up = false ∧ svReady sleeping = false ∧
    (svReady astray = true ∧ (svFetchFault astray).isSome = true) ∧
    (svReady interrupted = true ∧ svFetchFault interrupted = none ∧ svEligible interrupted (svNow interrupted) ≠ none) := by decide
theorem wit_SvDivision : (3 : Word) ≠ 0 ∧ ¬ ((0x80000000 : Word) = 0x80000000 ∧ (3 : Word) = 0xFFFFFFFF) := by decide
/-- `core` with a base register for the accesses below. -/
def based (v : Word) : State := { core with sv := { core.sv with w := core.sv.w.set 1 v } }
theorem wit_SvMemory_ram :
    (svAddr (based 0x7FFFC) 1 0 + 4 ≤ svSize ∧ svParity (based 0x7FFFC) 0x7FFFC 4 = none ∧ svProtected (based 0x7FFFC) 0x7FFFC 4 = false) ∧
    (svSize < svAddr (based 0x7FFFD) 1 0 + 4 ∧ inWindow32 0x7FFFD = false) ∧
    svParity { core with sv := { core.sv with badPar := [2] } } 8 4 = some 2 ∧
    svProtected { core with sv := { core.sv with csr := [(5, 0), (6, 0x1000)] } } 8 4 = true := by decide
theorem wit_SvMemory_goes : SvGoes (based 0x7FFFC) ∧ SvGoes { core with sv := { core.sv with badPar := [2] } } ∧
    SvGoes { core with sv := { core.sv with csr := [(5, 0), (6, 0x1000)] } } :=
  ⟨svGoes_of _ (by decide), svGoes_of _ (by decide), svGoes_of _ (by decide)⟩
/-- Where the object window shows group 1 of the excitation. -/
def grpWindow : Word := BitVec.ofNat 32 (0x80000000 + ownAddr up .devExcGrp 1 / 2 ^ 18 * 2 ^ 20 + ownAddr up .devExcGrp 1 % 2 ^ 18 * 4)
def windowed : State := { based grpWindow with sv := { (based grpWindow).sv with
  w := (based grpWindow).sv.w.set 2 (BitVec.ofNat 32 (setBits (getObj up .devExcGrp 1) 31 1 1)) } }
theorem wit_SvMemory_window :
    let a := svAddr windowed 1 0
    inWindow32 a = true ∧ a % 4 = 0 ∧ svProtected windowed a 4 = false ∧ locate (windowAddr a) = some (.devExcGrp, 1) ∧
    objThere .devExcGrp 1 = true ∧ hasRc .devExcGrp = false ∧ ObjId.devExcGrp ∉ specialObjs ∧
    judge (svIssued windowed) .supervisor .devExcGrp 1 ((svW windowed 2).toNat + svObx windowed) = 0 ∧
    forwards (svIssued windowed) .devExcGrp 1 = false ∧ locate (windowAddr 0x8FFFFFFC) = none ∧ inWindow32 0x8FFFFFFD = true := by decide
theorem wit_SvMemory_window_goes : SvGoes windowed := svGoes_of _ (by decide)
theorem wit_SvTransfers :
    ((core.sv.pc + 4 + (0 : BitVec 18).signExtend 32 <<< 2).toNat % 4 = 0 ∧
      (core.sv.pc + 4 + (0 : BitVec 18).signExtend 32 <<< 2).toNat < svSize) ∧
    svSize ≤ (core.sv.pc + 4 + (0x20000 : BitVec 18).signExtend 32 <<< 2).toNat ∧
    (svW core 2).toNat % 4 ≠ 0 ∧ (svW core 1).toNat % 4 = 0 := by decide
theorem wit_SvFaultEntry :
    (core.sv.inf = false ∧ 32 ≤ (svW core 14).toNat ∧ (svW core 14).toNat - 32 + 32 ≤ svSize ∧ ((svW core 14).toNat - 32) % 4 = 0 ∧
      svCsr core 2 ≤ (svW core 14).toNat - 32 ∧ svProtected core ((svW core 14).toNat - 32) 32 = false ∧
      svCsr core 1 + 0x100 + 4 ≤ svSize ∧ svCsr core 1 + 0x100 + 4 ≤ (svW core 14).toNat - 32 ∧
      svParity core (svCsr core 1 + 0x100) 4 = none ∧ svRead core (svCsr core 1 + 0x100) 4 % 4 = 0 ∧
      svRead core (svCsr core 1 + 0x100) 4 < svSize) ∧
    rd core F.devSvCtl_REACT 0 ≠ 3 ∧ { core with sv := { core.sv with inf := true } }.sv.inf = true ∧
    (svW core 14).toNat - 32 < svCsr { core with sv := { core.sv with csr := [(2, 0x80000)] } } 2 := by decide
/-- `core` with the watchdog on and w3 right for a feed. -/
def watched : State := wr { core with sv := { core.sv with w := core.sv.w.set 3 0x5AFE } } F.devSvCtl_WD_PER 0 5
theorem wit_SvSystem_csr :
    csrThere 2 = true ∧ csrThere 0x36 = true ∧ csrThere 0x3FFFF = false ∧ csrThere 0x2A = true ∧
    (svWatching watched = true ∧ svW watched 3 = 0x5AFE ∧ svW watched 2 ≠ 0x5AFE ∧ rdB watched F.devSvStat_WARN 0 = false) ∧
    rdB (wr watched F.devSvStat_WARN 0 1) F.devSvStat_WARN 0 = true ∧ svWatching core = false ∧
    (svDecode 0 = none ∧ svDecode 0x5C4080C0 ≠ none) := by decide
theorem wit_SvSystem_push :
    (svW core 1).toNat % 2 = 0 ∧ (svW core 1).toNat + 2 * 120 ≤ svSize ∧ (svW core 2).toNat < 2 ^ 19 ∧ isQueue ((svW core 2).toNat % 2 ^ 16) = true ∧
    (svW core 2).toNat % 2 ≠ 0 ∧ isQueue ((4 : Word).toNat % 2 ^ 16) = false := by decide
/-- A handler about to return to 5 · 4. -/
def returning : State := { core with sv := { core.sv with
  inf := true, w := core.sv.w.set 14 0x7FFE0, mem := memWrite 0 [] 0x7FFE0 (List.replicate 24 0 ++ leBytes 4 20 ++ leBytes 4 0) } }
theorem wit_SvSystem_return :
    (retiFault returning = none ∧ svEligible returning (srOf (svRead returning ((svW returning 14).toNat + 28) 4)) = none) ∧
    (retiFault core).isSome = true ∧ svReady returning = true ∧ returning.sv.inf = true := by decide
theorem wit_SvSystem_return_goes : SvGoes returning ∧ SvGoes watched := ⟨svGoes_of _ (by decide), svGoes_of _ (by decide)⟩
theorem wit_SvSystem_timers :
    (let s := { watched with ctl := { watched.ctl with time := 2 ^ 60 }, sv := { watched.sv with tmrAt := [(0, 3)], armed := true } }
     svRunning s = true ∧ s.sv.tmrAt.find? (fun x => x.1 == (0 : Fin 2).val) = some ((0 : Fin 2).val, 3) ∧ s.sv.armed = true ∧
     svCsr s 0x2B * 2 ^ 32 + svCsr s 0x2A ≤ nowNs s) ∧
    core.sv.tmrAt.find? (fun x => x.1 == (1 : Fin 2).val) = none ∧ core.sv.armed = false ∧ rd watched F.devSvCtl_REACT 0 ≠ 3 ∧
    (rdB (wr core F.devSvStat_RELOADING 0 1) F.devSvStat_RELOADING 0 = true ∧ core.ledg.write = none) := by decide

/-- A ledger that can be written, and one with a write in progress. -/
def ledgered : State := wr (at_ mStandby) F.devLedgStat_LOADED 0 1
def oneWrite (retry reset : Bool) : LedgWrite := ⟨1, 7, 7, 0, List.replicate 1664 0, retry, reset, false⟩
def writing (retry reset : Bool) : State := { ledgered with ledg := { ledgered.ledg with write := some (oneWrite retry reset), fails := 2 } }
theorem wit_LedgerRecord : (oneWrite false false).slot < 8 ∧ (oneWrite false false).data.length = 1664 ∧ up.nv.serial < 2 ^ 64 ∧
    0 ≠ (oneWrite false false).slot := by decide
theorem wit_LedgerCommands :
    ledgered.ledg.write = none ∧ coreRuns ledgered = true ∧
    ((writing false false).ledg.write = some (oneWrite false false) ∧ (oneWrite false false).forReset = false ∧
      (writing false false).ledg.waiting = [] ∧ (oneWrite false false).retry = false ∧ (oneWrite true false).retry = true ∧
      (oneWrite true true).forReset = true ∧ 2 ≤ (writing false false).ledg.fails ∧ (oneWrite false false).cause ≠ 2 ∧
      ledgCanWrite (writing false false) = true) ∧
    { oneWrite false false with cause := 2 }.cause = 2 ∧
    (rdB (at_ mTest) F.devLedgStat_LOADED 0 = false ∧ mTest ≤ mode (at_ mTest) ∧ mode up < mTest) := by decide
theorem wit_LedgerCommands_memory :
    ledgSilent (at_ mTest) = true ∧
    (let s := { at_ mTest with nv := { up.nv with ledgMem := [(0, 1)] } }
     ledgSilent s = false ∧ ledgNewest s = none) := by decide +kernel

theorem wit_EventOrder :
    up.ctl.evPre.length < 16 ∧ 16 ≤ { up with ctl := { up.ctl with evPre := List.replicate 16 ⟨5, 0, 3, 0, 0⟩ } }.ctl.evPre.length := by decide
def sub1 : SubReq := ⟨0x100, false, true, 0, 0x1000, 24⟩
def subbed : State := { pushed with msg := { pushed.msg with subs := [(0x100, ⟨true, 0, 0x1000, 24, [], 0⟩)] } }
theorem wit_MessagesAndPorts_subscribe :
    (subStatus (takeMsg up svc) svc sub1 = 0 ∧ sub1.cancel = false) ∧ subStatus (takeMsg up svc) svc { sub1 with cancel := true } = 0 ∧
    subStatus (takeMsg up svc) svc { sub1 with queue := 5 } ≠ 0 ∧ subOf up 0x100 = none ∧
    (match subOf subbed 0x100 with
      | some u => subOpen subbed 0x100 u && decide (0 < subFit 0x100 u)
      | none => false) = true ∧
    (match subOf { subbed with msg := { subbed.msg with subs := [(0x100, ⟨true, 0, 0x1000, 0, [], 0⟩)] } } 0x100 with
      | some u => decide (subFit 0x100 u = 0)
      | none => false) = true := by decide
theorem wit_MessagesAndPorts_messages :
    (2 ≤ (bytesOf [1, 2]).length ∧ isQueue 0x100 = true ∧ tooMany (takeMsg up svc) svc = false ∧ (List.replicate 228 (0 : Byte)).length ≤ 228) ∧
    (let s := wr (wr (wr up F.devTrcProbe_EN 63 1) F.devTrcProbe_W32 63 1) F.devTrcStat_STATE 0 trcDone
     let t := setProbe s 63 { probe s 63 with ring := [1, 2, -3] }
     trcState t = trcDone ∧ rdB t F.devTrcProbe_EN 63 = true ∧ 2 < (probe t 63).ring.length ∧ rdB t F.devTrcProbe_W32 63 = true) := by decide
theorem wit_MessagesAndPorts_sources (p : Fin 8) (n : Nat) (q : Halfword) (c : Cls) (t : Halfword) : svc ≠ .fabric p n q c t := nofun
theorem wit_MessagesAndPorts_port :
    (let m := bytesOf [1, 0, 3, 0, 0, 1, 0, 0, 0, 0, 0, 0]
     8 ≤ m.length ∧ m.length ≤ 240 ∧ msgFits false m = true ∧ svcReady up = true) ∧
    { up with msg := { up.msg with inbox := List.replicate 4 ⟨svc, []⟩ } }.msg.inbox.length = 4 ∧ up.msg.svcLens = [] ∧
    coreRuns State.reset = false ∧ State.reset.pwr.porstLow = false ∧
    { State.reset with pwr := { State.reset.pwr with porstLow := true } }.pwr.porstLow = true := by decide
theorem wit_SvWords : (Instr.lui 1 0x80C0).wf = true ∧ svEncode (.lui 1 0x80C0) = some 0x5C4080C0 ∧ svDecode 0x5C4080C0 = some (.lui 1 0x80C0) := by
  decide
theorem wit_StepKeepsMemories : step { up with pending := [.modeTransition] } = exec .modeTransition up ∧ up.pending = [] := ⟨rfl, rfl⟩
theorem wit_NvCanonical : NvCanonical up := ⟨by decide, by decide, by decide⟩

/-! ## Premises of further clauses -/

theorem wit_SupplyWarnings : coreRuns State.reset = false ∧ State.reset.pwr.coreLost = false ∧
    { up with pwr := { up.pwr with coreLost := true } }.pwr.coreLost = true := by decide
theorem wit_ModeTransition_target : (⟨mHold, 10, none⟩ : Trig).target < 16 := by decide
theorem wit_ModeTimers :
    (let s := wr (wr (axAt { running with load := { up.load with bindings := [⟨1, 1, 3, 0, 0, 0⟩] } } 3 aTrack) F.axLoopCfg_TEMPLATE 3 1)
       F.axLoopCfg_START 3 aManual
     startable s 3 = true ∧ pairMate s 3 = none ∧ mayEnter s 3 (rd s F.axLoopCfg_START 3) = true) ∧
    mode up ≠ mDiscover ∧ mode up ≠ mRun ∧ mode up ≠ mSafestop := by decide
/-- A message of a frame that is not MGMT. -/
def ctlSrc : Src := .fabric 2 1 0 .ctl 0
theorem wit_ImageWrites_sources : offMgmt ctlSrc = true ∧ offMgmt svc = false ∧ session.load.img = some ⟨0, 148, []⟩ := by decide
theorem wit_TrimWrites :
    (trimming.load.trimKind ≠ none ∧ { trimming with load := { trimming.load with trimSwitch := true } }.load.trimSwitch = true) ∧
    (1 ≤ (bytesOf [1]).length ∧ 0x1000 ≤ 0x12FF ∧ 0x12FF + (bytesOf [1]).length ≤ 0x1300) := by decide
theorem wit_HoldStrobe_short :
    (hasStrobe 47 189 = true ∧ hasStrobe 47 188 = false) ∧ (hasStrobe 48 193 = true ∧ hasStrobe 48 192 = false) ∧ hasStrobe 1 200 = true := by decide
theorem wit_ExcitationDetectors :
    let s := modExc running 0 (fun e => { e with drive := true, det := getObj running .axExcDrv 0 })
    detIdle s 0 = false ∧ (decide ((0 : BitVec 16).toNat < fget (detWord s 0) F.axExcDrv_OPEN_MIN) && !rdB s F.axExcDrv_BOOST 0) = true ∧
      decide ((0xFFFF : BitVec 16).toNat < fget (detWord s 0) F.axExcDrv_OPEN_MIN) = false := by decide
theorem wit_EncoderEmulation :
    let s := setEnc (wr (wr running F.devEncCtl_EN 0 1) F.devEncStat_LIVE 0 1) 0 { Enc.reset with interval := 200, et := 3 }
    rdB s F.devEncStat_LIVE 0 = true ∧ backlog (enc s 0).et (enc s 0).eo ≠ 0 ∧
    (edgeDue (enc s 0) (rd s F.devEncCtl_SEP 0)).2 ≤ nowHalf { s with ctl := { s.ctl with time := 2 ^ 60 } } := by decide
theorem wit_ObserverStep : (takePair (modTrk running 3 (fun k => { k with run := true })) 3).2 = none := by decide
theorem wit_RunAhead_read : noRead selected 15 = false ∧ mget [] selected.c1 (15 : Fin 200) ≠ [] := by decide
theorem wit_RunAhead_late_flag :
    let s := modLoop (modPwm timed 3 (fun p => { p with box := [⟨1, 2, 3, 8500, (evalAt timed).take⟩] })) 3 (fun l => { l with
      back := some ⟨l.st, l.du, l.dv, l.dw, l.wasLate, l.last, 0⟩ })
    (ax s 3).pwm.box = [⟨1, 2, 3, 8500, (evalAt timed).take⟩] ∧ (ax s 3).loop.presets = [] := by decide
theorem wit_TraceSample :
    let s := wr up F.devTrcProbe_EN 63 1
    (probe s 63).skip = 0 ∧ 0 < (probe (setProbe s 63 { probe s 63 with skip := 2 }) 63).skip := by decide
theorem wit_TraceSample_clock : (List.range 8).any (fun k => probeTicks (wr up F.devTrcProbe_CLK 63 k) 63) = true ∧
    (List.range 8).any (fun k => !probeTicks (wr up F.devTrcProbe_CLK 63 k) 63) = true := by decide
theorem wit_RefusedWrites : offMgmt ctlSrc = true ∧ writeOf up (.excGroupStart ctlSrc 1) ≠ none := by decide
theorem wit_OutputWrites_stop : svc ≠ .supervisor ∧ offMgmt svc = false := by decide
theorem wit_LinkWords_sends :
    (lk talking 2).unacked = ⟨3, 1, [1]⟩ :: [⟨4, 1, [2]⟩, ⟨5, 1, [3]⟩] ∧ (∀ x ∈ [(⟨3, 1, [1]⟩ : Sent)], x.lseq ≠ 4 % 4096) := by decide
/-- `talking` with credits, and two frames to send again. -/
def again2 : State := modLk talking 2 (fun l => { l with grant := [100, 100, 100, 100], again := [4, 5] })
theorem wit_FramesPass_again : again2.fab.routes = [] ∧ again2.msg.replies = [] ∧ again2.fab.transit = [] ∧ (lk again2 2).again = [4, 5] ∧
    (lk again2 2).unacked.find? (fun y => y.lseq == 4) = some ⟨4, 1, [2]⟩ ∧ hasCredits again2 2 1 [2] = true := by decide
/-- A link with an RT frame to send and credits for it. -/
def rtQueued : State := modLk (sendFctl member 2 cRt true false (bytesOf [5, 0, 3, 0, 0, 0, 0, 0, 0, 0, 0, 0, 0, 0, 0, 0])) 2
  (fun l => { l with grant := [100, 100, 100, 100] })
theorem wit_FramesPass_new : (classNext (draw rtQueued) 2 cRt).isSome = true ∧ classReady rtQueued 2 cRt = true ∧
    (lk rtQueued 2).again = [] ∧ (lk rtQueued 2).unacked.length < maxUnacked ∧ rtQueued.fab.routes = [] := by decide +kernel
theorem wit_FramesPass_idle : maxUnacked ≤ (lk (modLk member 2 (fun l => { l with unacked := List.replicate 64 ⟨1, 1, []⟩ })) 2).unacked.length ∧
    [0, 1, 2, 3].all (fun c => (classNext member 2 c).isNone) = true := by decide +kernel
theorem wit_FramesPass_crc : frameKind { dataF with bytes := bytesOf [1, 2, 3] } = 0 ∧ crcGood (bytesOf [1, 2, 3]) = false ∧
    (lk member 2).errCnt < rd member F.lkCfg_ERR_LIM 2 ∧ (lk member 2).rxNext = none := by decide +kernel
/-- A frame whose header is no frame's. -/
def oddF : Frame := ⟨7, 3, 1, bytesOf (List.replicate 40 255 ++ [115, 76, 208, 140]), .complete⟩
theorem wit_FramesPass_malformed : frameKind oddF = 0 ∧ crcGood oddF.bytes = true ∧ frameFits member 2 oddF.bytes = false ∧
    oddF.lseq.toNat = (lk member 2).rxNext.getD oddF.lseq.toNat := by decide +kernel
theorem wit_Discovery_news :
    (match frameIn member 2 lsrF with
      | (r, some x) => lsrNews r (lsrOfBytes r x.payload) && decide ((lsrOfBytes r x.payload).serial ≠ r.nv.serial)
      | _ => false) = true := by decide +kernel
theorem wit_FabricTime_sync :
    (match frameIn member 2 syncF with
      | (r, some _) => decide (r.fab.syncPend = none)
      | _ => false) = true := by decide +kernel
theorem wit_FabricTime_grandmaster : (linked lUp).fab.epoch ≤ nowNs (linked lUp) ∧ mode (linked lUp) ≠ mLatch := by decide
theorem wit_PlacementRuns_retry :
    let s := wr { running with place := { running.place with plan := some ⟨3, [], [], []⟩ } } F.devPlaceStat_STATE 0 4
    rd s F.devPlaceStat_STATE 0 = 4 ∧ mode s ≠ mPlace ∧ s.place.plan ≠ none := by decide
theorem wit_TwinEvents_frame :
    (match frameIn twin 2 twinF with
      | (r, some _) => decide ((mem r 0).tseq = none)
      | _ => false) = true ∧ (2 : Byte) ≠ 1 := by decide +kernel

end Sys2Proof.Tests
end

section
/-!
Proofs about writing the ledger's objects (R390): what a write command answers, the judgement of LEDG_CMD, and what CLR_AXIS
leaves.
-/

namespace Sys2Proof.Machine

/-! ## What a write command leaves -/

@[simp] theorem mode_takeMsg (s : State) (src : Src) : mode (takeMsg s src) = mode s := rfl

/-- A register write after a message has been taken differs from one before by the messages alone. -/
theorem answered_setObj_takeMsg (s : State) (src : Src) (o : ObjId) (i v : Nat) :
    Answered (setObj s o i v) (setObj (takeMsg s src) o i v) :=
  (answered_takeMsg (setObj s o i v) src :)

/-- A message that finds room is written and answered. -/
theorem writeCmd_answered (s : State) (src : Src) (o : ObjId) (i w : Nat) (room : tooMany (takeMsg s src) src = false) :
    ∃ t, writeCmd s src o i w = .next t ∧ Answered (writeObj (takeMsg s src) src o i w).1 t := by
  simp only [writeCmd, room, Bool.false_eq_true, if_false]
  exact done_answered (answered_writeAnswer _ _ _)

/-- A refused write leaves the state and answers its status. -/
theorem writeObj_refused (s : State) (src : Src) (o : ObjId) (i w : Nat) (h : judge s src o i w ≠ 0) :
    writeObj s src o i w = (s, judge s src o i w) := by
  simp [writeObj, h]

/-- A refused write command leaves the state, but for the messages. -/
theorem writeCmd_refused (s : State) (src : Src) (o : ObjId) (i w : Nat) (room : tooMany (takeMsg s src) src = false)
    (h : judge (takeMsg s src) src o i w ≠ 0) : ∃ t, writeCmd s src o i w = .next t ∧ Answered s t := by
  obtain ⟨t, ht, ha⟩ := writeCmd_answered s src o i w room
  rw [writeObj_refused _ _ _ _ _ h] at ha
  exact ⟨t, ht, (answered_takeMsg s src).trans ha⟩

/-! ## Refusals that need only the source or the object (R306, R434) -/

theorem judge_offMgmt (s : State) (src : Src) (o : ObjId) (i w : Nat) (h : offMgmt src = true) : judge s src o i w = 1 := by
  simp [judge, h]

/-- An object without a field that a write can take refuses every write with an access error. -/
theorem judge_readOnly (s : State) (src : Src) (o : ObjId) (i w : Nat) (h : writable o = false) : judge s src o i w = 1 := by
  simp [judge, h]

theorem devLedger_readOnly : writable .devLedger = false := by decide

theorem lkLedger_readOnly : writable .lkLedger = false := by decide

/-! ## LEDG_CMD (R386, R390) -/

/-- LEDG_CMD has command fields only: a write leaves its value. -/
theorem mergeVal_devLedgCmd (old w : Nat) : mergeVal .devLedgCmd old w = old := rfl

/-- No follower forwards a write of LEDG_CMD. -/
theorem forwards_devLedgCmd (s : State) (i : Nat) : forwards s .devLedgCmd i = false := by
  simp [forwards, paramWord]

/-- The supervisor may write LEDG_CMD: it has no RWM field. -/
theorem svBarred_devLedgCmd (v w : Nat) : svBarred .devLedgCmd v w = false := by
  simp [svBarred, show accMask .devLedgCmd .rwm = 0 from rfl]

theorem accessRules_devLedgCmd (s old : State) (w : Nat) :
    accessRules s old .devLedgCmd 0 w = [ruleAll (decide (bits w 2 6 < 48))] := rfl

/-- The mode errors of LEDG_CMD are those of CLR_AXIS outside MAINT. -/
theorem modeBad_devLedgCmd (s : State) (v w : Nat) :
    modeBad s .devLedgCmd 0 v v w = (bit w 1 && decide (mode s ≠ mMaint)) := by
  simp [modeBad, modeRules, broken, ruleAll, show loopObj .devLedgCmd 0 = none from rfl]

theorem busyBad_devLedgCmd (s : State) (old v w : Nat) : busyBad s .devLedgCmd 0 old v w = false := rfl

/-- The judgement of a write of LEDG_CMD: MGMT only, an axis that exists, and CLR_AXIS in MAINT only. -/
theorem judge_devLedgCmd (s : State) (src : Src) (w : Nat) : judge s src .devLedgCmd 0 w =
    if offMgmt src = true ∨ 48 ≤ bits w 2 6 then 1 else if bit w 1 = true ∧ mode s ≠ mMaint then 2 else 0 := by
  by_cases hm : offMgmt src = true
  · simp [judge_offMgmt, hm]
  · have hw : writable .devLedgCmd = true := by decide
    simp [judge, hm, hw, objThere, mergeVal_devLedgCmd, svBarred_devLedgCmd, accessRules_devLedgCmd, forwards_devLedgCmd,
      modeBad_devLedgCmd, busyBad_devLedgCmd, broken, ruleAll]

/-- A write of LEDG_CMD that is accepted carries out its commands. -/
theorem writeObj_devLedgCmd (s : State) (src : Src) (w : Nat) (h : judge s src .devLedgCmd 0 w = 0) :
    writeObj s src .devLedgCmd 0 w = (ledgCmd s w, 0) := by
  simp [writeObj, h, forwards_devLedgCmd, paramWord, effect]

/-! ## CLR_AXIS (R390) -/

/-- The word that CLR_AXIS of axis `n` writes into LEDG_CMD. -/
def clrAxisWord (n : Fin 48) : Nat := 2 + n.val * 4

theorem clrAxisWord_axis (n : Fin 48) : bits (clrAxisWord n) 2 6 = n := by
  simp only [bits, clrAxisWord]; omega

theorem clrAxisWord_clear (n : Fin 48) : bit (clrAxisWord n) 1 = true := by
  simp only [bit, clrAxisWord, beq_iff_eq]; omega

theorem clrAxisWord_snap (n : Fin 48) : bit (clrAxisWord n) 0 = false := by
  simp only [bit, clrAxisWord, beq_eq_false_iff_ne]; omega

/-- The judgement of CLR_AXIS: MGMT and MAINT only. -/
theorem judge_clrAxisWord (s : State) (src : Src) (n : Fin 48) (hm : offMgmt src = false) :
    judge s src .devLedgCmd 0 (clrAxisWord n) = if mode s = mMaint then 0 else 2 := by
  have hn : ¬ 48 ≤ n.val := by omega
  simp [judge_devLedgCmd, hm, hn, clrAxisWord_axis, clrAxisWord_clear]

/-- CLR_AXIS sets the ledger of its axis to 0 and takes no snapshot. -/
theorem ledgCmd_clrAxisWord (s : State) (n : Fin 48) : ledgCmd s (clrAxisWord n) = setObj s .axLedger n 0 := by
  simp [ledgCmd, clrAxisWord_clear, clrAxisWord_snap, clrAxisWord_axis, ledgClear]

/-- While CORE runs, LEDGER_CLR_AXIS is a write of its word into LEDG_CMD. -/
theorem exec_ledgerClrAxis (s : State) (src : Src) (n : Fin 48) (core : coreRuns s = true) :
    exec (.ledgerClrAxis src n) s = writeCmd s src .devLedgCmd 0 (clrAxisWord n) :=
  clocked_run s _ core

section
variable (s : State) (src : Src) (n : Fin 48) (core : coreRuns s = true) (room : tooMany (takeMsg s src) src = false)
include core room

/-- CLR_AXIS in MAINT clears the ledger of its axis. -/
theorem ledgerClrAxis_clears (hmode : mode s = mMaint) (hm : offMgmt src = false) :
    EndsAnswered s (.ledgerClrAxis src n) (setObj s .axLedger n 0) := by
  have hj : judge (takeMsg s src) src .devLedgCmd 0 (clrAxisWord n) = 0 := by simp [judge_clrAxisWord, hm, hmode]
  obtain ⟨t, ht, ha⟩ := writeCmd_answered s src .devLedgCmd 0 (clrAxisWord n) room
  rw [writeObj_devLedgCmd _ _ _ hj, ledgCmd_clrAxisWord] at ha
  exact ⟨t, (exec_ledgerClrAxis s src n core).trans ht, (answered_setObj_takeMsg s src _ _ _).trans ha⟩

/-- A refused CLR_AXIS clears nothing. -/
theorem ledgerClrAxis_refused (h : judge (takeMsg s src) src .devLedgCmd 0 (clrAxisWord n) ≠ 0) :
    EndsAnswered s (.ledgerClrAxis src n) s := by
  rw [EndsAnswered, Completes, exec_ledgerClrAxis s src n core]
  exact writeCmd_refused s src _ _ _ room h

end

/-- Settles O38: the judgement of LEDG_CMD lets CLR_AXIS pass in MAINT only, where it writes the ledger object of its axis, and
the ledger objects of the device and of the links have no field that a write can take. -/
theorem ledgerCleared : Obligations.LedgerCleared := by
  intro s src n core room
  refine ⟨fun hmode hm => ⟨ledgerClrAxis_clears s src n core room hmode hm, getObj_setObj_same _ _ _ _,
    fun o i hne => getObj_setObj_ne _ _ _ _ _ _ hne⟩, fun hmode => ?_, fun hoff => ?_, fun i w => ?_⟩
  · have hj (hm : offMgmt src = false) : judge (takeMsg s src) src .devLedgCmd 0 (clrAxisWord n) = 2 := by
      simp [judge_clrAxisWord, hm, hmode]
    refine ⟨ledgerClrAxis_refused s src n core room ?_, hj⟩
    cases hm : offMgmt src with
    | true => simp [judge_offMgmt, hm]
    | false => simp [hj hm]
  · exact ledgerClrAxis_refused s src n core room (by simp [judge_offMgmt, hoff])
  · exact ⟨judge_readOnly _ _ _ _ _ devLedger_readOnly, judge_readOnly _ _ _ _ _ lkLedger_readOnly⟩

end Sys2Proof.Machine
end

section
/-!
Proofs about the words of the supervisor's instructions (R359, R360): for each format, what its fields are worth in a word, that a
word of the format decodes to its fields, and that a word the format accepts is the word of the fields read from it.
-/

namespace Sys2Proof

/-- Word `w` fits 32 bits and decodes to instruction `c`. -/
structure Reads (w : Nat) (c : Instr) : Prop where
  fits : w < 2 ^ 32
  decodes : svDecode w = some c

/-! ## The fields of a word -/

/-- The field at bit `lo` of a word whose bits from `lo` on are `r` and, above four bits, `hi`. -/
theorem regAt_of_fields {w lo hi low : Nat} (r : Reg) (hw : w = (hi * 16 + r.val) * 2 ^ lo + low) (hlow : low < 2 ^ lo) :
    regAt w lo = r := by
  have hq : w / 2 ^ lo = hi * 16 + r.val := by
    rw [hw, Nat.add_comm, Nat.add_mul_div_right _ _ (Nat.two_pow_pos lo), Nat.div_eq_of_lt hlow, Nat.zero_add]
  apply Fin.ext
  simp only [regAt, hq, Fin.val_ofNat]
  omega

theorem regAt_val (w lo : Nat) : (regAt w lo).val = w / 2 ^ lo % 16 := rfl

theorem ofNat_of_fields {n w hi : Nat} (x : BitVec n) (hw : w = hi * 2 ^ n + x.toNat) : BitVec.ofNat n w = x := by
  apply BitVec.eq_of_toNat_eq
  rw [hw, BitVec.toNat_ofNat, Nat.mul_add_mod_self_right, Nat.mod_eq_of_lt x.isLt]

theorem wordI_op (op : Nat) (r a : Reg) (imm : BitVec 18) : wordI op r a imm / 2 ^ 26 = op := by
  have := imm.isLt; simp only [wordI]; omega

theorem wordR_eq_wordI (op : Nat) (d a b : Reg) :
    wordR op d a b = wordI op d a (BitVec.ofNat 18 (b.val * 2 ^ 14)) := by
  have : b.val * 2 ^ 14 % 2 ^ 18 = b.val * 2 ^ 14 := by omega
  simp only [wordR, wordI, BitVec.toNat_ofNat, this]

theorem wordI_lt {op : Nat} (r a : Reg) (imm : BitVec 18) (hop : op < 64) : wordI op r a imm < 2 ^ 32 := by
  have := imm.isLt; simp only [wordI]; omega

theorem regAt_wordI_first (op : Nat) (r a : Reg) (imm : BitVec 18) : regAt (wordI op r a imm) 22 = r :=
  regAt_of_fields (hi := op) (low := a.val * 2 ^ 18 + imm.toNat) r (by simp only [wordI]; omega) (by have := imm.isLt; omega)

theorem regAt_wordI_second (op : Nat) (r a : Reg) (imm : BitVec 18) : regAt (wordI op r a imm) 18 = a :=
  regAt_of_fields (hi := op * 16 + r.val) (low := imm.toNat) a (by simp only [wordI]; omega) (by have := imm.isLt; omega)

theorem ofNat_wordI (op : Nat) (r a : Reg) (imm : BitVec 18) : BitVec.ofNat 18 (wordI op r a imm) = imm :=
  ofNat_of_fields (hi := op * 256 + r.val * 16 + a.val) imm (by simp only [wordI]; omega)

/-! ## A word of a format decodes to its fields -/

theorem reads_wordI {op : Nat} {mk : Reg → Reg → BitVec 18 → Instr} (r a : Reg) (imm : BitVec 18) (hop : op < 64)
    (h : ∀ w, w / 2 ^ 26 = op → svDecode w = fmtI mk w) : Reads (wordI op r a imm) (mk r a imm) where
  fits := wordI_lt r a imm hop
  decodes := by
    rw [h _ (wordI_op ..), fmtI, regAt_wordI_first, regAt_wordI_second, ofNat_wordI]

theorem reads_wordI_shift {op : Nat} {mk : Reg → Reg → BitVec 18 → Instr} (r a : Reg) (imm : BitVec 18) (hop : op < 64)
    (hs : shiftFits imm = true) (h : ∀ w, w / 2 ^ 26 = op → svDecode w = fmtShift mk w) :
    Reads (wordI op r a imm) (mk r a imm) where
  fits := wordI_lt r a imm hop
  decodes := by
    have hlow : wordI op r a imm % 2 ^ 18 < 32 := by
      have hm : wordI op r a imm % 2 ^ 18 = imm.toNat := by
        rw [← BitVec.toNat_ofNat, ofNat_wordI]
      simp only [shiftFits, decide_eq_true_eq] at hs
      rwa [hm]
    rw [h _ (wordI_op ..), fmtShift, if_pos hlow, fmtI, regAt_wordI_first, regAt_wordI_second, ofNat_wordI]

theorem reads_wordR {op : Nat} {mk : Reg → Reg → Reg → Instr} (d a b : Reg) (hop : op < 64)
    (h : ∀ w, w / 2 ^ 26 = op → svDecode w = fmtR mk w) : Reads (wordR op d a b) (mk d a b) where
  fits := wordR_eq_wordI op d a b ▸ wordI_lt _ _ _ hop
  decodes := by
    have hb : regAt (wordR op d a b) 14 = b :=
      regAt_of_fields (hi := op * 256 + d.val * 16 + a.val) (low := 0) b (by simp only [wordR]; omega) (Nat.two_pow_pos 14)
    have hz : wordR op d a b % 2 ^ 14 = 0 := by simp only [wordR]; omega
    rw [h _ (by rw [wordR_eq_wordI, wordI_op]), fmtR, if_pos hz, hb, wordR_eq_wordI, regAt_wordI_first, regAt_wordI_second]

theorem reads_wordU {op : Nat} {mk : Reg → BitVec 16 → Instr} (d : Reg) (imm : BitVec 16) (hop : op < 64)
    (h : ∀ w, w / 2 ^ 26 = op → svDecode w = fmtU mk w) : Reads (wordU op d imm) (mk d imm) where
  fits := by have := imm.isLt; simp only [wordU]; omega
  decodes := by
    have hi := imm.isLt
    have hd : regAt (wordU op d imm) 22 = d :=
      regAt_of_fields (hi := op) (low := imm.toNat) d (by simp only [wordU]; omega) (by omega)
    have hz : wordU op d imm / 2 ^ 16 % 2 ^ 6 = 0 := by simp only [wordU]; omega
    rw [h _ (by simp only [wordU]; omega), fmtU, if_pos hz, hd,
      ofNat_of_fields (hi := op * 2 ^ 10 + d.val * 2 ^ 6) imm (by simp only [wordU]; omega)]

theorem reads_wordQ (d a b : Reg) (k : BitVec 7) : Reads (wordQ d a b k) (.qpush d a b k) where
  fits := by have := k.isLt; simp only [wordQ, wordR]; omega
  decodes := by
    have hk := k.isLt
    have hop : wordQ d a b k / 2 ^ 26 = 0x31 := by simp only [wordQ, wordR]; omega
    have hz : wordQ d a b k / 2 ^ 7 % 2 ^ 7 = 0 := by simp only [wordQ, wordR]; omega
    have hd : regAt (wordQ d a b k) 22 = d := regAt_of_fields (hi := 0x31) (low := a.val * 2 ^ 18 + b.val * 2 ^ 14 + k.toNat) d
      (by simp only [wordQ, wordR]; omega) (by omega)
    have ha : regAt (wordQ d a b k) 18 = a := regAt_of_fields (hi := 0x310 + d.val) (low := b.val * 2 ^ 14 + k.toNat) a
      (by simp only [wordQ, wordR]; omega) (by omega)
    have hb : regAt (wordQ d a b k) 14 = b := regAt_of_fields (hi := 0x3100 + d.val * 16 + a.val) (low := k.toNat) b
      (by simp only [wordQ, wordR]; omega) (by omega)
    simp only [svDecode, hop, fmtQ, if_pos hz, hd, ha, hb]
    rw [ofNat_of_fields (hi := 0x31 * 2 ^ 19 + d.val * 2 ^ 15 + a.val * 2 ^ 11 + b.val * 2 ^ 7) k
      (by simp only [wordQ, wordR]; omega)]

theorem reads_jump {op : Nat} {mk : BitVec 26 → Instr} (off : BitVec 26) (hop : op < 64)
    (h : ∀ w, w / 2 ^ 26 = op → svDecode w = some (mk (BitVec.ofNat 26 w))) : Reads (op * 2 ^ 26 + off.toNat) (mk off) where
  fits := by have := off.isLt; omega
  decodes := by rw [h _ (by have := off.isLt; omega), ofNat_of_fields (hi := op) off rfl]

theorem reads_csr {op : Nat} {mk : Reg → BitVec 18 → Instr} (r : Reg) (csr : BitVec 18) (hop : op < 64)
    (h : ∀ w, w / 2 ^ 26 = op → svDecode w = fmtCsr mk w) : Reads (wordI op r 0 csr) (mk r csr) where
  fits := wordI_lt r 0 csr hop
  decodes := by
    have hz : wordI op r 0 csr / 2 ^ 18 % 16 = 0 := by
      rw [← regAt_val, regAt_wordI_second]; rfl
    rw [h _ (wordI_op ..), fmtCsr, if_pos hz, regAt_wordI_first, ofNat_wordI]

theorem reads_csrBits {op : Nat} {mk : BitVec 18 → Reg → Instr} (csr : BitVec 18) (r : Reg) (hop : op < 64)
    (h : ∀ w, w / 2 ^ 26 = op → svDecode w = fmtCsrBits mk w) : Reads (wordI op r 0 csr) (mk csr r) where
  fits := wordI_lt r 0 csr hop
  decodes := by rw [h _ (wordI_op ..), fmtCsrBits, regAt_wordI_first, ofNat_wordI]

theorem reads_jr (a : Reg) : Reads (wordR 0x28 0 a 0) (.jr a) where
  fits := by simp only [wordR]; omega
  decodes := by
    have hop : wordR 0x28 0 a 0 / 2 ^ 26 = 0x28 := by simp only [wordR]; omega
    have hz : wordR 0x28 0 a 0 % 2 ^ 18 = 0 ∧ wordR 0x28 0 a 0 / 2 ^ 22 % 16 = 0 := by simp only [wordR]; omega
    have ha : regAt (wordR 0x28 0 a 0) 18 = a :=
      regAt_of_fields (hi := 0x280) (low := 0) a (by simp only [wordR]; omega) (Nat.two_pow_pos 18)
    simp only [svDecode, hop, if_pos hz]
    exact congrArg (fun r => some (Instr.jr r)) ha

theorem reads_trap (code : BitVec 16) : Reads (wordU 0x2B 0 code) (.trap code) where
  fits := by have := code.isLt; simp only [wordU]; omega
  decodes := by
    have hc := code.isLt
    have hop : wordU 0x2B 0 code / 2 ^ 26 = 0x2B := by simp only [wordU]; omega
    have hz : wordU 0x2B 0 code / 2 ^ 16 % 2 ^ 10 = 0 := by simp only [wordU]; omega
    unfold svDecode
    rw [hop]
    exact (if_pos hz).trans (congrArg (fun x => some (Instr.trap x)) (ofNat_of_fields (hi := 0x2B * 2 ^ 10) code
      (congrArg (· + code.toNat) (show 0x2B * 2 ^ 26 + (0 : Reg).val * 2 ^ 22 = 0x2B * 2 ^ 10 * 2 ^ 16 by decide))))

/-- The word of a well-formed instruction decodes to it. -/
theorem reads_of_svEncode {c : Instr} {w : Nat} (hc : c.wf = true) (h : svEncode c = some w) : Reads w c := by
  cases c
  case add | sub | and | or | xor | shl | shr | sra | slt | sltu | mul | mulh | div | divu | rem =>
    cases h; exact reads_wordR _ _ _ (by omega) (fun w hw => by unfold svDecode; rw [hw]; rfl)
  case shli | shri | srai =>
    cases h; exact reads_wordI_shift _ _ _ (by omega) hc (fun w hw => by unfold svDecode; rw [hw]; rfl)
  case lui => cases h; exact reads_wordU _ _ (by omega) (fun w hw => by unfold svDecode; rw [hw]; rfl)
  case j | jal => cases h; exact reads_jump _ (by omega) (fun w hw => by unfold svDecode; rw [hw]; rfl)
  case jr => cases h; exact reads_jr _
  case reti | wfi => cases h; exact ⟨by decide, by decide⟩
  case trap => cases h; exact reads_trap _
  case csrr => cases h; exact reads_csr _ _ (by omega) (fun w hw => by unfold svDecode; rw [hw]; rfl)
  case csrw =>
    cases h; exact reads_csr (mk := fun r csr => .csrw csr r) _ _ (by omega) (fun w hw => by unfold svDecode; rw [hw]; rfl)
  case csrs | csrc => cases h; exact reads_csrBits _ _ (by omega) (fun w hw => by unfold svDecode; rw [hw]; rfl)
  case qpush => cases h; exact reads_wordQ _ _ _ _
  case addi | andi | ori | slti | lw | lh | lhu | lb | lbu | sw | sh | sb | beq | bne | blt | bge | bltu | bgeu | jalr =>
    cases h; exact reads_wordI _ _ _ (by omega) (fun w hw => by unfold svDecode; rw [hw]; rfl)
  all_goals cases h

/-! ## A word that decodes is the word of what it decodes to -/

/-- Every instruction that `o` reads from a word is well-formed, and its word is `w`. -/
def Spells (w : Nat) (o : Option Instr) : Prop := ∀ c, o = some c → c.wf = true ∧ svEncode c = some w

theorem spells_none (w : Nat) : Spells w none := fun _ h => by cases h

theorem spells_some {w : Nat} {c : Instr} (hc : c.wf = true) (he : svEncode c = some w) : Spells w (some c) := by
  rintro _ ⟨⟩; exact ⟨hc, he⟩

theorem spells_ite {w : Nat} {p : Prop} [Decidable p] {o : Option Instr} (h : p → Spells w o) :
    Spells w (if p then o else none) := by
  split
  · exact h ‹_›
  · exact spells_none w

theorem wordI_fields (w : Nat) :
    wordI (w / 2 ^ 26) (regAt w 22) (regAt w 18) (BitVec.ofNat 18 w) = w := by
  simp only [wordI, regAt_val, BitVec.toNat_ofNat]; omega

theorem spells_fmtI {w : Nat} {mk : Reg → Reg → BitVec 18 → Instr}
    (hwf : (mk (regAt w 22) (regAt w 18) (BitVec.ofNat 18 w)).wf = true)
    (h : ∀ r a imm, svEncode (mk r a imm) = some (wordI (w / 2 ^ 26) r a imm)) : Spells w (fmtI mk w) :=
  spells_some hwf (by rw [h, wordI_fields])

theorem spells_fmtShift {w : Nat} {mk : Reg → Reg → BitVec 18 → Instr}
    (hwf : ∀ r a imm, (mk r a imm).wf = shiftFits imm)
    (h : ∀ r a imm, svEncode (mk r a imm) = some (wordI (w / 2 ^ 26) r a imm)) : Spells w (fmtShift mk w) :=
  spells_ite (fun hs => spells_fmtI (by rw [hwf, shiftFits, BitVec.toNat_ofNat, decide_eq_true hs]) h)

theorem spells_fmtR {w : Nat} {mk : Reg → Reg → Reg → Instr} (hwf : ∀ d a b, (mk d a b).wf = true)
    (h : ∀ d a b, svEncode (mk d a b) = some (wordR (w / 2 ^ 26) d a b)) : Spells w (fmtR mk w) :=
  spells_ite (fun hz => spells_some (hwf _ _ _) (by
    rw [h]; simp only [wordR, regAt_val]; congr 1; omega))

theorem spells_fmtU {w : Nat} {mk : Reg → BitVec 16 → Instr} (hwf : ∀ d imm, (mk d imm).wf = true)
    (h : ∀ d imm, svEncode (mk d imm) = some (wordU (w / 2 ^ 26) d imm)) : Spells w (fmtU mk w) :=
  spells_ite (fun hz => spells_some (hwf _ _) (by
    rw [h]; simp only [wordU, regAt_val, BitVec.toNat_ofNat]; congr 1; omega))

theorem spells_fmtCsr {w : Nat} {mk : Reg → BitVec 18 → Instr} (hwf : ∀ r csr, (mk r csr).wf = true)
    (h : ∀ r csr, svEncode (mk r csr) = some (wordI (w / 2 ^ 26) r 0 csr)) : Spells w (fmtCsr mk w) :=
  spells_ite (fun hz => spells_some (hwf _ _) (by
    rw [h]; simp only [wordI, regAt_val, BitVec.toNat_ofNat, Fin.val_zero]; congr 1; omega))

/-- The encoder writes 0 into the field ra of a CSRS or CSRC. -/
theorem spells_fmtCsrBits {w : Nat} {mk : BitVec 18 → Reg → Instr} (hwf : ∀ csr r, (mk csr r).wf = true)
    (h : ∀ csr r, svEncode (mk csr r) = some (wordI (w / 2 ^ 26) r 0 csr)) :
    Spells (w - w / 2 ^ 18 % 16 * 2 ^ 18) (fmtCsrBits mk w) :=
  spells_some (hwf _ _) (by
    rw [h]; simp only [wordI, regAt_val, BitVec.toNat_ofNat, Fin.val_zero]; congr 1; omega)

theorem spells_fmtQ {w : Nat} (hop : w / 2 ^ 26 = 0x31) : Spells w (fmtQ w) :=
  spells_ite (fun hz => spells_some rfl (by
    refine congrArg some ?_
    simp only [wordQ, wordR, regAt_val, BitVec.toNat_ofNat]; omega))

theorem spells_jump {w : Nat} {mk : BitVec 26 → Instr} (hwf : ∀ off, (mk off).wf = true)
    (h : ∀ off, svEncode (mk off) = some (w / 2 ^ 26 * 2 ^ 26 + off.toNat)) : Spells w (some (mk (BitVec.ofNat 26 w))) :=
  spells_some (hwf _) (by rw [h, BitVec.toNat_ofNat]; congr 1; omega)

/-- A word that decodes is the word of a well-formed instruction, but for the field ra of CSRS and CSRC. -/
theorem spells_svDecode (w : Nat) :
    Spells (if w / 2 ^ 26 = 0x2F ∨ w / 2 ^ 26 = 0x30 then w - w / 2 ^ 18 % 16 * 2 ^ 18 else w) (svDecode w) := by
  generalize ho : svDecode w = o
  unfold svDecode at ho
  split at ho
  all_goals subst ho
  case h_47 hop | h_48 hop =>
    rw [if_pos (by omega)]
    exact spells_fmtCsrBits (fun _ _ => rfl) (fun _ _ => by rw [hop]; rfl)
  case h_50 => exact spells_none _
  all_goals rw [if_neg (by omega)]
  case h_1 | h_2 | h_3 | h_4 | h_5 | h_6 | h_7 | h_8 | h_9 | h_10 | h_11 | h_12 | h_13 | h_14 | h_15 =>
    exact spells_fmtR (fun _ _ _ => rfl) (fun _ _ _ => by simp only [*]; rfl)
  case h_19 | h_20 | h_21 => exact spells_fmtShift (fun _ _ _ => rfl) (fun _ _ _ => by simp only [*]; rfl)
  case h_23 => exact spells_fmtU (fun _ _ => rfl) (fun _ _ => by simp only [*]; rfl)
  case h_38 | h_39 => exact spells_jump (fun _ => rfl) (fun _ => by simp only [*]; rfl)
  case h_40 hop => exact spells_ite (fun hz => spells_some rfl (by
    refine congrArg some ?_
    simp only [wordR, Fin.val_ofNat, Fin.val_zero]; omega))
  case h_42 hop | h_44 hop => exact spells_ite (fun hz => spells_some rfl (congrArg some (by omega)))
  case h_43 hop => exact spells_ite (fun hz => spells_some rfl (by
    refine congrArg some ?_
    simp only [wordU, BitVec.toNat_ofNat, Fin.val_zero]; omega))
  case h_45 | h_46 => exact spells_fmtCsr (fun _ _ => rfl) (fun _ _ => by simp only [*]; rfl)
  case h_49 hop => exact spells_fmtQ hop
  all_goals exact spells_fmtI rfl (fun _ _ _ => by simp only [*]; rfl)

end Sys2Proof

namespace Sys2Proof.Machine

/-- Settles O59, format by format: the fields of a word that the encoder writes read back, and the fields read from a word of a
format give the word again. -/
theorem svWordsRoundTrip : Obligations.SvWordsRoundTrip := by
  refine ⟨⟨fun c w hc h => ?_, fun c w _ h => spells_svDecode w c h⟩, by decide⟩
  obtain ⟨hfit, hdec⟩ := reads_of_svEncode hc h
  exact ⟨hfit, hdec⟩

end Sys2Proof.Machine
end

section
/-!
Proofs about choices and orders: the trigger a frame boundary takes (R78, R79), the entry a sorted pop takes (R276), the order of
events (R403), and the flows of received frames (R304).
-/

namespace Sys2Proof.Machine

/-! ## Counters -/

/-- A saturating counter counts to its largest value. -/
theorem rd_addSat (s : State) (f : Fld) (i k : Nat) : rd (addSat s f i k) f i = min (rd s f i + k) (2 ^ f.w - 1) := by
  have hp := Nat.two_pow_pos f.w
  rw [addSat, rd_wr_same, Nat.mod_eq_of_lt (by omega)]

theorem rd_incSat (s : State) (f : Fld) (i : Nat) : rd (incSat s f i) f i = min (rd s f i + 1) (2 ^ f.w - 1) := rd_addSat s f i 1

/-! ## The trigger that ranks first (R79) -/

/-- The trigger ranks first among the allowed ones of the list. -/
structure RanksFirst (s : State) (l : List Trig) (w : Trig) : Prop where
  waiting : w ∈ l
  allowed : modeAllows s w.target w.cause = true
  first : ∀ u ∈ l, modeAllows s u.target u.cause = true → targetRank w.target ≤ targetRank u.target

theorem bestTrig_none (s : State) (l : List Trig) (h : bestTrig s l = none) :
    ∀ u ∈ l, modeAllows s u.target u.cause = false := by
  induction l with
  | nil => simp
  | cons t ts ih =>
    rw [bestTrig] at h
    split at h
    case h_1 hts =>
      have ht : modeAllows s t.target t.cause = false := by
        cases hc : modeAllows s t.target t.cause with
        | false => rfl
        | true => rw [if_pos hc] at h; cases h
      exact List.forall_mem_cons.mpr ⟨ht, ih hts⟩
    case h_2 u _ =>
      exact absurd h (by split <;> simp)

theorem bestTrig_some (s : State) (l : List Trig) (w : Trig) (h : bestTrig s l = some w) : RanksFirst s l w := by
  induction l generalizing w with
  | nil => cases h
  | cons t ts ih =>
    rw [bestTrig] at h
    split at h
    case h_1 hts =>
      obtain ⟨ht, rfl⟩ : modeAllows s t.target t.cause = true ∧ t = w := by simpa using h
      refine ⟨List.mem_cons_self, ht, fun u hu ha => ?_⟩
      rcases List.mem_cons.mp hu with rfl | hu
      · exact Nat.le_refl _
      · rw [bestTrig_none s ts hts u hu] at ha; cases ha
    case h_2 v hv =>
      obtain ⟨hmem, hall, hmin⟩ := ih v hv
      split at h
      case isTrue hc =>
        cases h
        obtain ⟨ht, hle⟩ : modeAllows s t.target t.cause = true ∧ targetRank t.target ≤ targetRank v.target := by
          simpa using hc
        refine ⟨List.mem_cons_self, ht, fun u hu ha => ?_⟩
        rcases List.mem_cons.mp hu with rfl | hu
        · exact Nat.le_refl _
        · exact Nat.le_trans hle (hmin u hu ha)
      case isFalse hc =>
        cases h
        refine ⟨List.mem_cons_of_mem _ hmem, hall, fun u hu ha => ?_⟩
        rcases List.mem_cons.mp hu with rfl | hu
        · have hlt : ¬ targetRank u.target ≤ targetRank w.target := by simpa [ha] using hc
          omega
        · exact hmin u hu ha

/-- Settles O8, by induction on the list of waiting triggers. -/
theorem bestTrigger : Obligations.BestTrigger := by
  refine fun s l => ⟨fun w h => ?_, bestTrig_none s l⟩
  obtain ⟨hmem, hall, hmin⟩ := bestTrig_some s l w h
  exact ⟨hmem, hall, hmin⟩

/-! ## The entry a sorted pop takes (R276) -/

theorem sPick_eq_none (es : List SEntry) (k : Nat) : sPick es k = none ↔ es = [] := by
  cases es with
  | nil => simp [sPick]
  | cons e es =>
    simp only [sPick, reduceCtorEq, iff_false]
    split
    · simp
    · split <;> simp

/-- Entry `e` at place `i` comes first: no entry has a lower priority value, none before it the same. -/
structure PicksFirst (es : List SEntry) (i : Nat) (e : SEntry) : Prop where
  here : es[i]? = some e
  first : ∀ (j : Nat) (f : SEntry), es[j]? = some f → sPrio e ≤ sPrio f ∧ (sPrio e = sPrio f → i ≤ j)

theorem picksFirst_head {e : SEntry} {es : List SEntry} (h : ∀ f ∈ es, sPrio e ≤ sPrio f) : PicksFirst (e :: es) 0 e where
  here := rfl
  first
    | 0, f, hf => by cases hf; simp
    | j + 1, f, hf => ⟨h f (List.mem_of_getElem? (by simpa using hf)), fun _ => Nat.zero_le _⟩

theorem picksFirst_tail {e f : SEntry} {es : List SEntry} {i : Nat} (h : PicksFirst es i f) (hlt : sPrio f < sPrio e) :
    PicksFirst (e :: es) (i + 1) f where
  here := by simpa using h.here
  first
    | 0, g, hg => by cases hg; omega
    | j + 1, g, hg => by
      obtain ⟨hle, hfst⟩ := h.first j g (by simpa using hg)
      exact ⟨hle, fun he => Nat.succ_le_succ (hfst he)⟩

theorem sPick_some (es : List SEntry) (k j : Nat) (e : SEntry) (h : sPick es k = some (j, e)) :
    ∃ i, j = k + i ∧ PicksFirst es i e := by
  induction es generalizing k j e with
  | nil => cases h
  | cons f fs ih =>
    rw [sPick] at h
    split at h
    case h_1 hfs =>
      cases h
      obtain rfl := (sPick_eq_none fs _).mp hfs
      exact ⟨0, rfl, picksFirst_head (by simp)⟩
    case h_2 i g hg =>
      obtain ⟨i, rfl, hp⟩ := ih _ _ _ hg
      split at h
      case isTrue hle =>
        cases h
        refine ⟨0, rfl, picksFirst_head (fun x hx => ?_)⟩
        obtain ⟨n, hn⟩ := List.mem_iff_getElem?.mp hx
        exact Nat.le_trans hle (hp.first n x hn).1
      case isFalse hlt =>
        cases h
        exact ⟨i + 1, by omega, picksFirst_tail hp (by omega)⟩

/-- Settles O31, by induction on the entries: the head wins against the choice of the rest unless that has a lower value. -/
theorem sortedOrder : Obligations.SortedOrder := by
  refine fun es => ⟨sPick_eq_none es 0, fun i e h => ?_⟩
  obtain ⟨j, rfl, hp⟩ := sPick_some es 0 i e h
  rw [Nat.zero_add]
  exact ⟨hp.here, hp.first⟩

/-! ## The order of events (R403) -/

theorem evLe_iff (a b : Ev) : evLe a b = true ↔ a.code < b.code ∨ a.code = b.code ∧ a.axis ≤ b.axis := by simp [evLe]

theorem evLe_total (a b : Ev) (h : ¬ evLe a b = true) : evLe b a = true := by
  rw [evLe_iff] at *; omega

theorem evLe_trans {a b c : Ev} (h : evLe a b = true) (k : evLe b c = true) : evLe a c = true := by
  rw [evLe_iff] at *; omega

theorem evInsert_perm (e : Ev) (es : List Ev) : (evInsert e es).Perm (e :: es) := by
  induction es with
  | nil => rfl
  | cons f fs ih =>
    rw [evInsert]
    split
    · exact (ih.cons f).trans (List.Perm.swap e f fs)
    · rfl

theorem evInsert_pairwise (e : Ev) (es : List Ev) (h : es.Pairwise (fun a b => evLe a b = true)) :
    (evInsert e es).Pairwise (fun a b => evLe a b = true) := by
  induction es with
  | nil => simp [evInsert]
  | cons f fs ih =>
    obtain ⟨hf, hfs⟩ := List.pairwise_cons.mp h
    rw [evInsert]
    split
    case isTrue hle =>
      refine List.pairwise_cons.mpr ⟨fun x hx => ?_, ih hfs⟩
      rcases List.mem_cons.mp ((evInsert_perm e fs).mem_iff.mp hx) with rfl | hx
      · exact hle
      · exact hf x hx
    case isFalse hgt =>
      refine List.pairwise_cons.mpr ⟨fun x hx => ?_, h⟩
      rcases List.mem_cons.mp hx with rfl | hx
      · exact evLe_total _ _ hgt
      · exact evLe_trans (evLe_total _ _ hgt) (hf x hx)

/-- The events of code `c` and axis `n`. -/
def evsOf (c n : Nat) (es : List Ev) : List Ev := es.filter (fun e => e.code == c && e.axis == n)

/-- In a sorted list whose head goes behind `e`, no event has the code and axis of `e`. -/
theorem evsOf_eq_nil {e f : Ev} {fs : List Ev} (h : (f :: fs).Pairwise (fun a b => evLe a b = true)) (hgt : ¬ evLe f e = true) :
    evsOf e.code e.axis (f :: fs) = [] := by
  refine List.filter_eq_nil_iff.mpr (fun x hx he => hgt ?_)
  obtain ⟨hc, hn⟩ : x.code = e.code ∧ x.axis = e.axis := by simpa using he
  have hfx : x = f ∨ evLe f x = true := (List.mem_cons.mp hx).imp_right (fun hx => List.rel_of_pairwise_cons h hx)
  rcases hfx with rfl | hfx
  · rw [evLe_iff]; omega
  · rw [evLe_iff] at hfx ⊢; omega

/-- An event goes behind the events of its code and axis. -/
theorem evsOf_evInsert (c n : Nat) (e : Ev) (es : List Ev) (h : es.Pairwise (fun a b => evLe a b = true)) :
    evsOf c n (evInsert e es) = evsOf c n es ++ evsOf c n [e] := by
  induction es with
  | nil => rfl
  | cons f fs ih =>
    rw [evInsert]
    split
    case isTrue =>
      have ih' := ih (List.pairwise_cons.mp h).2
      simp only [evsOf, List.filter_cons] at ih' ⊢
      split <;> simp [ih']
    case isFalse hgt =>
      by_cases he : e.code = c ∧ e.axis = n
      · obtain ⟨rfl, rfl⟩ := he
        have hnil := evsOf_eq_nil h hgt
        simp only [evsOf] at hnil ⊢
        simp [hnil]
      · simp [evsOf, List.filter_cons, he]

theorem evSort_perm (es : List Ev) : (evSort es).Perm es := by
  induction es with
  | nil => rfl
  | cons e es ih => exact (evInsert_perm e _).trans (ih.cons e)

theorem evSort_pairwise (es : List Ev) : (evSort es).Pairwise (fun a b => evLe a b = true) := by
  induction es with
  | nil => exact List.Pairwise.nil
  | cons e es ih => exact evInsert_pairwise e _ ih

/-- Sorting the reversed list keeps the order of the events of one code and axis. -/
theorem evsOf_evSort (c n : Nat) (es : List Ev) : evsOf c n (evSort es) = evsOf c n es.reverse := by
  induction es with
  | nil => rfl
  | cons e es ih =>
    rw [evSort, evsOf_evInsert c n e _ (evSort_pairwise es), ih, List.reverse_cons]
    simp only [evsOf, List.filter_append]

theorem holdEvent_room (s : State) (e : Ev) (h : s.ctl.evPre.length < 16) :
    holdEvent s e = { s with ctl := { s.ctl with evPre := s.ctl.evPre ++ [e] } } := by
  simp [holdEvent, h]

theorem holdEvent_lost (s : State) (e : Ev) (h : 16 ≤ s.ctl.evPre.length) : holdEvent s e = incSat s F.devEvStat_PRE_LOST 0 := by
  simp [holdEvent, Nat.not_lt.mpr h]

/-- Settles O57: insertion keeps the multiset and the order, and puts an event behind those of its code and axis; the events
of a command stand in reverse, so the earliest is inserted last. -/
theorem eventOrder : Obligations.EventOrder := by
  refine ⟨fun es => ⟨(evSort_perm _).trans es.reverse_perm, ?_, fun c n => ?_⟩, fun s e => ⟨holdEvent_room s e, fun h => ?_⟩,
    fun s e => ?_⟩
  · exact (evSort_pairwise _).imp (fun {a b} h => (evLe_iff a b).mp h)
  · have h := evsOf_evSort c n es.reverse
    rwa [List.reverse_reverse] at h
  · rw [holdEvent_lost s e h]
    exact ⟨wr_ctl .., rd_incSat s F.devEvStat_PRE_LOST 0⟩
  · refine ⟨s.ctl.evLog.drop (s.ctl.evLog.length + 1 - 4096), ?_, ?_, List.drop_suffix _ _⟩
    · simp only [logEvent, List.length_append, List.length_singleton]
      rw [List.drop_append_of_le_length (by omega)]
    · simp only [logEvent, List.length_drop, List.length_append, List.length_singleton]; omega

/-! ## Flows (R304) -/

theorem flowOf_putFlow (s : State) (k : FlowKey) (h : Nat) : flowOf (putFlow s k h) k = some ⟨k, h, locNs s⟩ := by
  have hnone : (s.fab.flows.filter (fun y => y.key != k)).find? (fun x => x.key == k) = none := by
    rw [List.find?_eq_none]
    intro x hx hk
    simp only [List.mem_filter, bne_iff_ne] at hx
    exact hx.2 (by simpa using hk)
  simp [flowOf, putFlow, List.find?_append, hnone]

/-- What a flow does with a frame it takes: it is the latest of its flow. -/
theorem flowIn_taken (s : State) (h : Hdr) (ht : (flowIn s h).2 = true) :
    ∃ t, (flowIn s h).1 = putFlow t (flowKey h) h.seq := by
  rcases hf : flowOf s (flowKey h) with _ | x
  · simp only [flowIn, hf] at ht ⊢
    split at ht
    case isTrue hroom => exact ⟨s, by rw [if_pos hroom]⟩
    case isFalse hfull =>
      split at ht
      case h_1 t hev => exact ⟨t, by rw [if_neg hfull]⟩
      case h_2 => cases ht
  · simp only [flowIn, hf] at ht ⊢
    split at ht
    case isTrue hd => exact ⟨_, by rw [if_pos hd]⟩
    case isFalse => split at ht <;> cases ht

/-- A known flow takes a frame exactly if its sequence lies 1 to 32,767 after the latest. -/
theorem flowIn_known (s : State) (h : Hdr) (x : Flow) (hx : flowOf s (flowKey h) = some x) :
    (flowIn s h).2 = true ↔ 1 ≤ (h.seq + 65536 - x.h) % 65536 ∧ (h.seq + 65536 - x.h) % 65536 ≤ 32767 := by
  simp only [flowIn, hx]
  split
  case isTrue hd => simpa using hd
  case isFalse hd => split <;> simp only [Bool.false_eq_true, hd]

theorem flowIn_new (s : State) (h : Hdr) (hn : flowOf s (flowKey h) = none) (hlen : s.fab.flows.length < flowMax) :
    (flowIn s h).2 = true := by
  simp only [flowIn, hn, hlen, if_true]

/-- Settles O43: a frame that is taken is its flow's latest, at distance 0 from itself. -/
theorem flowTakesOnce : Obligations.FlowTakesOnce := by
  refine fun s h hseq => ⟨fun ht => ?_, flowIn_known s h, flowIn_new s h⟩
  obtain ⟨t, he⟩ := flowIn_taken s h ht
  have hf : flowOf (flowIn s h).1 (flowKey h) = some ⟨flowKey h, h.seq, locNs t⟩ := by rw [he, flowOf_putFlow]
  refine ⟨⟨_, hf, rfl⟩, Bool.eq_false_iff.mpr (fun hagain => ?_)⟩
  have hd := ((flowIn_known _ h _ hf).mp hagain).1
  simp only [Nat.add_sub_cancel_left] at hd
  omega

end Sys2Proof.Machine
end

section
/-!
Proofs about the fields of a written word (R7, R8, R9, R434): the bits of a field after a write, over the fields of an object,
which do not overlap.
-/

namespace Sys2Proof.Machine

/-! ## Bits of a word -/

theorem bit_eq_testBit (v k : Nat) : bit v k = v.testBit k := by
  rw [bit, Nat.testBit_eq_decide_div_mod_eq]; rfl

theorem testBit_bits (v lo w k : Nat) : (bits v lo w).testBit k = (decide (k < w) && v.testBit (lo + k)) := by
  rw [bits, Nat.testBit_mod_two_pow, Nat.testBit_div_two_pow, Nat.add_comm]

/-- A bit of a word is a bit of the field it lies in. -/
theorem bit_of_bits (v lo w k : Nat) (h : k < w) : bit v (lo + k) = bit (bits v lo w) k := by
  rw [bit_eq_testBit, bit_eq_testBit, testBit_bits, decide_eq_true h, Bool.true_and]

theorem bits_one (v k : Nat) : bit v k = (bits v k 1 == 1) := by simp [bit, bits]

/-- A bit outside the field written keeps its value. -/
theorem bit_setBits_outside (v lo w x k : Nat) (h : k < lo ∨ lo + w ≤ k) : bit (setBits v lo w x) k = bit v k := by
  rw [bits_one, bits_one]
  cases h with
  | inl h => rw [bits_setBits_below _ _ _ _ _ _ (by omega)]
  | inr h => rw [bits_setBits_above _ _ _ _ _ _ h]

/-! ## One field (R7, R434) -/

/-- Two fields of an object share no bit. -/
def apart (f g : FieldRow) : Bool := decide (f.lo + f.w ≤ g.lo ∨ g.lo + g.w ≤ f.lo)

/-- What a write makes of the value of a field. -/
def newField (otp : Bool) (acc : Acc) (old new : Nat) : Nat :=
  match acc with
  | .rw => new
  | .rwm => if otp then old ||| new else new
  | .w1c => old ^^^ (old &&& new)
  | _ => old

theorem newField_lt {otp : Bool} {acc : Acc} {old new w : Nat} (ho : old < 2 ^ w) (hn : new < 2 ^ w) :
    newField otp acc old new < 2 ^ w := by
  cases acc with
  | rw => exact hn
  | rwm => cases otp with
    | true => exact Nat.or_lt_two_pow ho hn
    | false => exact hn
  | w1c => exact Nat.xor_lt_two_pow ho (Nat.and_lt_two_pow _ hn)
  | ro | rc | wo => exact ho

/-- A write leaves a word, or sets the field. -/
theorem mergeField_cases (otp : Bool) (w v : Nat) (f : FieldRow) :
    mergeField otp w v f = setBits v f.lo f.w (newField otp f.acc (bits v f.lo f.w) (bits w f.lo f.w)) ∨
      (takesWrite f.acc = false ∨ f.acc = .wo) ∧ mergeField otp w v f = v ∧
        newField otp f.acc (bits v f.lo f.w) (bits w f.lo f.w) = bits v f.lo f.w := by
  obtain ⟨lo, wd, acc⟩ := f
  cases acc with
  | rw | rwm | w1c => exact .inl rfl
  | ro | rc => exact .inr ⟨.inl rfl, rfl, rfl⟩
  | wo => exact .inr ⟨.inr rfl, rfl, rfl⟩

/-- The field itself takes its new value. -/
theorem bits_mergeField (otp : Bool) (w v : Nat) (f : FieldRow) :
    bits (mergeField otp w v f) f.lo f.w = newField otp f.acc (bits v f.lo f.w) (bits w f.lo f.w) := by
  rcases mergeField_cases otp w v f with h | ⟨-, h, hn⟩
  · rw [h, bits_setBits_same, Nat.mod_eq_of_lt (newField_lt (bits_lt ..) (bits_lt ..))]
  · rw [h, hn]

/-- A field apart from it keeps its value. -/
theorem bits_mergeField_apart (otp : Bool) (w v : Nat) (f g : FieldRow) (h : apart f g = true) :
    bits (mergeField otp w v f) g.lo g.w = bits v g.lo g.w := by
  simp only [apart, decide_eq_true_eq] at h
  rcases mergeField_cases otp w v f with he | ⟨-, he, -⟩
  · rw [he]
    cases h with
    | inl h => exact bits_setBits_above _ _ _ _ _ _ h
    | inr h => exact bits_setBits_below _ _ _ _ _ _ h
  · rw [he]

/-- A bit that the field does not hold, or that no write reaches through it, keeps its value. -/
theorem bit_mergeField (otp : Bool) (w v k : Nat) (f : FieldRow)
    (h : takesWrite f.acc = true → f.acc = .wo ∨ k < f.lo ∨ f.lo + f.w ≤ k) : bit (mergeField otp w v f) k = bit v k := by
  by_cases hk : k < f.lo ∨ f.lo + f.w ≤ k
  · rcases mergeField_cases otp w v f with he | ⟨-, he, -⟩
    · rw [he, bit_setBits_outside _ _ _ _ _ hk]
    · rw [he]
  · obtain ⟨lo, wd, acc⟩ := f
    cases acc with
    | ro | rc | wo => rfl
    | rw | rwm | w1c => exact absurd (h rfl) (by simpa using hk)

/-! ## The fields of an object -/

theorem bit_foldl_mergeField (otp : Bool) (w k : Nat) (fs : List FieldRow) (v : Nat)
    (h : ∀ f ∈ fs, takesWrite f.acc = true → f.acc = .wo ∨ k < f.lo ∨ f.lo + f.w ≤ k) :
    bit (fs.foldl (mergeField otp w) v) k = bit v k := by
  induction fs generalizing v with
  | nil => rfl
  | cons f fs ih =>
    rw [List.foldl_cons, ih _ (fun g hg => h g (List.mem_cons_of_mem _ hg)), bit_mergeField _ _ _ _ _ (h f List.mem_cons_self)]

theorem bits_foldl_apart (otp : Bool) (w : Nat) (g : FieldRow) (fs : List FieldRow) (v : Nat)
    (h : ∀ f ∈ fs, apart f g = true) : bits (fs.foldl (mergeField otp w) v) g.lo g.w = bits v g.lo g.w := by
  induction fs generalizing v with
  | nil => rfl
  | cons f fs ih =>
    rw [List.foldl_cons, ih _ (fun x hx => h x (List.mem_cons_of_mem _ hx)),
      bits_mergeField_apart _ _ _ _ _ (h f List.mem_cons_self)]

theorem apart_comm (f g : FieldRow) : apart f g = apart g f := by simp only [apart, or_comm]

/-- Each of a list of fields without overlap takes its new value. -/
theorem bits_foldl_mergeField (otp : Bool) (w : Nat) (f : FieldRow) (fs : List FieldRow) (v : Nat)
    (hp : fs.Pairwise (fun f g => apart f g = true)) (hf : f ∈ fs) :
    bits (fs.foldl (mergeField otp w) v) f.lo f.w = newField otp f.acc (bits v f.lo f.w) (bits w f.lo f.w) := by
  induction fs generalizing v with
  | nil => cases hf
  | cons g gs ih =>
    obtain ⟨hg, hgs⟩ := List.pairwise_cons.mp hp
    rw [List.foldl_cons]
    rcases List.mem_cons.mp hf with rfl | hf
    · rw [bits_foldl_apart _ _ _ _ _ (fun x hx => (apart_comm _ _).trans (hg x hx)), bits_mergeField]
    · rw [ih _ hgs hf, bits_mergeField_apart _ _ _ _ _ (hg f hf)]

/-- The fields of an object share no bit. -/
theorem fields_apart (o : ObjId) : (objRow o).fields.Pairwise (fun f g => apart f g = true) := by
  cases o <;> decide

/-- A field of an object after a write. -/
theorem bits_mergeVal (o : ObjId) (old w : Nat) (f : FieldRow) (hf : f ∈ (objRow o).fields) :
    bits (mergeVal o old w) f.lo f.w = newField (isOtp o) f.acc (bits old f.lo f.w) (bits w f.lo f.w) :=
  bits_foldl_mergeField _ _ _ _ _ (fields_apart o) hf

/-- A bit of the new value of a sticky field. -/
theorem bit_newField_w1c (otp : Bool) (old new k : Nat) : bit (newField otp .w1c old new) k = (bit old k && !bit new k) := by
  simp only [newField, bit_eq_testBit, Nat.testBit_xor, Nat.testBit_and]
  cases old.testBit k <;> cases new.testBit k <;> rfl

/-- Settles O34: the fields of an object do not overlap, so each has the value that its access code makes of it. -/
theorem writtenFields : Obligations.WrittenFields := by
  refine fun o old w => ⟨fun k h => bit_foldl_mergeField _ _ _ _ _ h, fun f hf ha => ?_, fun f hf ha ho => ?_,
    fun f hf ha k hk => ?_⟩
  · rw [bits_mergeVal o old w f hf, ha]; rfl
  · rw [bits_mergeVal o old w f hf, ha, ho]; rfl
  · rw [bit_of_bits _ _ _ _ hk, bits_mergeVal o old w f hf, ha, bit_newField_w1c, ← bit_of_bits _ _ _ _ hk,
      ← bit_of_bits _ _ _ _ hk]

end Sys2Proof.Machine
end

section
/-!
Proofs about the ledger's records (R381, R387, R389): the fields of a record's bytes, and what a slot holds after a write.
-/

namespace Sys2Proof.Machine

/-! ## Fields of a byte string -/

/-- A field behind a prefix is a field of the rest. -/
theorem fieldB_append_right (p q : List Byte) (off n : Nat) (h : p.length ≤ off) :
    fieldB (p ++ q) off n = fieldB q (off - p.length) n := by
  obtain ⟨c, rfl⟩ := Nat.le.dest h
  simp only [fieldB, sliceB, List.drop_append, List.drop_of_length_le (Nat.le_add_right p.length c), List.nil_append]

/-- A field within a prefix is a field of the prefix. -/
theorem fieldB_append_left (p q : List Byte) (off n : Nat) (h : off + n ≤ p.length) :
    fieldB (p ++ q) off n = fieldB p off n := by
  simp only [fieldB, sliceB]
  rw [List.drop_append_of_le_length (by omega), List.take_append_of_le_length (by simp; omega)]

/-- The little-endian bytes of a value are a field that holds it. -/
theorem fieldB_leBytes (n v : Nat) : fieldB (leBytes n v) 0 n = v % 256 ^ n := by
  simp only [fieldB, sliceB, List.drop_zero]
  rw [List.take_of_length_le (by simp)]
  simp only [leBytes_length, Nat.sub_self, List.replicate_zero, List.append_nil, leVal_leBytes]

theorem fieldB_leBytes_append (n v : Nat) (q : List Byte) : fieldB (leBytes n v ++ q) 0 n = v % 256 ^ n := by
  rw [fieldB_append_left _ _ _ _ (by simp), fieldB_leBytes]

/-! ## A record (R381) -/

theorem ledgBody_length (serial : Nat) (w : LedgWrite) (h : w.data.length = 1664) : (ledgBody serial w).length = 0x7FC := by
  simp only [ledgBody, List.length_append, leBytes_length, List.length_replicate, h]

theorem ledgRecord_length (serial : Nat) (w : LedgWrite) (h : w.data.length = 1664) : (ledgRecord serial w).length = 0x800 := by
  simp [ledgRecord, ledgBody_length serial w h]

theorem ledgRecord_take (serial : Nat) (w : LedgWrite) (h : w.data.length = 1664) :
    (ledgRecord serial w).take 0x7FC = ledgBody serial w := by
  rw [ledgRecord, List.take_append_of_le_length (by simp [ledgBody_length serial w h]),
    List.take_of_length_le (by simp [ledgBody_length serial w h])]

theorem ledgRecord_crc (serial : Nat) (w : LedgWrite) (h : w.data.length = 1664) :
    fieldB (ledgRecord serial w) 0x7FC 4 = crc32 (ledgBody serial w) := by
  rw [ledgRecord, fieldB_append_right _ _ _ _ (by simp [ledgBody_length serial w h]), ledgBody_length serial w h,
    Nat.sub_self, fieldB_leBytes, show 256 ^ 4 = 2 ^ 32 from rfl, Nat.mod_eq_of_lt (crc32_lt _)]

/-- A field of the body is a field of the record. -/
theorem fieldB_ledgRecord (serial off n : Nat) (w : LedgWrite) (h : w.data.length = 1664) (hn : off + n ≤ 0x7FC) :
    fieldB (ledgRecord serial w) off n = fieldB (ledgBody serial w) off n :=
  fieldB_append_left _ _ _ _ (by rw [ledgBody_length serial w h]; exact hn)

theorem ledgBody_magic (serial : Nat) (w : LedgWrite) : fieldB (ledgBody serial w) 0 4 = 0x47444C43 := by
  simp only [ledgBody, List.append_assoc, fieldB_leBytes_append, Nat.reducePow, Nat.reduceMod]

theorem ledgBody_version (serial : Nat) (w : LedgWrite) : fieldB (ledgBody serial w) 4 2 = 1 := by
  simp only [ledgBody, List.append_assoc, fieldB_append_right, leBytes_length, Nat.reduceLeDiff, Nat.reduceSub,
    fieldB_leBytes_append, Nat.reducePow, Nat.reduceMod]

theorem ledgBody_size (serial : Nat) (w : LedgWrite) : fieldB (ledgBody serial w) 6 2 = 0x800 := by
  simp only [ledgBody, List.append_assoc, fieldB_append_right, leBytes_length, Nat.reduceLeDiff, Nat.reduceSub,
    fieldB_leBytes_append, Nat.reducePow, Nat.reduceMod]

theorem ledgBody_seq (serial : Nat) (w : LedgWrite) : fieldB (ledgBody serial w) 8 4 = w.seq % 2 ^ 32 := by
  simp only [ledgBody, List.append_assoc, fieldB_append_right, leBytes_length, Nat.reduceLeDiff, Nat.reduceSub,
    fieldB_leBytes_append, Nat.reducePow]

theorem ledgBody_serial (serial : Nat) (w : LedgWrite) : fieldB (ledgBody serial w) 12 8 = serial % 2 ^ 64 := by
  simp only [ledgBody, List.append_assoc, fieldB_append_right, leBytes_length, Nat.reduceLeDiff, Nat.reduceSub,
    fieldB_leBytes_append, Nat.reducePow]

/-! ## A slot after a write -/

theorem ledgMem_ledgStore (s : State) (w : LedgWrite) :
    (ledgStore s w).nv.ledgMem = memWrite 0 s.nv.ledgMem (w.slot * 0x800) (ledgRecord s.nv.serial w) := by
  simp only [ledgStore]

theorem ledgSlot_ledgStore_same (s : State) (w : LedgWrite) (h : w.data.length = 1664) :
    ledgSlot (ledgStore s w) w.slot = ledgRecord s.nv.serial w := by
  have hw := memBytes_memWrite 0 s.nv.ledgMem (w.slot * 0x800) (ledgRecord s.nv.serial w)
  rw [ledgRecord_length _ _ h] at hw
  rw [ledgSlot, ledgMem_ledgStore, hw]

theorem ledgSlot_ledgStore_ne (s : State) (w : LedgWrite) (k : Nat) (h : w.data.length = 1664) (hk : k ≠ w.slot) :
    ledgSlot (ledgStore s w) k = ledgSlot s k := by
  rw [ledgSlot, ledgMem_ledgStore, memBytes_memWrite_ne _ _ _ _ _ _ (by rw [ledgRecord_length _ _ h]; omega), ledgSlot]

theorem ledgTorn_ledgStore_same (s : State) (w : LedgWrite) : (ledgStore s w).nv.ledgTorn.contains w.slot = false := by
  simp [ledgStore]

theorem ledgTorn_ledgStore_ne (s : State) (w : LedgWrite) (k : Nat) (hk : k ≠ w.slot) :
    (ledgStore s w).nv.ledgTorn.contains k = s.nv.ledgTorn.contains k := by
  simp [ledgStore, hk]

theorem ledgIntact_ledgStore (s : State) (w : LedgWrite) (h : w.data.length = 1664) :
    ledgIntact (ledgStore s w) w.slot = true := by
  simp only [ledgIntact, ledgTorn_ledgStore_same, ledgSlot_ledgStore_same s w h, ledgRecord_take _ w h, ledgRecord_crc _ w h,
    fieldB_ledgRecord _ _ _ w h, Nat.reduceAdd, Nat.reduceLeDiff, ledgBody_magic, ledgBody_version, ledgBody_size,
    decide_true, Bool.not_false, Bool.and_self]

theorem ledgOwn_ledgStore (s : State) (w : LedgWrite) (h : w.data.length = 1664) (hs : s.nv.serial < 2 ^ 64) :
    ledgOwn (ledgStore s w) w.slot = true := by
  simp only [ledgOwn, ledgSlot_ledgStore_same s w h, fieldB_ledgRecord _ _ _ w h, Nat.reduceAdd, Nat.reduceLeDiff, ledgBody_serial,
    Nat.mod_eq_of_lt hs]
  exact decide_eq_true rfl

theorem ledgSeq_ledgStore (s : State) (w : LedgWrite) (h : w.data.length = 1664) :
    ledgSeq (ledgStore s w) w.slot = w.seq % 2 ^ 32 := by
  simp only [ledgSeq, ledgSlot_ledgStore_same s w h, fieldB_ledgRecord _ _ _ w h, Nat.reduceAdd, Nat.reduceLeDiff, ledgBody_seq]

/-- Settles O55: a slot's bytes after a write are the record's, whose fields read back. -/
theorem ledgerRecord : Obligations.LedgerRecord := by
  refine fun s w _ hlen hs => ⟨ledgIntact_ledgStore s w hlen, ledgOwn_ledgStore s w hlen hs, ledgSeq_ledgStore s w hlen,
    fun k hk => ?_⟩
  have hslot := ledgSlot_ledgStore_ne s w k hlen hk
  exact ⟨hslot, by simp only [ledgIntact, hslot, ledgTorn_ledgStore_ne s w k hk]⟩

end Sys2Proof.Machine
end

section
/-!
Proofs about the supervisor's instructions that touch registers and PC only (R360 to R363, R374): one lemma for an instruction
that runs to its end, one for an instruction that faults, one for a core that is not ready; then arithmetic, division, branches and
jumps.
-/

namespace Sys2Proof.Machine

/-! ## Issue (R362, R366, R374) -/

/-- An instruction of a core that does not run, or waits in WFI, comes to nothing. -/
theorem svIssue_idle {s : State} (h : svReady s = false) (srcs : List Reg) (f : State → SvRes) : svIssue s srcs f = done s := by
  simp only [svIssue, h, Bool.not_false, if_true]

theorem svBest_congr {s t : State} (h : ∀ n, svLevel s n = svLevel t n) (l : List Nat) : svBest s l = svBest t l := by
  induction l with
  | nil => rfl
  | cons n ns ih => simp only [svBest, ih, h]

/-- Which interrupt is eligible does not depend on what an instruction waits for. -/
theorem svEligible_svIssued (s : State) (r : SvSr) : svEligible (svIssued s) r = svEligible s r := by
  have hlevel (n : Nat) : svLevel (svIssued s) n = svLevel s n := rfl
  have hpend (n : Nat) : svPending (svIssued s) n = svPending s n := rfl
  have hen (n : Nat) : svEnabled (svIssued s) n = svEnabled s n := rfl
  simp only [svEligible, hlevel, hpend, hen, svBest_congr hlevel]

/-- The body of an instruction of a ready core. -/
theorem svIssue_ready {s : State} (h : svReady s = true) (srcs : List Reg) (f : State → SvRes) :
    svIssue s srcs f = match svFetchFault s with
      | some x => done (svFault (svIssued s) x.1 x.2 s.sv.pc)
      | none => match f (svIssued s) with
        | .inl x => done (svFault (svIssued s) x.1 x.2 (svRet (svIssued s) x.1))
        | .inr t => if (svEligible s (svNow s)).isSome then done (svEnter (svIssued s)) else done (svCost t (1 + svWait s srcs)) := by
  have hi : modSv s (fun c => { c with wfi := false, late := none }) = svIssued s := rfl
  have hf : svFetchFault (svIssued s) = svFetchFault s := rfl
  have hn : svNow (svIssued s) = svNow s := rfl
  simp only [svIssue, h, Bool.not_true, Bool.false_eq_true, if_false, hi, hf, hn, svEligible_svIssued]
  rfl

theorem svIssue_fetchFault {s : State} (h : svReady s = true) {x : Nat × Nat} (hx : svFetchFault s = some x) (srcs : List Reg)
    (f : State → SvRes) : svIssue s srcs f = done (svFault (svIssued s) x.1 x.2 s.sv.pc) := by
  rw [svIssue_ready h, hx]

/-- An eligible interrupt kills an instruction that meets no fault. -/
theorem svIssue_enters {s : State} (h : svReady s = true) (hf : svFetchFault s = none) (he : svEligible s (svNow s) ≠ none)
    {srcs : List Reg} {f : State → SvRes} {t : State} (ht : f (svIssued s) = .inr t) :
    svIssue s srcs f = done (svEnter (svIssued s)) := by
  rw [svIssue_ready h, hf, ht]
  exact if_pos (Option.isSome_iff_ne_none.mpr he)

/-- An instruction that runs to its end. -/
theorem svIssue_runs {s : State} (h : SvGoes s) {srcs : List Reg} {f : State → SvRes} {t : State}
    (ht : f (svIssued s) = .inr t) : svIssue s srcs f = done (svCost t (1 + svWait s srcs)) := by
  rw [svIssue_ready h.ready, h.fetch, ht, h.quiet]; rfl

/-- An instruction that faults, where its fault returns. -/
theorem svIssue_faultsTo {s : State} (h : SvGoes s) {srcs : List Reg} {f : State → SvRes} {cause addr : Nat}
    (hx : f (svIssued s) = .inl (cause, addr)) :
    svIssue s srcs f = done (svFault (svIssued s) cause addr (svRet (svIssued s) cause)) := by
  rw [svIssue_ready h.ready, h.fetch, hx]

/-- An instruction that faults otherwise than by a TRAP: the fault returns to it. -/
theorem svIssue_faults {s : State} (h : SvGoes s) {srcs : List Reg} {f : State → SvRes} {cause addr : Nat}
    (hx : f (svIssued s) = .inl (cause, addr)) (hc : cause % 256 ≠ 7) :
    svIssue s srcs f = done (svFault (svIssued s) cause addr s.sv.pc) := by
  rw [svIssue_faultsTo h hx, svRet, if_neg hc]; rfl

/-- An instruction that changes the core alone, by `g`, and takes `k + 1` clocks. -/
theorem svIssue_core {s : State} (h : SvGoes s) {srcs : List Reg} {f : State → SvRes} (k : Nat) (g : Sv → Sv)
    (hf : f (svIssued s) = .inr (modSv (svIssued s) (fun c => g { c with clocks := c.clocks + k })))
    (hg : ∀ (c : Sv) (n : Nat), g { c with clocks := n } = { g c with clocks := n }) :
    svIssue s srcs f = .next (svAfter s srcs (k + 1) g) := by
  have hcalm : Calm (svCost (modSv (svIssued s) (fun c => g { c with clocks := c.clocks + k })) (1 + svWait s srcs)) := h.calm
  have hclocks : s.sv.clocks + k + (1 + svWait s srcs) = s.sv.clocks + (k + 1) + svWait s srcs := by omega
  rw [svIssue_runs h hf, done_calm _ hcalm, svCost, modSv, modSv, hg]
  simp only [svAfter]
  rw [← hclocks, ← hg]
  rfl

/-- A ready core issues what its instruction is, CORE running. -/
theorem exec_of_issue {s : State} {c : Instr} {o o' : Out} (core : coreRuns s = true) (hc : exec c s = clocked s o) (ho : o = o') :
    exec c s = o' := by rw [hc, clocked_run s o core, ho]

/-! ## Arithmetic (R360) -/

/-- A result into a register, in `k + 1` clocks. -/
theorem svIssue_gives {s : State} (h : SvGoes s) {srcs : List Reg} (k : Nat) (rd : Reg) (v : Word) {f : State → SvRes}
    (hf : f (svIssued s) = .inr (svCost (svNext (svSet (svIssued s) rd v)) k)) :
    svIssue s srcs f = .next (svAfter s srcs (k + 1) (svPut rd v)) :=
  svIssue_core h k (svPut rd v) hf (fun _ _ => rfl)

theorem svAlu_gives {s : State} (h : SvGoes s) (rd : Reg) (srcs : List Reg) (f : State → Word) :
    svAlu s rd srcs f = .next (svAfter s srcs 1 (svPut rd (f (svIssued s)))) := svIssue_gives h 0 rd _ rfl

/-- An instruction of the form of `svAlu` gives its result in one clock. -/
theorem svGives_alu {s : State} (h : SvGoes s) {c : Instr} {rd : Reg} {srcs : List Reg} {f : State → Word} {v : Word}
    (hc : exec c s = clocked s (svAlu s rd srcs f)) (hv : f (svIssued s) = v) : SvGives s c srcs 1 rd v :=
  exec_of_issue h.core hc (hv ▸ svAlu_gives h rd srcs f)

theorem boolWord_slt (a b : Word) : boolWord (a.slt b) = if a.toInt < b.toInt then 1 else 0 := by
  simp [boolWord, BitVec.slt]

theorem boolWord_ult (a b : Word) : boolWord (a.ult b) = if a.toNat < b.toNat then 1 else 0 := by
  simp [boolWord, BitVec.ult]

/-- A product: its result comes a clock later. -/
theorem svIssue_product {s : State} (h : SvGoes s) {srcs : List Reg} (rd : Reg) (v : Word) {f : State → SvRes}
    (hf : f (svIssued s) = .inr (svLate (svNext (svSet (svIssued s) rd v)) rd)) :
    svIssue s srcs f = .next (svAfter s srcs 1 (fun x => { svPut rd v x with late := some rd })) :=
  svIssue_core h 0 (fun x => { svPut rd v x with late := some rd }) hf (fun _ _ => rfl)

theorem svGives_shift {s : State} (h : SvGoes s) {c : Instr} {rd ra : Reg} {imm : BitVec 18} {f : Word → Nat → Word}
    (hc : exec c s = clocked s (svShift s rd ra imm f)) (hi : imm.toNat < 32) :
    SvGives s c [ra] 1 rd (f (svW s ra) imm.toNat) :=
  exec_of_issue h.core hc (svIssue_gives h 0 rd _ (if_pos hi))

/-- A shift by 32 or more is an illegal instruction. -/
theorem svShift_illegal {s : State} (h : SvGoes s) {c : Instr} {rd ra : Reg} {imm : BitVec 18} {f : Word → Nat → Word}
    (hc : exec c s = clocked s (svShift s rd ra imm f)) (hi : 32 ≤ imm.toNat) :
    exec c s = done (svFault (svIssued s) 1 s.sv.pc.toNat s.sv.pc) :=
  exec_of_issue h.core hc (svIssue_faults h (if_neg (Nat.not_lt.mpr hi)) (by decide))

/-- A command that an idle core ignores. -/
theorem ends_of_idle {s : State} {c : Instr} {o : Out} (core : coreRuns s = true) (hc : exec c s = clocked s o) (ho : o = done s) :
    Ends s c s := by
  obtain ⟨t, ht, hq⟩ := done_quiet s
  exact ⟨t, (exec_of_issue core hc ho).trans ht, hq⟩

/-- No instruction does anything while the core is not ready. -/
theorem svEncode_idle {s : State} {c : Instr} {w : Nat} (core : coreRuns s = true) (hc : svEncode c = some w)
    (h : svReady s = false) : Ends s c s := by
  cases c
  case reti => exact ends_of_idle core rfl (by rw [h]; rfl)
  case add | sub | and | or | xor | shl | shr | sra | slt | sltu | mul | mulh | div | divu | rem | addi | andi | ori | shli
      | shri | srai | slti | lui | lw | lh | lhu | lb | lbu | sw | sh | sb | beq | bne | blt | bge | bltu | bgeu | j | jal | jr
      | jalr | trap | wfi | csrr | csrw | csrs | csrc | qpush =>
    exact ends_of_idle core rfl (svIssue_idle h _ _)
  all_goals cases hc

/-- Settles O49: every arithmetic instruction is a result into a register, by `svAlu` but for the products and the shifts by an
immediate. -/
theorem svArithmetic : Obligations.SvArithmetic := by
  intro s rd ra rb imm core
  refine ⟨fun c w hc h => svEncode_idle core hc h, fun f h hf => ?_, fun h hf he => ?_, fun h => ?_⟩
  · exact exec_of_issue core rfl (svIssue_fetchFault h hf _ _)
  · exact exec_of_issue core rfl (svIssue_enters h hf he rfl)
  · refine ⟨svGives_alu h rfl rfl, svGives_alu h rfl rfl, svGives_alu h rfl rfl, svGives_alu h rfl rfl, svGives_alu h rfl rfl,
      svGives_alu h rfl rfl, svGives_alu h rfl rfl, svGives_alu h rfl rfl, svGives_alu h rfl (boolWord_slt _ _),
      svGives_alu h rfl (boolWord_ult _ _), ?_, ?_, svGives_alu h rfl rfl, svGives_alu h rfl rfl, svGives_alu h rfl rfl,
      svGives_alu h rfl (boolWord_slt _ _), fun hi => ⟨svGives_shift h rfl hi, svGives_shift h rfl hi, svGives_shift h rfl hi⟩,
      fun hi => ?_, fun v => svGives_alu h rfl rfl⟩
    · exact exec_of_issue core rfl (svIssue_product h rd _ rfl)
    · exact exec_of_issue core rfl (svIssue_product h rd _ rfl)
    · simp only [List.forall_mem_cons, List.not_mem_nil, false_implies, implies_true, and_true]
      exact ⟨svShift_illegal h rfl hi, svShift_illegal h rfl hi, svShift_illegal h rfl hi⟩

/-! ## Division (R361) -/

theorem divWord_eq_sdiv (a b : Word) (hb : b ≠ 0) : divWord a b = a.sdiv b := by
  rw [divWord, if_neg hb]
  exact BitVec.eq_of_toInt_eq (by rw [BitVec.toInt_ofInt, BitVec.toInt_sdiv])

theorem remWord_eq_srem (a b : Word) (hb : b ≠ 0) : remWord a b = a.srem b := by
  rw [remWord, if_neg hb, ← BitVec.toInt_srem, BitVec.ofInt_toInt]

/-- The quotient is rounded toward zero, but for the one that does not fit. -/
theorem toInt_divWord (a b : Word) (hb : b ≠ 0) (h : ¬ (a = 0x80000000 ∧ b = 0xFFFFFFFF)) :
    (divWord a b).toInt = a.toInt.tdiv b.toInt := by
  rw [divWord_eq_sdiv a b hb]
  exact BitVec.toInt_sdiv_of_ne_or_ne a b (Decidable.not_and_iff_or_not.mp h)

theorem toInt_remWord (a b : Word) (hb : b ≠ 0) : (remWord a b).toInt = a.toInt.tmod b.toInt := by
  rw [remWord_eq_srem a b hb, BitVec.toInt_srem]

/-- The remainder is what the quotient leaves. -/
theorem divWord_mul_add_remWord (a b : Word) (hb : b ≠ 0) : divWord a b * b + remWord a b = a := by
  rw [divWord, remWord, if_neg hb, if_neg hb]
  calc BitVec.ofInt 32 (a.toInt.tdiv b.toInt) * b + BitVec.ofInt 32 (a.toInt.tmod b.toInt)
      = BitVec.ofInt 32 (a.toInt.tdiv b.toInt * b.toInt + a.toInt.tmod b.toInt) := by
        rw [BitVec.ofInt_add, BitVec.ofInt_mul, BitVec.ofInt_toInt]
    _ = a := by rw [Int.mul_comm, Int.mul_tdiv_add_tmod, BitVec.ofInt_toInt]

theorem toNat_divuWord (a b : Word) (hb : b ≠ 0) : (divuWord a b).toNat = a.toNat / b.toNat := by
  rw [divuWord, if_neg hb, BitVec.toNat_ofNat, Nat.mod_eq_of_lt (Nat.lt_of_le_of_lt (Nat.div_le_self _ _) a.isLt)]

/-- Settles O50: each instruction is a result into a register in 34 clocks, and the words are those of the library's signed
division. -/
theorem svDivision : Obligations.SvDivision := by
  refine ⟨fun s rd ra rb h => ⟨?_, ?_, ?_⟩, fun a b => ⟨toInt_divWord a b, fun hb => ⟨toInt_remWord a b hb,
    divWord_mul_add_remWord a b hb⟩, toNat_divuWord a b, rfl, rfl, rfl, by decide, by decide⟩⟩
  all_goals exact exec_of_issue h.core rfl (svIssue_gives h 33 rd _ rfl)

/-! ## Branches and jumps (R361 to R363) -/

/-- The place of an instruction: a multiple of 4 in the SRAM. -/
theorem svJump_ok {s : State} {target : Word} (ha : target.toNat % 4 = 0) (hs : target.toNat < svSize) :
    svJump s target = .inr (svCost (modSv s (fun c => { c with pc := target })) 2) :=
  if_neg (by omega)

theorem svJump_bad {s : State} {target : Word} (h : target.toNat % 4 ≠ 0 ∨ svSize ≤ target.toNat) :
    svJump s target = .inl (4, target.toNat) := if_pos h

/-- An instruction that is a transfer to `target`. -/
theorem svGoesTo_of_jump {s : State} (h : SvGoes s) {c : Instr} {srcs : List Reg} {f : State → SvRes} {target : Word}
    (hc : exec c s = clocked s (svIssue s srcs f)) (hf : f (svIssued s) = svJump (svIssued s) target) :
    SvGoesTo s c srcs target id :=
  ⟨fun ha hs => exec_of_issue h.core hc
      (svIssue_core h 2 (fun x => { x with pc := target }) (hf.trans (svJump_ok ha hs)) (fun _ _ => rfl)),
    fun hb => exec_of_issue h.core hc (svIssue_faults h (hf.trans (svJump_bad hb)) (by decide))⟩

/-- A transfer that leaves the address of the next instruction in a register. -/
theorem svGoesTo_of_link {s : State} (h : SvGoes s) {c : Instr} {srcs : List Reg} {f : State → SvRes} {target : Word} {rd : Reg}
    (hc : exec c s = clocked s (svIssue s srcs f)) (hf : f (svIssued s) = svLink (svIssued s) rd target) :
    SvGoesTo s c srcs target (fun c => { c with w := c.w.set rd (s.sv.pc + 4) }) := by
  refine ⟨fun ha hs => exec_of_issue h.core hc
    (svIssue_core h 2 (fun x => { x with pc := target, w := x.w.set rd (s.sv.pc + 4) }) (hf.trans ?_) (fun _ _ => rfl)),
    fun hb => exec_of_issue h.core hc (svIssue_faults h (hf.trans ?_) (by decide))⟩
  · rw [svLink, svJump_ok ha hs]; rfl
  · rw [svLink, svJump_bad hb]

/-- A branch is taken as its comparison says. -/
theorem svBranches_of {s : State} (h : SvGoes s) {c : Instr} {ra rb : Reg} {off : BitVec 18} {take : Word → Word → Bool} {b : Bool}
    (hc : exec c s = clocked s (svBranch s ra rb off take)) (hb : take (svW s ra) (svW s rb) = b) : SvBranches s c ra rb off b :=
  ⟨fun ht => svGoesTo_of_jump h hc (if_pos (hb.trans ht)),
    fun hn => exec_of_issue h.core hc (svIssue_core h 0 (fun x => { x with pc := x.pc + 4 })
      (if_neg (by rw [show take (svReg (svIssued s) ra) (svReg (svIssued s) rb) = b from hb, hn]; decide)) (fun _ _ => rfl))⟩

theorem beq_eq_decide_word (a b : Word) : (a == b) = decide (a = b) := rfl

theorem bne_eq_decide (a b : Word) : (a != b) = decide (a ≠ b) := by
  exact (congrArg (!·) (beq_eq_decide_word a b)).trans (decide_not (p := a = b)).symm

theorem bnot_slt (a b : Word) : (!a.slt b) = decide (b.toInt ≤ a.toInt) := by
  simp only [BitVec.slt, ← decide_not, Int.not_lt]

theorem bnot_ult (a b : Word) : (!a.ult b) = decide (b.toNat ≤ a.toNat) := by
  simp only [BitVec.ult, ← decide_not, Nat.not_lt]

/-- Settles O52: each branch is `svBranch` with its comparison, each jump `svJump` or `svLink` to its target. -/
theorem svTransfers : Obligations.SvTransfers := by
  intro s rd ra rb off far h a b
  exact ⟨svBranches_of h rfl (beq_eq_decide_word a b), svBranches_of h rfl (bne_eq_decide a b), svBranches_of h rfl rfl,
    svBranches_of h rfl (bnot_slt _ _), svBranches_of h rfl rfl, svBranches_of h rfl (bnot_ult _ _),
    svGoesTo_of_jump h rfl rfl, svGoesTo_of_link (rd := 15) h rfl rfl, svGoesTo_of_jump h rfl rfl, svGoesTo_of_link h rfl rfl⟩

end Sys2Proof.Machine
end

section
/-!
Proofs about the supervisor's faults (R366, R367, R370): what the frame leaves in the SRAM, what a halt shows, and the entry of the
fault handler.
-/

namespace Sys2Proof.Machine

/-! ## Control registers -/

@[simp] theorem svCsr_svSetCsr_same (s : State) (n v : Nat) : svCsr (svSetCsr s n v) n = v := by
  simp [svCsr, svSetCsr]

theorem svCsr_svSetCsr_ne (s : State) (n m v : Nat) (h : m ≠ n) : svCsr (svSetCsr s n v) m = svCsr s m := by
  simp only [svCsr, svSetCsr, modSv_sv]
  exact mget_mset_ne _ _ _ _ _ _ h

@[simp] theorem svSetCsr_pwr (s : State) (n v : Nat) : (svSetCsr s n v).pwr = s.pwr := rfl
@[simp] theorem svSetCsr_regs (s : State) (n v : Nat) : (svSetCsr s n v).regs = s.regs := rfl

/-- A field's value hangs on the registers alone. -/
theorem rd_of_regs {s t : State} (h : t.regs = s.regs) (f : Fld) (i : Nat) : rd t f i = rd s f i := by
  simp only [rd, getObj, h]

theorem rdB_of_regs {s t : State} (h : t.regs = s.regs) (f : Fld) (i : Nat) : rdB t f i = rdB s f i := by
  simp only [rdB, rd_of_regs h]

/-! ## Bytes of the SRAM -/

theorem svByte_svWrite_ne (s : State) (a n v k : Nat) (h : k < a ∨ a + n ≤ k) : svByte (svWrite s a n v) k = svByte s k :=
  mget_memWrite_ne _ _ _ _ _ (by simpa using h)

/-- What is read hangs on the bytes read. -/
theorem svRead_congr {s t : State} {a n : Nat} (h : ∀ k, a ≤ k → k < a + n → svByte t k = svByte s k) :
    svRead t a n = svRead s a n := by
  have hb : memBytes 0 t.sv.mem a n = memBytes 0 s.sv.mem a n := by
    refine List.ext_getElem (by simp) (fun i hi _ => ?_)
    rw [memBytes_length] at hi
    rw [getElem_memBytes, getElem_memBytes]
    exact h (a + i) (by omega) (by omega)
  simp only [svRead, hb]

theorem svRead_svWrite_same (s : State) (a n v : Nat) : svRead (svWrite s a n v) a n = v % 256 ^ n := by
  have h := memBytes_memWrite 0 s.sv.mem a (leBytes n v)
  rw [leBytes_length] at h
  simp only [svRead, svWrite, modSv_sv, h, leVal_leBytes]

/-! ## A frame (R370) -/

/-- `t` is `s` with the words `ws` stored from address `a` on. -/
structure Stored (s t : State) (a : Nat) (ws : List Nat) : Prop where
  words : ∀ (i : Nat) (h : i < ws.length), svRead t (a + 4 * i) 4 = ws[i] % 2 ^ 32
  outside : ∀ k, k < a ∨ a + 4 * ws.length ≤ k → svByte t k = svByte s k
  parity : ∀ k, k ∈ t.sv.badPar → k ∈ s.sv.badPar
  rest : { t with sv := { t.sv with mem := s.sv.mem, badPar := s.sv.badPar } } = s

theorem stored_svWrite (s : State) (a x : Nat) : Stored s (svWrite s a 4 x) a [x] where
  words := fun i h => by
    obtain rfl : i = 0 := by simpa using h
    exact svRead_svWrite_same s a 4 x
  outside := fun k h => svByte_svWrite_ne s a 4 x k (by simpa using h)
  parity := fun k h => (List.mem_filter.mp h).1
  rest := rfl

theorem Stored.append {s t u : State} {a : Nat} {xs ys : List Nat} (h : Stored s t a xs)
    (k : Stored t u (a + 4 * xs.length) ys) : Stored s u a (xs ++ ys) where
  words := fun i hi => by
    by_cases hx : i < xs.length
    · rw [List.getElem_append_left hx, ← h.words i hx]
      exact svRead_congr (fun b _ hb => k.outside b (by omega))
    · have hy := k.words (i - xs.length) (by simp at hi; omega)
      rw [List.getElem_append_right (by omega), ← hy]
      congr 1; omega
  outside := fun b hb => by
    simp only [List.length_append] at hb
    rw [k.outside b (by omega), h.outside b (by omega)]
  parity := fun b hb => h.parity b (k.parity b hb)
  rest := by
    have h1 := h.rest; have h2 := k.rest
    cases s; cases t; cases u
    simp only [State.mk.injEq] at h1 h2 ⊢
    grind

theorem stored_frame (s : State) (a n : Nat) (ws : List Nat) :
    Stored s ((ws.zipIdx n).foldl (fun t (x : Nat × Nat) => svWrite t (a + 4 * x.2) 4 x.1) s) (a + 4 * n) ws := by
  induction ws generalizing s n with
  | nil => exact ⟨fun i h => absurd h (by simp), fun _ _ => rfl, fun _ h => h, rfl⟩
  | cons w ws ih => exact (stored_svWrite s (a + 4 * n) w).append (ih (svWrite s (a + 4 * n) 4 w) (n + 1))

theorem svParity_none_iff (s : State) (a n : Nat) : svParity s a n = none ↔ ∀ k ∈ svWords a n, k ∉ s.sv.badPar := by
  simp [svParity, List.find?_eq_none]

/-! ## Halt (R377) -/

theorem svStop_cause (s : State) (c : Nat) : rd (svStop s c) F.devSvStat_HALT_CAUSE 0 = c % 8 := by
  simp (disch := decide) only [svStop, rd_wr_field, rd_wr_same, Nat.reducePow]

theorem svStop_running (s : State) (c : Nat) : rdB (svStop s c) F.devSvStat_RUNNING 0 = false := by
  simp (disch := decide) only [rdB, svStop, rd_wr_field, rd_wr_same]
  rfl

theorem svStop_halted (s : State) (c : Nat) : rdB (svStop s c) F.devSvStat_HALTED 0 = true := by
  simp (disch := decide) only [rdB, svStop, rd_wr_field, rd_wr_same]
  rfl

theorem svStop_react (s : State) (c : Nat) : rd (svStop s c) F.devSvCtl_REACT 0 = rd s F.devSvCtl_REACT 0 := by
  simp (disch := decide) only [svStop, rd_wr_obj]

/-- A reaction that does not reset the device leaves the registers. -/
theorem svReact_regs (s : State) (h : rd s F.devSvCtl_REACT 0 ≠ 3) : (svReact s).regs = s.regs := by
  unfold svReact
  split
  · rfl
  · rfl
  · rename_i h3; exact absurd h3 h
  · rfl

/-- A halt that does not reset the device leaves the registers as the stop does. -/
theorem svHalt_regs (s : State) (c : Nat) (h : rd s F.devSvCtl_REACT 0 ≠ 3) : (svHalt s c).regs = (svStop s c).regs := by
  rw [svHalt]
  split
  · refine svReact_regs _ ?_
    rwa [rd_of_regs (s := svStop s c) (by simp only [modSv_regs, raiseD, raise_regs]), svStop_react]
  · simp only [modSv_regs, raiseD, raise_regs]

/-- What a halt with cause 2 shows. -/
theorem svHalt_double (s : State) (h : rd s F.devSvCtl_REACT 0 ≠ 3) :
    rd (svHalt s 2) F.devSvStat_HALT_CAUSE 0 = 2 ∧ rdB (svHalt s 2) F.devSvStat_RUNNING 0 = false ∧
      rdB (svHalt s 2) F.devSvStat_HALTED 0 = true := by
  have hr := svHalt_regs s 2 h
  exact ⟨(rd_of_regs hr _ _).trans (svStop_cause s 2), (rdB_of_regs hr _ _).trans (svStop_running s 2),
    (rdB_of_regs hr _ _).trans (svStop_halted s 2)⟩

/-! ## The entry of the fault handler (R366, R367, R370) -/

/-- The core as a fault is noted: nothing waits any more. -/
def svNoted (s : State) (cause addr : Nat) : State := modSv (svNoteFault s cause addr) (fun c => { c with wfi := false, late := none })

theorem svNoted_react (s : State) (cause addr : Nat) : rd (svNoted s cause addr) F.devSvCtl_REACT 0 = rd s F.devSvCtl_REACT 0 :=
  rd_wr_obj (svSetCsr (svSetCsr s 3 cause) 4 (addr % 2 ^ 32)) F.devSvStat_FAULTS F.devSvCtl_REACT 0 0 _ (by decide)

theorem svNoted_faults (s : State) (cause addr : Nat) :
    rd (svNoted s cause addr) F.devSvStat_FAULTS 0 = min (rd s F.devSvStat_FAULTS 0 + 1) 255 :=
  rd_incSat (svSetCsr (svSetCsr s 3 cause) 4 (addr % 2 ^ 32)) F.devSvStat_FAULTS 0

theorem incSat_sv (s : State) (f : Fld) (i : Nat) : (incSat s f i).sv = s.sv := by
  rw [incSat, addSat, wr_sv]

/-- But for FCAUSE, FADDR and its count, noting a fault leaves the core. -/
theorem svNoted_core (s : State) (cause addr : Nat) : (svNoted s cause addr).sv =
    { s.sv with csr := (svSetCsr (svSetCsr s 3 cause) 4 (addr % 2 ^ 32)).sv.csr, wfi := false, late := none } := by
  rw [svNoted, modSv_sv, svNoteFault, incSat_sv]
  rfl

theorem svNoted_csrs (s : State) (cause addr : Nat) :
    (svNoted s cause addr).sv.csr = (svSetCsr (svSetCsr s 3 cause) 4 (addr % 2 ^ 32)).sv.csr := by
  rw [svNoted_core]

/-- A control register's value hangs on the control registers alone. -/
theorem svCsr_of_csrs {s t : State} (h : t.sv.csr = s.sv.csr) (n : Nat) : svCsr t n = svCsr s n := by
  simp only [svCsr, h]

theorem svNoted_csr (s : State) (cause addr n : Nat) (h3 : n ≠ 3) (h4 : n ≠ 4) : svCsr (svNoted s cause addr) n = svCsr s n := by
  rw [svCsr_of_csrs (svNoted_csrs s cause addr), svCsr_svSetCsr_ne _ _ _ _ h4, svCsr_svSetCsr_ne _ _ _ _ h3]

theorem svNoted_cause (s : State) (cause addr : Nat) : svCsr (svNoted s cause addr) 3 = cause := by
  rw [svCsr_of_csrs (svNoted_csrs s cause addr), svCsr_svSetCsr_ne _ _ _ _ (by decide), svCsr_svSetCsr_same]

theorem svNoted_addr (s : State) (cause addr : Nat) : svCsr (svNoted s cause addr) 4 = addr % 2 ^ 32 := by
  rw [svCsr_of_csrs (svNoted_csrs s cause addr), svCsr_svSetCsr_same]

theorem svProtected_congr {s t : State} (h5 : svCsr t 5 = svCsr s 5) (h6 : svCsr t 6 = svCsr s 6) (a n : Nat) :
    svProtected t a n = svProtected s a n := by simp only [svProtected, h5, h6]

/-- The address of a frame. -/
theorem frameAddr {w : Word} (h : 32 ≤ w.toNat) : (w.toNat + 2 ^ 32 - 32) % 2 ^ 32 = w.toNat - 32 := by
  have := w.isLt; omega

/-- A frame that would go below SPLIM is not stacked. -/
theorem svStack_limit {s : State} {ret : Word} (h : 32 ≤ (svReg s 14).toNat) (hs : (svReg s 14).toNat ≤ svSize)
    (hl : (svReg s 14).toNat - 32 < svCsr s 2) : svStack s ret = .inr (incSat s F.devSvStat_FAULTS 0) := by
  simp only [svStack, frameAddr h]
  rw [if_neg (by omega), if_pos (.inr hl)]

/-- A frame that fits is stacked below w14. -/
theorem svStack_fits {s : State} {ret : Word} (h : 32 ≤ (svReg s 14).toNat) (hs : (svReg s 14).toNat - 32 + 32 ≤ svSize)
    (ha : ((svReg s 14).toNat - 32) % 4 = 0) (hl : svCsr s 2 ≤ (svReg s 14).toNat - 32)
    (hp : svProtected s ((svReg s 14).toNat - 32) 32 = false) :
    ∃ t, Stored s t ((svReg s 14).toNat - 32) (svFrame s ret) ∧
      svStack s ret = .inl (svSet t 14 (BitVec.ofNat 32 ((svReg s 14).toNat - 32))) := by
  have hfr := stored_frame s ((svReg s 14).toNat - 32) 0 (svFrame s ret)
  rw [Nat.mul_zero, Nat.add_zero] at hfr
  refine ⟨_, hfr, ?_⟩
  simp only [svStack, frameAddr h]
  rw [if_neg (by omega), if_neg (by omega), if_neg (by rw [hp]; decide)]

/-- A vector that can be read and points at an instruction. -/
theorem svVector_ok {s : State} {va : Nat} (h : va + 4 ≤ svSize) (hp : svParity s va 4 = none) (ha : svRead s va 4 % 4 = 0)
    (hs : svRead s va 4 < svSize) : svVector s va = .inl (svRead s va 4) := by
  simp only [svVector, hp]
  rw [if_neg (by omega), if_neg (by omega)]

/-- A fault outside the fault handler whose frame is stacked and whose vector holds a place. -/
theorem svFault_enters {s t : State} {cause addr a : Nat} {ret : Word} (hi : s.sv.inf = false)
    (hst : svStack (svNoted s cause addr) ret = .inl t)
    (hv : svVector (modSv t (fun c => { c with inf := true })) (svCsr (modSv t (fun c => { c with inf := true })) 1 + 0x100) = .inl a) :
    svFault s cause addr ret = modSv t (fun c => { c with inf := true, pc := BitVec.ofNat 32 a, clocks := c.clocks + 12 }) := by
  unfold svNoted at hst
  unfold svFault
  rw [if_neg (by rw [hi]; decide), hst]
  dsimp only
  rw [hv]
  simp only [modSv]

theorem svFault_double {s : State} (cause addr : Nat) (ret : Word) (hi : s.sv.inf = true) :
    svFault s cause addr ret = svHalt (svNoted s cause addr) 2 := by
  unfold svFault svNoted
  rw [if_pos hi]

theorem svFault_noFrame {s t : State} {cause addr : Nat} {ret : Word} (hi : s.sv.inf = false)
    (hst : svStack (svNoted s cause addr) ret = .inr t) : svFault s cause addr ret = svHalt t 2 := by
  unfold svNoted at hst
  unfold svFault
  rw [if_neg (by rw [hi]; decide), hst]

/-- What the entry of the fault handler needs: room for the frame below w14, and a vector that holds a place. -/
structure CanEnter (s : State) (sp v : Nat) : Prop where
  thread : s.sv.inf = false
  room : 32 ≤ (svW s 14).toNat
  fits : sp + 32 ≤ svSize
  aligned : sp % 4 = 0
  limit : svCsr s 2 ≤ sp
  free : svProtected s sp 32 = false
  vecFits : v + 4 ≤ svSize
  vecApart : v + 4 ≤ sp ∨ sp + 32 ≤ v
  vecGood : svParity s v 4 = none
  vecAligned : svRead s v 4 % 4 = 0
  vecIn : svRead s v 4 < svSize

theorem svNoted_reg (s : State) (cause addr : Nat) (r : Reg) : svReg (svNoted s cause addr) r = svW s r := by
  simp only [svReg, svW, svNoted_core]

theorem svNoted_byte (s : State) (cause addr k : Nat) : svByte (svNoted s cause addr) k = svByte s k := by
  simp only [svByte, svNoted_core]

theorem svNoted_badPar (s : State) (cause addr : Nat) : (svNoted s cause addr).sv.badPar = s.sv.badPar := by
  rw [svNoted_core]

theorem svNoted_sr (s : State) (cause addr : Nat) : svSr (svNoted s cause addr) = svSr s := by
  simp only [svSr, svNoted_core]

/-- The state of the core as the fault handler is entered, the frame being stored. -/
def svEntered (t : State) (sp a : Nat) : State :=
  modSv (svSet t 14 (BitVec.ofNat 32 sp)) (fun c => { c with inf := true, pc := BitVec.ofNat 32 a, clocks := c.clocks + 12 })

/-- The entry of the fault handler: the frame is stored, w14 goes below it, and PC goes where the vector points. -/
theorem svFault_of_canEnter {s : State} {cause addr : Nat} {ret : Word}
    (h : CanEnter s ((svW s 14).toNat - 32) (svCsr s 1 + 0x100)) :
    ∃ t, Stored (svNoted s cause addr) t ((svW s 14).toNat - 32) (svFrame (svNoted s cause addr) ret) ∧
      svFault s cause addr ret = svEntered t ((svW s 14).toNat - 32) (svRead s (svCsr s 1 + 0x100) 4) := by
  have hw := svNoted_reg s cause addr 14
  have hcsr (n : Nat) (h3 : n ≠ 3) (h4 : n ≠ 4) := svNoted_csr s cause addr n h3 h4
  obtain ⟨t, hst, hfr⟩ := svStack_fits (s := svNoted s cause addr) (ret := ret) (by rw [hw]; exact h.room)
    (by rw [hw]; exact h.fits) (by rw [hw]; exact h.aligned) (by rw [hw, hcsr 2 (by decide) (by decide)]; exact h.limit)
    (by rw [hw, svProtected_congr (hcsr 5 (by decide) (by decide)) (hcsr 6 (by decide) (by decide))]; exact h.free)
  rw [hw] at hst hfr
  generalize hu : svSet t 14 (BitVec.ofNat 32 ((svW s 14).toNat - 32)) = u at hfr
  have hmem : (modSv u (fun c => { c with inf := true })).sv.mem = t.sv.mem := by rw [← hu]; rfl
  have hpar : (modSv u (fun c => { c with inf := true })).sv.badPar = t.sv.badPar := by rw [← hu]; rfl
  have hc1 : svCsr (modSv u (fun c => { c with inf := true })) 1 = svCsr s 1 := by
    rw [← hcsr 1 (by decide) (by decide), ← hst.rest, ← hu]
    rfl
  have hread : svRead (modSv u (fun c => { c with inf := true })) (svCsr s 1 + 0x100) 4 = svRead s (svCsr s 1 + 0x100) 4 := by
    refine svRead_congr (fun k hk hk4 => ?_)
    have hlen : (svFrame (svNoted s cause addr) ret).length = 8 := rfl
    rw [svByte, hmem, ← svByte, hst.outside k (by rw [hlen]; have := h.vecApart; omega), svNoted_byte]
  have hv : svVector (modSv u (fun c => { c with inf := true })) (svCsr (modSv u (fun c => { c with inf := true })) 1 + 0x100) =
      .inl (svRead s (svCsr s 1 + 0x100) 4) := by
    rw [hc1, ← hread]
    refine svVector_ok h.vecFits ((svParity_none_iff _ _ _).mpr (fun k hk hb => ?_)) (by rw [hread]; exact h.vecAligned)
      (by rw [hread]; exact h.vecIn)
    rw [hpar] at hb
    exact (svParity_none_iff _ _ _).mp h.vecGood k hk (svNoted_badPar s cause addr ▸ hst.parity k hb)
  refine ⟨t, hst, (svFault_enters h.thread hfr hv).trans ?_⟩
  rw [svEntered, hu]

theorem svW_svSet_same (s : State) (r : Reg) (v : Word) : svW (svSet s r v) r = v := by
  simp [svW, svSet, Fin.getElem_fin]

theorem svW_svSet_ne (s : State) (r q : Reg) (v : Word) (h : q ≠ r) : svW (svSet s r v) q = svW s q := by
  have hv : r.val ≠ q.val := fun e => h (Fin.ext e.symm)
  simp only [svW, svSet, modSv_sv, Fin.getElem_fin]
  exact Vector.getElem_set_ne _ _ hv

/-- What the entry leaves, with the frame of a noted fault stored. -/
theorem svEntered_frame {s t : State} {cause addr sp a : Nat} {ret : Word}
    (h : Stored (svNoted s cause addr) t sp (svFrame (svNoted s cause addr) ret)) :
    (∀ i : Fin 5, svRead (svEntered t sp a) (sp + 4 * i) 4 = (svW s (Fin.ofNat 16 i)).toNat) ∧
      svRead (svEntered t sp a) (sp + 20) 4 = (svW s 15).toNat ∧ svRead (svEntered t sp a) (sp + 24) 4 = ret.toNat ∧
      svRead (svEntered t sp a) (sp + 28) 4 = svSr s % 2 ^ 32 ∧
      (∀ r : Reg, r ≠ 14 → svW (svEntered t sp a) r = svW s r) ∧
      ∀ k, k < sp ∨ sp + 32 ≤ k → svByte (svEntered t sp a) k = svByte s k := by
  have hlen : (svFrame (svNoted s cause addr) ret).length = 8 := rfl
  have hword (i : Nat) (hi : i < 8) (w : Word) (hw : (svFrame (svNoted s cause addr) ret)[i] = w.toNat) :
      svRead (svEntered t sp a) (sp + 4 * i) 4 = w.toNat :=
    (h.words i (by rw [hlen]; exact hi)).trans ((congrArg (· % 2 ^ 32) hw).trans (Nat.mod_eq_of_lt w.isLt))
  refine ⟨fun i => ?_, ?_, ?_, ?_, fun r hr => ?_, fun k hk => ?_⟩
  · refine hword i (by omega) _ ?_
    rw [← svNoted_reg s cause addr]
    match i with
    | 0 | 1 | 2 | 3 | 4 => rfl
  · exact hword 5 (by decide) _ (congrArg BitVec.toNat (svNoted_reg s cause addr 15))
  · exact hword 6 (by decide) _ rfl
  · rw [← svNoted_sr s cause addr]; exact h.words 7 (by rw [hlen]; decide)
  · have hw : svW t r = svW s r := by
      rw [← svNoted_reg s cause addr r, ← h.rest]; rfl
    exact (svW_svSet_ne t 14 r _ hr).trans hw
  · exact (h.outside k (by rw [hlen]; omega)).trans (svNoted_byte s cause addr k)

/-- Settles O53: a fault that can be taken stores its frame and goes where the vector points; one in the handler, or without
room for its frame, halts the core. -/
theorem svFaultEntry : Obligations.SvFaultEntry := by
  intro s cause addr ret sp v t
  refine ⟨fun hi hroom hfits hal hlim hfree hv hap hgood hval hvin => ?_, fun hi hr => ?_, fun hi hroom hsize hlim hr => ?_⟩
  · obtain ⟨u, hst, he⟩ := svFault_of_canEnter (s := s) (cause := cause) (addr := addr) (ret := ret)
      ⟨hi, hroom, hfits, hal, hlim, hfree, hv, hap, hgood, hval, hvin⟩
    have ht : t = svEntered u sp (svRead s v 4) := he
    obtain ⟨hframe, h15, hret, hsr, hregs, hbytes⟩ := svEntered_frame (a := svRead s v 4) hst
    have hcsr (n : Nat) : svCsr t n = svCsr (svNoted s cause addr) n := by rw [ht, ← hst.rest]; rfl
    have hsp : sp < 2 ^ 32 := by have := (svW s 14).isLt; omega
    have hva : svRead s v 4 < 2 ^ 32 := Nat.lt_trans hvin (by decide)
    refine ⟨by rw [ht]; rfl, (hcsr 3).trans (svNoted_cause s cause addr), (hcsr 4).trans (svNoted_addr s cause addr), ?_, ?_,
      by rw [ht]; exact hframe, by rw [ht]; exact h15, by rw [ht]; exact hret, by rw [ht]; exact hsr, by rw [ht]; exact hregs,
      by rw [ht]; exact hbytes, ?_⟩
    · rw [ht]; exact Nat.mod_eq_of_lt hva
    · rw [ht]; exact (congrArg BitVec.toNat (svW_svSet_same u 14 _)).trans (Nat.mod_eq_of_lt hsp)
    · rw [← svNoted_faults s cause addr]
      exact rd_of_regs (by rw [ht, ← hst.rest]; rfl) _ _
  · have h := svHalt_double (svNoted s cause addr) (by rwa [svNoted_react])
    rw [← svFault_double cause addr ret hi] at h
    exact h
  · have hw := svNoted_reg s cause addr 14
    have hst := svStack_limit (s := svNoted s cause addr) (ret := ret) (by rw [hw]; exact hroom) (by rw [hw]; exact hsize)
      (by rw [hw, svNoted_csr s cause addr 2 (by decide) (by decide)]; exact hlim)
    have ht : t = svHalt (incSat (svNoted s cause addr) F.devSvStat_FAULTS 0) 2 := svFault_noFrame hi hst
    have h := svHalt_double (incSat (svNoted s cause addr) F.devSvStat_FAULTS 0) (by
      rw [incSat, addSat, rd_wr_obj _ _ _ _ _ _ (by decide), svNoted_react]; exact hr)
    rw [ht]
    exact ⟨h.1, h.2.1⟩

end Sys2Proof.Machine
end

section
/-!
PROOFS. The steps of the block (O1), the machine at power-on (O3), and a record that an empty queue drops (O28): freed words of
the pool count from the next CORE cycle on (R265), so a queue may hold nothing, a word may be there, and the push be dropped.
-/

namespace Sys2Proof.Machine
open Sys2Proof Sys2Proof.Machine

/-! ## Steps -/

theorem step_cons (c : Instr) (cs : List Instr) (s : State) :
    step { s with pending := c :: cs } = exec c { s with pending := cs } := rfl

theorem step_nil (s : State) (h : s.pending = []) : step s = .next (idle s) := by simp [step, h]

/-- Settles O1: a step on a queue that holds a command, and one on an empty queue. -/
theorem stepRunsFront : Obligations.StepRunsFront := by
  refine ⟨step_cons, fun s h => ⟨fun hr => ?_, fun hr => ?_⟩⟩
  · rw [step_nil s h, idle, if_pos hr]
  · rw [step_nil s h, idle, if_neg (by simp [hr])]

/-! ## Power-on -/

theorem gatesLow_of_rst (s : State) (n : Nat) (h : s.pwr.rst = true) : gatesLow s n :=
  ⟨by simp [switching, h], fun leg => by simp [lowSideOn, h]⟩

theorem getObj_noRegs (s : State) (o : ObjId) (i : Nat) (h : s.regs = []) : getObj s o i = objReset o i := by
  rw [getObj, h, mget_nil]

/-- Settles O3: no register is listed at power-on, so that each reads as its reset value. -/
theorem resetState : Obligations.ResetState :=
  ⟨fun o i => getObj_noRegs _ o i rfl, rfl, rfl, by decide +kernel, rfl, rfl, rfl, ⟨rfl, rfl, rfl⟩, fun n => gatesLow_of_rst _ n rfl⟩

/-! ## A record dropped by an empty queue -/

/-- A device out of reset in the CORE cycle in which port 0 popped a word of queue 0, the last there was: nothing is queued, and
the word counts as free from the next cycle on. -/
def justPopped : State :=
  { State.reset with pwr := { Pwr.reset with rst := false }, qm := { Qm.reset with popped := [(0, 0)] } }

theorem emptyQueue_justPopped : EmptyQueue justPopped 0 :=
  ⟨by decide, by decide, by decide, by decide, by decide, by decide⟩

theorem coreRuns_justPopped : coreRuns justPopped = true := by decide

/-- That device after a push of one halfword to queue 0. -/
def droppedThere : State := flushEvents flushFuel (pushFor justPopped 0 0 0 [(0, false)]).1

theorem push_justPopped : exec (.queuePush 0 0 0 [(0, false)]) justPopped = .next droppedThere := by
  change execQueuePush .. = _
  rw [execQueuePush, clocked_run _ _ coreRuns_justPopped]
  rfl

theorem levelOf_droppedThere : levelOf droppedThere 0 = 0 := by decide +kernel

/-- Refutes O28: in the CORE cycle in which the word was popped there is no free word yet, and the record is dropped. -/
theorem not_pushThenPop : ¬ Obligations.PushThenPop := by
  intro h
  obtain ⟨t, ht, hlevel, -⟩ := h justPopped 0 0 0 0 [(0, false)] coreRuns_justPopped rfl emptyQueue_justPopped
    (Or.inl (by decide)) (by decide) (by decide)
  rw [push_justPopped] at ht
  cases ht
  exact absurd (levelOf_droppedThere.symm.trans hlevel) (by decide)

end Sys2Proof.Machine
end

section
/-!
SUPPORT. What no operation of the model but a few changes: the queue of commands, the memories that no reset clears, and the supplies
(`held`). One lemma for each operation, in the order of the model's files; those left out are the ones that end in a reset, in a
write of the RTC, the ledger, the flash, the trim store or the OTP, or in the loss of a clock.
-/

namespace Sys2Proof.Machine
open Sys2Proof Sys2Proof.Machine

/-- `P` of `f`, said of `f` itself: the definition of `f` can be opened here without its arguments, so that the kernel need not
evaluate what the definition does with them (an address of the map, a place on the stack). -/
def Said {α : Type} (P : α → Prop) (f : α) : Prop := P f

/-- The parts of a state that hardly any operation changes. -/
def held (s : State) : List Instr × Nv × Pwr := (s.pending, s.nv, s.pwr)

@[simp] theorem held_mk (pe re pw nv ct lo qm ms ax gr au xo en co c1 pr mo pb rd pl le sv fa) :
    held ⟨pe, re, pw, nv, ct, lo, qm, ms, ax, gr, au, xo, en, co, c1, pr, mo, pb, rd, pl, le, sv, fa⟩ = (pe, nv, pw) := by rw [held]

@[simp] theorem held_eta (s : State) : (s.pending, s.nv, s.pwr) = held s := by rw [held]

@[simp] theorem held_ite (c : Prop) [Decidable c] (s t : State) :
    held (if c then s else t) = if c then held s else held t := by split <;> rfl

@[simp] theorem held_ite_fst {α : Type} (c : Prop) [Decidable c] (s t : State × α) :
    held (if c then s else t).1 = if c then held s.1 else held t.1 := by split <;> rfl

@[simp] theorem held_foldl {α : Type} (f : State → α → State) (l : List α) (s : State) (h : ∀ s a, held (f s a) = held s) :
    held (l.foldl f s) = held s := by
  induction l generalizing s with
  | nil => rfl
  | cons a l ih => rw [List.foldl_cons, ih, h]

theorem Quiet.held_eq {s t : State} (h : Quiet s t) : held t = held s := by
  have h := h.rest
  rw [← h]; rfl

theorem nv_of_held {s t : State} (h : held t = held s) : t.nv = s.nv := congrArg (·.2.1) h

theorem pwr_of_held {s t : State} (h : held t = held s) : t.pwr = s.pwr := congrArg (·.2.2) h

theorem pending_of_held {s t : State} (h : held t = held s) : t.pending = s.pending := congrArg (·.1) h

/-! ## Registers and axes -/

@[simp] theorem held_setObj (s : State) (o : ObjId) (i v : Nat) : held (setObj s o i v) = held s := by simp [setObj]
@[simp] theorem held_wr (s : State) (f : Fld) (i x : Nat) : held (wr s f i x) = held s := by simp [wr]
@[simp] theorem held_wrB (s : State) (f : Fld) (i : Nat) (b : Bool) : held (wrB s f i b) = held s := by simp [wrB]
@[simp] theorem held_wrS (s : State) (f : Fld) (i : Nat) (x : Int) : held (wrS s f i x) = held s := by simp [wrS]

/-! ## Sticky bits and flags -/

@[simp] theorem held_addSat (s : State) (f : Fld) (i k : Nat) : held (addSat s f i k) = held s := by simp [addSat]
@[simp] theorem held_incSat (s : State) (f : Fld) (i : Nat) : held (incSat s f i) = held s := by simp [incSat]
@[simp] theorem held_addWrap (s : State) (f : Fld) (i k : Nat) : held (addWrap s f i k) = held s := by simp [addWrap]
@[simp] theorem held_stick (s : State) (f : Fld) (i : Nat) : held (stick s f i) = held s := by simp [stick]
@[simp] theorem held_stickMask (s : State) (f : Fld) (i m : Nat) : held (stickMask s f i m) = held s := by simp [stickMask]
@[simp] theorem held_raise (s : State) (code axis arg : Nat) : held (raise s code axis arg) = held s := by simp [raise]
@[simp] theorem held_raiseD (s : State) (code arg : Nat) : held (raiseD s code arg) = held s := by simp [raiseD]
@[simp] theorem held_draw (s : State) : held (draw s) = held s := by simp [draw]
@[simp] theorem held_draws (s : State) (k : Nat) : held (draws s k) = held s := by simp [draws]
@[simp] theorem held_drawBool (s : State) : held (drawBool s).1 = held s := by simp [drawBool]
@[simp] theorem held_drawBelow (s : State) (m : Nat) : held (drawBelow s m).1 = held s := by simp [drawBelow]
@[simp] theorem held_drawWithin (s : State) (m : Nat) : held (drawWithin s m).1 = held s := by simp [drawWithin]
@[simp] theorem held_ledgAxis (s : State) (f : Fld) (n b k : Nat) : held (ledgAxis s f n b k) = held s := by simp [ledgAxis]

/-! ## Queues -/

@[simp] theorem held_setQd (s : State) (q : Nat) (d : QDesc) : held (setQd s q d) = held s := by simp [setQd]
@[simp] theorem held_watermark (s : State) (q : Nat) (a : Nat) (b : Nat) :
    held (watermark s q a b) = held s :=
  (quiet_watermark _ _ _ _).held_eq
@[simp] theorem held_dropReplies (s : State) (q : Nat) :
    held (dropReplies s q) = held s :=
  (quiet_dropReplies _ _).held_eq
@[simp] theorem held_freeListFault (s : State) :
    held (freeListFault s) = held s :=
  (quiet_freeListFault _).held_eq
@[simp] theorem held_startReset (s : State) (q : Nat) (reason : Nat) :
    held (startReset s q reason) = held s :=
  (quiet_startReset _ _ _).held_eq
@[simp] theorem held_appendMark (s : State) (q : Nat) (d : QDesc) (k : QMark) :
    held (appendMark s q d k) = held s :=
  (quiet_appendMark _ _ _ _).held_eq
@[simp] theorem held_dropGap (s : State) (q : Nat) :
    held (dropGap s q) = held s :=
  (quiet_dropGap _ _).held_eq
@[simp] theorem held_dropReset (s : State) (q : Nat) :
    held (dropReset s q) = held s :=
  (quiet_dropReset _ _).held_eq
@[simp] theorem held_placeMark (s : State) (q : Nat) :
    held (placeMark s q) = held s :=
  (quiet_placeMark _ _).held_eq
@[simp] theorem held_placeMarks (s : State) : held (placeMarks s) = held s := by simp [placeMarks]
@[simp] theorem held_putSetQ (s : State) (q : Nat) (x : SetQ) : held (putSetQ s q x) = held s := by simp [putSetQ]
@[simp] theorem held_noteRecord (s : State) (q : Nat) (k : Nat) :
    held (noteRecord s q k) = held s :=
  (quiet_noteRecord _ _ _).held_eq
@[simp] theorem held_noteGone (s : State) (q : Nat) (x : QSlot) : held (noteGone s q x) = held s := by simp [noteGone]
@[simp] theorem held_pushWords (s : State) (q : Nat) (r : List QWord) :
    held (pushWords s q r).1 = held s :=
  (quiet_pushWords _ _ _).held_eq
@[simp] theorem held_pushPool (s : State) (q : Nat) (r : List QWord) :
    held (pushPool s q r).1 = held s :=
  (quiet_pushPool _ _ _).held_eq
@[simp] theorem held_pushSorted (s : State) (port : Nat) (q : Nat) (prio : Nat) (r : List QWord) :
    held (pushSorted s port q prio r).1 = held s :=
  (quiet_pushSorted _ _ _ _ _).held_eq
@[simp] theorem held_qPush (s : State) (port : Nat) (q : Nat) (prio : Nat) (r : List QWord) :
    held (qPush s port q prio r).1 = held s :=
  (quiet_qPush _ _ _ _ _).held_eq
@[simp] theorem held_qPushBytes (s : State) (port : Nat) (q : Nat) (bs : List Byte) :
    held (qPushBytes s port q bs).1 = held s :=
  (quiet_qPushBytes _ _ _ _).held_eq
@[simp] theorem held_readable (s : State) (q : Nat) : held (readable s q).1 = held s := by
  unfold readable; repeat' split
  all_goals simp
@[simp] theorem held_cellsBack (old : Qm) (s : State) : held (cellsBack old s) = held s := by simp [cellsBack]
@[simp] theorem held_popPool (s0 : State) (q : Nat) : held (popPool s0 q).1 = held s0 := by
  unfold popPool; dsimp only; repeat' split
  all_goals simp
@[simp] theorem held_popSorted (s : State) (q : Nat) : held (popSorted s q).1 = held s := by
  unfold popSorted; dsimp only; repeat' split
  all_goals simp
@[simp] theorem held_qPop (s : State) (q : Nat) : held (qPop s q).1 = held s := by simp [qPop]
@[simp] theorem held_portOut (s : State) (port : Nat) (x : Popped) : held (portOut s port x) = held s := by simp [portOut]
@[simp] theorem held_qPeek (s0 : State) (q i : Nat) : held (qPeek s0 q i).1 = held s0 := by simp [qPeek]
@[simp] theorem held_qDiscard (s0 : State) (q n : Nat) : held (qDiscard s0 q n).1 = held s0 := by
  unfold qDiscard; dsimp only; repeat' split
  all_goals simp
theorem held_withQm (s : State) (m : Qm) : held { s with qm := m } = held s := rfl
@[simp] theorem held_resetQueue (s : State) (q : Nat) : held (resetQueue s q) = held s := by
  unfold resetQueue
  split
  · refine (held_withQm _ _).trans ?_
    rw [held_setQd, held_raiseD, held_incSat]
  · split
    · exact held_startReset s q 6
    · rfl
@[simp] theorem held_enterPass (s : State) (q : Nat) : held (enterPass s q) = held s := by
  unfold enterPass; dsimp only; split <;> simp
@[simp] theorem held_sweepStart (s : State) : held (sweepStart s) = held s := by unfold sweepStart; split <;> simp
@[simp] theorem held_endReset (s : State) (q : Nat) : held (endReset s q) = held s := by
  unfold endReset; dsimp only; split <;> simp
@[simp] theorem held_poolLow (s : State) : held (poolLow s) = held s := by simp [poolLow]
@[simp] theorem held_sweepEnd (s : State) : held (sweepEnd s) = held s := by unfold sweepEnd; split <;> simp
@[simp] theorem held_rebuildEnd (s : State) : held (rebuildEnd s) = held s := by simp [rebuildEnd]
@[simp] theorem held_qNoticeClear (s : State) (q : Nat) : held (qNoticeClear s q) = held s := by simp [qNoticeClear]

/-! ## Trace -/

@[simp] theorem held_setProbe (s : State) (j : Nat) (x : Probe) : held (setProbe s j x) = held s := by simp [setProbe]
@[simp] theorem held_trcPush (s : State) (j : Nat) :
    held (trcPush s j) = held s :=
  (quiet_trcPush _ _).held_eq
@[simp] theorem held_trcFinish (s : State) :
    held (trcFinish s) = held s :=
  (quiet_trcFinish _).held_eq
@[simp] theorem held_trcTrigger (s : State) :
    held (trcTrigger s) = held s :=
  (quiet_trcTrigger _).held_eq
@[simp] theorem held_trcSample (s : State) (j : Nat) (x : Int) : held (trcSample s j x) = held s := by
  unfold trcSample; dsimp only; repeat' split
  all_goals simp
@[simp] theorem held_trcArm (s : State) : held (trcArm s) = held s := by simp [trcArm]
@[simp] theorem held_trcStop (s : State) : held (trcStop s) = held s := by simp [trcStop]

/-! ## Events, answers and messages -/

@[simp] theorem held_evTrace (s : State) (e : Ev) : held (evTrace s e) = held s := by simp [evTrace]
@[simp] theorem held_logEvent (s : State) (e : Ev) :
    held (logEvent s e) = held s := by
  rw [logEvent, held_mk, held_eta]
@[simp] theorem held_pushEvent (s : State) (e : Ev) :
    held (pushEvent s e) = held s :=
  (quiet_pushEvent _ _).held_eq
@[simp] theorem held_holdEvent (s : State) (e : Ev) :
    held (holdEvent s e) = held s :=
  (quiet_holdEvent _ _).held_eq
@[simp] theorem held_flushRound (s : State) :
    held (flushRound s) = held s :=
  (quiet_flushRound _).held_eq
@[simp] theorem held_flushEvents (n : Nat) (s : State) : held (flushEvents n s) = held s := (quiet_flush n s).held_eq
@[simp] theorem held_openEvents (s : State) : held (openEvents s) = held s := by simp [openEvents]
@[simp] theorem held_reply (s : State) (src : Src) (typ op status : Nat) (body : List Byte) :
    held (reply s src typ op status body) = held s := by
  unfold reply; split <;> simp
@[simp] theorem held_replyWrite (s : State) (src : Src) (addr status : Nat) :
    held (replyWrite s src addr status) = held s := by
  simp [replyWrite]
@[simp] theorem held_hold (s : State) (src : Src) : held (hold s src) = held s := by unfold hold; split <;> simp
@[simp] theorem held_release (s : State) (src : Src) : held (release s src) = held s := by unfold release; split <;> simp
@[simp] theorem held_takeMsg (s : State) (src : Src) : held (takeMsg s src) = held s := by simp [takeMsg]
@[simp] theorem held_trigger (s : State) (target cause : Nat) (src : Option Src) :
    held (trigger s target cause src) = held s := by
  simp [trigger]
@[simp] theorem held_forAxes (f : State → Nat → State) (s : State) (h : ∀ s n, held (f s n) = held s) :
    held (forAxes f s) = held s :=
  held_foldl f _ s h

/-! ## The front end -/

@[simp] theorem held_setAx (s : State) (n : Nat) (a : Axis) : held (setAx s n a) = held s := by simp [setAx]
@[simp] theorem held_modExc (s : State) (n : Nat) (f : AxExc → AxExc) : held (modExc s n f) = held s := by simp [modExc]
@[simp] theorem held_modFe (s : State) (n : Nat) (f : AxFe → AxFe) : held (modFe s n f) = held s := by simp [modFe]
@[simp] theorem held_modFlt (s : State) (n : Nat) (f : AxFlt → AxFlt) : held (modFlt s n f) = held s := by simp [modFlt]
@[simp] theorem held_modTrk (s : State) (n : Nat) (f : AxTrk → AxTrk) : held (modTrk s n f) = held s := by simp [modTrk]
@[simp] theorem held_setGrp (s : State) (g : Nat) (x : Grp) : held (setGrp s g x) = held s := by simp [setGrp]
@[simp] theorem held_setAux (s : State) (k : Nat) (x : Aux) : held (setAux s k x) = held s := by simp [setAux]
@[simp] theorem held_setAuxo (s : State) (k : Nat) (x : Auxo) : held (setAuxo s k x) = held s := by simp [setAuxo]
@[simp] theorem held_auxoLow (s : State) (k : Nat) : held (auxoLow s k) = held s := by simp [auxoLow]
@[simp] theorem held_stopDriver (s : State) (n : Nat) : held (stopDriver s n) = held s := by simp [stopDriver]
@[simp] theorem held_applySwitch (s : State) (n : Nat) (sine pos : Bool) : held (applySwitch s n sine pos) = held s := by
  simp [applySwitch]
@[simp] theorem held_edgeSwitch (s : State) (n : Nat) (start pos : Bool) : held (edgeSwitch s n start pos) = held s := by
  simp [edgeSwitch]
@[simp] theorem held_edgeDecision (s : State) (n : Nat) : held (edgeDecision s n) = held s := by
  unfold edgeDecision; split <;> simp
@[simp] theorem held_edgeDriver (s : State) (n : Nat) (pos : Bool) : held (edgeDriver s n pos) = held s := by
  simp [edgeDriver]
@[simp] theorem held_startHalf (s : State) (n : Nat) (pos : Bool) : held (startHalf s n pos) = held s := by simp [startHalf]
@[simp] theorem held_cutHalf (s : State) (n : Nat) (neg : Bool) : held (cutHalf s n neg) = held s := by simp [cutHalf]
@[simp] theorem held_bwCheck (s : State) (n : Nat) : held (bwCheck s n) = held s := by simp [bwCheck]
@[simp] theorem held_joinGroup (s : State) (n g : Nat) : held (joinGroup s n g) = held s := by simp [joinGroup]
@[simp] theorem held_axisEdge (g : Nat) (start pos : Bool) (s : State) (n : Nat) :
    held (axisEdge g start pos s n) = held s := by
  simp [axisEdge]
@[simp] theorem held_forceGroup (s : State) (g : Nat) : held (forceGroup s g) = held s := by simp [forceGroup]
@[simp] theorem held_bwGroup (s : State) (g : Nat) : held (bwGroup s g) = held s := by simp [bwGroup]
@[simp] theorem held_startGroup (s : State) (g : Nat) : held (startGroup s g) = held s := by simp [startGroup]
@[simp] theorem held_nextHalf (s : State) (g : Nat) : held (nextHalf s g) = held s := by simp [nextHalf]
@[simp] theorem held_stopGroup (s : State) (g : Nat) : held (stopGroup s g) = held s := by simp [stopGroup]
@[simp] theorem held_groupAxes (s : State) (g : Nat) (start : Bool) : held (groupAxes s g start) = held s := by
  simp [groupAxes]
@[simp] theorem held_holdGroup (s : State) (g : Nat) (moved : Bool) : held (holdGroup s g moved) = held s := by
  simp [holdGroup]
@[simp] theorem held_groupEdge (s : State) (g : Nat) : held (groupEdge s g) = held s := by simp [groupEdge]
@[simp] theorem held_setRange (s : State) (n : Nat) (cur : Bool) (r : Nat) : held (setRange s n cur r) = held s := by
  simp [setRange]
@[simp] theorem held_startRange (s : State) (n : Nat) (cur : Bool) : held (startRange s n cur) = held s := by
  simp [startRange]
@[simp] theorem held_clearRanging (s : State) (n : Nat) (cur : Bool) : held (clearRanging s n cur) = held s := by
  simp [clearRanging]
@[simp] theorem held_openWindow (s : State) (n : Nat) (cur : Bool) (len : Nat) : held (openWindow s n cur len) = held s := by
  simp [openWindow]
@[simp] theorem held_changeRange (s : State) (n : Nat) (cur : Bool) : held (changeRange s n cur) = held s := by
  unfold changeRange; repeat' split
  all_goals simp
@[simp] theorem held_upRange (s : State) (n : Nat) (cur : Bool) (x : Int) (clamp : Bool) (t : Nat) :
    held (upRange s n cur x clamp t) = held s := by
  simp [upRange]
@[simp] theorem held_downRange (s : State) (n : Nat) (cur low : Bool) (limit t : Nat) :
    held (downRange s n cur low limit t) = held s := by
  simp [downRange]
@[simp] theorem held_setSource (s : State) (n : Nat) (cur : Bool) (src : Nat) : held (setSource s n cur src) = held s := by
  simp [setSource]
@[simp] theorem held_switchMux (s : State) (n : Nat) (cur : Bool) : held (switchMux s n cur) = held s := by simp [switchMux]

/-! ## Protection -/

@[simp] theorem held_modPwm (s : State) (n : Nat) (f : AxPwm → AxPwm) : held (modPwm s n f) = held s := by simp [modPwm]
@[simp] theorem held_modLoop (s : State) (n : Nat) (f : AxLoop → AxLoop) : held (modLoop s n f) = held s := by simp [modLoop]
@[simp] theorem held_setMode (s : State) (n m cause : Nat) : held (setMode s n m cause) = held s := by simp [setMode]
@[simp] theorem held_answer (s : State) (src : Src) (o : ObjId) (i status : Nat) :
    held (answer s src o i status) = held s := by
  simp [answer]
@[simp] theorem held_refuseReq (s : State) (n : Nat) : held (refuseReq s n) = held s := by unfold refuseReq; split <;> simp
@[simp] theorem held_recordSources (s : State) (n extra : Nat) : held (recordSources s n extra) = held s := by
  unfold recordSources; split <;> simp
@[simp] theorem held_updDrv (s : State) : held (updDrv s) = held s := by simp [updDrv]
@[simp] theorem held_wantDrv (s : State) (m : Nat) : held (wantDrv s m) = held s := by simp [wantDrv]
@[simp] theorem held_undoCommit (s : State) (n : Nat) : held (undoCommit s n) = held s := by
  unfold undoCommit; split <;> simp
@[simp] theorem held_dropEvals (s : State) (n : Nat) : held (dropEvals s n) = held s := by simp [dropEvals]
@[simp] theorem held_enterTripped (s : State) (n cause : Nat) : held (enterTripped s n cause) = held s := by
  simp [enterTripped]
@[simp] theorem held_latchOne (s : State) (n cause extra : Nat) : held (latchOne s n cause extra) = held s := by
  simp [latchOne]
@[simp] theorem held_groupDisable (s : State) (n : Nat) : held (groupDisable s n) = held s := by simp [groupDisable]
@[simp] theorem held_tripMate (s : State) (n cause extra : Nat) : held (tripMate s n cause extra) = held s := by
  unfold tripMate; split <;> simp
@[simp] theorem held_tripMates (s : State) (extra : Nat) (old : State) : held (tripMates s extra old) = held s := by
  simp [tripMates]
@[simp] theorem held_trip (s : State) (n cause extra : Nat) : held (trip s n cause extra) = held s := by simp [trip]
@[simp] theorem held_clockTrip (s : State) : held (clockTrip s) = held s := by simp [clockTrip]
@[simp] theorem held_laneTrip (s : State) (n cause : Nat) : held (laneTrip s n cause) = held s := by simp [laneTrip]
@[simp] theorem held_tripCheck (s : State) (n : Nat) : held (tripCheck s n) = held s := by simp [tripCheck]
@[simp] theorem held_safeGates (s : State) (n : Nat) : held (safeGates s n) = held s := by simp [safeGates]
@[simp] theorem held_lowGates (s : State) (n : Nat) : held (lowGates s n) = held s := by simp [lowGates]
@[simp] theorem held_rearm (s : State) (n : Nat) : held (rearm s n).1 = held s := by simp [rearm]

/-! ## Twin records -/

@[simp] theorem held_modRed (s : State) (f : Red → Red) : held (modRed s f) = held s := by simp [modRed]
@[simp] theorem held_modMem (s : State) (k : Nat) (f : Member → Member) : held (modMem s k f) = held s := by simp [modMem]
@[simp] theorem held_twinPut (s : State) (k : Nat) (r : List Byte) : held (twinPut s k r) = held s := by simp [twinPut]
@[simp] theorem held_twinAll (s : State) (r : List Byte) : held (twinAll s r) = held s := by simp [twinAll]
@[simp] theorem held_twinTell (s : State) (r : List Byte) : held (twinTell s r) = held s := by simp [twinTell]
@[simp] theorem held_tellObj (s : State) (n j : Nat) (o : ObjId) (i : Nat) : held (tellObj s n j o i) = held s := by
  simp [tellObj]
@[simp] theorem held_noteDue (s : State) (n : Nat) (d : TwinDue) : held (noteDue s n d) = held s := by simp [noteDue]

/-! ## Filters -/

@[simp] theorem held_auxRead (s : State) (k : Nat) (x : Int) (tag : Nat) (st : Strobe) :
    held (auxRead s k x tag st) = held s := by
  simp [auxRead]
@[simp] theorem held_setResChain (s : State) (n : Nat) (cos : Bool) (c : Chain) : held (setResChain s n cos c) = held s := by
  simp [setResChain]
@[simp] theorem held_clearRes (s : State) (n : Nat) (cos : Bool) (st : Strobe) : held (clearRes s n cos st) = held s := by
  simp [clearRes]
@[simp] theorem held_meanAt (s : State) (sum cnt : Nat) : held (meanAt s sum cnt).1 = held s := by simp [meanAt]
@[simp] theorem held_midAt (s : State) (a b : Int) : held (midAt s a b).1 = held s := by simp [midAt]
@[simp] theorem held_decideExc (s : State) (n : Nat) (sine : Bool) : held (decideExc s n sine) = held s := by
  simp [decideExc]
@[simp] theorem held_fallBack (s : State) (n : Nat) : held (fallBack s n) = held s := by simp [fallBack]
@[simp] theorem held_squareCheck (s : State) (n : Nat) (pS pC : Int) : held (squareCheck s n pS pC).1 = held s := by
  simp [squareCheck]
@[simp] theorem held_countShort (s : State) (n cfg : Nat) (y : Smp) : held (countShort s n cfg y) = held s := by
  simp [countShort]
@[simp] theorem held_centroids (s : State) (n : Nat) (st : Strobe) : held (centroids s n st).1 = held s := by
  simp [centroids]
@[simp] theorem held_plateauDone (s : State) (n : Nat) (st : Strobe) (pC : Plateau) :
    held (plateauDone s n st pC) = held s := by
  simp [plateauDone]
@[simp] theorem held_corrDone (s : State) (n : Nat) (st : Strobe) (pC : Plateau) : held (corrDone s n st pC) = held s := by
  simp [corrDone]
@[simp] theorem held_resOut (s : State) (n : Nat) (cos : Bool) (st : Strobe) (y : Smp) :
    held (resOut s n cos st y) = held s := by
  simp [resOut]
@[simp] theorem held_closeHalf (s : State) (n : Nat) (st : Strobe) : held (closeHalf s n st) = held s := by simp [closeHalf]
@[simp] theorem held_noteRing (s : State) (n : Nat) (cos : Bool) (st : Strobe) (x : Smp) :
    held (noteRing s n cos st x) = held s := by
  simp [noteRing]
@[simp] theorem held_resRange (s : State) (n : Nat) (cos : Bool) (st : Strobe) (x : Smp) :
    held (resRange s n cos st x) = held s := by
  simp [resRange]
@[simp] theorem held_noteKept (s : State) (n : Nat) (cos : Bool) (st : Strobe) (fed : Option Smp) :
    held (noteKept s n cos st fed) = held s := by
  unfold noteKept; split <;> simp
@[simp] theorem held_emitted (s : State) (n : Nat) (cos : Bool) : held (emitted s n cos) = held s := by simp [emitted]
@[simp] theorem held_flushCut (s : State) (n : Nat) (cos : Bool) (st : Strobe) : held (flushCut s n cos st) = held s := by
  unfold flushCut; dsimp only; repeat' split
  all_goals simp
@[simp] theorem held_feedRes (s : State) (n : Nat) (cos : Bool) (st : Strobe) (smp : Smp) :
    held (feedRes s n cos st smp) = held s := by
  unfold feedRes; dsimp only; split <;> simp
@[simp] theorem held_resRead (s : State) (n : Nat) (cos : Bool) (x : Int) (tag : Nat) (st : Strobe) :
    held (resRead s n cos x tag st) = held s := by
  simp [resRead]
@[simp] theorem held_curPeriod (s : State) (n : Nat) : held (curPeriod s n) = held s := by simp [curPeriod]
@[simp] theorem held_curRange (s : State) (n : Nat) (isB : Bool) (st : Strobe) (x : Smp) :
    held (curRange s n isB st x) = held s := by
  simp [curRange]
@[simp] theorem held_curRead (s : State) (n : Nat) (isB : Bool) (x : Int) (tag : Nat) (st : Strobe) :
    held (curRead s n isB x tag st) = held s := by
  simp [curRead]
@[simp] theorem held_takeResult (s : State) (slot : Nat) : held (takeResult s slot).1 = held s := by
  unfold takeResult; repeat' split
  all_goals simp
@[simp] theorem held_slotRead (s : State) (slot : Nat) : held (slotRead s slot).1 = held s := by
  unfold slotRead; split <;> simp

/-! ## Tracking -/

@[simp] theorem held_obsClear (s : State) (n : Nat) : held (obsClear s n) = held s := by simp [obsClear]
@[simp] theorem held_obsStop (s : State) (n : Nat) : held (obsStop s n) = held s := by simp [obsStop]
@[simp] theorem held_setEnc (s : State) (k : Nat) (x : Enc) : held (setEnc s k x) = held s := by simp [setEnc]
@[simp] theorem held_encFlags (s : State) (k : Nat) (live wait hold ovr : Bool) :
    held (encFlags s k live wait hold ovr) = held s := by
  simp [encFlags]
@[simp] theorem held_encShow (s : State) (k : Nat) (e : Enc) : held (encShow s k e) = held s := by simp [encShow]
@[simp] theorem held_encStop (s : State) (k : Nat) : held (encStop s k) = held s := by simp [encStop]
@[simp] theorem held_encHold (s : State) (k : Nat) : held (encHold s k) = held s := by simp [encHold]
@[simp] theorem held_encHoldAll (s : State) (n : Nat) : held (encHoldAll s n) = held s := by simp [encHoldAll]
@[simp] theorem held_dropPairSet (s : State) (n : Nat) :
    held (dropPairSet s n) = held s := held_foldl _ _ _ fun _ _ => held_modLoop _ _ _
@[simp] theorem held_obsLoss (s : State) (n : Nat) : held (obsLoss s n) = held s := by simp [obsLoss]
@[simp] theorem held_noteAmp (s : State) (n : Nat) (pass : Bool) : held (noteAmp s n pass) = held s := by simp [noteAmp]
@[simp] theorem held_takePair (s : State) (n : Nat) : held (takePair s n).1 = held s := by unfold takePair; split <;> simp
@[simp] theorem held_obsPredict (s : State) (n : Nat) (t : Int) : held (obsPredict s n t) = held s := by simp [obsPredict]
@[simp] theorem held_obsCorrect (s : State) (n : Nat) (e15 : Int) : held (obsCorrect s n e15).1 = held s := by
  simp [obsCorrect]
@[simp] theorem held_obsAcquire (s : State) (n : Nat) (s1 c3 : Int) : held (obsAcquire s n s1 c3) = held s := by
  simp [obsAcquire]
@[simp] theorem held_obsVerdict (s : State) (n : Nat) (inWin falseLock clamped : Bool) :
    held (obsVerdict s n inWin falseLock clamped) = held s := by
  simp [obsVerdict]
@[simp] theorem held_obsUse (s : State) (n : Nat) (s1 c3 m : Int) : held (obsUse s n s1 c3 m) = held s := by simp [obsUse]
@[simp] theorem held_obsCoast (s : State) (n : Nat) : held (obsCoast s n) = held s := by simp [obsCoast]
@[simp] theorem held_obsPosSet (s : State) (n : Nat) (usable : Bool) : held (obsPosSet s n usable) = held s := by
  unfold obsPosSet; split <;> simp
@[simp] theorem held_obsWrap (s : State) (n : Nat) (old new : Int) : held (obsWrap s n old new) = held s := by simp [obsWrap]
@[simp] theorem held_obsMotion (s : State) (n : Nat) (coast : Bool) (dt : Int) : held (obsMotion s n coast dt) = held s := by
  simp [obsMotion]
@[simp] theorem held_obsLedger (s : State) (n : Nat) (praw v : Int) : held (obsLedger s n praw v) = held s := by
  unfold obsLedger; repeat' split
  all_goals simp
@[simp] theorem held_obsSnap (s : State) (n : Nat) : held (obsSnap s n) = held s := by simp [obsSnap]
@[simp] theorem held_obsStep (s : State) (n : Nat) : held (obsStep s n) = held s := by
  unfold obsStep; dsimp only; split <;> simp
@[simp] theorem held_encNote (s : State) (k et : Nat) (e : Enc) : held (encNote s k et e) = held s := by simp [encNote]
@[simp] theorem held_encFollow (s : State) (k et : Nat) (e : Enc) : held (encFollow s k et e) = held s := by simp [encFollow]
@[simp] theorem held_encMark (s : State) (k : Nat) : held (encMark s k) = held s := by simp [encMark]

/-! ## Axis modes -/

@[simp] theorem held_settlePresets (s : State) (n : Nat) : held (settlePresets s n) = held s := by simp [settlePresets]
@[simp] theorem held_applyPreset (s : State) (n old m : Nat) (brake all : Bool) :
    held (applyPreset s n old m brake all) = held s := by
  simp [applyPreset]
@[simp] theorem held_modeGates (s : State) (n m : Nat) (wasDriving : Bool) : held (modeGates s n m wasDriving) = held s := by
  simp [modeGates]
@[simp] theorem held_modeTrack (s : State) (n old m : Nat) : held (modeTrack s n old m) = held s := by simp [modeTrack]
@[simp] theorem held_takeMode (s : State) (n m cause : Nat) : held (takeMode s n m cause) = held s := by simp [takeMode]
@[simp] theorem held_enterMode (s : State) (n m cause : Nat) : held (enterMode s n m cause) = held s := by simp [enterMode]
@[simp] theorem held_stopDrv (s : State) : held (stopDrv s) = held s := by simp [stopDrv]
@[simp] theorem held_stopAxis (s : State) (n cause : Nat) : held (stopAxis s n cause) = held s := by simp [stopAxis]
@[simp] theorem held_stopPair (s : State) (n cause : Nat) : held (stopPair s n cause) = held s := by simp [stopPair]
@[simp] theorem held_resumeAxis (s : State) (n : Nat) : held (resumeAxis s n) = held s := by simp [resumeAxis]
@[simp] theorem held_holdAxes (s : State) : held (holdAxes s) = held s := by simp [holdAxes]
@[simp] theorem held_resumeAxes (s : State) : held (resumeAxes s) = held s := by simp [resumeAxes]
@[simp] theorem held_stopStart (s : State) (n : Nat) : held (stopStart s n) = held s := by simp [stopStart]
@[simp] theorem held_stopAxes (s : State) : held (stopAxes s) = held s := by simp [stopAxes]
@[simp] theorem held_stopLimit (s : State) : held (stopLimit s) = held s := by simp [stopLimit]
@[simp] theorem held_latchAxes (s : State) : held (latchAxes s) = held s := by simp [latchAxes]
@[simp] theorem held_startAxes (s : State) : held (startAxes s) = held s := by simp [startAxes]

/-! ## Set-points -/

@[simp] theorem held_spTake (s : State) (n : Nat) (t : SpTake) : held (spTake s n t) = held s := by simp [spTake]

/-! ## The fabric -/

@[simp] theorem held_modFab (s : State) (f : Fab → Fab) : held (modFab s f) = held s := by simp [modFab]
@[simp] theorem held_modLk (s : State) (p : Nat) (f : Link → Link) : held (modLk s p f) = held s := by simp [modLk]
@[simp] theorem held_putWords (s : State) (p : Nat) (ws : List (BitVec 24)) : held (putWords s p ws) = held s := by
  simp [putWords]
@[simp] theorem held_giveBack (s : State) (p cls k : Nat) : held (giveBack s p cls k) = held s := by simp [giveBack]
@[simp] theorem held_queueFrame (s : State) (p : Nat) (h : Hdr) (payload : List Byte) :
    held (queueFrame s p h payload).1 = held s := by
  simp [queueFrame]
@[simp] theorem held_sendFctl (s : State) (p cls : Nat) (bcast adj : Bool) (payload : List Byte) :
    held (sendFctl s p cls bcast adj payload) = held s := by
  simp [sendFctl]
@[simp] theorem held_showFab (s : State) :
    held (showFab s) = held s := by
  unfold showFab
  extract_lets own s1 path par s2 s3
  have h1 : held s1 = held s := by
    unfold s1
    clear s3 s2 par path s1
    clear_value own
    split
    · dsimp only
      split <;> split <;> simp
    · rfl
  have h3 : held s3 = held s := by
    unfold s3
    clear s3
    clear_value s1
    split <;> simp [s2, h1]
  refine (held_foldl _ _ _ fun t p => ?_).trans h3
  dsimp only
  split <;> simp
@[simp] theorem held_gmChange (old s : State) : held (gmChange old s) = held s := by simp [gmChange]
@[simp] theorem held_settle (s : State) (yes : Bool) : held (settle s yes) = held s := by simp [settle]
@[simp] theorem held_dbChanged (s : State) : held (dbChanged s) = held s := by simp [dbChanged]
@[simp] theorem held_switchRoutes (s : State) (p : Nat) : held (switchRoutes s p) = held s := by simp [switchRoutes]
@[simp] theorem held_reportRoutes (s : State) (p : Nat) :
    held (reportRoutes s p) = held s := by
  refine held_foldl _ _ _ fun t r => ?_
  dsimp only
  split <;> simp
@[simp] theorem held_drainQ (n : Nat) (s : State) (q : Nat) (acc : List Byte) : held (drainQ n s q acc).1 = held s := by
  induction n generalizing s acc with
  | zero => rfl
  | succ n ih => simp only [drainQ]; split <;> simp [ih]
@[simp] theorem held_reroute (s : State) (cls : Nat) (x : List Byte × Bool) : held (reroute s cls x) = held s := by
  unfold reroute; dsimp only; repeat' split
  all_goals simp
@[simp] theorem held_heldFrames (s : State) (p : Nat) (c : Nat) :
    held (heldFrames s p c).1 = held s := held_drainQ _ _ _ _
@[simp] theorem held_freeTransit (s : State) (xs : List Transit) : held (freeTransit s xs) = held s := by simp [freeTransit]
@[simp] theorem held_dropHeld (s : State) (p : Nat) : held (dropHeld s p) = held s := by simp [dropHeld]
@[simp] theorem held_ownUpdate (s : State) : held (ownUpdate s) = held s := by simp [ownUpdate]
@[simp] theorem held_leaveUp (s : State) (p why : Nat) : held (leaveUp s p why) = held s := by simp [leaveUp]
@[simp] theorem held_setLink (s : State) (p st why : Nat) : held (setLink s p st why) = held s := by simp [setLink]
@[simp] theorem held_linkDown (s : State) (p why : Nat) : held (linkDown s p why) = held s := by simp [linkDown]
@[simp] theorem held_sayDown (s : State) (p why : Nat) : held (sayDown s p why) = held s := by simp [sayDown]
@[simp] theorem held_takeDown (s : State) (p why : Nat) : held (takeDown s p why) = held s := by simp [takeDown]
@[simp] theorem held_linkOff (s : State) (p why : Nat) : held (linkOff s p why) = held s := by simp [linkOff]
@[simp] theorem held_linkQuar (s : State) (p why : Nat) : held (linkQuar s p why) = held s := by simp [linkQuar]
@[simp] theorem held_linkTrain (s : State) (p : Nat) : held (linkTrain s p) = held s := by simp [linkTrain]
@[simp] theorem held_replayFrom (s : State) (p : Nat) (from_ : List Sent) : held (replayFrom s p from_) = held s := by
  simp [replayFrom]
@[simp] theorem held_ackUpTo (s : State) (p a : Nat) : held (ackUpTo s p a) = held s := by simp [ackUpTo]
@[simp] theorem held_crcError (s : State) (p : Nat) : held (crcError s p) = held s := by simp [crcError]
@[simp] theorem held_macFailure (s : State) (p : Nat) : held (macFailure s p) = held s := by simp [macFailure]
@[simp] theorem held_onWire (s : State) (p lseq cls : Nat) (bs : List Byte) : held (onWire s p lseq cls bs) = held s := by
  simp [onWire]
@[simp] theorem held_useCredits (s : State) (p cls : Nat) (bs : List Byte) : held (useCredits s p cls bs) = held s := by
  simp [useCredits]
@[simp] theorem held_sendNew (s : State) (p cls : Nat) (bs : List Byte) : held (sendNew s p cls bs) = held s := by
  simp [sendNew]
@[simp] theorem held_sendCut (s : State) (p cls : Nat) (bs : List Byte) : held (sendCut s p cls bs) = held s := by
  simp [sendCut]
@[simp] theorem held_takeToken (s : State) (p : Nat) (mgmt : Bool) : held (takeToken s p mgmt).1 = held s := by
  simp [takeToken]

/-! ## Twins -/

@[simp] theorem held_setRole (s : State) (role : Nat) : held (setRole s role) = held s := by simp [setRole]
@[simp] theorem held_showRed (s : State) : held (showRed s) = held s := by
  unfold showRed; dsimp only; repeat' split
  all_goals simp
@[simp] theorem held_loadCkpt (s : State) (n : Nat) (ws : List Int) : held (loadCkpt s n ws) = held s := by simp [loadCkpt]
@[simp] theorem held_redStop (s : State) : held (redStop s) = held s := by simp [redStop]
@[simp] theorem held_twinMismatch (s : State) (n : Nat) : held (twinMismatch s n) = held s := by simp [twinMismatch]
@[simp] theorem held_noMajority (s : State) : held (noMajority s) = held s := by simp [noMajority]
@[simp] theorem held_releaseSelf (s : State) : held (releaseSelf s) = held s := by simp [releaseSelf]
@[simp] theorem held_sendSnap (s : State) (k : Nat) : held (sendSnap s k) = held s := by simp [sendSnap]
@[simp] theorem held_startHandover (s : State) (hold : Bool) : held (startHandover s hold) = held s := by
  simp [startHandover]
@[simp] theorem held_selfOdd (s : State) : held (selfOdd s) = held s := by
  unfold selfOdd; dsimp only; repeat' split
  all_goals simp
@[simp] theorem held_otherOdd (s : State) (k : Nat) : held (otherOdd s k) = held s := by simp [otherOdd]
@[simp] theorem held_setOdd (s : State) (k : Nat) : held (setOdd s k) = held s := by simp [setOdd]
@[simp] theorem held_agreeRun (s : State) (n : Nat) : held (agreeRun s n) = held s := by simp [agreeRun]
@[simp] theorem held_disagree (s : State) (n : Nat) : held (disagree s n) = held s := by simp [disagree]
@[simp] theorem held_resyncDone (s : State) : held (resyncDone s) = held s := by simp [resyncDone]
@[simp] theorem held_vote (s : State) (n : Nat) (votes : List (Nat × Nat)) : held (vote s n votes) = held s := by
  unfold vote; dsimp only; split <;> simp
@[simp] theorem held_compareCk (s : State) (n j : Nat) : held (compareCk s n j) = held s := by
  unfold compareCk; split <;> simp
@[simp] theorem held_formCkpt (s : State) (n j : Nat) : held (formCkpt s n j) = held s := by simp [formCkpt]
@[simp] theorem held_takeCkpt (s : State) (k : Nat) (c : Ckpt) : held (takeCkpt s k c) = held s := by simp [takeCkpt]
@[simp] theorem held_twinSend (s : State) (n : Nat) (d : TwinDue) : held (twinSend s n d) = held s := by
  unfold twinSend; split <;> simp
@[simp] theorem held_twinPass (s : State) (n : Nat) : held (twinPass s n) = held s := by simp [twinPass]
@[simp] theorem held_twinLate (s : State) (n : Nat) : held (twinLate s n) = held s := by unfold twinLate; split <;> simp
@[simp] theorem held_memberAbsent (s : State) (k : Nat) : held (memberAbsent s k) = held s := by simp [memberAbsent]
@[simp] theorem held_twinLost (s : State) (p : Nat) : held (twinLost s p) = held s := by unfold twinLost; split <;> simp
@[simp] theorem held_twinCheck (old s : State) : held (twinCheck old s) = held s := by simp [twinCheck]
@[simp] theorem held_takeRelease (s : State) (reason : Nat) : held (takeRelease s reason) = held s := by simp [takeRelease]
@[simp] theorem held_handSample (s : State) (pins : Nat) : held (handSample s pins) = held s := by
  unfold handSample; split <;> simp
@[simp] theorem held_forwardSet (s : State) (q : Nat) (r : List QWord) : held (forwardSet s q r) = held s := by
  simp [forwardSet]
@[simp] theorem held_pushFor (s : State) (port q prio : Nat) (r : List QWord) :
    held (pushFor s port q prio r).1 = held s := by
  unfold pushFor; repeat' split
  all_goals simp

/-! ## The run-ahead lane -/

@[simp] theorem held_unbrake (s : State) (n : Nat) : held (unbrake s n) = held s := by simp [unbrake]
@[simp] theorem held_countMiss (s : State) (n cause : Nat) : held (countMiss s n cause) = held s := by simp [countMiss]
@[simp] theorem held_missEval (s : State) (n cause load : Nat) : held (missEval s n cause load) = held s := by
  simp [missEval]
@[simp] theorem held_pairMiss (s : State) (n : Nat) (k : EvKind) : held (pairMiss s n k) = held s := by simp [pairMiss]
@[simp] theorem held_laneMismatch (s : State) (n : Nat) (commit : Bool) (c : Cmp) :
    held (laneMismatch s n commit c) = held s := by
  simp [laneMismatch]
@[simp] theorem held_laneAgree (s : State) (n : Nat) : held (laneAgree s n) = held s := by simp [laneAgree]
@[simp] theorem held_pHat (s : State) (n load : Nat) : held (pHat s n load).1 = held s := by simp [pHat]
@[simp] theorem held_meets (s : State) (n load : Nat) (c : Int) : held (meets s n load c).1 = held s := by simp [meets]
@[simp] theorem held_commit (s : State) (n : Nat) (e : Eval) (late : Bool) : held (commit s n e late) = held s := by
  simp [commit]
@[simp] theorem held_plausReact (s : State) (n : Nat) (r : Int) : held (plausReact s n r) = held s := by
  unfold plausReact; split <;> simp
@[simp] theorem held_pairReact (s : State) (n : Nat) (p : LoopPar) (o : EvOut) : held (pairReact s n p o) = held s := by
  simp [pairReact]
@[simp] theorem held_pairShare (s : State) (n : Nat) (e : Eval) (o : EvOut) : held (pairShare s n e o) = held s := by
  unfold pairShare; split <;> simp
@[simp] theorem held_stopReact (s : State) (n : Nat) (p : LoopPar) (k : EvKind) (m : EvIn) (o : EvOut) :
    held (stopReact s n p k m o) = held s := by
  simp [stopReact]
@[simp] theorem held_loopFlags (s : State) (n : Nat) (k : EvKind) (o : EvOut) : held (loopFlags s n k o) = held s := by
  simp [loopFlags]
@[simp] theorem held_advance (s : State) (n : Nat) (e : Eval) (o : EvOut) : held (advance s n e o) = held s := by
  simp [advance]
@[simp] theorem held_pushTel (s : State) (n j ns : Nat) : held (pushTel s n j ns) = held s := by simp [pushTel]
@[simp] theorem held_telCount (s : State) (n j ns : Nat) : held (telCount s n j ns) = held s := by simp [telCount]
@[simp] theorem held_telFlush (s : State) (n : Nat) : held (telFlush s n) = held s := by unfold telFlush; split <;> simp
@[simp] theorem held_startSlow (s : State) (n : Nat) (e : Eval) (c : Int) : held (startSlow s n e c) = held s := by
  simp [startSlow]
@[simp] theorem held_countSquash (s : State) (n cause : Nat) : held (countSquash s n cause) = held s := by simp [countSquash]
@[simp] theorem held_decideEval (s : State) (n load t : Nat) (cmp : Cmp) : held (decideEval s n load t cmp) = held s := by
  unfold decideEval; dsimp only; repeat' split
  all_goals simp
@[simp] theorem held_checkEquiv (s : State) (n : Nat) (e : Eval) (o : EvOut) : held (checkEquiv s n e o) = held s := by
  simp [checkEquiv]

/-! ## Timers -/

@[simp] theorem held_startTimer (s : State) (n : Nat) : held (startTimer s n) = held s := by simp [startTimer]
@[simp] theorem held_stopTimer (s : State) (n : Nat) : held (stopTimer s n) = held s := by simp [stopTimer]
@[simp] theorem held_updTimers (s : State) : held (updTimers s) = held s := by simp [updTimers]
@[simp] theorem held_timerLoad (s : State) (n : Nat) (peak : Bool) : held (timerLoad s n peak).1 = held s := by
  simp [timerLoad]
@[simp] theorem held_zeroUnused (s : State) (n : Nat) : held (zeroUnused s n) = held s := by simp [zeroUnused]
@[simp] theorem held_pairApply (s : State) (n : Nat) : held (pairApply s n) = held s := by
  unfold pairApply; repeat' split
  all_goals simp
@[simp] theorem held_taken (s : State) (n : Nat) (c : Option Commit) : held (taken s n c) = held s := by
  unfold taken; split <;> simp
@[simp] theorem held_brakeEnds (s : State) (n : Nat) (took : Bool) : held (brakeEnds s n took) = held s := by
  simp [brakeEnds]
@[simp] theorem held_brakeAt (s : State) (n now : Nat) : held (brakeAt s n now) = held s := by simp [brakeAt]
@[simp] theorem held_parNow (s : State) (n : Nat) : held (parNow s n) = held s := by simp [parNow]
@[simp] theorem held_monGroup (pins : Nat) (s : State) (g : Nat) : held (monGroup pins s g) = held s := by simp [monGroup]

/-! ## Monitor outputs -/

@[simp] theorem held_detClear (s : State) (n : Nat) : held (detClear s n) = held s := by simp [detClear]
@[simp] theorem held_failAxis (s : State) (n : Nat) : held (failAxis s n) = held s := by simp [failAxis]
@[simp] theorem held_detStep (s : State) (n : Nat) (bad : Bool) (cnt live seen : Fld) (lim code : Nat) :
    held (detStep s n bad cnt live seen lim code).1 = held s := by
  simp [detStep]
@[simp] theorem held_setMon (s : State) (c : Nat) (x : Mon) : held (setMon s c x) = held s := by simp [setMon]
@[simp] theorem held_monShow (s : State) (c state v : Nat) : held (monShow s c state v) = held s := by simp [monShow]
@[simp] theorem held_monTake (c n : Nat) (s : State) : held (monTake c n s).1 = held s := by
  induction n generalizing s with
  | zero => rfl
  | succ n ih => simp only [monTake]; repeat' split
                 all_goals simp [ih]
@[simp] theorem held_monUnder (s : State) (c : Nat) : held (monUnder s c) = held s := by simp [monUnder]
@[simp] theorem held_monFeed (s : State) (c : Nat) :
    held (monFeed s c) = held s := by
  unfold monFeed
  dsimp only
  split <;> simp
@[simp] theorem held_monGo (s : State) (c st : Nat) : held (monGo s c st) = held s := by simp [monGo]
@[simp] theorem held_monSpanStart (s : State) (c : Nat) (src : Option Src) : held (monSpanStart s c src) = held s := by
  simp [monSpanStart]
@[simp] theorem held_monAllSafe (s : State) : held (monAllSafe s) = held s := by simp [monAllSafe]
@[simp] theorem held_monPowerUp (s : State) : held (monPowerUp s) = held s := by simp [monPowerUp]

/-! ## Frames received -/

@[simp] theorem held_sendNak (s : State) (p : Nat) : held (sendNak s p) = held s := by unfold sendNak; split <;> simp
@[simp] theorem held_arqIn (s : State) (p : Nat) (f : Frame) : held (arqIn s p f).1 = held s := by
  unfold arqIn; split <;> simp
@[simp] theorem held_putFlow (s : State) (k : FlowKey) (h : Nat) : held (putFlow s k h) = held s := by simp [putFlow]
@[simp] theorem held_reportDrop (s : State) (q : Nat) : held (reportDrop s q) = held s := by simp [reportDrop]
@[simp] theorem held_reportDrops (s : State) (q k : Nat) : held (reportDrops s q k) = held s := by simp [reportDrops]
theorem held_of_evictFlow {s t : State} (h : evictFlow s = some t) : held t = held s := by
  unfold evictFlow at h
  split at h
  · cases h
  · split at h
    · cases h; simp
    · cases h
@[simp] theorem held_flowIn (s : State) (h : Hdr) :
    held (flowIn s h).1 = held s := by
  unfold flowIn
  dsimp only
  split
  · split
    · simp
    · split
      · rename_i h; simp [held_of_evictFlow h]
      · simp
  · repeat' split
    all_goals simp
@[simp] theorem held_takeExch (s : State) (n : Nat) (pl : List Byte) : held (takeExch s n pl) = held s := by simp [takeExch]
@[simp] theorem held_pairSent (s : State) (n : Nat) : held (pairSent s n) = held s := by simp [pairSent]
@[simp] theorem held_pairMode (s : State) (n m cause : Nat) : held (pairMode s n m cause) = held s := by simp [pairMode]
@[simp] theorem held_pairSetHere (s : State) (n p : Nat) : held (pairSetHere s n p) = held s := by simp [pairSetHere]
@[simp] theorem held_takeIqRef (s : State) (n : Nat) (pl : List Byte) : held (takeIqRef s n pl) = held s := by
  simp [takeIqRef]
@[simp] theorem held_usePlan (s : State) (r : RtRoute) (pl : List Byte) :
    held (usePlan s r pl) = held s := by
  unfold usePlan
  dsimp only
  split <;> simp
@[simp] theorem held_malformed (s : State) (p : Nat) : held (malformed s p) = held s := by simp [malformed]
@[simp] theorem held_takeIn (s : State) (src : Src) (pl : List Byte) : held (takeIn s src pl) = held s := by simp [takeIn]
@[simp] theorem held_toEngine (s : State) (p : Fin 8) (h : Hdr) (pl : List Byte) : held (toEngine s p h pl) = held s := by
  simp [toEngine]
@[simp] theorem held_toDest (s : State) (p : Fin 8) (h : Hdr) (pl : List Byte) : held (toDest s p h pl) = held s := by
  unfold toDest; dsimp only; repeat' split
  all_goals simp
@[simp] theorem held_putTransit (s : State) (p c : Nat) (outs : List Nat) (bs : List Byte) :
    held (putTransit s p c outs bs) = held s := by
  unfold putTransit; split <;> simp
@[simp] theorem held_cutNow (s : State) (o c : Nat) (h : Hdr) (bs : List Byte) : held (cutNow s o c h bs).1 = held s := by
  simp [cutNow]
@[simp] theorem held_forward (s : State) (p c : Nat) (h : Hdr) (bs : List Byte) : held (forward s p c h bs) = held s := by
  unfold forward; split <;> simp
@[simp] theorem held_flood (s : State) (p c : Nat) (h : Hdr) (bs : List Byte) : held (flood s p c h bs) = held s := by
  simp [flood]
@[simp] theorem held_markSeen (s : State) (k : Nat × Nat × Nat) : held (markSeen s k) = held s := by simp [markSeen]
@[simp] theorem held_ownIn (s : State) (p : Nat) (h : Hdr) (bs : List Byte) : held (ownIn s p h bs).1 = held s := by
  simp [ownIn]
@[simp] theorem held_bcastIn (s : State) (p c : Nat) (h : Hdr) (bs : List Byte) : held (bcastIn s p c h bs).1 = held s := by
  unfold bcastIn; dsimp only; repeat' split
  all_goals simp
@[simp] theorem held_rateIn (s : State) (p : Nat) (h : Hdr) : held (rateIn s p h).1 = held s := by simp [rateIn]
@[simp] theorem held_upIn (s : State) (p c : Nat) (bs : List Byte) : held (upIn s p c bs).1 = held s := by simp [upIn]
@[simp] theorem held_joinIn (s : State) (p : Nat) (f : Frame) : held (joinIn s p f).1 = held s := by
  unfold joinIn; repeat' split
  all_goals simp
@[simp] theorem held_cutAbort (s : State) (p : Nat) (f : Frame) : held (cutAbort s p f) = held s := by
  unfold cutAbort; dsimp only; repeat' split
  all_goals simp
@[simp] theorem held_frameIn (s : State) (p : Nat) (f : Frame) : held (frameIn s p f).1 = held s := by simp [frameIn]

/-! ## Frames sent -/

@[simp] theorem held_sendRaw (s : State) (p : Nat) (bs : List Byte) : held (sendRaw s p bs) = held s := by simp [sendRaw]
@[simp] theorem held_pullFrame (n : Nat) (s : State) (q : Nat) (acc : List Byte) : held (pullFrame n s q acc).1 = held s := by
  induction n generalizing s acc with
  | zero => rfl
  | succ n ih => simp only [pullFrame]; repeat' split
                 all_goals simp [ih]
@[simp] theorem held_stampNs (s : State) : held (stampNs s).1 = held s := by simp [stampNs]
@[simp] theorem held_stampTx (s : State) (p : Nat) (h : Hdr) (pl : List Byte) : held (stampTx s p h pl).1 = held s := by
  simp [stampTx]
@[simp] theorem held_finish (s : State) (p : Nat) (h : Hdr) (pl : List Byte) : held (finish s p h pl).1 = held s := by
  simp [finish]
@[simp] theorem held_expireTransit (s : State) (p : Nat) : held (expireTransit s p) = held s := by simp [expireTransit]
@[simp] theorem held_transitGo (s : State) (p : Nat) (x : Transit) : held (transitGo s p x).1 = held s := by simp [transitGo]
@[simp] theorem held_easeCong (s : State) (p c : Nat) : held (easeCong s p c) = held s := by simp [easeCong]
theorem held_of_ownFront {s : State} {p c : Nat} {x : State × Hdr × List Byte} (h : ownFront s p c = some x) :
    held x.1 = held s := by
  unfold ownFront at h
  dsimp only at h
  split at h
  · cases h; simp
  · cases h
theorem held_of_classNext {s : State} {p c : Nat} {y : State × List Byte} (h : classNext s p c = some y) :
    held y.1 = held s := by
  have own : ∀ a, (ownFront s p c).map (fun x => finish x.1 p x.2.1 x.2.2) = some a → held a.1 = held s := by
    intro a ha
    obtain ⟨x, hx, rfl⟩ := Option.map_eq_some_iff.mp ha
    simp [held_of_ownFront hx]
  have tr : ∀ b, (transitFront s p c).map (transitGo s p) = some b → held b.1 = held s := by
    intro b hb
    obtain ⟨x, hx, rfl⟩ := Option.map_eq_some_iff.mp hb
    simp
  unfold classNext at h
  dsimp only at h
  split at h
  · split at h
    · cases h; exact own _ ‹_›
    · cases h; exact tr _ ‹_›
  · cases h; exact own _ ‹_›
  · exact tr _ h
@[simp] theorem held_startClass (s : State) (p : Nat) (c : Nat) :
    held (startClass s p c) = held s := by
  unfold startClass
  split
  · rename_i x h; simp [held_of_classNext h]
  · rfl
@[simp] theorem held_startWrr (s : State) (p : Nat) : held (startWrr s p) = held s := by unfold startWrr; split <;> simp
@[simp] theorem held_sendAgain (s : State) (p q : Nat) (qs : List Nat) : held (sendAgain s p q qs) = held s := by
  unfold sendAgain; split <;> simp
@[simp] theorem held_startFrame (s : State) (p : Nat) : held (startFrame s p) = held s := by
  unfold startFrame; split <;> simp
@[simp] theorem held_nextSeq (s : State) (srcQ dstQ cls : Nat) : held (nextSeq s srcQ dstQ cls).1 = held s := by
  unfold nextSeq; dsimp only; split <;> simp
@[simp] theorem held_sendFlow (s : State) (p cls dst srcQ dstQ : Nat) (alt : Bool) (pl : List Byte) :
    held (sendFlow s p cls dst srcQ dstQ alt pl) = held s := by
  simp [sendFlow]
@[simp] theorem held_pullBytes (k : Nat) (s : State) (q n : Nat) (acc : List Byte) : held (pullBytes k s q n acc).1 = held s := by
  induction k generalizing s acc with
  | zero => rfl
  | succ k ih => simp only [pullBytes]; repeat' split
                 all_goals simp [ih]
@[simp] theorem held_sendReply (s : State) (p : Nat) :
    held (sendReply s p) = held s := by
  unfold sendReply
  dsimp only
  repeat' split
  all_goals simp
@[simp] theorem held_flowSent (s : State) (r : RtRoute) : held (flowSent s r) = held s := by unfold flowSent; split <;> simp
@[simp] theorem held_sendExch (s : State) (p : Nat) :
    held (sendExch s p) = held s := by
  unfold sendExch
  split
  · rfl
  · refine held_foldl _ _ _ fun t r => ?_
    repeat' split
    all_goals simp
@[simp] theorem held_sendBring (s : State) (p : Nat) (pl : List Byte) : held (sendBring s p pl) = held s := by
  simp [sendBring]
@[simp] theorem held_floodOwn (s : State) (h : Hdr) (pl : List Byte) : held (floodOwn s h pl) = held s := by simp [floodOwn]
@[simp] theorem held_sendSync (s : State) (step : Nat) : held (sendSync s step) = held s := by simp [sendSync]

/-! ## The ledger -/

@[simp] theorem held_ledgDev (s : State) (f : Fld) (i b k : Nat) : held (ledgDev s f i b k) = held s := by simp [ledgDev]
@[simp] theorem held_ledgNote (s : State) (k q : Nat) : held (ledgNote s k q) = held s := by simp [ledgNote]
@[simp] theorem held_ledgBusy (s : State) (b : Bool) : held (ledgBusy s b) = held s := by simp [ledgBusy]
@[simp] theorem held_ledgStart (s : State) (cause : Nat) (forReset bo : Bool) :
    held (ledgStart s cause forReset bo) = held s := by
  simp [ledgStart]
@[simp] theorem held_ledgTrigger (s : State) (cause : Nat) (forReset : Bool) :
    held (ledgTrigger s cause forReset) = held s := by
  unfold ledgTrigger; repeat' split
  all_goals simp
@[simp] theorem held_ledgBrown (s : State) : held (ledgBrown s) = held s := by simp [ledgBrown]
@[simp] theorem held_ledgRestore (s : State) (k : Nat) : held (ledgRestore s k) = held s := by simp [ledgRestore]
@[simp] theorem held_ledgAdd (old s : State) : held (ledgAdd old s) = held s := by simp [ledgAdd]
@[simp] theorem held_accMs (s : State) (k : Nat) (on : Bool) : held (accMs s k on) = held s := by simp [accMs]
@[simp] theorem held_accAxisMs (s : State) (n : Nat) : held (accAxisMs s n) = held s := by simp [accAxisMs]
@[simp] theorem held_foldOne (s : State) (raw f : Fld) (i key b : Nat) : held (foldOne s raw f i key b) = held s := by
  simp [foldOne]
@[simp] theorem held_foldAll (s : State) : held (foldAll s) = held s := by simp [foldAll]
theorem held_of_accTake {s t : State} {k : Nat} (h : accTake s k = some t) : held t = held s := by
  unfold accTake at h
  dsimp only at h
  split at h
  · cases h; simp
  · cases h
@[simp] theorem held_secAxis (s : State) (n : Nat) (c : Nat) (b : Nat) (f : Fld) :
    held (secAxis s n c b f) = held s := by
  unfold secAxis
  split
  · rename_i h; simp [held_of_accTake h]
  · rfl
@[simp] theorem held_ledgClear (s : State) (n : Nat) : held (ledgClear s n) = held s := by simp [ledgClear]
@[simp] theorem held_calEdge (s : State) : held (calEdge s) = held s := by simp [calEdge]

/-! ## Fabric time -/

@[simp] theorem held_quarDups (s : State) :
    held (quarDups s) = held s := by
  refine held_foldl _ _ _ fun t p => ?_
  repeat' split
  all_goals simp
@[simp] theorem held_fabEnd (old s : State) : held (fabEnd old s) = held s := by simp [fabEnd]
@[simp] theorem held_retrain (s : State) (p : Nat) : held (retrain s p) = held s := by simp [retrain]
@[simp] theorem held_joinFail (s : State) (p : Nat) : held (joinFail s p) = held s := by simp [joinFail]
@[simp] theorem held_linkUp (s : State) (p : Nat) : held (linkUp s p) = held s := by simp [linkUp]
@[simp] theorem held_takeLsr (s : State) (e : Lsr) : held (takeLsr s e) = held s := by
  unfold takeLsr; repeat' split
  all_goals simp
@[simp] theorem held_stepTime (s : State) (o2 : Int) : held (stepTime s o2) = held s := by simp [stepTime]
@[simp] theorem held_steer (s : State) : held (steer s) = held s := by simp [steer]
@[simp] theorem held_parentExch (s : State) (p : Nat) (o2 : Int) : held (parentExch s p o2) = held s := by simp [parentExch]
@[simp] theorem held_takeSync (s : State) (no t : Nat) : held (takeSync s no t) = held s := by simp [takeSync]

/-! ## Placement -/

@[simp] theorem held_modPlace (s : State) (f : Place → Place) : held (modPlace s f) = held s := by simp [modPlace]
@[simp] theorem held_placeFault (s : State) (reason : Nat) : held (placeFault s reason) = held s := by simp [placeFault]
@[simp] theorem held_placeAbandon (s : State) : held (placeAbandon s) = held s := by simp [placeAbandon]
@[simp] theorem held_placeRun (s : State) (st : Nat) : held (placeRun s st) = held s := by simp [placeRun]
@[simp] theorem held_showHolding (s : State) : held (showHolding s) = held s := by simp [showHolding]
@[simp] theorem held_holdMoved (s : State) (ns : List Nat) : held (holdMoved s ns) = held s := by simp [holdMoved]
@[simp] theorem held_resumeMoved (s : State) : held (resumeMoved s) = held s := by simp [resumeMoved]
@[simp] theorem held_setQuota (s : State) (q k : Nat) : held (setQuota s q k) = held s := by simp [setQuota]
@[simp] theorem held_planQuotas (s : State) (p : Plan) : held (planQuotas s p) = held s := by simp [planQuotas]
@[simp] theorem held_showLanes (s : State) (me : Nat) (xs : List Item) : held (showLanes s me xs) = held s := by
  simp [showLanes]
@[simp] theorem held_partnerTemplates (s : State) (me : Nat) (p : Plan) : held (partnerTemplates s me p) = held s := by
  simp [partnerTemplates]
@[simp] theorem held_takePlan (s : State) (p : Plan) : held (takePlan s p) = held s := by simp [takePlan]
@[simp] theorem held_acceptPlan (s : State) (p : Plan) : held (acceptPlan s p) = held s := by simp [acceptPlan]
@[simp] theorem held_planSync (s : State) : held (planSync s) = held s := by simp [planSync]
@[simp] theorem held_agreed (s : State) (p : Plan) : held (agreed s p) = held s := by simp [agreed]
@[simp] theorem held_clearAll (s : State) (f1 : Nat) :
    held (clearAll s f1) = held s := by
  unfold clearAll
  simp
@[simp] theorem held_holdGroups (s : State) (old new : Nat) : held (holdGroups s old new) = held s := by simp [holdGroups]
@[simp] theorem held_placeAt (s : State) : held (placeAt s) = held s := by unfold placeAt; split <;> simp
@[simp] theorem held_realign (s : State) (no t : Nat) : held (realign s no t) = held s := by
  unfold realign; dsimp only; repeat' split
  all_goals simp

/-! ## The supervisor core -/

@[simp] theorem held_modSv (s : State) (f : Sv → Sv) : held (modSv s f) = held s := by simp [modSv]
@[simp] theorem held_svSet (s : State) (r : Fin 16) (v : Word) : held (svSet s r v) = held s := by simp [svSet]
@[simp] theorem held_svWrite (s : State) (a n v : Nat) : held (svWrite s a n v) = held s := by simp [svWrite]
@[simp] theorem held_svSetCsr (s : State) (n v : Nat) : held (svSetCsr s n v) = held s := by simp [svSetCsr]
@[simp] theorem held_svSetSr (s : State) (r : SvSr) : held (svSetSr s r) = held s := by simp [svSetSr]
@[simp] theorem held_svPendEdge (s : State) (n : Nat) : held (svPendEdge s n) = held s := by simp [svPendEdge]
@[simp] theorem held_svStop (s : State) (cause : Nat) : held (svStop s cause) = held s := by simp [svStop]
@[simp] theorem held_svWdWritten (s : State) : held (svWdWritten s) = held s := by simp [svWdWritten]
@[simp] theorem held_svNoteFault (s : State) (cause addr : Nat) : held (svNoteFault s cause addr) = held s := by
  simp [svNoteFault]
@[simp] theorem held_svUnstack (s : State) : held (svUnstack s) = held s := by simp [svUnstack]
@[simp] theorem held_svStart (s : State) (hd : List Nat) : held (svStart s hd) = held s := by simp [svStart]
@[simp] theorem held_svLoadEnd (s : State) : held (svLoadEnd s) = held s := by unfold svLoadEnd; split <;> simp

/-! ## Device modes -/

@[simp] theorem held_showExcLow (s : State) : held (showExcLow s) = held s := by simp [showExcLow]
@[simp] theorem held_warnNote (s : State) (b : Nat) : held (warnNote s b) = held s := by simp [warnNote]
@[simp] theorem held_brownOut (s : State) : held (brownOut s) = held s := by simp [brownOut]
@[simp] theorem held_checkTrim (s : State) : held (checkTrim s) = held s := by simp [checkTrim]
@[simp] theorem held_setDevMode (s : State) (m cause : Nat) : held (setDevMode s m cause) = held s := by simp [setDevMode]
@[simp] theorem held_startRole (s : State) : held (startRole s) = held s := by simp [startRole]
@[simp] theorem held_leaveLoad (s : State) : held (leaveLoad s) = held s := by simp [leaveLoad]
@[simp] theorem held_leaveMaint (s : State) : held (leaveMaint s) = held s := by simp [leaveMaint]
@[simp] theorem held_restartAxis (s : State) (n : Nat) : held (restartAxis s n) = held s := by simp [restartAxis]
@[simp] theorem held_everyChain (s : State) (f : Chain → Chain) : held (everyChain s f) = held s := by simp [everyChain]
@[simp] theorem held_leaveDisabled (s : State) : held (leaveDisabled s) = held s := by simp [leaveDisabled]
@[simp] theorem held_startTracking (s : State) : held (startTracking s) = held s := by simp [startTracking]
@[simp] theorem held_dropSafe (s : State) : held (dropSafe s) = held s := by simp [dropSafe]
@[simp] theorem held_stopExc (s : State) : held (stopExc s) = held s := by simp [stopExc]
@[simp] theorem held_outputsLow (s : State) : held (outputsLow s) = held s := by simp [outputsLow]
@[simp] theorem held_testSources (s : State) : held (testSources s) = held s := by simp [testSources]
@[simp] theorem held_ownSources (s : State) : held (ownSources s) = held s := by simp [ownSources]
@[simp] theorem held_enterTest (s : State) (old : Nat) : held (enterTest s old) = held s := by simp [enterTest]
@[simp] theorem held_enterPlace (s : State) : held (enterPlace s) = held s := by simp [enterPlace]
@[simp] theorem held_enterStandby (s : State) (old : Nat) :
    held (enterStandby s old) = held s := by
  unfold enterStandby
  dsimp only
  rw [held_modRed, held_wantDrv, held_dropSafe]
  split
  · split <;> simp
  · split <;> simp
@[simp] theorem held_takeDrive (s : State) (h : Handover) : held (takeDrive s h) = held s := by simp [takeDrive]
@[simp] theorem held_enterRun (s : State) (old : Nat) : held (enterRun s old) = held s := by
  unfold enterRun; repeat' split
  all_goals simp
@[simp] theorem held_latchDrv (s : State) : held (latchDrv s) = held s := by simp [latchDrv]
@[simp] theorem held_enterEffects (s : State) (old : Nat) (m : Nat) :
    held (enterEffects s old m) = held s := by
  unfold enterEffects
  simp only [held_updTimers]
  have h1 : held (if excTiming m then s else outputsLow (stopExc s)) = held s := by split <;> simp
  generalize (if excTiming m then s else outputsLow (stopExc s)) = s1 at h1
  repeat' split
  all_goals simp [h1]
@[simp] theorem held_takeDevMode (s : State) (m cause : Nat) : held (takeDevMode s m cause) = held s := by simp [takeDevMode]
@[simp] theorem held_replyMode (s : State) (t : Trig) (status : Nat) : held (replyMode s t status) = held s := by
  unfold replyMode; split <;> simp
@[simp] theorem held_settleTrigs (old s : State) (won : Trig) : held (settleTrigs old s won) = held s := by
  simp [settleTrigs]
@[simp] theorem held_lapseTrigs (s : State) : held (lapseTrigs s) = held s := by simp [lapseTrigs]
@[simp] theorem held_disableFailed (s : State) (ns : List Nat) : held (disableFailed s ns) = held s := by
  simp [disableFailed]
@[simp] theorem held_resumeDrive (s : State) (n m : Nat) : held (resumeDrive s n m) = held s := by simp [resumeDrive]

/-! ## Reads -/

@[simp] theorem held_readObj (s : State) (o : ObjId) (i : Nat) :
    held (readObj s o i).1 = held s := by
  unfold readObj
  split <;> simp
theorem held_of_readAt {s t : State} {a v w : Nat} (h : readAt s a = some (t, v, w)) : held t = held s := by
  unfold readAt at h
  repeat' split at h
  all_goals cases h
  exact held_readObj _ _ _

/-! ## Sampling -/

@[simp] theorem held_openMux (s : State) (n : Nat) : held (openMux s n) = held s := by simp [openMux]
@[simp] theorem held_startConv (s : State) (slot : Nat) (st : Strobe) : held (startConv s slot st) = held s := by
  simp [startConv]
@[simp] theorem held_startSlot (s : State) (slot : Nat) (st : Strobe) : held (startSlot s slot st) = held s := by
  simp [startSlot]
@[simp] theorem held_axisStrobe (s : State) (n : Nat) : held (axisStrobe s n) = held s := by simp [axisStrobe]
@[simp] theorem held_auxStrobe (s : State) (k : Nat) : held (auxStrobe s k) = held s := by simp [auxStrobe]
@[simp] theorem held_frameMark (s : State) : held (frameMark s) = held s := by simp [frameMark]
@[simp] theorem held_strobeAt (s : State) (n : Nat) : held (strobeAt s n) = held s := by simp [strobeAt]

/-! ## Effects of writes -/

@[simp] theorem held_pendParam (s : State) (src : Src) (n : Nat) (p : ParamWord) (v : Nat) :
    held (pendParam s src n p v) = held s := by
  simp [pendParam]
@[simp] theorem held_forwardWrite (s : State) (o : ObjId) (i w : Nat) : held (forwardWrite s o i w) = held s := by
  unfold forwardWrite; split <;> simp
@[simp] theorem held_excModeSet (s : State) (n old new : Nat) : held (excModeSet s n old new) = held s := by
  simp [excModeSet]
@[simp] theorem held_sqRetry (s : State) (n : Nat) : held (sqRetry s n) = held s := by simp [sqRetry]
@[simp] theorem held_effExcCtl (s : State) (n old v w : Nat) : held (effExcCtl s n old v w) = held s := by simp [effExcCtl]
@[simp] theorem held_effAuxo (s : State) (k : Nat) : held (effAuxo s k) = held s := by simp [effAuxo]
@[simp] theorem held_effEnc (s : State) (k : Nat) : held (effEnc s k) = held s := by simp [effEnc]
@[simp] theorem held_requestMode (s : State) (src : Src) (n m : Nat) : held (requestMode s src n m) = held s := by
  simp [requestMode]
@[simp] theorem held_replan (s : State) : held (replan s) = held s := by unfold replan; split <;> simp
@[simp] theorem held_effSpecCtl (s : State) (n : Nat) : held (effSpecCtl s n) = held s := by simp [effSpecCtl]
@[simp] theorem held_effTel (s : State) (n old : Nat) : held (effTel s n old) = held s := by simp [effTel]
@[simp] theorem held_effTrace (s : State) (w : Nat) : held (effTrace s w) = held s := by simp [effTrace]
@[simp] theorem held_effTripIn (s : State) (k old v : Nat) : held (effTripIn s k old v) = held s := by simp [effTripIn]
@[simp] theorem held_effMon (s : State) (src : Src) (c old v : Nat) : held (effMon s src c old v).1 = held s := by
  simp [effMon]
@[simp] theorem held_setQCfg (s : State) (q v : Nat) : held (setQCfg s q v) = held s := by simp [setQCfg]
@[simp] theorem held_effLink (s : State) (p old v : Nat) : held (effLink s p old v) = held s := by simp [effLink]
@[simp] theorem held_fabCmd (s : State) (w : Nat) : held (fabCmd s w) = held s := by simp [fabCmd]
@[simp] theorem held_ledgCmd (s : State) (w : Nat) : held (ledgCmd s w) = held s := by simp [ledgCmd]
@[simp] theorem held_dumpLog (s : State) : held (dumpLog s) = held s := by simp [dumpLog]
@[simp] theorem held_effOtp (s : State) (src : Src) (o : ObjId) (old v : Nat) : held (effOtp s src o old v).1 = held s := by
  simp [effOtp]

/-! ## The image -/

@[simp] theorem held_showTemplates (s : State) : held (showTemplates s) = held s := by simp [showTemplates]
@[simp] theorem held_stageWrite (s : State) (x : ObjWrite) : held (stageWrite s x) = held s := by simp [stageWrite]
@[simp] theorem held_inForce (s : State) : held (inForce s) = held s := by simp [inForce]
@[simp] theorem held_applyFabric (s : State) (xs : List Sect) : held (applyFabric s xs) = held s := by
  unfold applyFabric; split <;> simp
@[simp] theorem held_noteKey (s : State) : held (noteKey s) = held s := by simp [noteKey]
@[simp] theorem held_applySv (s : State) (xs : List Sect) : held (applySv s xs) = held s := by unfold applySv; split <;> simp

/-! ## Start -/

@[simp] theorem held_modLoad (s : State) (f : Load → Load) : held (modLoad s f) = held s := by simp [modLoad]
@[simp] theorem held_bootFails (s : State) : held (bootFails s) = held s := by simp [bootFails]
@[simp] theorem held_showReason (s : State) (slot reason : Nat) : held (showReason s slot reason) = held s := by
  simp [showReason]
@[simp] theorem held_putJob (s : State) (src : Src) (j : Job) : held (putJob s src j) = held s := by simp [putJob]
@[simp] theorem held_imgReply (s : State) (src : Src) (op status : Nat) (body : List Byte) :
    held (imgReply s src op status body) = held s := by
  simp [imgReply]
@[simp] theorem held_trimReply (s : State) (src : Src) (op status : Nat) (body : List Byte) :
    held (trimReply s src op status body) = held s := by
  simp [trimReply]
@[simp] theorem held_showTrim (s : State) : held (showTrim s) = held s := by simp [showTrim]

/-! ## Twin links -/

@[simp] theorem held_twinFrame (s : State) (k : Nat) : held (twinFrame s k) = held s := by simp [twinFrame]

/-! ## Twin frames -/

@[simp] theorem held_followMode (s : State) (n v : Nat) : held (followMode s n v) = held s := by simp [followMode]
@[simp] theorem held_noteMeas (s : State) (n code : Nat) (bad : Bool) : held (noteMeas s n code bad) = held s := by
  simp [noteMeas]
@[simp] theorem held_checkCur (s : State) (n : Nat) (ia ib : Int) : held (checkCur s n ia ib) = held s := by simp [checkCur]
@[simp] theorem held_checkPair (s : State) (n : Nat) (s1 c3 : Int) : held (checkPair s n s1 c3) = held s := by
  unfold checkPair; split <;> simp
@[simp] theorem held_followEval (s : State) (n j range : Nat) (ia ib : Int) (late : Bool) :
    held (followEval s n j range ia ib late) = held s := by
  simp [followEval]
@[simp] theorem held_takeCur (s : State) (n : Nat) (r : List Byte) : held (takeCur s n r) = held s := by simp [takeCur]
@[simp] theorem held_takeDriverPair (s : State) (n : Nat) (r : List Byte) : held (takeDriverPair s n r) = held s := by
  simp [takeDriverPair]
@[simp] theorem held_followPos (s : State) (n : Nat) (praw : Int) (p : Nat) : held (followPos s n praw p) = held s := by
  simp [followPos]
@[simp] theorem held_followPairSet (s : State) (n v : Nat) : held (followPairSet s n v) = held s := by
  unfold followPairSet; dsimp only; repeat' split
  all_goals simp
@[simp] theorem held_followCtrl (s : State) (n addr v : Nat) : held (followCtrl s n addr v) = held s := by
  unfold followCtrl; repeat' split
  all_goals simp
@[simp] theorem held_takeInput (s : State) (n : Nat) (r : List Byte) : held (takeInput s n r) = held s := by simp [takeInput]
@[simp] theorem held_takeStatus (s : State) (k : Nat) (r : List Byte) : held (takeStatus s k r) = held s := by
  simp [takeStatus]
@[simp] theorem held_keepRec (s : State) (r : List Byte) : held (keepRec s r) = held s := by simp [keepRec]

/-! ## The supervisor -/

@[simp] theorem held_svCost (s : State) (k : Nat) : held (svCost s k) = held s := by simp [svCost]
@[simp] theorem held_svNext (s : State) : held (svNext s) = held s := by simp [svNext]
@[simp] theorem held_svLate (s : State) (r : Reg) : held (svLate s r) = held s := by simp [svLate]
@[simp] theorem held_svObst (s : State) (code : Nat) : held (svObst s code) = held s := by simp [svObst]
@[simp] theorem held_svObxSet (s : State) (v : Nat) : held (svObxSet s v) = held s := by simp [svObxSet]
/-- The two outcomes of a load from the object window, said of the function itself (see `Said`). -/
theorem windowLoad_said : Said (fun f : State → Nat → State × Word => ∀ s a,
    (∀ t v w, readAt s (windowAddr a) = some (t, v, w) → f s a = (svObst (svObxSet t v) 0, BitVec.ofNat 32 v)) ∧
    (readAt s (windowAddr a) = none → f s a = (svObst (svObxSet s 0) 1, 0))) windowLoad := by
  delta windowLoad
  unfold Said
  intro s a
  dsimp -zeta only
  exact ⟨fun t v w h => by rw [h], fun h => by rw [h]⟩
theorem windowLoad_some {s t : State} {a v w : Nat} (h : readAt s (windowAddr a) = some (t, v, w)) :
    windowLoad s a = (svObst (svObxSet t v) 0, BitVec.ofNat 32 v) := (windowLoad_said s a).1 t v w h
theorem windowLoad_none {s : State} {a : Nat} (h : readAt s (windowAddr a) = none) :
    windowLoad s a = (svObst (svObxSet s 0) 1, 0) := (windowLoad_said s a).2 h
@[simp] theorem held_windowLoad (s : State) (a : Nat) :
    held (windowLoad s a).1 = held s := by
  rcases h : readAt s (windowAddr a) with _ | ⟨t, v, w⟩
  · rw [windowLoad_none h, held_svObst, held_svObxSet]
  · rw [windowLoad_some h, held_svObst, held_svObxSet, held_of_readAt h]
@[simp] theorem held_windowStall (s : State) : held (windowStall s) = held s := by simp [windowStall]
@[simp] theorem held_csrLatch (s : State) (n : Nat) : held (csrLatch s n) = held s := by simp [csrLatch]
@[simp] theorem held_tmrWrite (s : State) (t v : Nat) : held (tmrWrite s t v) = held s := by simp [tmrWrite]
@[simp] theorem held_qpushRun (s : State) (a b k : Nat) : held (qpushRun s a b k).1 = held s := by simp [qpushRun]
@[simp] theorem held_svReload (s : State) : held (svReload s) = held s := by unfold svReload; split <;> simp

/-! ## Writes -/

@[simp] theorem held_readAnswer (s : State) (src : Src) (addr v words : Nat) :
    held (readAnswer s src addr v words) = held s := by
  unfold readAnswer; split <;> simp

/-! ## Messages -/

@[simp] theorem held_readRun (n : Nat) (s : State) (a : Nat) (many : Bool) (acc : List Byte) :
    held (readRun n s a many acc).1 = held s := by
  induction n generalizing s a acc with
  | zero => rfl
  | succ n ih =>
    simp only [readRun]
    split
    · rename_i h
      split at h
      · cases h
      · split
        · rfl
        · rw [ih, held_of_readAt h]
    · rfl
@[simp] theorem held_modSubs (s : State) (f : List (Nat × Subscr) → List (Nat × Subscr)) : held (modSubs s f) = held s := by
  simp [modSubs]
@[simp] theorem held_subPull (k : Nat) (s : State) (q n : Nat) (acc : List QWord) : held (subPull k s q n acc).1 = held s := by
  induction k generalizing s acc with
  | zero => rfl
  | succ k ih => simp only [subPull]; repeat' split
                 all_goals simp [ih]
@[simp] theorem held_skipSeq (s : State) (srcQ dstQ cls k : Nat) : held (skipSeq s srcQ dstQ cls k) = held s := by
  simp [skipSeq]
@[simp] theorem held_svcPush (s : State) (bs : List Byte) : held (svcPush s bs) = held s := by simp [svcPush]
@[simp] theorem held_subSend (s : State) (q : Nat) (u : Subscr) (hs : List QWord) : held (subSend s q u hs) = held s := by
  unfold subSend; repeat' split
  all_goals simp
@[simp] theorem held_subSkip (s : State) (q : Nat) (u : Subscr) (k : Nat) : held (subSkip s q u k) = held s := by
  simp [subSkip]
@[simp] theorem held_subDeliver (s : State) (q : Nat) (u : Subscr) :
    held (subDeliver s q u) = held s := by
  unfold subDeliver
  simp only [held_modSubs]
  simp
@[simp] theorem held_msgPushRun (s : State) (src : Src) (q prio : Nat) (bytes : List Byte) :
    held (msgPushRun s src q prio bytes).1 = held s := by
  simp [msgPushRun]
@[simp] theorem held_svcPull (k : Nat) (s : State) (n : Nat) (acc : List Byte) : held (svcPull k s n acc).1 = held s := by
  induction k generalizing s acc with
  | zero => rfl
  | succ k ih => simp only [svcPull]; repeat' split
                 all_goals simp [ih]
@[simp] theorem held_svcShow (s : State) (n : Nat) (bs : List Byte) : held (svcShow s n bs) = held s := by simp [svcShow]

end Sys2Proof.Machine
end

section
/-!
PROOFS. Every command ends in a next state, with the queue of commands as it was and the memories canonical (O2, O60). First the
operations that change what `held` names, then one `Kept` for each command.
-/

namespace Sys2Proof.Machine
open Sys2Proof Sys2Proof.Machine

/-! ## Canonical memories -/

/-- The memories of R34, R56 and R380 in their canonical form. -/
def nvWf (v : Nv) : Prop := Memory.wf 0xFF v.flash = true ∧ Memory.wf 0 v.trim = true ∧ Memory.wf 0 v.ledgMem = true

theorem nvCanonical_iff (s : State) : NvCanonical s ↔ nvWf s.nv := Iff.rfl

theorem wf_memWrite (d : Byte) (m : List Host.Cell) (a : Nat) (bs : List Byte) (h : Memory.wf d m = true) :
    Memory.wf d (memWrite d m a bs) = true := mwf_memWrite d m a bs h

theorem wf_fresh (a : Nat) (bs : List Byte) : Memory.wf 0 (memWrite 0 [] a bs) = true := wf_memWrite 0 [] a bs rfl

theorem nvWf_cutJob (k : Nat) (v : Nv) (j : Job) (h : nvWf v) : nvWf (cutJob k v j) := by
  obtain ⟨hf, ht, hl⟩ := h
  unfold cutJob
  split
  · exact ⟨wf_memWrite _ _ _ _ hf, ht, hl⟩
  · exact ⟨wf_memWrite _ _ _ _ hf, ht, hl⟩
  · exact ⟨hf, ht, hl⟩
  · refine ⟨hf, ?_, hl⟩
    dsimp only
    exact wf_fresh _ _
  all_goals exact ⟨hf, ht, hl⟩

theorem nvWf_foldl_cutJob (k : Nat) (js : List Job) (v : Nv) (h : nvWf v) : nvWf (js.foldl (cutJob k) v) := by
  induction js generalizing v with
  | nil => exact h
  | cons j js ih => exact ih _ (nvWf_cutJob k v j h)

theorem nvWf_cutNv (s : State) (h : nvWf s.nv) : nvWf (cutNv s) := by
  unfold cutNv
  split
  all_goals exact nvWf_foldl_cutJob _ _ _ h

theorem nvWf_programOtp (v : Nv) (o : OtpObj) (x : Nat) (h : nvWf v) : nvWf (programOtp v o x) := by
  cases o <;> exact h

/-! ## What every operation keeps -/

/-- `t` follows `s`: the queue of commands stands, and canonical memories stay canonical. -/
structure Keeps (s t : State) : Prop where
  queue : t.pending = s.pending
  memories : nvWf s.nv → nvWf t.nv

theorem Keeps.of_held {s t : State} (h : held t = held s) : Keeps s t :=
  ⟨pending_of_held h, fun k => nv_of_held h ▸ k⟩

theorem Keeps.refl (s : State) : Keeps s s := ⟨rfl, id⟩

theorem Keeps.trans {s t u : State} (h : Keeps s t) (k : Keeps t u) : Keeps s u :=
  ⟨k.queue.trans h.queue, k.memories ∘ h.memories⟩

/-- What follows without a change of `held` keeps what was kept. -/
theorem Keeps.then {s t u : State} (h : Keeps s t) (k : held u = held t) : Keeps s u := h.trans (.of_held k)

/-- What was done before without a change of `held` keeps what is kept after it. -/
theorem Keeps.after {s t u : State} (h : Keeps t u) (k : held t = held s) : Keeps s u := (Keeps.of_held k).trans h

/-- The memories with the RTC, the cause of reset, the torn records or the OTP changed are as canonical as before. -/
theorem Keeps.nv {s t : State} (v : Nv) (h : Keeps s t) (hv : nvWf t.nv → nvWf v) : Keeps s { t with nv := v } :=
  ⟨h.queue, fun k => hv (h.memories k)⟩

theorem Keeps.pwr {s t : State} (p : Pwr) (h : Keeps s t) : Keeps s { t with pwr := p } := ⟨h.queue, h.memories⟩

theorem keeps_ite {s t u : State} {c : Prop} [Decidable c] (h : Keeps s t) (k : Keeps s u) : Keeps s (if c then t else u) := by
  split
  · exact h
  · exact k

theorem keeps_foldl {α : Type} (f : State → α → State) (h : ∀ s a, Keeps s (f s a)) (l : List α) (s : State) :
    Keeps s (l.foldl f s) := by
  induction l generalizing s with
  | nil => exact .refl s
  | cons a l ih => exact (h s a).trans (ih _)

/-! ## Reset -/

theorem keeps_assertReset (s : State) (b : Nat) : Keeps s (assertReset s b) := ⟨rfl, nvWf_cutNv s⟩

theorem keeps_grantReset (s : State) (b c : Nat) : Keeps s (grantReset s b c) := by
  unfold grantReset
  split
  · exact .of_held (by simp)
  · exact keeps_assertReset s b

theorem keeps_modeRequest (s : State) (src : Src) (m k : Nat) : Keeps s (modeRequest s src m k).1 := by
  unfold modeRequest
  repeat' split
  all_goals first
    | exact (keeps_grantReset _ _ _).after (by simp)
    | exact .of_held (by simp)

/-! ## The RTC -/

theorem keeps_setRtc (s : State) (r : Rtc) : Keeps s (setRtc s r) := ⟨rfl, id⟩

theorem keeps_rtcSupply (s : State) : Keeps s (rtcSupply s) := keeps_ite (keeps_setRtc s _) (.refl s)

/-! ## The ledger and the flash -/

theorem keeps_ledgStore (s : State) (w : LedgWrite) : Keeps s (ledgStore s w) := by
  unfold ledgStore
  refine (Keeps.refl s).nv _ fun ⟨hf, ht, hl⟩ => ⟨hf, ht, ?_⟩
  dsimp only
  exact wf_memWrite _ _ _ _ hl

theorem keeps_ledgOk (s : State) (w : LedgWrite) : Keeps s (ledgOk s w) := by
  unfold ledgOk
  exact (keeps_ledgStore s w).then (by simp)

theorem keeps_ledgBad (s : State) (w : LedgWrite) : Keeps s (ledgBad s w) := by
  unfold ledgBad
  dsimp only
  split
  · exact ((keeps_ledgStore _ w).after (held_drawBool s)).then (by simp)
  · refine ((Keeps.of_held (held_drawBool s)).nv _ ?_).then ((held_raiseD _ _ _).trans (held_incSat _ _ _))
    exact id

theorem keeps_ledgEnd (s : State) (w : LedgWrite) : Keeps s (ledgEnd s w) := by
  unfold ledgEnd
  dsimp only
  repeat' split
  all_goals first
    | exact (keeps_assertReset _ _).after (by simp)
    | exact .of_held (by simp)

theorem keeps_writeHdr (s : State) (k slot q : Nat) : Keeps s (writeHdr s k slot q) := by
  unfold writeHdr
  refine (Keeps.refl s).nv _ fun h => ?_
  obtain ⟨hf, ht, hl⟩ := h
  refine ⟨?_, ht, hl⟩
  dsimp only
  exact wf_memWrite _ _ _ _ hf

/-! ## The supervisor core -/

theorem keeps_svReact (s : State) : Keeps s (svReact s) := by
  unfold svReact
  split
  · exact .of_held (by simp)
  · exact .of_held (by simp)
  · exact keeps_grantReset s _ _
  · exact .refl s

theorem keeps_svHalt (s : State) (c : Nat) : Keeps s (svHalt s c) := by
  unfold svHalt
  exact keeps_ite ((keeps_svReact _).after (by simp)) (.of_held (by simp))

theorem held_svStack (s : State) (ret : Word) : (∀ t, svStack s ret = .inl t → held t = held s) ∧
    ∀ t, svStack s ret = .inr t → held t = held s := by
  generalize h : svStack s ret = o
  unfold svStack at h
  dsimp only at h
  repeat' split at h
  all_goals subst h; exact ⟨fun t ht => (by cases ht <;> simp), fun t ht => (by cases ht <;> simp)⟩

@[simp] theorem held_svNoted (s : State) (c a : Nat) : held (svNoted s c a) = held s := by simp [svNoted]

/-- The core in the fault handler. -/
def svHandling (t : State) : State := modSv t (fun c => { c with inf := true })

@[simp] theorem held_svHandling (t : State) : held (svHandling t) = held t := held_modSv t _

/-- A fault whose frame is stacked, but whose vector holds no place: the core halts. -/
theorem svFault_noVector {s t : State} {cause addr : Nat} {f : Nat × Nat} {ret : Word} (hi : s.sv.inf = false)
    (hst : svStack (svNoted s cause addr) ret = .inl t)
    (hv : svVector (svHandling t) (svCsr (svHandling t) 1 + 0x100) = .inr f) :
    svFault s cause addr ret = svHalt (svNoteFault (svHandling t) f.1 f.2) 2 := by
  unfold svNoted at hst
  unfold svHandling at hv
  unfold svFault
  rw [if_neg (by rw [hi]; decide), hst]
  dsimp only
  rw [hv, svHandling]

theorem keeps_svFault (s : State) (c a : Nat) (ret : Word) : Keeps s (svFault s c a ret) := by
  cases hi : s.sv.inf with
  | true => rw [svFault_double c a ret hi]; exact (keeps_svHalt _ _).after (held_svNoted s c a)
  | false =>
    rcases hst : svStack (svNoted s c a) ret with t | t
    · have ht : held t = held s := ((held_svStack _ _).1 t hst).trans (held_svNoted s c a)
      rcases hv : svVector (svHandling t) (svCsr (svHandling t) 1 + 0x100) with x | x
      · rw [svFault_enters hi hst hv]
        exact .of_held ((held_modSv _ _).trans ht)
      · rw [svFault_noVector hi hst hv]
        exact (keeps_svHalt _ _).after (((held_svNoteFault _ _ _).trans (held_svHandling t)).trans ht)
    · rw [svFault_noFrame hi hst]
      exact (keeps_svHalt _ _).after (((held_svStack _ _).2 t hst).trans (held_svNoted s c a))

theorem keeps_svTake (s : State) (r : SvSr) (n : Nat) : Keeps s (svTake s r n) := by
  unfold svTake
  dsimp only
  split
  · exact .of_held (by simp)
  · exact (keeps_svFault _ _ _ _).after (by simp)

theorem keeps_svEnter (s : State) : Keeps s (svEnter s) := by
  have h : Said (fun f : State → State => ∀ s, Keeps s (f s)) svEnter := by
    delta svEnter
    unfold Said
    intro s
    dsimp -zeta only
    generalize hst : svStack s s.sv.pc = x
    rcases x with t | t
    · have ht : held t = held s := (held_svStack _ _).1 t hst
      dsimp only
      split
      · exact ((keeps_svTake t _ _).after ht).then (held_svCost _ _)
      · exact .of_held ((held_svUnstack t).trans ht)
    · exact (keeps_svHalt t 2).after ((held_svStack _ _).2 t hst)
  exact h s

theorem keeps_svReti (s : State) : Keeps s (svReti s) := by
  unfold svReti
  dsimp only
  split
  · exact (keeps_svTake s _ _).then (held_svCost _ _)
  · exact .of_held (held_svUnstack s)

theorem keeps_svExpire (s : State) : Keeps s (svExpire s) := by
  unfold svExpire
  split
  · exact keeps_svHalt s 3
  · exact .of_held (by simp)

theorem keeps_wdtWrite (s : State) (v : Nat) : Keeps s (wdtWrite s v) := by
  unfold wdtWrite
  repeat' split
  · exact .refl s
  · exact .of_held (by simp)
  · exact keeps_svExpire s

theorem keeps_csrPut (s : State) (k : CsrOp) (n v : Nat) : Keeps s (csrPut s k n v) := by
  unfold csrPut
  dsimp only
  split
  case h_6 => exact keeps_wdtWrite s _
  case h_13 => exact .of_held (by simp)
  all_goals exact .of_held (by simp)

theorem keeps_svCmd (s : State) (w : Nat) : Keeps s (svCmd s w) := by
  unfold svCmd
  dsimp only
  split
  · split
    · exact (keeps_svHalt s 4).then (by simp)
    · exact .of_held (by simp)
  · exact keeps_ite (keeps_svHalt s 4) (.refl s)

/-! ## Writes of objects -/

theorem keeps_effect (s : State) (src : Src) (o : ObjId) (i old v w : Nat) : Keeps s (effect s src o i old v w).1 := by
  cases o
  case devSvCmd => exact keeps_svCmd s w
  case devCal => exact keeps_setRtc s _
  case devCalSet => exact keeps_setRtc s _
  case devModeReq => exact keeps_modeRequest s src _ _
  all_goals exact .of_held (by simp [effect])

theorem keeps_writeObj (s : State) (src : Src) (o : ObjId) (i w : Nat) : Keeps s (writeObj s src o i w).1 := by
  unfold writeObj
  dsimp only
  split
  · exact .refl s
  · split
    · exact .of_held (by simp)
    · split
      · exact .of_held (by simp)
      · exact keeps_effect s src o i _ _ w

/-- The two outcomes of a store into the object window, said of the function itself (see `Said`). -/
theorem windowStore_said : Said (fun f : State → Nat → Word → State => ∀ s a v,
    (∀ o i, locate (windowAddr a) = some (o, i) → f s a v =
      let r := writeObj s .supervisor o i (v.toNat + svObx s)
      svObst r.1 (if r.2 = 8 then 0 else r.2)) ∧
    (locate (windowAddr a) = none → f s a v = svObst s 1)) windowStore := by
  delta windowStore
  unfold Said
  intro s a v
  dsimp -zeta only
  exact ⟨fun o i h => by rw [h], fun h => by rw [h]⟩

theorem windowStore_some {s : State} {a : Nat} {v : Word} {o : ObjId} {i : Nat} (h : locate (windowAddr a) = some (o, i)) :
    windowStore s a v =
      let r := writeObj s .supervisor o i (v.toNat + svObx s)
      svObst r.1 (if r.2 = 8 then 0 else r.2) := (windowStore_said s a v).1 o i h

theorem windowStore_none {s : State} {a : Nat} {v : Word} (h : locate (windowAddr a) = none) :
    windowStore s a v = svObst s 1 := (windowStore_said s a v).2 h

theorem keeps_windowStore (s : State) (a : Nat) (v : Word) : Keeps s (windowStore s a v) := by
  rcases h : locate (windowAddr a) with _ | ⟨o, i⟩
  · rw [windowStore_none h]
    exact .of_held (held_svObst _ _)
  · rw [windowStore_some h]
    exact (keeps_writeObj s .supervisor o i _).then (held_svObst _ _)

/-! ## The image and the twins -/

theorem keeps_imageWrite (s : State) (x : ObjWrite) : Keeps s (imageWrite s x) := by
  unfold imageWrite
  dsimp only
  split
  case h_9 => exact keeps_effect s .image _ _ _ _ _
  all_goals exact .of_held (by simp)

theorem keeps_applyImage (s : State) (im : Image) : Keeps s (applyImage s im) := by
  unfold applyImage
  dsimp only
  generalize hs1 : State.mk .. = s1
  exact ((keeps_foldl imageWrite keeps_imageWrite ((imageWrites im.sects).getD []) s1).after (hs1 ▸ held_mk ..)).then (by simp)

theorem keeps_driverCtrl (s : State) (a v : Nat) : Keeps s (driverCtrl s a v) := by
  unfold driverCtrl
  split
  · exact keeps_ite (keeps_writeObj s .image _ _ v) (.refl s)
  · exact .refl s

theorem keeps_takeCtrl (s : State) (n : Nat) (r : List Byte) : Keeps s (takeCtrl s n r) := by
  unfold takeCtrl
  exact keeps_ite (keeps_driverCtrl s _ _) (.of_held (by simp))

theorem keeps_takeAxisRec (s : State) (r : List Byte) : Keeps s (takeAxisRec s r) := by
  unfold takeAxisRec
  dsimp only
  split
  · exact .refl s
  · split
    · exact .of_held (by simp)
    · exact .of_held (by simp)
    · exact keeps_takeCtrl s _ r
    · exact .of_held (by simp)
    · exact .refl s

theorem keeps_takeSnap (s : State) (r : List Byte) : Keeps s (takeSnap s r) := by
  unfold takeSnap
  dsimp only
  split
  · exact .refl s
  · split
    · exact .of_held (by simp)
    · exact (keeps_foldl _ (fun t y => keeps_takeAxisRec t _) _ _).after (by simp)

theorem keeps_takeRec (k : Nat) (s : State) (r : List Byte) : Keeps s (takeRec k s r) := by
  unfold takeRec
  split
  · exact .of_held (by simp)
  · exact .of_held (by simp)
  · exact keeps_takeSnap s r
  · exact .of_held (by simp)
  · exact keeps_ite (.of_held (by simp)) (keeps_takeAxisRec s r)

theorem keeps_takeTwinFrame (s : State) (k : Nat) (pl : List Byte) : Keeps s (takeTwinFrame s k pl) := by
  unfold takeTwinFrame
  dsimp only
  exact ((keeps_foldl (takeRec k) (keeps_takeRec k) _ _).after (by simp)).then (held_showRed _)

/-! ## The ends of commands -/

/-- The outcome is a next state that keeps what `s` had. -/
def Kept (s : State) (o : Out) : Prop := ∃ t, o = .next t ∧ Keeps s t

theorem kept_done {s t : State} (h : Keeps s t) : Kept s (done t) := ⟨_, rfl, h.then (held_flushEvents _ _)⟩

theorem kept_held {s t : State} (h : held t = held s) : Kept s (done t) := kept_done (.of_held h)

theorem kept_clocked {s : State} {o : Out} (h : Kept s o) : Kept s (clocked s o) := by
  unfold clocked
  split
  · exact h
  · exact kept_done (.refl s)

theorem kept_fabDone {s t : State} (h : Keeps s t) : Kept s (fabDone s t) := kept_done (h.then (held_fabEnd _ _))

theorem kept_ite {s : State} {c : Prop} [Decidable c] {a b : Out} (h : Kept s a) (k : Kept s b) : Kept s (if c then a else b) := by
  split
  · exact h
  · exact k

theorem held_writeAnswer (src : Src) (a : Nat) (r : State × Nat) : held (writeAnswer src a r) = held r.1 := by
  unfold writeAnswer
  repeat' split
  all_goals simp

theorem kept_writeCmd (s : State) (src : Src) (o : ObjId) (i w : Nat) : Kept s (writeCmd s src o i w) := by
  unfold writeCmd
  refine kept_done (Keeps.then ?_ (held_writeAnswer _ _ _))
  split
  · exact .of_held (held_takeMsg s src)
  · exact (keeps_writeObj _ src o i w).after (held_takeMsg s src)

theorem kept_writeAt (s : State) (src : Src) (a v : Nat) : Kept s (writeAt src a v s) := by
  unfold writeAt
  split
  · refine kept_done (Keeps.then ?_ (held_writeAnswer _ _ _))
    split
    · exact .of_held (held_takeMsg s src)
    · exact (keeps_writeObj _ src _ _ v).after (held_takeMsg s src)
  · exact kept_held (by simp)

/-! ## Instructions of the supervisor core -/

/-- What an instruction computes, where it does not fault, keeps what there was. -/
def KeepsRes (f : State → SvRes) : Prop := ∀ s t, f s = .inr t → Keeps s t

theorem kept_svIssue (s : State) (srcs : List Reg) (f : State → SvRes) (h : KeepsRes f) : Kept s (svIssue s srcs f) := by
  unfold svIssue
  dsimp only
  generalize hs1 : modSv s (fun c => { c with wfi := false, late := none }) = s1
  have h1 : held s1 = held s := hs1 ▸ held_modSv s _
  split
  · exact kept_done (.refl s)
  · split
    · exact kept_done ((keeps_svFault _ _ _ _).after h1)
    · split
      · exact kept_done ((keeps_svFault _ _ _ _).after h1)
      · rename_i t ht
        split
        · exact kept_done ((keeps_svEnter s1).after h1)
        · exact kept_done (((h s1 t ht).after h1).then (held_svCost _ _))

theorem keepsRes_inr {f : State → State} (h : ∀ s, Keeps s (f s)) : KeepsRes (fun s => .inr (f s)) := by
  intro s t ht
  cases ht
  exact h s

theorem kept_svAlu (s : State) (rd : Reg) (srcs : List Reg) (f : State → Word) : Kept s (svAlu s rd srcs f) :=
  kept_svIssue s srcs _ (keepsRes_inr fun _ => .of_held (by simp))

theorem kept_svShift (s : State) (rd ra : Reg) (imm : BitVec 18) (f : Word → Nat → Word) : Kept s (svShift s rd ra imm f) := by
  refine kept_svIssue s _ _ fun s t h => ?_
  split at h
  · cases h; exact .of_held (by simp)
  · cases h

theorem keeps_svJump {s t : State} {a : Word} (h : svJump s a = .inr t) : held t = held s := by
  unfold svJump at h
  split at h
  · cases h
  · cases h; simp

theorem kept_svBranch (s : State) (ra rb : Reg) (off : BitVec 18) (take : Word → Word → Bool) :
    Kept s (svBranch s ra rb off take) := by
  refine kept_svIssue s _ _ fun s t h => ?_
  split at h
  · exact .of_held (keeps_svJump h)
  · cases h; exact .of_held (by simp)

theorem kept_svLoadOp (s : State) (rd ra : Reg) (imm : BitVec 18) (n : Nat) (ext : Nat → Word) :
    Kept s (svLoadOp s rd ra imm n ext) := by
  refine kept_svIssue s _ _ fun s t h => ?_
  dsimp only at h
  split at h
  · cases h
  · split at h
    · cases h; exact .of_held (by simp)
    · cases h; exact .of_held (by simp)

theorem kept_svStoreOp (s : State) (rs ra : Reg) (imm : BitVec 18) (n : Nat) : Kept s (svStoreOp s rs ra imm n) := by
  refine kept_svIssue s _ _ fun s t h => ?_
  dsimp only at h
  split at h
  · cases h
  · split at h
    · cases h
      exact (keeps_windowStore s (svAddr s ra imm) (svReg s rs)).then (by simp)
    · cases h; exact .of_held (by simp)

theorem kept_svCsrRead (s : State) (rd : Reg) (n : Nat) : Kept s (svCsrRead s rd n) := by
  refine kept_svIssue s _ _ fun s t h => ?_
  split at h
  · cases h; exact .of_held (by simp)
  · cases h

theorem kept_svCsrWrite (s : State) (k : CsrOp) (n : Nat) (rs : Reg) : Kept s (svCsrWrite s k n rs) := by
  refine kept_svIssue s _ _ fun s t h => ?_
  split at h
  · cases h; exact (keeps_csrPut _ k n _).after (by simp)
  · cases h

end Sys2Proof.Machine
end

section
/-!
PROOFS. Every command keeps the memories canonical and the queue as it was (O60), and ends in a next state; without the CORE clock
a CORE command ends where it began (O2).
-/

namespace Sys2Proof.Machine
open Sys2Proof Sys2Proof.Machine

/-! ## Programming that ends (R44, R60, R62) -/

theorem held_of_takeJob {p : Job → Bool} {s t : State} {j : Job} (h : takeJob p s = some (j, t)) : held t = held s := by
  unfold takeJob at h
  split at h
  · cases h; exact held_modLoad s _
  · cases h

theorem keeps_of_takeJob {p : Job → Bool} {s t : State} {j : Job} (h : takeJob p s = some (j, t)) : Keeps s t :=
  .of_held (held_of_takeJob h)

theorem nvWf_flash {v : Nv} (a : Nat) (bs : List Byte) (h : nvWf v) : nvWf { v with flash := memWrite 0xFF v.flash a bs } := by
  obtain ⟨hf, ht, hl⟩ := h
  exact ⟨wf_memWrite _ _ _ _ hf, ht, hl⟩

theorem nvWf_trim {v : Nv} (a : Nat) (bs : List Byte) (h : nvWf v) : nvWf { v with trim := memWrite 0 [] a bs } := by
  obtain ⟨hf, _, hl⟩ := h
  exact ⟨hf, wf_fresh a bs, hl⟩

theorem kept_imageEraseDone (s : State) : Kept s (execImageEraseDone s) := by
  refine kept_clocked ?_
  split
  · rename_i src slot len t h
    dsimp only
    generalize h1 : State.mk .. = t1
    have k : Keeps s t1 := h1 ▸ (keeps_of_takeJob h).nv _ (nvWf_flash _ _)
    exact kept_done (k.then (by simp))
  · exact kept_done (.refl s)

theorem kept_imageDataProgrammed (s : State) : Kept s (execImageDataProgrammed s) := by
  refine kept_clocked ?_
  split
  · rename_i src slot off bytes t h
    dsimp only
    generalize h1 : State.mk .. = t1
    have k : Keeps s t1 := h1 ▸ (keeps_of_takeJob h).nv _ (nvWf_flash _ _)
    exact kept_done (k.then (by simp))
  · exact kept_done (.refl s)

theorem kept_imageReadbackDone (s : State) : Kept s (execImageReadbackDone s) := by
  refine kept_clocked ?_
  split
  · rename_i h
    exact kept_held (by simp [held_of_takeJob h])
  · exact kept_done (.refl s)

theorem kept_trimProgramDone (ok : Bool) (s : State) : Kept s (execTrimProgramDone ok s) := by
  refine kept_clocked ?_
  split
  · rename_i src t h
    dsimp only
    split
    · generalize h1 : State.mk .. = t1
      have k : Keeps s t1 := h1 ▸ (keeps_of_takeJob h).nv _ (nvWf_trim _ _)
      exact kept_done (k.then (by simp))
    · generalize h1 : State.mk .. = t1
      have k : Keeps s t1 := h1 ▸ (keeps_of_takeJob h).nv _ (nvWf_trim _ _)
      exact kept_done (k.then (by simp))
  · exact kept_done (.refl s)

theorem kept_otpProgramDone (s : State) : Kept s (execOtpProgramDone s) := by
  refine kept_clocked ?_
  split
  · rename_i h
    exact kept_done (((keeps_of_takeJob h).nv _ (nvWf_programOtp _ _ _)).then (held_answer _ _ _ _ _))
  · exact kept_done (.refl s)

theorem kept_imageWriteSwitch (src : Src) (slot : Nat) (s : State) : Kept s (execImageWriteSwitch src slot s) := by
  refine kept_clocked ?_
  dsimp only
  repeat' split
  · exact kept_held (by simp)
  · exact kept_held (by simp)
  · exact kept_held (by simp)
  · exact kept_done (((keeps_writeHdr _ _ _ _).after (held_takeMsg s src)).then (held_imgReply _ _ _ _ _))

/-! ## The ledger, the calendar and the twins -/

theorem kept_ledgerWriteDone (ok : Bool) (s : State) : Kept s (execLedgerWriteDone ok s) := by
  refine kept_clocked ?_
  split
  · exact kept_done (.refl s)
  · rename_i w _
    split
    · exact kept_done ((keeps_ledgOk s w).trans (keeps_ledgEnd _ w))
    · dsimp only
      split
      · exact kept_done (((keeps_ledgBad s w).then (by simp)).trans (keeps_ledgEnd _ w))
      · exact kept_done ((keeps_ledgBad s w).then (by simp))

theorem kept_ledgerSecond (s : State) : Kept s (execLedgerSecond s) := by
  refine kept_clocked ?_
  dsimp only
  split
  · rename_i h
    exact kept_held (by simp [held_of_accTake h])
  · exact kept_held (by simp)

theorem keeps_calSend (s : State) (v : Nat) : Keeps s (calSend s v) := keeps_setRtc s _

theorem kept_calendarSecond (s : State) : Kept s (execCalendarSecond s) :=
  kept_ite (kept_done ((keeps_setRtc s _).then (held_calEdge _))) (kept_done (.refl s))

theorem kept_calSetApply (s : State) : Kept s (execCalSetApply s) := by
  unfold execCalSetApply
  split
  · exact kept_done (.refl s)
  · exact kept_done (keeps_ite (.refl s) ((keeps_setRtc s _).then (held_calEdge _)))

theorem kept_rtcOscillatorStop (s : State) : Kept s (execRtcOscillatorStop s) := by
  have h := keeps_ite (c := rtcDead s = true) (.refl s) (keeps_setRtc s { s.nv.rtc with running := false, lagged := true })
  exact kept_done (keeps_ite (h.then (held_raiseD _ _ _)) h)

theorem kept_twinFrameReceive (p : Fin 8) (f : Frame) (s : State) : Kept s (execTwinFrameReceive p f s) := by
  refine kept_clocked (kept_ite (kept_done (.refl s)) ?_)
  dsimp only
  split
  · exact kept_fabDone ((keeps_takeTwinFrame _ _ _).after (held_frameIn s p f))
  · exact kept_fabDone (.of_held (held_frameIn s p f))

theorem kept_slotAttemptDone (s : State) : Kept s (execSlotAttemptDone s) := by
  refine kept_clocked ?_
  split
  · exact kept_done (.refl s)
  · split
    · exact kept_done (.refl s)
    · dsimp only
      split
      · generalize h1 : modSv .. = s1
        have k : Keeps s s1 := .of_held (h1 ▸ (held_modSv _ _).trans (held_showReason _ _ _))
        exact kept_done ((k.trans (keeps_applyImage s1 _)).then ((held_trigger ..).trans ((held_wrB ..).trans ((held_wr ..).trans
          (held_modLoad ..)))))
      · exact kept_held (by simp)

/-! ## Supplies, resets and clocks -/

theorem kept_porstAssert (ns : Nat) (s : State) : Kept s (execPorstAssert ns s) :=
  kept_ite (kept_done (((keeps_assertReset _ _).after (held_drawBool s)).pwr _)) (kept_held (held_drawBool s))

theorem kept_railResetCrossing (r : Rail) (s : State) : Kept s (execRailResetCrossing r s) :=
  kept_done (((keeps_assertReset s _).pwr _).trans (keeps_rtcSupply _))

theorem kept_railInRange (r : Rail) (s : State) : Kept s (execRailInRange r s) := by
  have h := (Keeps.refl s).pwr { s.pwr with inRange := s.pwr.inRange ||| railBit r }
  exact kept_ite (kept_done (keeps_ite ((h.then (held_drawBool _)).nv _ id) (h.then (held_drawBool _)))) (kept_done h)

theorem kept_railWarningCrossing (r : Rail) (s : State) : Kept s (execRailWarningCrossing r s) := by
  have h := (Keeps.refl s).pwr { s.pwr with below := s.pwr.below ||| railBit r }
  exact kept_ite (kept_done h) (kept_done (keeps_ite (h.then (by simp)) (h.then (by simp))))

theorem kept_warningRelease (r : Rail) (s : State) : Kept s (execWarningRelease r s) := by
  have h := (Keeps.refl s).pwr { s.pwr with below := s.pwr.below &&& (31 - railBit r) }
  exact kept_done (keeps_ite (h.then (held_showExcLow _)) h)

theorem kept_internalResetRelease (x : BitVec 1) (s : State) : Kept s (execInternalResetRelease x s) :=
  kept_ite (kept_done (((Keeps.refl s).pwr _).then ((held_showExcLow _).trans ((held_wr _ _ _ _).trans (held_draw _)))))
    (kept_done (.refl s))

theorem kept_pllLock (s : State) : Kept s (execPllLock s) :=
  kept_ite (kept_done (((Keeps.refl s).pwr _).then ((held_checkTrim _).trans (held_setDevMode _ _ _)))) (kept_done (.refl s))

theorem keeps_coreLoss (s : State) : Keeps s (coreLoss s) :=
  ((Keeps.refl s).pwr _).then ((held_monAllSafe _).trans (held_clockTrip _))

theorem kept_pwmClockLoss (s : State) : Kept s (execPwmClockLoss s) :=
  kept_ite (kept_done (((Keeps.refl s).pwr _).then ((held_trigger _ _ _ _).trans ((held_raiseD _ _ _).trans
    ((held_monAllSafe _).trans (held_clockTrip _)))))) (kept_done (.refl s))

theorem kept_convClockLoss (s : State) : Kept s (execConvClockLoss s) :=
  kept_ite (kept_done (((Keeps.refl s).pwr _).then ((held_trigger _ _ _ _).trans ((held_raiseD _ _ _).trans
    (held_forAxes _ _ (fun t n => by split <;> simp)))))) (kept_done (.refl s))

/-! ## The supervisor core and the ports -/

theorem kept_svLink (s : State) (srcs : List Reg) (rd : Reg) (f : State → Word) : Kept s (svIssue s srcs (fun t => svLink t rd (f t))) := by
  refine kept_svIssue s _ _ fun s t h => ?_
  unfold svLink at h
  split at h
  · cases h
  · rename_i u hu
    cases h
    exact .of_held ((held_svSet _ _ _).trans (keeps_svJump hu))

theorem kept_reti (s : State) : Kept s (execReti s) := by
  refine kept_clocked (kept_ite (kept_done (.refl s)) ?_)
  generalize hs1 : modSv s (fun c => { c with wfi := false, late := none }) = s1
  have h1 : held s1 = held s := hs1 ▸ held_modSv s _
  dsimp only
  split
  · exact kept_done ((keeps_svFault _ _ _ _).after h1)
  · split
    · exact kept_done ((keeps_svFault _ _ _ _).after h1)
    · exact kept_ite (kept_done ((keeps_svEnter s1).after h1)) (kept_done ((keeps_svReti s1).after h1))

theorem kept_qpush (rd ra rb : Reg) (k : BitVec 7) (s : State) : Kept s (execQpush rd ra rb k s) := by
  refine kept_clocked (kept_svIssue s _ _ fun s t h => ?_)
  dsimp only at h
  repeat' split at h
  · cases h; exact .of_held (by simp)
  · cases h
  · cases h; exact .of_held (by simp)

theorem kept_illegalInstruction (w : Word) (s : State) : Kept s (execIllegalInstruction w s) := by
  refine kept_clocked ?_
  split
  · exact kept_done (.refl s)
  · exact kept_svIssue s _ _ fun s t h => by cases h

theorem kept_jtagObjectAccess (w : Bool) (a : Word) (v : Nat) (s : State) : Kept s (execJtagObjectAccess w a v s) := by
  refine kept_clocked ?_
  split
  · exact kept_clocked (kept_writeAt s .jtag _ v)
  · split
    · rename_i h
      exact kept_held (by simp [held_of_readAt h])
    · exact kept_held (by simp)

theorem kept_svcRecv (n : Nat) (s : State) : Kept s (execSvcRecv n s) := by
  refine kept_ite (kept_done (.refl s)) ?_
  split
  · exact kept_held (by simp)
  · dsimp only
    repeat' split
    all_goals exact kept_held (by simp)

/-! ## Every command -/

/-- Every command ends in a next state, which keeps the queue and the memories' canonical form. -/
theorem kept_exec (c : Instr) (s : State) : Kept s (exec c s) := by
  cases c
  case add | sub | and | or | xor | shl | shr | sra | slt | sltu | addi | andi | ori | slti | lui =>
    exact kept_clocked (kept_svAlu s _ _ _)
  case shli | shri | srai =>
    exact kept_clocked (kept_svShift s _ _ _ _)
  case beq | bne | blt | bge | bltu | bgeu =>
    exact kept_clocked (kept_svBranch s _ _ _ _)
  case lw | lh | lhu | lb | lbu =>
    exact kept_clocked (kept_svLoadOp s _ _ _ _ _)
  case sw | sh | sb =>
    exact kept_clocked (kept_svStoreOp s _ _ _ _)
  case csrr | timeLoRead =>
    exact kept_clocked (kept_svCsrRead s _ _)
  case csrw | csrs | csrc | wdtFeed | tcmpArm =>
    exact kept_clocked (kept_svCsrWrite s _ _ _)
  case mul | mulh | div | divu | rem | wfi =>
    exact kept_clocked (kept_svIssue s _ _ (keepsRes_inr fun _ => .of_held (by simp)))
  case j | jr =>
    exact kept_clocked (kept_svIssue s _ _ fun _ _ h => .of_held (keeps_svJump h))
  case jal | jalr =>
    exact kept_clocked (kept_svLink s _ _ _)
  case trap =>
    exact kept_clocked (kept_svIssue s _ _ fun _ _ h => by cases h)
  case interruptEntry =>
    exact kept_clocked (kept_ite (kept_done (.refl s)) (kept_done ((keeps_svEnter _).after (held_modSv s _))))
  case watchdogExpiry =>
    exact kept_clocked (kept_done (keeps_ite (keeps_svExpire s) (.refl s)))
  case resetRequest | modeRequest | excTimingWrite | excGroupStop | excGroupStart | sqRetry | muxSourceWrite |
      auxSourceWrite | excDrvWrite | monSpanWrite | filterChainWrite | posSetWrite | encResync | axisModeRequest |
      paramWrite | pairSetWrite | traceArm | traceStop | pwmTimingWrite | sscWrite | tripRearm | tripCfgWrite |
      fabUnquar | linkReconfigure | fabCmdSync | svRestart | svHaltCommand | ledgerSnap | ledgerClrAxis | calSet |
      evRaise | evDump | otpWrite | queueResetRequest =>
    exact kept_clocked (kept_writeCmd s _ _ _ _)
  case registerWrite | msgWrite =>
    exact kept_clocked (kept_writeAt s _ _ _)
  case ledgerSecond => exact kept_ledgerSecond ..
  case reti => exact kept_reti ..
  case qpush => exact kept_qpush ..
  case illegalInstruction => exact kept_illegalInstruction ..
  case jtagObjectAccess => exact kept_jtagObjectAccess ..
  case svcRecv => exact kept_svcRecv ..
  case imageEraseDone => exact kept_imageEraseDone ..
  case imageDataProgrammed => exact kept_imageDataProgrammed ..
  case imageReadbackDone => exact kept_imageReadbackDone ..
  case trimProgramDone => exact kept_trimProgramDone ..
  case otpProgramDone => exact kept_otpProgramDone ..
  case imageWriteSwitch => exact kept_imageWriteSwitch ..
  case ledgerWriteDone => exact kept_ledgerWriteDone ..
  case calendarSecond => exact kept_calendarSecond ..
  case calSetApply => exact kept_calSetApply ..
  case rtcOscillatorStop => exact kept_rtcOscillatorStop ..
  case twinFrameReceive => exact kept_twinFrameReceive ..
  case slotAttemptDone => exact kept_slotAttemptDone ..
  case porstAssert => exact kept_porstAssert ..
  case railResetCrossing => exact kept_railResetCrossing ..
  case railInRange => exact kept_railInRange ..
  case railWarningCrossing => exact kept_railWarningCrossing ..
  case warningRelease => exact kept_warningRelease ..
  case internalResetRelease => exact kept_internalResetRelease ..
  case pllLock => exact kept_pllLock ..
  case pwmClockLoss => exact kept_pwmClockLoss ..
  case convClockLoss => exact kept_convClockLoss ..
  case rtcOscillatorRestart => exact kept_done (keeps_setRtc s _)
  case calendarFollow => exact kept_clocked (kept_ite (kept_done (keeps_calSend s _)) (kept_done (.refl s)))
  case vbatLowChange => exact kept_done (((Keeps.refl s).pwr _).trans (keeps_rtcSupply _))
  case jtagReset => exact kept_done (keeps_assertReset s _)
  case coreClockLoss | referenceClockLoss => exact kept_done (keeps_ite (keeps_coreLoss s) (.refl s))
  case jtagExtest => exact kept_done (keeps_ite ((Keeps.refl s).pwr _) (.refl s))
  case svcSend => exact kept_ite (kept_done (.refl s)) (kept_ite (kept_held (by simp)) (kept_held (by simp)))
  case svcStat => exact kept_ite (kept_done (.refl s)) (kept_held (by simp))
  case tripSourceOnset | tripSourceEnd =>
    refine kept_ite (kept_done (.refl s)) ?_
    split
    · exact kept_held (by simp)
    · exact kept_held (by simp)
  case encFrameMark | sscSettled | safeLowSideOn | drvMonSample | linkTrainingTimeout | helloSend | joinSend |
      joinTimeout | quarTimeout | downTimeout | creditSendTimer | flowEntryExpiry | excEdge | sineDriverUpdate |
      rangeChange | muxSwitch | cmFaultOnset | cmFaultEnd | twinAbsenceTimeout | releaseReceive | svReloadDone |
      queuePush | queuePop | queuePeek | queueDiscard | sweepPassStart | sweepPassEnd | freeListRebuildDone |
      sortedPop | msgSubscribe | msgEvent | msgPush | msgTraceRead =>
    exact kept_clocked (kept_held (by simp))
  case encEdge | precompute | filterSlotRead | slowPathDone | completion | laneRetry | lateFlag | shadowLoad |
      axisModeChange | paramLanding | gearDataLost | observerStep | traceSample | excDetectorInterval | monSample |
      monSpanDone | monDetect | ledgerIntervalExpiry | ledgerLoad | ledgerFold | linkTrainStart | linkBlockLock |
      trainLockTimeout | ackReceive | creditReceive | frameTransmit | congestionOnset | staleDiscard |
      settleQuietTimeout | tsyncRequestSend | syncPeriodExpiry | placeAttemptStart | placeRetryTimer | planComputed
      | placeInputTimeout | placeHashCompare | replacementStart | replacementTimeout | frameRealign | modeTransition
      | testRunDone | discoverTimeout | drvSettleExpiry | stopLimitExpiry | holdStrobe | conversionDone |
      clampConduction | filterChainSwitch | auxoUpdate | flashProbeDone | imageWriteBegin | imageWriteData |
      imageWriteEnd | trimWriteOpen | trimWriteData | trimWriteCommit | trimSwitch | trimWriteClose | laneSelfTest |
      twinFrameSend | twinOkInLow | handoverTimeout | resyncTimeout | resyncRetry | tmrExpiry | tcmpMatch |
      queueNoticeRead | msgRead | subscriptionDelivery | helloReceive | joinReceive | linkLoss | nakReceive |
      downWordReceive | replayTimeout | frameReceive | lsrSend | lsrReceive | lsrExpiry | routeFailReceive |
      tsyncRequestReceive | tsyncResponseReceive | syncReceive =>
    refine kept_clocked ?_
    try dsimp only
    repeat' split
    all_goals exact kept_held (by simp)

theorem held_idle (s : State) : held (idle s) = held s := by
  unfold idle
  split
  · rw [held_mk, held_eta]
  · rfl

/-- Settles O60: the step of an empty queue leaves the memories, and every command keeps them. -/
theorem stepKeepsMemories : Obligations.StepKeepsMemories := by
  intro s t h hs
  cases hp : s.pending with
  | nil =>
    rw [step_nil s hp] at hs
    cases hs
    have k : held (idle s) = held s := held_idle s
    exact ⟨(Keeps.of_held k).memories h, (pending_of_held k).trans hp⟩
  | cons c cs =>
    obtain ⟨u, hu, k⟩ := kept_exec c { s with pending := cs }
    have hs : exec c { s with pending := cs } = .next t := by rw [← hs, step, hp]
    rw [hu] at hs
    cases hs
    exact ⟨k.memories h, k.queue⟩

/-! ## Without the CORE clock -/

theorem ends_done (s : State) (c : Instr) (h : exec c s = done s) : Ends s c s := by
  unfold Ends Completes
  rw [h]
  exact done_quiet s

theorem ends_clocked {s : State} {c : Instr} {o : Out} (hr : coreRuns s = false) (h : exec c s = clocked s o) : Ends s c s :=
  ends_done s c (h.trans (clocked_stop s o hr))

theorem armed_stopped {s : State} (h : coreRuns s = false) : armed s = false := by
  unfold coreRuns at h; unfold armed; revert h
  cases s.pwr.rst <;> cases s.pwr.coreLost <;> simp

theorem svcAlive_stopped {s : State} (h : coreRuns s = false) : svcAlive s = false := by simp [svcAlive, h]

theorem ends_of_stopped (c : Instr) (s : State) (hr : coreRuns s = false) (ho : outsideCore c = false) : Ends s c s := by
  have ha := armed_stopped hr
  have hv := svcAlive_stopped hr
  cases c
  case porstAssert | railResetCrossing | railInRange | railWarningCrossing | warningRelease | vbatLowChange |
      internalResetRelease | jtagReset | pllLock | calendarSecond | calSetApply | rtcOscillatorStop |
      rtcOscillatorRestart | jtagExtest | tripSourceOnset | tripSourceEnd =>
    cases ho
  case coreClockLoss => exact ends_done s _ (show execCoreClockLoss s = _ by simp [execCoreClockLoss, ha])
  case referenceClockLoss => exact ends_done s _ (show execReferenceClockLoss s = _ by simp [execReferenceClockLoss, ha])
  case pwmClockLoss => exact ends_done s _ (show execPwmClockLoss s = _ by simp [execPwmClockLoss, ha])
  case convClockLoss => exact ends_done s _ (show execConvClockLoss s = _ by simp [execConvClockLoss, ha])
  case svcSend len m crc => exact ends_done s _ (show execSvcSend len m crc s = _ by simp [execSvcSend, hv])
  case svcRecv n => exact ends_done s _ (show execSvcRecv n s = _ by simp [execSvcRecv, hv])
  case svcStat => exact ends_done s _ (show execSvcStat s = _ by simp [execSvcStat, hv])
  all_goals exact ends_clocked hr rfl

/-- Settles O2: what every command does was said command by command; without CORE those of the CORE domain do nothing. -/
theorem noCommandStops : Obligations.NoCommandStops :=
  ⟨fun c s => let ⟨t, ht, _⟩ := kept_exec c s; ⟨t, ht⟩, ends_of_stopped⟩

end Sys2Proof.Machine
end

section
/-!
SUPPORT. The registers of different objects, and of different instances of one, have different keys: what a write of an object leaves
of every other.
-/

namespace Sys2Proof.Machine
open Sys2Proof Sys2Proof.Machine

/-! ## The map of objects -/

/-- The number of instances of an object. -/
def objCount (o : ObjId) : Nat := (objRow o).count * (objRow o).sub

theorem mem_objsOfBlock (o : ObjId) : o ∈ objsOfBlock (objRow o).block := by cases o <;> decide +kernel

theorem objBlock_lt (o : ObjId) : (objRow o).block < 20 := by cases o <;> decide +kernel

/-- A row's instances lie inside its block and inside its stride. -/
def rowSound (r : ObjRow) : Bool :=
  decide (r.base + (r.count - 1) * r.stride + r.sub ≤ 2 ^ 18) && decide (0 < r.sub) && decide (r.base % r.stride + r.sub ≤ r.stride)

/-- Two rows of a block never name one index: one ends before the other begins, or they take different places of one stride. -/
def rowsApart (r q : ObjRow) : Bool :=
  decide (r.base + (r.count - 1) * r.stride + r.sub ≤ q.base) || decide (q.base + (q.count - 1) * q.stride + q.sub ≤ r.base) ||
    decide (r.stride = q.stride) && (decide (r.base % r.stride + r.sub ≤ q.base % q.stride) ||
      decide (q.base % q.stride + q.sub ≤ r.base % r.stride))

/-- The map of objects, block by block. -/
theorem blocks_sound : (List.range 20).all (fun b => (objsOfBlock b).all (fun o => rowSound (objRow o) &&
    (objsOfBlock b).all (fun p => decide (o = p) || rowsApart (objRow o) (objRow p)))) = true := by decide +kernel

theorem block_sound (o : ObjId) : rowSound (objRow o) = true ∧
    ∀ p ∈ objsOfBlock (objRow o).block, decide (o = p) = true ∨ rowsApart (objRow o) (objRow p) = true := by
  have h := List.all_eq_true.mp (List.all_eq_true.mp blocks_sound _ (List.mem_range.mpr (objBlock_lt o))) o (mem_objsOfBlock o)
  simpa only [Bool.and_eq_true, List.all_eq_true, Bool.or_eq_true] using h

theorem rowSound_all (o : ObjId) : (objRow o).base + ((objRow o).count - 1) * (objRow o).stride + (objRow o).sub ≤ 2 ^ 18 ∧
    0 < (objRow o).sub ∧ (objRow o).base % (objRow o).stride + (objRow o).sub ≤ (objRow o).stride := by
  have h := (block_sound o).1
  simp only [rowSound, Bool.and_eq_true, decide_eq_true_eq] at h
  exact ⟨h.1.1, h.1.2, h.2⟩

theorem rowsApart_of_ne {o p : ObjId} (hb : (objRow o).block = (objRow p).block) (h : o ≠ p) :
    rowsApart (objRow o) (objRow p) = true := by
  have k := (block_sound o).2 p (hb ▸ mem_objsOfBlock p)
  simpa [h] using k

/-! ## Indices -/

/-- An index is a multiple of the stride above the base, and a place among the instances side by side. -/
theorem objIndex_split {o : ObjId} {i : Nat} (h : i < objCount o) : ∃ k j, k < (objRow o).count ∧ j < (objRow o).sub ∧
    i = k * (objRow o).sub + j ∧ objIndex o i = (objRow o).base + k * (objRow o).stride + j := by
  obtain ⟨-, hs, -⟩ := rowSound_all o
  refine ⟨i / (objRow o).sub, i % (objRow o).sub, (Nat.div_lt_iff_lt_mul hs).mpr h, Nat.mod_lt _ hs, ?_, rfl⟩
  rw [Nat.mul_comm]
  exact (Nat.div_add_mod _ _).symm

theorem objIndex_lt {o : ObjId} {i : Nat} (h : i < objCount o) : objIndex o i < 2 ^ 18 := by
  obtain ⟨k, j, hk, hj, -, he⟩ := objIndex_split h
  obtain ⟨hb, -, -⟩ := rowSound_all o
  have : k * (objRow o).stride ≤ ((objRow o).count - 1) * (objRow o).stride := Nat.mul_le_mul_right _ (by omega)
  omega

/-- Where an index stands in its stride. -/
theorem objIndex_mod {o : ObjId} {i : Nat} (h : i < objCount o) : ∃ j, j < (objRow o).sub ∧
    objIndex o i % (objRow o).stride = (objRow o).base % (objRow o).stride + j := by
  obtain ⟨k, j, -, hj, -, he⟩ := objIndex_split h
  obtain ⟨-, -, hs⟩ := rowSound_all o
  refine ⟨j, hj, ?_⟩
  rw [he, Nat.add_right_comm, Nat.add_mul_mod_self_right, Nat.add_mod, Nat.mod_eq_of_lt (a := j) (by omega),
    Nat.mod_eq_of_lt (by omega)]

theorem objIndex_ne {o p : ObjId} {i j : Nat} (hi : i < objCount o) (hj : j < objCount p)
    (hb : (objRow o).block = (objRow p).block) (h : o ≠ p) : objIndex o i ≠ objIndex p j := by
  have ha := rowsApart_of_ne hb h
  obtain ⟨k, a, hk, hka, -, he⟩ := objIndex_split hi
  obtain ⟨l, b, hl, hlb, -, hf⟩ := objIndex_split hj
  obtain ⟨a', ha', hm⟩ := objIndex_mod hi
  obtain ⟨b', hb', hn⟩ := objIndex_mod hj
  have h1 : k * (objRow o).stride ≤ ((objRow o).count - 1) * (objRow o).stride := Nat.mul_le_mul_right _ (by omega)
  have h2 : l * (objRow p).stride ≤ ((objRow p).count - 1) * (objRow p).stride := Nat.mul_le_mul_right _ (by omega)
  simp only [rowsApart, Bool.or_eq_true, Bool.and_eq_true, decide_eq_true_eq] at ha
  intro hne
  rcases ha with (ha | ha) | ⟨hs, ha⟩
  · omega
  · omega
  · rw [hne, hs] at hm
    rw [hs] at ha
    omega

theorem objIndex_inj {o : ObjId} {i j : Nat} (hi : i < objCount o) (hj : j < objCount o) (h : objIndex o i = objIndex o j) :
    i = j := by
  obtain ⟨k, a, -, hka, hik, he⟩ := objIndex_split hi
  obtain ⟨l, b, -, hlb, hjl, hf⟩ := objIndex_split hj
  obtain ⟨-, -, hs⟩ := rowSound_all o
  have hd : k * (objRow o).stride + a = l * (objRow o).stride + b := by omega
  have ha : a < (objRow o).stride := by omega
  have hb : b < (objRow o).stride := by omega
  have hab : a = b := by
    have := congrArg (· % (objRow o).stride) hd
    simpa [Nat.add_comm, Nat.add_mul_mod_self_right, Nat.mod_eq_of_lt ha, Nat.mod_eq_of_lt hb] using this
  have hkl : k = l := Nat.eq_of_mul_eq_mul_right (by omega : 0 < (objRow o).stride) (by omega)
  rw [hik, hjl, hkl, hab]

/-! ## Keys -/

theorem objKey_ne_obj {o p : ObjId} {i j : Nat} (h : o ≠ p) (hi : i < objCount o) (hj : j < objCount p) :
    objKey o i ≠ objKey p j := by
  have a := objIndex_lt hi
  have b := objIndex_lt hj
  unfold objKey
  by_cases hb : (objRow o).block = (objRow p).block
  · have := objIndex_ne hi hj hb h
    rw [hb]; omega
  · omega

theorem objKey_ne_inst {o : ObjId} {i j : Nat} (h : i ≠ j) (hi : i < objCount o) (hj : j < objCount o) : objKey o i ≠ objKey o j := by
  unfold objKey
  intro he
  exact h (objIndex_inj hi hj (by omega))

/-! ## Reads after writes of other objects -/

theorem getObj_setObj_obj (s : State) {o p : ObjId} {i j : Nat} (v : Nat) (h : p ≠ o) (hj : j < objCount p) (hi : i < objCount o) :
    getObj (setObj s o i v) p j = getObj s p j := getObj_setObj_ne s o p i j v (objKey_ne_obj h hj hi)

theorem getObj_wr_obj (s : State) {f : Fld} {p : ObjId} {i j : Nat} (x : Nat) (h : p ≠ f.obj) (hj : j < objCount p)
    (hi : i < objCount f.obj) : getObj (wr s f i x) p j = getObj s p j := getObj_setObj_obj s _ h hj hi

/-- A field of an object of another kind keeps its value. -/
theorem rd_wr_kind (s : State) {f g : Fld} {i j : Nat} (x : Nat) (h : g.obj ≠ f.obj) (hj : j < objCount g.obj)
    (hi : i < objCount f.obj) : rd (wr s f i x) g j = rd s g j := rd_wr_obj s f g i j x (objKey_ne_obj h hj hi)

/-- A field of another instance keeps its value. -/
theorem rd_wr_inst (s : State) {f g : Fld} {i j : Nat} (x : Nat) (hj : j < objCount g.obj) (hi : i < objCount f.obj)
    (ho : g.obj = f.obj) (h : j ≠ i) : rd (wr s f i x) g j = rd s g j :=
  rd_wr_obj s f g i j x (by rw [ho] at hj ⊢; exact objKey_ne_inst h hj hi)

end Sys2Proof.Machine
end

section
/-!
SUPPORT. From the state a command leaves before its events are pushed to the state after it: each part that pushing records does not
touch.
-/

namespace Sys2Proof.Machine
open Sys2Proof Sys2Proof.Machine

/-! ## The end of a command -/

theorem completes_of_done {s u : State} {c : Instr} {P : State → Prop} (h : exec c s = done u) (k : ∀ t, Quiet u t → P t) :
    Completes s c P :=
  let ⟨t, ht, q⟩ := done_quiet u
  ⟨t, h.trans ht, k t q⟩

theorem ends_of_done {s u : State} {c : Instr} (h : exec c s = done u) : Ends s c u := completes_of_done h fun _ => id

theorem exec_of_clocked {s : State} {c : Instr} {o : Out} (hr : coreRuns s = true) (h : exec c s = clocked s o) : exec c s = o :=
  h.trans (clocked_run s o hr)

theorem completes_of_clocked {s u : State} {c : Instr} {P : State → Prop} (hr : coreRuns s = true)
    (h : exec c s = clocked s (done u)) (k : ∀ t, Quiet u t → P t) : Completes s c P :=
  completes_of_done (exec_of_clocked hr h) k

theorem ends_of_clocked {s u : State} {c : Instr} (hr : coreRuns s = true) (h : exec c s = clocked s (done u)) : Ends s c u :=
  completes_of_clocked hr h fun _ => id

/-! ## What a quiet step leaves -/

section
variable {s t : State}

theorem Quiet.pending (h : Quiet s t) : t.pending = s.pending := congrArg (·.pending) h.rest
theorem Quiet.pwr (h : Quiet s t) : t.pwr = s.pwr := congrArg (·.pwr) h.rest
theorem Quiet.nv (h : Quiet s t) : t.nv = s.nv := congrArg (·.nv) h.rest
theorem Quiet.load (h : Quiet s t) : t.load = s.load := congrArg (·.load) h.rest
theorem Quiet.axes (h : Quiet s t) : t.axes = s.axes := congrArg (·.axes) h.rest
theorem Quiet.grps (h : Quiet s t) : t.grps = s.grps := congrArg (·.grps) h.rest
theorem Quiet.auxs (h : Quiet s t) : t.auxs = s.auxs := congrArg (·.auxs) h.rest
theorem Quiet.auxos (h : Quiet s t) : t.auxos = s.auxos := congrArg (·.auxos) h.rest
theorem Quiet.encs (h : Quiet s t) : t.encs = s.encs := congrArg (·.encs) h.rest
theorem Quiet.conv (h : Quiet s t) : t.conv = s.conv := congrArg (·.conv) h.rest
theorem Quiet.c1 (h : Quiet s t) : t.c1 = s.c1 := congrArg (·.c1) h.rest
theorem Quiet.prot (h : Quiet s t) : t.prot = s.prot := congrArg (·.prot) h.rest
theorem Quiet.mons (h : Quiet s t) : t.mons = s.mons := congrArg (·.mons) h.rest
theorem Quiet.red (h : Quiet s t) : t.red = s.red := congrArg (·.red) h.rest
theorem Quiet.place (h : Quiet s t) : t.place = s.place := congrArg (·.place) h.rest
theorem Quiet.ledg (h : Quiet s t) : t.ledg = s.ledg := congrArg (·.ledg) h.rest
theorem Quiet.sv (h : Quiet s t) : t.sv = s.sv := congrArg (·.sv) h.rest
theorem Quiet.fab (h : Quiet s t) : t.fab = s.fab := congrArg (·.fab) h.rest
theorem Quiet.trigs (h : Quiet s t) : t.ctl.trigs = s.ctl.trigs := congrArg (·.trigs) h.ctl
theorem Quiet.frameLen (h : Quiet s t) : t.ctl.frameLen = s.ctl.frameLen := congrArg (·.frameLen) h.ctl
theorem Quiet.freeCnt (h : Quiet s t) : t.ctl.freeCnt = s.ctl.freeCnt := congrArg (·.freeCnt) h.ctl
theorem Quiet.testFail (h : Quiet s t) : t.ctl.testFail = s.ctl.testFail := congrArg (·.testFail) h.ctl

theorem Quiet.ax (h : Quiet s t) (n : Nat) : ax t n = ax s n := by rw [Machine.ax, h.axes, Machine.ax]

/-- An object that no record counts in keeps its value. -/
theorem Quiet.getObj (h : Quiet s t) (o : ObjId) (i : Nat) (k : objKey o i ∉ recordKeys) :
    getObj t o i = getObj s o i := h.regs _ _ k

theorem Quiet.rd (h : Quiet s t) (f : Fld) (i : Nat) (k : objKey f.obj i ∉ recordKeys) : rd t f i = rd s f i := by
  rw [Machine.rd, h.getObj _ _ k, Machine.rd]

theorem Quiet.rdB (h : Quiet s t) (f : Fld) (i : Nat) (k : objKey f.obj i ∉ recordKeys) : rdB t f i = rdB s f i := by
  rw [Machine.rdB, h.rd f i k, Machine.rdB]

end

/-- The objects whose fields pushing records may change. -/
def recordObjs : List ObjId := [.devQmCnt, .devEvStat, .devTrcStat, .devTrcTime]

/-- No other object is among the keys of the records. -/
theorem key_of_kind {o : ObjId} {i : Nat} (h : o ∉ recordObjs) (hi : i < objCount o) : objKey o i ∉ recordKeys := by
  simp only [recordObjs, List.mem_cons, List.not_mem_nil, or_false, not_or] at h
  obtain ⟨h1, h2, h3, h4⟩ := h
  simp only [recordKeys, List.mem_cons, List.not_mem_nil, or_false, not_or]
  exact ⟨objKey_ne_obj h1 hi (by decide), objKey_ne_obj h2 hi (by decide), objKey_ne_obj h3 hi (by decide),
    objKey_ne_obj h4 hi (by decide)⟩

theorem Quiet.rd_kind {s t : State} (h : Quiet s t) {f : Fld} {i : Nat} (ho : f.obj ∉ recordObjs) (hi : i < objCount f.obj) :
    Machine.rd t f i = Machine.rd s f i := h.rd f i (key_of_kind ho hi)

theorem Quiet.rdB_kind {s t : State} (h : Quiet s t) {f : Fld} {i : Nat} (ho : f.obj ∉ recordObjs) (hi : i < objCount f.obj) :
    Machine.rdB t f i = Machine.rdB s f i := h.rdB f i (key_of_kind ho hi)

theorem Quiet.getObj_kind {s t : State} (h : Quiet s t) {o : ObjId} {i : Nat} (ho : o ∉ recordObjs) (hi : i < objCount o) :
    Machine.getObj t o i = Machine.getObj s o i := h.getObj o i (key_of_kind ho hi)

theorem Quiet.mode {s t : State} (h : Quiet s t) : Machine.mode t = Machine.mode s := h.rd_kind (by decide) (by decide)

theorem Quiet.coreRuns {s t : State} (h : Quiet s t) : Machine.coreRuns t = Machine.coreRuns s := by
  rw [Machine.coreRuns, h.pwr, Machine.coreRuns]

end Sys2Proof.Machine
end

section
/-!
PROOFS. Hold strobes (O15): what a strobe adds to the conversions, and that it touches nothing else.
-/

namespace Sys2Proof.Machine
open Sys2Proof Sys2Proof.Machine

/-! ## Axes -/

theorem ax_setAx_same (s : State) (n : Nat) (a : Axis) : ax (setAx s n a) n = a := by simp [ax]

theorem ax_setAx_ne (s : State) {n m : Nat} (a : Axis) (h : m ≠ n) : ax (setAx s n a) m = ax s m := by
  simp only [ax, setAx_axes]
  exact mget_mset_ne _ _ _ _ _ _ h

theorem ax_of_axes {s t : State} (h : t.axes = s.axes) (n : Nat) : ax t n = ax s n := by rw [ax, h, ax]

/-! ## Conversions that start -/

/-- What a strobe adds to the conversions of a slot. -/
theorem conv_startSlot (s : State) (slot j : Nat) (st : Strobe) : mget [] (startSlot s slot st).conv j =
    mget [] s.conv j ++ if j = slot ∧ slot < s.ctl.frameLen then [st] else [] := by
  unfold startSlot
  split
  · rename_i h
    by_cases hj : j = slot
    · subst hj; simp [startConv, h]
    · simp [startConv, hj, mget_mset_ne]
  · rename_i h
    simp [h]

theorem startSlot_eq (s : State) (slot : Nat) (st : Strobe) : startSlot s slot st = { s with conv := (startSlot s slot st).conv } := by
  unfold startSlot
  split <;> rfl

theorem startSlot_ctl (s : State) (slot : Nat) (st : Strobe) : (startSlot s slot st).ctl = s.ctl := by rw [startSlot_eq]

/-- The slots from `a` on, `k` of them, take one strobe. -/
theorem startSlots_conv (s : State) (a k j : Nat) (st : Strobe) :
    mget [] ((List.range k).foldl (fun u q => startSlot u (a + q) st) s).conv j =
      mget [] s.conv j ++ (if a ≤ j ∧ j < a + k ∧ j < s.ctl.frameLen then [st] else []) ∧
    (List.range k).foldl (fun u q => startSlot u (a + q) st) s =
      { s with conv := ((List.range k).foldl (fun u q => startSlot u (a + q) st) s).conv } := by
  induction k with
  | zero => exact ⟨by simp; omega, rfl⟩
  | succ k ih =>
    obtain ⟨hc, he⟩ := ih
    simp only [List.range_succ, List.foldl_append, List.foldl_cons, List.foldl_nil]
    generalize (List.range k).foldl (fun u q => startSlot u (a + q) st) s = u at hc he ⊢
    have hl : u.ctl = s.ctl := by rw [he]
    constructor
    · rw [conv_startSlot, hc, hl, List.append_assoc]
      congr 1
      by_cases hj : j = a + k
      · subst hj
        simp
      · have : (a ≤ j ∧ j < a + k ∧ j < s.ctl.frameLen) ↔ (a ≤ j ∧ j < a + (k + 1) ∧ j < s.ctl.frameLen) := by omega
        simp [hj, this]
    · rw [startSlot_eq, he]

/-! ## The strobe of an axis -/

theorem openMux_eq (s : State) (n : Nat) : openMux s n = { s with axes := (openMux s n).axes } := rfl

theorem eq_of_conv_axes {s s3 u : State} (h : s3 = { s with axes := s3.axes }) (k : u = { s3 with conv := u.conv }) :
    u = { s with conv := u.conv, axes := u.axes } := by rw [k, h]

/-- The strobe of an axis starts its conversions, changes the axis, and nothing else. -/
theorem axisStrobe_starts (s : State) (n : Nat) : ∃ st : Strobe, st.at_ = nowCyc s ∧
    (∀ j, mget [] (axisStrobe s n).conv j =
      mget [] s.conv j ++ if 4 * n ≤ j ∧ j < 4 * n + 4 ∧ j < s.ctl.frameLen then [st] else []) ∧
    axisStrobe s n = { s with conv := (axisStrobe s n).conv, axes := (axisStrobe s n).axes } ∧
    ∀ m, m ≠ n → ax (axisStrobe s n) m = ax s m := by
  unfold axisStrobe
  extract_lets s1 cls pt e g t st s2 s3
  have h3 : s3 = { s with axes := s3.axes } := rfl
  have hm : ∀ m, m ≠ n → ax s3 m = ax s m := fun m h =>
    (ax_setAx_ne s2 _ h).trans ((ax_setAx_ne s1 _ h).trans (ax_setAx_ne s _ h))
  have hc := fun j => (startSlots_conv s3 (4 * n) 4 j st).1
  have he := (startSlots_conv s3 (4 * n) 4 0 st).2
  have hs : ∀ j, mget [] s3.conv j = mget [] s.conv j := fun j => by rw [h3]
  have hl : s3.ctl = s.ctl := by rw [h3]
  generalize (List.range 4).foldl (fun u q => startSlot u (4 * n + q) st) s3 = u at hc he ⊢
  clear_value s3
  refine ⟨st, rfl, fun j => ?_, eq_of_conv_axes h3 he, fun m h => ?_⟩
  · rw [hc, hs, hl]
  · rw [← hm m h]
    exact ax_of_axes (by rw [he]) m

/-! ## The strobe of the auxiliary channels -/

theorem conv_auxStrobe (s : State) (k : Nat) : ∃ st : Strobe, st.at_ = nowCyc s ∧
    (∀ j, mget [] (auxStrobe s k).conv j = mget [] s.conv j ++ if j = 192 + k ∧ 192 + k < s.ctl.frameLen then [st] else []) ∧
    auxStrobe s k = { s with conv := (auxStrobe s k).conv, auxs := (auxStrobe s k).auxs } := by
  unfold auxStrobe
  extract_lets a src win tag st
  exact ⟨st, rfl, fun j => conv_startSlot _ _ j st, by rw [startSlot_eq]; rfl⟩

/-- The first `k` auxiliary channels take their strobes. -/
theorem auxStrobes_start (s : State) (k : Nat) :
    (∀ q < k, 192 + q < s.ctl.frameLen → ∃ st : Strobe, st.at_ = nowCyc s ∧
      mget [] ((List.range k).foldl auxStrobe s).conv (192 + q) = mget [] s.conv (192 + q) ++ [st]) ∧
    (∀ j, j < 192 ∨ 192 + k ≤ j ∨ s.ctl.frameLen ≤ j → mget [] ((List.range k).foldl auxStrobe s).conv j = mget [] s.conv j) ∧
    (List.range k).foldl auxStrobe s =
      { s with conv := ((List.range k).foldl auxStrobe s).conv, auxs := ((List.range k).foldl auxStrobe s).auxs } := by
  induction k with
  | zero => exact ⟨fun q h => absurd h (by omega), fun _ _ => rfl, rfl⟩
  | succ k ih =>
    obtain ⟨hs, ho, he⟩ := ih
    simp only [List.range_succ, List.foldl_append, List.foldl_cons, List.foldl_nil]
    generalize (List.range k).foldl auxStrobe s = u at hs ho he ⊢
    have hctl : u.ctl = s.ctl := by rw [he]
    have ht : nowCyc u = nowCyc s := by rw [nowCyc, hctl, nowCyc]
    obtain ⟨st, hat, hc, hu⟩ := conv_auxStrobe u k
    rw [hctl] at hc
    refine ⟨fun q hq hl => ?_, fun j hj => ?_, ?_⟩
    · by_cases h : q = k
      · subst h
        exact ⟨st, hat.trans ht, by rw [hc, if_pos ⟨rfl, hl⟩, ho _ (by omega)]⟩
      · obtain ⟨st', h1, h2⟩ := hs q (by omega) hl
        exact ⟨st', h1, by rw [hc, if_neg (by omega), List.append_nil, h2]⟩
    · rw [hc, if_neg (by omega), List.append_nil, ho j (by omega)]
    · rw [hu, he]

/-! ## The command -/

theorem exec_holdStrobe {s : State} (n : Fin 49) (hr : coreRuns s = true) : exec (.holdStrobe n) s = done (strobeAt s n) := by
  rw [exec_of_clocked hr rfl]
  have h : (s.pwr.rst || s.pwr.coreLost) = false := by
    rw [coreRuns] at hr
    revert hr
    cases s.pwr.rst <;> cases s.pwr.coreLost <;> simp
  rw [h]
  rfl

theorem raiseD_quiet_of (c : Prop) [Decidable c] (s : State) (k g : Nat) : Quiet s (if c then s else raiseD s k g) := by
  split
  · exact Quiet.refl s
  · exact quiet_raiseD s k g

/-- A frame that starts at this instant. -/
def frameStarted (s : State) : State := { s with ctl := { s.ctl with
  frameStart := nowCyc s, frameLen := frameLenAt s (nowCyc s), prevLen := s.ctl.frameLen, gridAt := none, lateInFrame := 0
  short := if frameLenAt s (nowCyc s) < 200 then some (nowCyc s, frameLenAt s (nowCyc s)) else s.ctl.short } }

theorem quiet_frameMark (s : State) : Quiet (frameStarted s) (frameMark s) := raiseD_quiet_of _ (frameStarted s) _ _

/-- A step that is quiet stays so with the conversions and the axes replaced on both sides. -/
theorem Quiet.conv_axes {s t : State} (h : Quiet s t) (c : List (Nat × List Strobe)) (a : List (Nat × Axis)) :
    Quiet { s with conv := c, axes := a } { t with conv := c, axes := a } where
  regs := h.regs
  rest := congrArg (fun x : State => { x with conv := c, axes := a }) h.rest
  ctl := h.ctl
  msg := h.msg

theorem strobeAt_zero (s : State) : strobeAt s 0 = axisStrobe (frameMark s) 0 := rfl

theorem strobeAt_axis {s : State} {n : Nat} (h0 : n ≠ 0) (hs : hasStrobe n s.ctl.frameLen = true) (h : n < 48) :
    strobeAt s n = axisStrobe s n := by simp [strobeAt, h0, hs, Nat.ne_of_lt h]

theorem strobeAt_aux {s : State} (hs : hasStrobe 48 s.ctl.frameLen = true) : strobeAt s 48 = (List.range 8).foldl auxStrobe s := by
  simp [strobeAt, hs]

theorem strobeAt_beyond {s : State} {n : Nat} (h0 : n ≠ 0) (hs : hasStrobe n s.ctl.frameLen = false) : strobeAt s n = s := by
  simp [strobeAt, h0, hs]

theorem conv_of_axisStrobe {s : State} {n : Nat} {st : Strobe} {c : List (Nat × List Strobe)} {len : Nat}
    (h : ∀ j, mget [] c j = mget [] s.conv j ++ if 4 * n ≤ j ∧ j < 4 * n + 4 ∧ j < len then [st] else []) :
    (∀ q < 4, mget [] c (4 * n + q) = mget [] s.conv (4 * n + q) ++ if 4 * n + q < len then [st] else []) ∧
    ∀ j, j < 4 * n ∨ 4 * n + 4 ≤ j → mget [] c j = mget [] s.conv j := by
  refine ⟨fun q hq => ?_, fun j hj => ?_⟩
  · rw [h]
    simp [hq]
  · rw [h, if_neg (by omega), List.append_nil]

/-- Settles O15: the strobe of an axis, with the frame that of axis 0 starts, and the strobe of the auxiliary channels. -/
theorem holdStrobe : Obligations.HoldStrobe := by
  intro s n hr
  refine ⟨fun h0 hs => ?_, fun h48 hs => ?_, fun h48 hs => ?_⟩
  · refine ends_of_done ?_
    rw [exec_holdStrobe n hr, strobeAt_beyond h0 hs]
  · refine completes_of_done (exec_holdStrobe n hr) fun t q => ?_
    by_cases h0 : n.val = 0
    · rw [h0, strobeAt_zero] at q
      have m := quiet_frameMark s
      obtain ⟨st, hat, hc, hu, ha⟩ := axisStrobe_starts (frameMark s) 0
      have hlen : t.ctl.frameLen = (frameMark s).ctl.frameLen := q.frameLen.trans (by rw [hu])
      rw [m.conv, ← q.conv, ← hlen] at hc
      obtain ⟨h1, h2⟩ := conv_of_axisStrobe (s := s) hc
      refine ⟨⟨st, hat.trans ?_, by simpa [h0] using h1⟩, by simpa [h0] using h2, fun k hk => ?_, fun h => absurd h0 h, fun _ => ?_⟩
      · have := congrArg (·.time) m.ctl
        exact congrArg (· / 2 ^ 33) this
      · rw [q.ax, ha k (by omega), m.ax]; rfl
      · have := m.conv_axes t.conv t.axes
        refine this.trans ?_
        rw [q.conv, q.axes, ← hu]
        exact q
    · have hs := hs.resolve_left h0
      rw [strobeAt_axis h0 hs h48] at q
      obtain ⟨st, hat, hc, hu, ha⟩ := axisStrobe_starts s n.val
      have hlen : t.ctl.frameLen = s.ctl.frameLen := q.frameLen.trans (by rw [hu])
      rw [← q.conv, ← hlen] at hc
      obtain ⟨h1, h2⟩ := conv_of_axisStrobe hc
      refine ⟨⟨st, hat, h1⟩, h2, fun k hk => by rw [q.ax, ha k hk], fun _ => ?_, fun h => absurd h h0⟩
      rw [q.conv, q.axes, ← hu]
      exact q
  · refine completes_of_done (exec_holdStrobe n hr) fun t q => ?_
    rw [h48, strobeAt_aux hs] at q
    obtain ⟨h1, h2, hu⟩ := auxStrobes_start s 8
    refine ⟨fun k hk hl => ?_, fun k hk hl => ?_, fun j hj => ?_, ?_⟩
    · rw [q.conv]; exact h1 k hk hl
    · rw [q.conv]; exact h2 _ (by omega)
    · rw [q.conv]; exact h2 j (by omega)
    · rw [q.conv, q.auxs, ← hu]
      exact q

end Sys2Proof.Machine
end

section
/-!
PROOFS. An analogue output that is not enabled (O19): the command clears FAULTED, so that more changes than the outputs.
-/

namespace Sys2Proof.Machine
open Sys2Proof Sys2Proof.Machine

/-- The device out of its internal reset, everything else as at power-on. -/
def awake : State := { State.reset with pwr := { Pwr.reset with rst := false } }

theorem coreRuns_awake : coreRuns awake = true := by decide

/-- A device whose AUXO output 0 was faulted before it was disabled. -/
def faultedOutput : State := wr awake F.devAuxoCtl_FAULTED 0 1

theorem coreRuns_faultedOutput : coreRuns faultedOutput = true := by
  rw [coreRuns, faultedOutput, wr_pwr]
  decide

theorem exec_faultedOutput : exec (.auxoUpdate 0) faultedOutput = .next (auxoLow faultedOutput 0) := by
  change execAuxoUpdate .. = _
  rw [execAuxoUpdate, clocked_run _ _ coreRuns_faultedOutput, if_pos (by decide +kernel)]
  exact done_calm _ rfl

/-- Refutes O19: the update of an output that is not enabled clears FAULTED in AUXO_CTL. -/
theorem not_auxoAndChains : ¬ Obligations.AuxoAndChains := by
  intro h
  obtain ⟨t, ht, -, -, q⟩ := (h.1 faultedOutput 0 coreRuns_faultedOutput).1 (Or.inl (by decide +kernel))
  rw [exec_faultedOutput] at ht
  cases ht
  have hf := q.regs (objKey .devAuxoCtl 0) 0 (by decide)
  exact absurd hf (by decide +kernel)

end Sys2Proof.Machine
end

section
/-!
PROOFS. What a reset leaves (O4), and a rail that comes into range while an event waits to be pushed (O5): the event goes to the
list of those before the end of LOAD, or is counted in EV_STAT where that list is full, so that a register changes.
-/

namespace Sys2Proof.Machine
open Sys2Proof Sys2Proof.Machine

/-! ## Resets -/

theorem calm_assertReset (s : State) (b : Nat) : Calm (assertReset s b) := rfl

/-- A reset leaves RED_CFG alone among the objects. -/
theorem getObj_assertReset (s : State) (b : Nat) (o : ObjId) (i : Nat) (h : objKey o i ≠ objKey .devRedCfg 0) :
    getObj (assertReset s b) o i = objReset o i := by
  rw [getObj, assertReset, redCfgNext]
  split
  · split
    · rw [mget_mset_ne _ _ _ _ _ _ h, mget_nil]
    · rw [mget_nil]
  · rw [mget_nil]

theorem rtc_cutJob (n : Nat) (v : Nv) (j : Job) : (cutJob n v j).rtc = v.rtc := by
  unfold cutJob
  split
  all_goals rfl

theorem rtc_cutJobs (n : Nat) (js : List Job) (v : Nv) : (js.foldl (cutJob n) v).rtc = v.rtc := by
  induction js generalizing v with
  | nil => rfl
  | cons j js ih => exact (ih _).trans (rtc_cutJob n v j)

theorem rtc_cutNv (s : State) : (cutNv s).rtc = s.nv.rtc := by
  unfold cutNv
  split <;> exact rtc_cutJobs _ _ _

theorem cutNv_idle (s : State) (hj : s.load.jobs = []) (hw : s.ledg.write = none) : cutNv s = s.nv := by
  simp [cutNv, hj, hw]

theorem resetCause_eq (s : State) (b : Nat) :
    resetCause s b = if s.pwr.rst then s.nv.cause ||| b else b + if s.pwr.coreLost then 2048 else 0 := by
  cases h : s.pwr.coreLost <;> simp [resetCause, h, b2n]

/-- A reset with cause `b`, its supplies changed after it. -/
theorem resetDone_assertReset (s : State) (b : Nat) (p : Pwr) (hr : p.rst = true) (hl : p.locked = false) :
    ResetDone s { assertReset s b with pwr := p } b where
  held := ⟨hr, hl⟩
  objs := fun o i h => getObj_assertReset s b o i h
  rest := rfl
  cause := resetCause_eq s b
  keeps := fun hj hw => by
    rw [show ({ assertReset s b with pwr := p } : State).nv = { cutNv s with cause := resetCause s b } from rfl, cutNv_idle s hj hw]
  rtc := fun _ => rtc_cutNv s

/-- A dead RTC domain loses the calendar and nothing else. -/
theorem resetDone_rtcSupply {s t : State} {b : Nat} (h : ResetDone s t b) : ResetDone s (rtcSupply t) b := by
  unfold rtcSupply
  split
  · rename_i hd
    exact ⟨h.held, h.objs, h.rest, h.cause, h.keeps, fun hl => absurd (hd : rtcDead t = true) (by
      rw [show rtcDead t = rtcDead (setRtc t Rtc.reset) from rfl, hl]; decide)⟩
  · exact h

theorem pwr_rtcSupply (s : State) : (rtcSupply s).pwr = s.pwr := by
  unfold rtcSupply
  split <;> rfl

/-- A command that leaves a reset, and nothing to push. -/
theorem completes_reset {s u : State} {c : Instr} {b : Nat} {P : State → Prop} (h : exec c s = done u) (hu : ResetDone s u b)
    (hP : P u) (hc : Calm u) : Completes s c (fun t => ResetDone s t b ∧ P t ∧ ∀ n, gatesLow t n) :=
  ⟨u, h.trans (done_calm u hc), hu, hP, fun n => gatesLow_of_rst u n hu.held.1⟩

theorem resetDone_drawn {s t : State} {b : Nat} (h : ResetDone (draw s) t b) : ResetDone s t b :=
  ⟨h.held, h.objs, h.rest, h.cause, h.keeps, h.rtc⟩

/-- A reset crossing: the rail out of range, the calendar kept where the RTC domain has a supply. -/
def crossed (s : State) (rail : Rail) : State :=
  rtcSupply { assertReset s (2 + 4 * railBit rail) with pwr :=
    { (assertReset s (2 + 4 * railBit rail)).pwr with inRange := s.pwr.inRange &&& (31 - railBit rail) } }

theorem calm_rtcSupply {s : State} (h : Calm s) : Calm (rtcSupply s) := by
  unfold rtcSupply
  split <;> exact h

theorem resetDone_crossed (s : State) (rail : Rail) : ResetDone s (crossed s rail) (2 + 4 * railBit rail) :=
  resetDone_rtcSupply (resetDone_assertReset s _ _ rfl rfl)

/-- PORST_N low for long enough. -/
def porstHeld (s : State) : State :=
  { assertReset (draw s) 128 with pwr := { (assertReset (draw s) 128).pwr with porstLow := true } }

theorem resetDone_porstHeld (s : State) : ResetDone s (porstHeld s) 128 :=
  resetDone_drawn (resetDone_assertReset (draw s) 128 _ rfl rfl)

theorem exec_porst_long (s : State) {ns : Nat} (h : 2000 ≤ ns) : exec (.porstAssert ns) s = done (porstHeld s) := by
  change execPorstAssert .. = _
  rw [execPorstAssert]
  exact if_pos (by simp [h])

theorem exec_porst_short (s : State) {ns : Nat} (h : ns < 1000) : exec (.porstAssert ns) s = done (draw s) := by
  change execPorstAssert .. = _
  rw [execPorstAssert]
  exact if_neg (by simp; omega)

theorem exec_porst_either (s : State) (ns : Nat) : exec (.porstAssert ns) s = done (porstHeld s) ∨
    exec (.porstAssert ns) s = done (draw s) := by
  change execPorstAssert ns s = _ ∨ execPorstAssert ns s = _
  rw [execPorstAssert]
  dsimp only
  split
  · exact Or.inl rfl
  · exact Or.inr rfl

/-- Settles O4: every reset is `assertReset` with its cause bits, after which nothing waits to be pushed. -/
theorem resetClears : Obligations.ResetClears := by
  refine ⟨fun s => ⟨?_, fun rail => ?_, fun ns h => ?_⟩, fun s ns => ⟨fun h => ends_of_done (exec_porst_short s h), fun _ _ => ?_⟩⟩
  · exact ⟨assertReset s 1024, done_calm _ rfl, resetDone_assertReset s 1024 _ rfl rfl, fun n => gatesLow_of_rst _ n rfl⟩
  · exact completes_reset (u := crossed s rail) (P := fun t => t.pwr.inRange = s.pwr.inRange &&& (31 - railBit rail)) rfl
      (resetDone_crossed s rail) (congrArg Pwr.inRange (pwr_rtcSupply _)) (calm_rtcSupply rfl)
  · exact completes_reset (P := fun t => t.pwr.porstLow = true) (exec_porst_long s h) (resetDone_porstHeld s) rfl rfl
  · rcases exec_porst_either s ns with h | h
    · exact ⟨porstHeld s, h.trans (done_calm _ rfl), Or.inl (resetDone_porstHeld s)⟩
    · obtain ⟨t, ht, q⟩ := ends_of_done h
      exact ⟨t, ht, Or.inr q⟩

/-! ## A rail in range while an event waits -/

/-- An event of the device. -/
def someEvent : Ev := ⟨0x10, 0, devAxis, 0, 0⟩

/-- A device out of its internal reset that has raised an event, with sixteen held already. -/
def eventsFull : State :=
  { awake with ctl := { Ctl.reset with evNew := [someEvent], evPre := List.replicate 16 someEvent } }

/-- Refutes O5: the event that finds no place is counted in EV_STAT as VDD_IO comes into range. -/
theorem not_startOfOperation : ¬ Obligations.StartOfOperation := by
  intro h
  obtain ⟨-, ⟨t, ht, -, hregs, -⟩, -⟩ := h eventsFull
  have hn : exec (.railInRange .io) eventsFull = .next t := ht
  have hlost : rd t F.devEvStat_PRE_LOST 0 = 1 := by
    have h2 : rd (match exec (.railInRange .io) eventsFull with | .next u => u | _ => eventsFull) F.devEvStat_PRE_LOST 0 = 1 := by
      decide +kernel
    rwa [hn] at h2
  have hzero : rd eventsFull F.devEvStat_PRE_LOST 0 = 0 := by decide
  rw [rd, getObj, hregs, ← getObj, ← rd, hzero] at hlost
  exact absurd hlost (by decide)

end Sys2Proof.Machine
end

section
/-!
PROOFS. Four statements that fail at a queue whose descriptor fails parity, or whose notice is not read (O30, O32, O40, O51): the
fault starts a reset of the queue, which RESETS counts, where the statement says that nothing changes; and a fabric message that is
not MGMT reads no notice.
-/

namespace Sys2Proof.Machine
open Sys2Proof Sys2Proof.Machine

/-- A field in the state a command leaves, 0 where it leaves none. -/
def rdAfter (o : Out) (f : Fld) (i : Nat) : Nat :=
  match o with
  | .next t => rd t f i
  | _ => 0

theorem rdAfter_next {o : Out} {t : State} (h : o = .next t) (f : Fld) (i : Nat) : rdAfter o f i = rd t f i := by
  rw [h, rdAfter]

/-! ## A descriptor that fails parity -/

/-- A device out of its internal reset, the descriptor of queue 0x40 failing parity; the queue has no quota and holds nothing. -/
def badDescriptor : State := setQd awake 0x40 { qInit 0x40 with bad := true }

theorem coreRuns_badDescriptor : coreRuns badDescriptor = true := by decide

theorem calm_badDescriptor : Calm badDescriptor := rfl

theorem resets_badDescriptor : rd badDescriptor F.devQmCnt_RESETS 0 = 0 := by decide

/-- Refutes O30: a pop of a queue without quota whose descriptor fails parity starts the queue's reset. -/
theorem not_queuePop : ¬ Obligations.QueuePop := by
  intro h
  have hn := (h.1 badDescriptor 0 0x40 coreRuns_badDescriptor).1 (Or.inr (Or.inr ⟨by decide, Or.inl (by decide)⟩)) calm_badDescriptor
  have h1 : rdAfter (exec (.queuePop 0 0x40) badDescriptor) F.devQmCnt_RESETS 0 = 1 := by decide +kernel
  have h0 : rd (portOut badDescriptor (0 : Fin 4).val popEmpty) F.devQmCnt_RESETS 0 = 0 := resets_badDescriptor
  rw [rdAfter_next hn, h0] at h1
  exact absurd h1 (by decide)

/-- The address of Q.CFG of queue 0x40. -/
def cfgAddr : Word := 0x300100

theorem locate_cfgAddr : locate cfgAddr.toNat = some (.qCfg, 0x40) := by decide +kernel

/-- Refutes O40: a read of the configuration of a queue whose descriptor fails parity starts the queue's reset. -/
theorem not_addressedReads : ¬ Obligations.AddressedReads := by
  intro h
  obtain ⟨-, -, hread, -⟩ := h badDescriptor cfgAddr 0 coreRuns_badDescriptor
  have hr := hread .qCfg 0x40 locate_cfgAddr (by decide) (by decide) (by decide) (by decide)
  have h1 : (readAt badDescriptor cfgAddr.toNat).map (fun x => rd x.1 F.devQmCnt_RESETS 0) = some 1 := by decide +kernel
  rw [hr, Option.map_some, resets_badDescriptor] at h1
  exact absurd h1 (by decide)

/-! ## A notice that a message may not read -/

/-- A device out of its internal reset, with a notice of queue 0x40. -/
def noticed : State := setQd awake 0x40 { qInit 0x40 with nSet := true }

/-- The notice of a queue in the state a command leaves. -/
def noticeAfter (o : Out) (q : Nat) : Bool :=
  match o with
  | .next t => (qd t q).nSet
  | _ => false

theorem noticeAfter_next {o : Out} {t : State} (h : o = .next t) (q : Nat) : noticeAfter o q = (qd t q).nSet := by
  rw [h, noticeAfter]

/-- Refutes O32: a read of a notice by a fabric message of class RT is refused, and the notice stays. -/
theorem not_sortedAndUpkeep : ¬ Obligations.SortedAndUpkeep := by
  intro h
  obtain ⟨t, ht, hclear, -⟩ := (h.2 noticed (by decide) rfl).2.1 0x40 (.fabric 0 0 0 .rt 0) (by decide) (by decide) (by decide)
  have h1 : noticeAfter (exec (.queueNoticeRead (.fabric 0 0 0 .rt 0) 0x40) noticed) 0x40 = true := by decide +kernel
  rw [noticeAfter_next ht] at h1
  exact absurd (hclear.symm.trans h1) (by decide)

/-! ## The object window -/

/-- That device with its supervisor core running, register 1 holding the window address of Q.CFG of queue 0x40. -/
def windowAtBad : State :=
  { wr badDescriptor F.devSvStat_RUNNING 0 1 with sv := { Sv.reset with w := Sv.reset.w.set 1 0x80C00400 } }

theorem svGoes_windowAtBad : SvGoes windowAtBad :=
  ⟨by decide, by decide, by decide, by decide, rfl⟩

/-- Refutes O51: a load of the configuration of a queue whose descriptor fails parity starts the queue's reset. -/
theorem not_svMemory : ¬ Obligations.SvMemory := by
  intro h
  obtain ⟨-, -, -, -, -, -, -, -, -, -, -, -, -, hload, -⟩ := h windowAtBad 0 1 0 svGoes_windowAtBad
  obtain ⟨t, ht, -, -, -, -, hregs, -⟩ := hload .qCfg 0x40 (by decide) (by decide) (by decide +kernel) (by decide) (by decide)
    (by decide) (by decide)
  have h1 : rdAfter (exec (.lw 0 1 0) windowAtBad) F.devQmCnt_RESETS 0 = 1 := by decide +kernel
  have h0 : rd t F.devQmCnt_RESETS 0 = rd windowAtBad F.devQmCnt_RESETS 0 := by rw [rd, getObj, hregs, ← getObj, ← rd]
  rw [rdAfter_next ht, h0] at h1
  exact absurd h1 (by decide)

end Sys2Proof.Machine
end

section
/-!
PROOFS. Three statements that fail where a command reaches a partner: the parameter of an axis lands in its pair too (O21), a link
under replay is taken into QUAR for a duplicated partner (O42), and a triad member that turns silent as driver is sent its RELEASE
(O48).
-/

namespace Sys2Proof.Machine
open Sys2Proof Sys2Proof.Machine

/-! ## A parameter of a pair -/

/-- Axes 0 and 1 as a pair in CURRENT with its timer running, a parameter of axis 0 waiting to land. -/
def pairLands : State :=
  { wr (wr awake F.axMode_MODE 0 3) F.axLoopCfg_TEMPLATE 0 2 with
    ctl := { awake.ctl with time := 2 ^ 50 }
    load := { awake.load with bindings := [⟨0, 2, 0, 1, 0, 1⟩] }
    axes := [(0, { Axis.reset with
      pwm := { AxPwm.reset with active := true, loadAt := 1 }
      loop := { AxLoop.reset with pend := [⟨.jtag, .coef 0, 0, some 0⟩] } })] }

/-- The number of coefficients the loops of an axis use in the state a command leaves. -/
def coefsAfter (o : Out) (n : Nat) : Nat :=
  match o with
  | .next t => (ax t n).loop.par.coef.length
  | _ => 0

theorem coefsAfter_next {o : Out} {t : State} (h : o = .next t) (n : Nat) : coefsAfter o n = (ax t n).loop.par.coef.length := by
  rw [h, coefsAfter]

/-- Refutes O21: the parameters of the partner's loops are taken anew as the word of the primary lands. -/
theorem not_axisBoundaries : ¬ Obligations.AxisBoundaries := by
  intro h
  obtain ⟨-, -, hland, -⟩ := h pairLands 0 (by decide)
  obtain ⟨t, ht, -, -, -, -, -, hrest⟩ := hland ⟨.jtag, .coef 0, 0, some 0⟩ [] (by decide) (by decide +kernel)
  have h1 : coefsAfter (exec (.paramLanding 0) pairLands) 1 = 16 := by decide +kernel
  rw [coefsAfter_next ht, hrest 1 (by decide)] at h1
  exact absurd h1 (by decide)

/-! ## A replay towards a duplicated partner -/

/-- A link that is UP with one frame to replay; the database marks its partner as a duplicate. -/
def replaying : State :=
  { wr awake F.lkStat_STATE 0 lUp with
    fab := { awake.fab with
      links := [(0, { Link.reset with unacked := [⟨5, 0, []⟩] })]
      lsdb := [{ serial := 0, claim := 0, flags := 0, seq := 0, finger := 0, links := [], id := none, dup := true, at_ := 0 }] } }

/-- The frames a link still has to replay in the state a command leaves. -/
def againAfter (o : Out) (p : Nat) : Option (List Nat) :=
  match o with
  | .next t => some (lk t p).again
  | _ => none

theorem againAfter_next {o : Out} {t : State} (h : o = .next t) (p : Nat) : againAfter o p = some (lk t p).again := by
  rw [h, againAfter]

/-- Refutes O42: the command that starts the replay ends with the link in QUAR, where it replays nothing. -/
theorem not_linkWords : ¬ Obligations.LinkWords := by
  intro h
  obtain ⟨-, -, -, -, -, -, -, -, hreplay, -⟩ := h replaying 0 0 (by decide)
  obtain ⟨t, ht, hagain, -⟩ := hreplay ⟨5, 0, []⟩ [] (by decide) (by decide) (by decide)
  have h1 : againAfter (exec (.replayTimeout 0) replaying) 0 = some [] := by decide +kernel
  rw [againAfter_next ht] at h1
  exact absurd (hagain.symm.trans (Option.some.inj h1)) (by decide)

/-! ## A driver that turns silent -/

/-- A triad in which the member behind PORT_A drives in RUN over a link that is UP, the other member present. -/
def triad : State :=
  { wr (wr awake F.lkStat_STATE 7 lUp) F.devRedCfg_KIND 0 2 with
    red := { awake.red with mems :=
      [(0, { Member.reset with present := true, role := roleDriver, mode := mRun }), (1, { Member.reset with present := true })] } }

/-- The records that wait for a member in the state a command leaves. -/
def recordsAfter (o : Out) (k : Nat) : Nat :=
  match o with
  | .next t => (mem t k).out.length
  | _ => 0

theorem recordsAfter_next {o : Out} {t : State} (h : o = .next t) (k : Nat) : recordsAfter o k = (mem t k).out.length := by
  rw [h, recordsAfter]

/-- Refutes O48: the member that is absent now is the odd one, and its RELEASE waits to be sent. -/
theorem not_twinEvents : ¬ Obligations.TwinEvents := by
  intro h
  obtain ⟨-, -, -, -, -, -, -, -, habsent, -⟩ := h triad (by decide)
  obtain ⟨t, ht, -, hout⟩ := (habsent 0 (by decide) (by decide)).2
  have h1 : recordsAfter (exec (.twinAbsenceTimeout 0) triad) 0 ≠ 0 := by decide +kernel
  rw [recordsAfter_next ht, hout] at h1
  exact absurd rfl h1

end Sys2Proof.Machine
end

section
/-!
SUPPORT. The registers a command touches: everything but the objects of a list of keys keeps its value.
-/

namespace Sys2Proof.Machine
open Sys2Proof Sys2Proof.Machine

/-- The registers of `u` are those of `s` but for the objects of `ks`. -/
def RegsBut (ks : List Nat) (s u : State) : Prop := ∀ k d, k ∉ ks → mget d u.regs k = mget d s.regs k

theorem RegsBut.refl (ks : List Nat) (s : State) : RegsBut ks s s := fun _ _ _ => rfl

theorem RegsBut.trans {ks : List Nat} {s t u : State} (h : RegsBut ks s t) (k : RegsBut ks t u) : RegsBut ks s u :=
  fun x d hx => (k x d hx).trans (h x d hx)

theorem RegsBut.of_eq {ks : List Nat} {s u : State} (h : u.regs = s.regs) : RegsBut ks s u := fun _ _ _ => by rw [h]

theorem regsBut_setObj {ks : List Nat} (s : State) (o : ObjId) (i v : Nat) (h : objKey o i ∈ ks) : RegsBut ks s (setObj s o i v) :=
  fun k d hk => regs_setObj_other s o i v k d (fun e => hk (e ▸ h))

theorem regsBut_wr {ks : List Nat} (s : State) (f : Fld) (i x : Nat) (h : objKey f.obj i ∈ ks) : RegsBut ks s (wr s f i x) :=
  regsBut_setObj s _ _ _ h

theorem RegsBut.wr {ks : List Nat} {s t : State} (h : RegsBut ks s t) (f : Fld) (i x : Nat) (hk : objKey f.obj i ∈ ks) :
    RegsBut ks s (wr t f i x) := h.trans (regsBut_wr t f i x hk)

theorem regsBut_ite {ks : List Nat} {s t u : State} {c : Prop} [Decidable c] (h : RegsBut ks s t) (k : RegsBut ks s u) :
    RegsBut ks s (if c then t else u) := by
  split
  · exact h
  · exact k

theorem regsBut_foldl {α : Type} {ks : List Nat} {f : State → α → State} {l : List α} (h : ∀ s, ∀ a ∈ l, RegsBut ks s (f s a))
    (s : State) : RegsBut ks s (l.foldl f s) := by
  induction l generalizing s with
  | nil => exact .refl ks s
  | cons a l ih => exact (h s a (by simp)).trans (ih (fun t b hb => h t b (by simp [hb])) _)

theorem RegsBut.getObj {ks : List Nat} {s u : State} (h : RegsBut ks s u) {o : ObjId} {i : Nat} (k : objKey o i ∉ ks) :
    getObj u o i = getObj s o i := h _ _ k

theorem RegsBut.rd {ks : List Nat} {s u : State} (h : RegsBut ks s u) {f : Fld} {i : Nat} (k : objKey f.obj i ∉ ks) :
    rd u f i = rd s f i := by
  rw [Machine.rd, h.getObj k, Machine.rd]

/-- What touches only the registers of `ks` is within `Only ks`, records aside. -/
theorem RegsBut.only {ks : List Nat} {s u t : State} (h : RegsBut ks s u) (hu : u = { s with regs := u.regs }) (q : Quiet u t) :
    Only ks s t := ⟨u.regs, h, hu ▸ q⟩

end Sys2Proof.Machine
end

section
/-!
PROOFS. The calendar (O7).
-/

namespace Sys2Proof.Machine
open Sys2Proof Sys2Proof.Machine

/-- The second of the calendar that begins after `s`. -/
def nextSecond (s : State) : Rtc :=
  rtcBegin s { s.nv.rtc with wrapped := s.nv.rtc.wrapped || decide ((s.nv.rtc.sec + 1) % 2 ^ 32 = 0) } ((s.nv.rtc.sec + 1) % 2 ^ 32)

theorem exec_calendarSecond (s : State) (hd : rtcDead s = false) (hr : s.nv.rtc.running = true) :
    exec .calendarSecond s = done (calEdge (setRtc s (nextSecond s))) := by
  change execCalendarSecond .. = _
  rw [execCalendarSecond]
  exact if_pos (by simp [hd, hr])

theorem exec_calendarSecond_stopped (s : State) (hr : s.nv.rtc.running = false) : exec .calendarSecond s = done s := by
  change execCalendarSecond .. = _
  rw [execCalendarSecond]
  exact if_neg (by simp [hr])

theorem calEdge_eq (s : State) : calEdge s = { s with regs := (calEdge s).regs } := by
  unfold calEdge
  split <;> rfl

theorem calEdge_nv (s : State) : (calEdge s).nv = s.nv := by rw [calEdge_eq]

theorem regsBut_calEdge (s : State) : RegsBut [objKey .devCalEdge 0] s (calEdge s) :=
  regsBut_ite (.refl _ s) (regsBut_wr s _ 0 _ (by simp))

theorem edge_calEdge {s : State} (h : coreRuns s = true) : rd (calEdge s) F.devCalEdge_EDGE 0 = nowNs s % 2 ^ 64 := by
  rw [calEdge, if_neg (by simp [h]), rd_wr_same]

theorem only_calEdge {s t : State} (r : Rtc) (q : Quiet (calEdge (setRtc s r)) t) :
    t.nv.rtc = r ∧ Only [objKey .devCalEdge 0] { s with nv := { s.nv with rtc := t.nv.rtc } } t := by
  have hr : t.nv.rtc = r := by rw [q.nv, calEdge_nv]; rfl
  rw [hr]
  exact ⟨rfl, (regsBut_calEdge (setRtc s r)).only (calEdge_eq _) q⟩

/-- The trim keeps the length of a long second positive. -/
theorem trim_le (s : State) : rdS s F.devCalCfg_TRIM 0 ≤ 32768 := by
  have h := bits_lt (getObj s F.devCalCfg_TRIM.obj 0) F.devCalCfg_TRIM.lo F.devCalCfg_TRIM.w
  have hw : (2 : Nat) ^ F.devCalCfg_TRIM.w ≤ 32768 := by decide
  rw [rdS, rd, fget, sx]
  split <;> omega

theorem nextSecond_long {s : State} (h : (nextSecond s).sec % 64 = 0) :
    ((nextSecond s).clocks : Int) = 32768 - rdS s F.devCalCfg_TRIM 0 := by
  have ht := trim_le s
  have hc : (nextSecond s).clocks = ((32768 : Int) - rdS s F.devCalCfg_TRIM 0).toNat := by
    unfold nextSecond rtcBegin at h ⊢
    dsimp only at h ⊢
    rw [if_pos h, if_pos h]
  rw [hc, Int.toNat_of_nonneg (by omega)]

theorem nextSecond_short {s : State} (h : (nextSecond s).sec % 64 ≠ 0) : (nextSecond s).clocks = 32768 := if_neg h

theorem exec_calSetApply (s : State) {v : Nat} {vs : List Nat} (hd : rtcDead s = false) (h : s.nv.rtc.sets = v :: vs) :
    exec .calSetApply s =
      done (calEdge (setRtc s (rtcBegin s { s.nv.rtc with sets := vs, valid := true, lagged := false } v))) := by
  change execCalSetApply .. = _
  rw [execCalSetApply, h]
  simp [hd]

/-- Settles O7. -/
theorem calendar : Obligations.Calendar := by
  intro s hd
  refine ⟨fun hr => ?_, fun hr => ends_of_done (exec_calendarSecond_stopped s hr), fun v vs h => ?_,
    fun gm hr hsrc hgm hlock hv hne => ?_, ?_, ends_of_done rfl⟩
  · refine completes_of_done (exec_calendarSecond s hd hr) fun t q => ?_
    obtain ⟨hrtc, ho⟩ := only_calEdge _ q
    refine ⟨by rw [hrtc]; rfl, by rw [hrtc]; rfl, by rw [hrtc]; rfl, ?_, ?_, fun hc => ?_, ho⟩
    · rw [hrtc]; exact nextSecond_long
    · rw [hrtc]; exact nextSecond_short
    · rw [q.rd_kind (by decide) (by decide)]
      exact edge_calEdge hc
  · refine completes_of_done (exec_calSetApply s hd h) fun t q => ?_
    obtain ⟨hrtc, ho⟩ := only_calEdge _ q
    exact ⟨by rw [hrtc]; rfl, by rw [hrtc]; rfl, by rw [hrtc]; rfl, by rw [hrtc]; rfl, ho⟩
  · refine ends_of_clocked (u := calSend s _) hr ?_
    change execCalendarFollow .. = _
    rw [execCalendarFollow]
    congr 1
    refine if_pos ?_
    rw [hsrc, hgm, hlock, hv]
    rcases hne with h | h
    · simp [h]
    · rw [show (10 : Nat) ^ 9 = 1000000000 by decide] at h
      rw [decide_eq_true h, Bool.or_true]
      rfl
  · refine completes_of_done rfl fun t q => ?_
    simp only [hd, Bool.false_eq_true, if_false] at q
    split at q
    · exact (quiet_raiseD _ _ _).trans q
    · exact q

end Sys2Proof.Machine
end

section
/-!
SUPPORT. Every write is one operation, whatever command it comes as: the message is taken, judged, and carried out by `effect` where it
is accepted. SETTLES: O33.
-/

namespace Sys2Proof.Machine
open Sys2Proof Sys2Proof.Machine

/-! ## One operation for every write -/

/-- What a write does, and the status it answers. -/
def writeOutcome (s : State) (w : WriteReq) : State × Nat :=
  if tooMany (takeMsg s w.src) w.src then (takeMsg s w.src, 3) else writeObj (takeMsg s w.src) w.src w.obj w.inst w.word

theorem writeCmd_eq (s : State) (src : Src) (o : ObjId) (i w : Nat) :
    writeCmd s src o i w = done (writeAnswer src (ownAddr s o i) (writeOutcome s ⟨src, o, i, w⟩)) := rfl

theorem writeAt_named {s : State} {src : Src} {addr : Nat} {x : ObjId × Nat} (v : Nat) (h : namedAt s src addr = some x) :
    writeAt src addr v s = done (writeAnswer src addr (writeOutcome s ⟨src, x.1, x.2, v⟩)) := by
  unfold writeAt
  rw [show (if nodeOk s src addr then locate addr else none) = some x from h]
  rfl

theorem writeAt_unnamed {s : State} {src : Src} {addr : Nat} (v : Nat) (h : namedAt s src addr = none) :
    writeAt src addr v s = done (replyWrite (takeMsg s src) src addr 1) := by
  unfold writeAt
  rw [show (if nodeOk s src addr then locate addr else none) = none from h]

theorem exec_registerWrite {s : State} (hr : coreRuns s = true) (src : Src) (a : Word) (v : Nat) :
    exec (.registerWrite src a v) s = writeAt src a.toNat v s := clocked_run _ _ hr

theorem exec_msgWrite {s : State} (hr : coreRuns s = true) (src : Src) (a : Word) (v : Nat) :
    exec (.msgWrite src a v) s = writeAt src a.toNat v s := clocked_run _ _ hr

theorem exec_jtagObjectWrite {s : State} (hr : coreRuns s = true) (a : Word) (v : Nat) :
    exec (.jtagObjectAccess true a v) s = writeAt .jtag a.toNat v s := by
  change execJtagObjectAccess .. = _
  rw [execJtagObjectAccess, clocked_run _ _ hr, if_pos rfl]
  exact clocked_run _ _ hr

/-- Every write command carries out its write and answers it. -/
theorem exec_of_writeOf {s : State} {c : Instr} {w : WriteReq} (hr : coreRuns s = true) (h : writeOf s c = some w) :
    ∃ addr, exec c s = done (writeAnswer w.src addr (writeOutcome s w)) := by
  unfold writeOf at h
  split at h
  case h_35 =>
    obtain ⟨x, hx, rfl⟩ := Option.map_eq_some_iff.mp h
    exact ⟨_, (exec_registerWrite hr _ _ _).trans (writeAt_named _ hx)⟩
  case h_36 =>
    obtain ⟨x, hx, rfl⟩ := Option.map_eq_some_iff.mp h
    exact ⟨_, (exec_msgWrite hr _ _ _).trans (writeAt_named _ hx)⟩
  case h_37 =>
    obtain ⟨x, hx, rfl⟩ := Option.map_eq_some_iff.mp h
    exact ⟨_, (exec_jtagObjectWrite hr _ _).trans (writeAt_named _ hx)⟩
  case h_38 => cases h
  all_goals
    cases h
    exact ⟨_, (clocked_run _ _ hr).trans (writeCmd_eq _ _ _ _ _)⟩

/-- A write leaves what its outcome is, but for records and messages. -/
theorem write_ends {s : State} {c : Instr} {w : WriteReq} (hr : coreRuns s = true) (h : writeOf s c = some w) :
    EndsAnswered s c (writeOutcome s w).1 := by
  obtain ⟨addr, ha⟩ := exec_of_writeOf hr h
  obtain ⟨t, ht, q⟩ := done_answered (answered_writeAnswer w.src addr (writeOutcome s w))
  exact ⟨t, ha.trans ht, q⟩

theorem EndsAnswered.of {s u v : State} {c : Instr} (h : Answered u v) (k : EndsAnswered s c v) : EndsAnswered s c u := by
  obtain ⟨t, ht, q⟩ := k
  exact ⟨t, ht, h.trans q⟩

/-! ## Refused writes -/

theorem write_full {s : State} {c : Instr} {w : WriteReq} (hr : coreRuns s = true) (h : writeOf s c = some w)
    (full : tooMany (takeMsg s w.src) w.src = true) : EndsAnswered s c s := by
  have e := write_ends hr h
  rw [writeOutcome, if_pos full] at e
  exact e.of (answered_takeMsg s w.src)

theorem write_refused {s : State} {c : Instr} {w : WriteReq} (hr : coreRuns s = true) (h : writeOf s c = some w)
    (hj : judge (takeMsg s w.src) w.src w.obj w.inst w.word ≠ 0) : EndsAnswered s c s := by
  have e := write_ends hr h
  rw [writeOutcome, writeObj_refused _ _ _ _ _ hj] at e
  split at e
  · exact e.of (answered_takeMsg s w.src)
  · exact e.of (answered_takeMsg s w.src)

theorem writeAt_nowhere {s : State} {src : Src} {addr : Nat} (v : Nat) (h : namedAt s src addr = none) :
    ∃ t, writeAt src addr v s = .next t ∧ Answered s t := by
  rw [writeAt_unnamed v h]
  exact done_answered ((answered_takeMsg s src).trans (answered_reply _ _ _ _ _ _))

/-! ## Accepted writes -/

theorem writeObj_accepted {s : State} {src : Src} {o : ObjId} {i w : Nat} (hj : judge s src o i w = 0)
    (hf : forwards s o i = false) (hp : paramWord o i = none) :
    writeObj s src o i w = effect s src o i (baseVal s o i) (mergeVal o (baseVal s o i) w) w := by
  simp [writeObj, hj, hf, hp]

theorem writeOutcome_accepted {s : State} {w : WriteReq} (h : Accepts s w) (hp : paramWord w.obj w.inst = none) :
    writeOutcome s w = effect (takeMsg s w.src) w.src w.obj w.inst (baseVal (takeMsg s w.src) w.obj w.inst)
      (mergeVal w.obj (baseVal (takeMsg s w.src) w.obj w.inst) w.word) w.word := by
  rw [writeOutcome, if_neg (by simp [h.room]), writeObj_accepted h.judged h.here hp]

theorem baseVal_plain (s : State) {o : ObjId} (i : Nat) (h : o ∉ specialObjs) : baseVal s o i = getObj s o i := by
  unfold baseVal
  split
  case h_7 => rfl
  all_goals exact absurd (by decide) h

theorem paramWord_plain {o : ObjId} (i : Nat) (h : o ∉ specialObjs) : paramWord o i = none := by
  unfold paramWord
  split
  case h_4 => rfl
  all_goals exact absurd (by decide) h

theorem effect_plain (s : State) (src : Src) {o : ObjId} (i old v w : Nat) (h : o ∉ specialObjs) :
    effect s src o i old v w = (setObj s o i v, 0) := by
  unfold effect
  split
  case h_37 => rfl
  all_goals exact absurd (by decide) h

theorem write_plain {s : State} {c : Instr} {w : WriteReq} (h : Writes s c w) (hp : w.obj ∉ specialObjs) :
    EndsAnswered s c (setObj s w.obj w.inst (mergeVal w.obj (getObj s w.obj w.inst) w.word)) := by
  have e := write_ends h.2.core h.1
  rw [writeOutcome_accepted h.2 (paramWord_plain _ hp), baseVal_plain _ _ hp, effect_plain _ _ _ _ _ _ hp] at e
  exact e.of (answered_setObj_takeMsg s w.src w.obj w.inst _)

/-- The commands named beside the plain objects write plain objects too. -/
theorem named_plain (s : State) (src : Src) (g : Fin 4) (n : Fin 48) (k : Fin 8) (b : Bool) (x : BitVec 32) (v : Nat) (ch : ChainId)
    (r : BitVec 2) (a : BitVec 3) {c : Instr}
    (h : c ∈ [Instr.excTimingWrite src g b x, .excGroupStop src g, .excGroupStart src g, .muxSourceWrite src n b r,
      .auxSourceWrite src k a, .filterChainWrite src ch v, .excDrvWrite src n v]) :
    ∃ w, writeOf s c = some w ∧ w.obj ∉ specialObjs := by
  simp only [List.mem_cons, List.not_mem_nil, or_false] at h
  rcases h with rfl | rfl | rfl | rfl | rfl | rfl | rfl
  · cases b
    · exact ⟨_, rfl, show ObjId.devExcGrp ∉ specialObjs by decide⟩
    · exact ⟨_, rfl, show ObjId.devExcPhase ∉ specialObjs by decide⟩
  · exact ⟨_, rfl, show ObjId.devExcGrp ∉ specialObjs by decide⟩
  · exact ⟨_, rfl, show ObjId.devExcGrp ∉ specialObjs by decide⟩
  · exact ⟨_, rfl, show ObjId.axFeCtl ∉ specialObjs by decide⟩
  · exact ⟨_, rfl, show ObjId.devAuxCtl ∉ specialObjs by decide⟩
  · cases ch
    · exact ⟨_, rfl, show ObjId.axFltSq ∉ specialObjs by decide⟩
    · exact ⟨_, rfl, show ObjId.axFltSine ∉ specialObjs by decide⟩
    · exact ⟨_, rfl, show ObjId.axFltCur ∉ specialObjs by decide⟩
    · exact ⟨_, rfl, show ObjId.devFltAux ∉ specialObjs by decide⟩
  · exact ⟨_, rfl, show ObjId.axExcDrv ∉ specialObjs by decide⟩

/-- Settles O33. -/
theorem acceptedWrites : Obligations.AcceptedWrites := by
  refine ⟨fun s c hr => ⟨fun w hw h => ?_, fun w hw h => ?_, fun src a v hn h => ?_, fun a v hn => ?_⟩, fun s c w h hp => write_plain h hp,
    fun s src g n k b x v ch r a c hc => ?_⟩
  · rcases h with h | h
    · exact write_full hr hw h
    · exact write_refused hr hw h
  · exact write_refused hr hw (by simp [judge_offMgmt, h])
  · obtain ⟨t, ht, q⟩ := writeAt_nowhere v hn
    rcases h with rfl | rfl
    · exact ⟨t, (exec_registerWrite hr src a v).trans ht, q⟩
    · exact ⟨t, (exec_msgWrite hr src a v).trans ht, q⟩
  · obtain ⟨t, ht, q⟩ := writeAt_nowhere (s := s) (src := .jtag) (addr := a.toNat) v (by simp [namedAt, hn])
    exact ⟨t, (exec_jtagObjectWrite hr a v).trans ht, q⟩
  · obtain ⟨w, hw, hp⟩ := named_plain s src g n k b x v ch r a hc
    exact ⟨w, hw, fun ha => write_plain ⟨hw, ha⟩ hp⟩

end Sys2Proof.Machine
end

section
/-!
SUPPORT. What pushing records leaves of the trace and of the queues that are resetting: a push captures nothing, and a queue under
reset stays so with its reason; an event triggers the trace only where it is armed for events.
-/

namespace Sys2Proof.Machine
open Sys2Proof Sys2Proof.Machine

/-! ## Queues under reset -/

/-- Every queue resetting in `s` is resetting in `u`, for the same reason. -/
def KeepsResets (s u : State) : Prop :=
  ∀ q r, (qd s q).resetting = some r → ∃ r', (qd u q).resetting = some r' ∧ r'.reason = r.reason

/-- The probes, the trace's status and its trigger's configuration are as they were. -/
def KeepsTrace (s u : State) : Prop :=
  u.probes = s.probes ∧ getObj u .devTrcStat 0 = getObj s .devTrcStat 0 ∧ getObj u .devTrcTrig 0 = getObj s .devTrcTrig 0

/-- What pushing records keeps. -/
structure Steady (s u : State) : Prop where
  resets : KeepsResets s u
  trace : KeepsTrace s u

theorem KeepsResets.of_eq {s u : State} (h : u.qm.descs = s.qm.descs) : KeepsResets s u := fun q r k => by
  refine ⟨r, ?_, rfl⟩
  rw [qd, h]
  exact k

theorem KeepsResets.refl (s : State) : KeepsResets s s := .of_eq rfl

theorem KeepsResets.trans {s t u : State} (h : KeepsResets s t) (k : KeepsResets t u) : KeepsResets s u := fun q r e => by
  obtain ⟨r1, h1, e1⟩ := h q r e
  obtain ⟨r2, h2, e2⟩ := k q r1 h1
  exact ⟨r2, h2, e2.trans e1⟩

theorem qd_setQd_same (s : State) (q : Nat) (d : QDesc) : qd (setQd s q d) q = d := mget_mset_same _ _ _ _

theorem qd_setQd_ne (s : State) {q p : Nat} (d : QDesc) (h : p ≠ q) : qd (setQd s q d) p = qd s p := mget_mset_ne _ _ _ _ _ _ h

/-- A descriptor that is written keeps its reset. -/
theorem KeepsResets.setQd {s : State} {q : Nat} {d : QDesc}
    (h : ∀ r, (qd s q).resetting = some r → ∃ r', d.resetting = some r' ∧ r'.reason = r.reason) : KeepsResets s (setQd s q d) :=
  fun p r e => by
    by_cases hp : p = q
    · subst hp
      rw [qd_setQd_same]
      exact h r e
    · rw [qd_setQd_ne _ _ hp]
      exact ⟨r, e, rfl⟩

theorem KeepsTrace.refl (s : State) : KeepsTrace s s := ⟨rfl, rfl, rfl⟩

theorem KeepsTrace.trans {s t u : State} (h : KeepsTrace s t) (k : KeepsTrace t u) : KeepsTrace s u :=
  ⟨k.1.trans h.1, k.2.1.trans h.2.1, k.2.2.trans h.2.2⟩

theorem Steady.refl (s : State) : Steady s s := ⟨.refl s, .refl s⟩

theorem Steady.trans {s t u : State} (h : Steady s t) (k : Steady t u) : Steady s u :=
  ⟨h.resets.trans k.resets, h.trace.trans k.trace⟩

/-- What touches neither descriptors, probes nor objects is steady. -/
theorem Steady.of_eq {s u : State} (hd : u.qm.descs = s.qm.descs) (hp : u.probes = s.probes) (hr : u.regs = s.regs) : Steady s u :=
  ⟨.of_eq hd, hp, by rw [getObj, hr, getObj], by rw [getObj, hr, getObj]⟩

theorem steady_qm (s : State) (m : Qm) (h : m.descs = s.qm.descs) : Steady s { s with qm := m } := .of_eq h rfl rfl

theorem qd_qm (s : State) (m : Qm) (q : Nat) (h : m.descs = s.qm.descs) : qd { s with qm := m } q = qd s q := by
  rw [qd, qd, h]

theorem steady_setQd {s : State} {q : Nat} {d : QDesc} (h : d.resetting = (qd s q).resetting) : Steady s (setQd s q d) :=
  ⟨.setQd fun r e => ⟨r, h.trans e, rfl⟩, .refl _⟩

theorem keepsResets_wr (s : State) (f : Fld) (i x : Nat) : KeepsResets s (wr s f i x) := .of_eq rfl

theorem steady_qmCnt (s : State) (f : Fld) (x : Nat) (h : f.obj = .devQmCnt) : Steady s (wr s f 0 x) := by
  refine ⟨keepsResets_wr s f 0 x, rfl, ?_, ?_⟩
  · exact getObj_wr_obj s x (by rw [h]; decide) (by decide) (by rw [h]; decide)
  · exact getObj_wr_obj s x (by rw [h]; decide) (by decide) (by rw [h]; decide)

theorem steady_raiseD (s : State) (c g : Nat) : Steady s (raiseD s c g) := .of_eq rfl rfl rfl

theorem steady_foldl {α : Type} {f : State → α → State} (h : ∀ s a, Steady s (f s a)) (l : List α) (s : State) :
    Steady s (l.foldl f s) := by
  induction l generalizing s with
  | nil => exact .refl s
  | cons a l ih => exact (h s a).trans (ih _)

/-! ## Pushing -/

theorem steady_incSat (s : State) (f : Fld) (h : f.obj = .devQmCnt) : Steady s (incSat s f 0) := by
  rw [incSat, addSat]
  exact steady_qmCnt s f _ h

theorem steady_drops (s : State) : Steady s (incSat s F.devQmCnt_DROPS 0) := steady_incSat s _ rfl

theorem steady_watermark (s : State) (q a b : Nat) : Steady s (watermark s q a b) := by
  unfold watermark
  simp only []
  split
  · exact steady_setQd (by rfl)
  · split
    · exact (steady_setQd (by rfl)).trans (steady_raiseD _ _ _)
    · split
      · exact (steady_setQd (by rfl)).trans (steady_raiseD _ _ _)
      · exact .refl s

theorem steady_dropReplies (s : State) (q : Nat) : Steady s (dropReplies s q) := by
  unfold dropReplies
  split
  · exact .of_eq rfl rfl rfl
  · exact .of_eq rfl rfl rfl
  · exact .refl s

theorem steady_startReset (s : State) (q r : Nat) : Steady s (startReset s q r) := by
  unfold startReset
  simp only []
  split
  · exact .refl s
  next hn =>
    have h : Steady s (setQd s q { qd s q with resetting := some ⟨r, 0, markTime s, false⟩ }) :=
      ⟨.setQd fun x e => by simp [hn] at e, .refl _⟩
    exact ((h.trans (steady_dropReplies _ _)).trans (steady_incSat _ F.devQmCnt_RESETS rfl)).trans (steady_raiseD _ _ _)

theorem steady_freeListFault (s : State) : Steady s (freeListFault s) := by
  unfold freeListFault
  split
  · exact .of_eq rfl rfl rfl
  · exact .refl s

theorem openSlot_resetting (m : Qm) (q : Nat) (d : QDesc) : (openSlot m q d).2.resetting = d.resetting := by
  unfold openSlot
  simp only []
  split
  · rfl
  · split
    · rfl
    · rfl

theorem openSlot_descs (m : Qm) (q : Nat) (d : QDesc) : (openSlot m q d).1.descs = m.descs := by
  unfold openSlot
  simp only []
  split
  · rfl
  · split
    · rfl
    · rfl

theorem putMark_descs (m : Qm) (q : Nat) (d : QDesc) (k : QMark) : (putMark m q d k).1.descs = m.descs := openSlot_descs m q d

theorem putMark_resetting (m : Qm) (q : Nat) (d : QDesc) (k : QMark) : (putMark m q d k).2.resetting = d.resetting :=
  openSlot_resetting m q d

theorem putHw_resetting (q : Nat) (md : Qm × QDesc) (h : QWord) : (putHw q md h).2.resetting = md.2.resetting := by
  unfold putHw
  simp only []
  split
  · exact openSlot_resetting _ _ _
  · rfl

theorem putHw_descs (q : Nat) (md : Qm × QDesc) (h : QWord) : (putHw q md h).1.descs = md.1.descs := by
  unfold putHw
  simp only []
  split
  · exact openSlot_descs _ _ _
  · rfl

theorem foldl_putHw_descs (q : Nat) (r : List QWord) (md : Qm × QDesc) : (r.foldl (putHw q) md).1.descs = md.1.descs := by
  induction r generalizing md with
  | nil => rfl
  | cons h r ih => exact (ih _).trans (putHw_descs q md h)

theorem foldl_putHw_resetting (q : Nat) (r : List QWord) (md : Qm × QDesc) :
    (r.foldl (putHw q) md).2.resetting = md.2.resetting := by
  induction r generalizing md with
  | nil => rfl
  | cons h r ih => exact (ih _).trans (putHw_resetting q md h)

theorem noteBehind_resetting (d : QDesc) : (noteBehind d).resetting = d.resetting := by
  unfold noteBehind
  split
  · rfl
  · rfl

theorem steady_appendMark (s : State) (q : Nat) (d : QDesc) (k : QMark) (h : d.resetting = (qd s q).resetting) :
    Steady s (appendMark s q d k) := by
  unfold appendMark
  split
  · simp only []
    have hf : Steady s (if cellsFor d 1 = 0 then s else freeListFault s) ∧
        qd (if cellsFor d 1 = 0 then s else freeListFault s) q = qd s q := by
      split
      · exact ⟨.refl s, rfl⟩
      · refine ⟨steady_freeListFault s, ?_⟩
        unfold freeListFault
        split
        · rfl
        · rfl
    generalize (if cellsFor d 1 = 0 then s else freeListFault s) = u at hf ⊢
    obtain ⟨hf, hq⟩ := hf
    split
    · split
      · exact (hf.trans (steady_setQd (by rw [hq]; exact h))).trans (steady_startReset _ _ _)
      · refine hf.trans ((steady_qm u _ (putMark_descs _ _ _ _)).trans (steady_setQd ?_))
        rw [qd_qm _ _ _ (putMark_descs _ _ _ _), putMark_resetting, hq]
        exact h
    · exact hf.trans (steady_setQd (by rw [hq]; exact h))
  · exact steady_setQd h

theorem steady_dropGap (s : State) (q : Nat) : Steady s (dropGap s q) := by
  unfold dropGap
  simp only []
  refine (steady_drops s).trans ?_
  generalize incSat s F.devQmCnt_DROPS 0 = u
  split
  · split
    · exact steady_setQd (by rfl)
    · exact (steady_setQd (by rfl)).trans (steady_qm _ _ rfl)
  · have h : ∀ v : State, Steady u v → Steady u (if q = 0 then v else raiseD v 96 q) := by
      intro v hv; split
      · exact hv
      · exact hv.trans (steady_raiseD _ _ _)
    apply h
    split
    · exact (steady_setQd (by rfl)).trans (steady_qm _ _ rfl)
    · exact steady_appendMark _ _ _ _ rfl

theorem steady_setReset {s : State} {q : Nat} {d : QDesc} {r r' : QReset} (h : (qd s q).resetting = some r)
    (h' : d.resetting = some r') (e : r'.reason = r.reason) : Steady s (setQd s q d) :=
  ⟨.setQd fun x hx => ⟨r', h', e.trans (by rw [h] at hx; cases hx; rfl)⟩, .refl _⟩

theorem steady_dropReset (s : State) (q : Nat) : Steady s (dropReset s q) := by
  unfold dropReset
  simp only []
  have h : Steady s (incSat (incSat s F.devQmCnt_DROPS 0) F.devQmCnt_SWEEP_DROPS 0) :=
    (steady_drops s).trans (steady_incSat _ F.devQmCnt_SWEEP_DROPS rfl)
  generalize incSat (incSat s F.devQmCnt_DROPS 0) F.devQmCnt_SWEEP_DROPS 0 = u at h ⊢
  split
  next r hr =>
    exact h.trans (steady_setReset hr (by rfl) (by rfl))
  · exact h

theorem steady_placeMark (s : State) (q : Nat) : Steady s (placeMark s q) := by
  unfold placeMark
  simp only []
  split
  · split
    · exact steady_appendMark _ _ _ _ rfl
    · exact .refl s
  · exact .refl s

theorem steady_noteRecord (s : State) (q k : Nat) : Steady s (noteRecord s q k) := by
  unfold noteRecord
  split
  · exact .of_eq rfl rfl rfl
  · exact .refl s

theorem steady_pushWords (s : State) (q : Nat) (r : List QWord) : Steady s (pushWords s q r).1 := by
  unfold pushWords
  simp only []
  have h : Steady s (if cellsFor (qd s q) (newWords s.qm (qd s q) r.length) = 0 then s else freeListFault s) ∧
      qd (if cellsFor (qd s q) (newWords s.qm (qd s q) r.length) = 0 then s else freeListFault s) q = qd s q := by
    split
    · exact ⟨.refl s, rfl⟩
    · refine ⟨steady_freeListFault s, ?_⟩
      unfold freeListFault
      split
      · rfl
      · rfl
  generalize (if cellsFor (qd s q) (newWords s.qm (qd s q) r.length) = 0 then s else freeListFault s) = u at h ⊢
  obtain ⟨h, hq⟩ := h
  split
  · split
    · exact (h.trans (steady_startReset _ _ _)).trans (steady_dropReset _ _)
    · refine (h.trans (((steady_qm u _ (foldl_putHw_descs _ _ _)).trans (steady_setQd ?_)).trans (steady_noteRecord _ _ _))).trans
        (steady_watermark _ _ _ _)
      rw [noteBehind_resetting, foldl_putHw_resetting, ← hq]
      exact congrArg (·.resetting) (qd_qm u (r.foldl (putHw q) (u.qm, qd u q)).1 q (foldl_putHw_descs q r _)).symm
  · exact h.trans (steady_dropGap u q)

theorem steady_pushPool (s : State) (q : Nat) (r : List QWord) : Steady s (pushPool s q r).1 := by
  unfold pushPool
  simp only []
  have h := steady_placeMark s q
  split
  · exact h.trans (steady_dropReset _ _)
  · exact h.trans (steady_pushWords _ _ _)

theorem steady_pushSorted (s : State) (port q p : Nat) (r : List QWord) : Steady s (pushSorted s port q p r).1 := by
  unfold pushSorted
  split
  · split
    · simp only []
      split
      · exact ((steady_qm s _ (by rfl)).trans (steady_setQd (noteBehind_resetting _))).trans (steady_watermark _ _ _ _)
      · exact steady_dropGap s q
    · exact steady_drops s
  · exact steady_drops s

theorem steady_qPush (s : State) (port q p : Nat) (r : List QWord) : Steady s (qPush s port q p r).1 := by
  unfold qPush
  split
  · exact .refl s
  · split
    · exact steady_dropReset s q
    · split
      · exact steady_pushSorted s port q p r
      · split
        · exact (steady_startReset s _ _).trans (steady_dropReset _ _)
        · split
          · exact (steady_setQd (by rfl)).trans (steady_drops _)
          · split
            · exact (steady_startReset s _ _).trans (steady_dropReset _ _)
            · exact steady_pushPool s q r

theorem steady_qPushBytes (s : State) (port q : Nat) (bs : List Byte) : Steady s (qPushBytes s port q bs).1 := steady_qPush s port q 0 _

/-! ## Answers -/

theorem steady_reply (s : State) (src : Src) (typ op st : Nat) (body : List Byte) : Steady s (reply s src typ op st body) := by
  unfold reply
  split
  · simp only []
    split
    · exact (steady_qPushBytes _ _ _ _).trans (.of_eq rfl rfl rfl)
    · exact steady_qPushBytes _ _ _ _
  · simp only []
    split
    · exact (steady_qPushBytes _ _ _ _).trans (.of_eq rfl rfl rfl)
    · exact steady_qPushBytes _ _ _ _
  · exact .of_eq rfl rfl rfl
  · exact .of_eq rfl rfl rfl
  · exact .refl s

theorem steady_writeAnswer (src : Src) (addr : Nat) (r : State × Nat) : Steady r.1 (writeAnswer src addr r) := by
  unfold writeAnswer
  split
  · exact steady_reply _ _ _ _ _ _
  · split
    · exact steady_reply _ _ _ _ _ _
    · exact steady_reply _ _ _ _ _ _
    · exact .refl _

/-! ## The trace an event may trigger -/

theorem keepsResets_foldl {α : Type} {f : State → α → State} (h : ∀ s a, KeepsResets s (f s a)) (l : List α) (s : State) :
    KeepsResets s (l.foldl f s) := by
  induction l generalizing s with
  | nil => exact .refl s
  | cons a l ih => exact (h s a).trans (ih _)

theorem keepsResets_trcPush (s : State) (j : Nat) : KeepsResets s (trcPush s j) := by
  unfold trcPush
  split
  · exact keepsResets_foldl (fun t x => (steady_qPush t _ _ _ _).resets) _ s
  · exact .refl s

theorem keepsResets_trcFinish (s : State) : KeepsResets s (trcFinish s) := by
  unfold trcFinish
  split
  · simp only []
    have h : KeepsResets s (raiseD (wr s F.devTrcStat_STATE 0 trcDone) 0x47 0) := .of_eq rfl
    split
    · exact h.trans (keepsResets_foldl (fun t j => keepsResets_trcPush t j) _ _)
    · exact h
  · exact .refl s

theorem keepsResets_trcTrigger (s : State) : KeepsResets s (trcTrigger s) := by
  unfold trcTrigger
  split
  · simp only []
    refine KeepsResets.trans ?_ (keepsResets_trcFinish _)
    have h := keepsResets_foldl (fun t (j : Nat) => KeepsResets.of_eq (s := t) (u := setProbe t j { probe t j with
      ring := (probe t j).ring.drop ((probe t j).ring.length - trcPre s), post := 0, stopped := decide (trcDepth s ≤ trcPre s) }) rfl)
      (trcProbes s) s
    have h2 := (h.trans (keepsResets_wr _ F.devTrcTime_TRIG_TIME 0 (nowNs s))).trans
      (keepsResets_wr _ F.devTrcStat_STATE 0 trcTriggered)
    split
    · exact h2.trans (keepsResets_wr _ F.devTrcStat_PRE_SHORT 0 1)
    · exact h2
  · exact .refl s

/-! ## The end of a command -/

theorem steady_logEvent (s : State) (e : Ev) : Steady s (logEvent s e) := by
  unfold logEvent
  exact .of_eq rfl rfl rfl

theorem keepsResets_incSat (s : State) (f : Fld) (i : Nat) : KeepsResets s (incSat s f i) := by
  rw [incSat, addSat]
  exact keepsResets_wr s f i _

theorem keepsResets_pushEvent (s : State) (e : Ev) : KeepsResets s (pushEvent s e) := by
  unfold pushEvent evTrace
  have h := (steady_qPushBytes s 7 (evQueue e) (evBytes e)).trans (steady_logEvent _ e)
  generalize logEvent (qPushBytes s 7 (evQueue e) (evBytes e)).1 e = u at h ⊢
  split
  · exact h.resets.trans (keepsResets_trcTrigger _)
  · exact h.resets

theorem keepsResets_holdEvent (s : State) (e : Ev) : KeepsResets s (holdEvent s e) := by
  unfold holdEvent
  split
  · exact .of_eq rfl
  · exact keepsResets_incSat _ _ _

theorem keepsResets_flush (n : Nat) (s : State) : KeepsResets s (flushEvents n s) := by
  induction n generalizing s with
  | zero => exact .refl s
  | succ n ih =>
    unfold flushEvents
    split
    · exact .refl s
    · refine KeepsResets.trans ?_ (ih _)
      unfold flushRound
      refine (KeepsResets.of_eq (s := s) (u := { s with ctl := { s.ctl with evNew := [] } }) rfl).trans (keepsResets_foldl (fun t e => ?_) _ _)
      split
      · exact keepsResets_pushEvent t e
      · exact keepsResets_holdEvent t e

/-- No event triggers the trace: it is not armed, or not for events. -/
def Untriggered (s : State) : Prop := trcState s ≠ trcArmed ∨ rd s F.devTrcTrig_KIND 0 ≠ 1

theorem KeepsTrace.trcState {s u : State} (h : KeepsTrace s u) : trcState u = trcState s := by
  rw [Machine.trcState, rd, h.2.1, Machine.trcState, rd]

theorem KeepsTrace.kind {s u : State} (h : KeepsTrace s u) : rd u F.devTrcTrig_KIND 0 = rd s F.devTrcTrig_KIND 0 := by
  rw [rd, h.2.2, rd]

theorem Untriggered.of_keeps {s u : State} (h : KeepsTrace s u) (k : Untriggered s) : Untriggered u := by
  rw [Untriggered, h.trcState, h.kind]
  exact k

theorem keepsTrace_pushEvent {s : State} (h : Untriggered s) (e : Ev) : KeepsTrace s (pushEvent s e) := by
  unfold pushEvent evTrace
  have hl := ((steady_qPushBytes s 7 (evQueue e) (evBytes e)).trans (steady_logEvent _ e)).trace
  generalize logEvent (qPushBytes s 7 (evQueue e) (evBytes e)).1 e = u at hl ⊢
  split
  next hc =>
    unfold trcTrigger
    rcases h.of_keeps hl with ha | ha
    · rw [if_neg ha]
      exact hl
    · exact absurd hc.1 ha
  · exact hl

theorem keepsTrace_evStat (s : State) (f : Fld) (x : Nat) (h : f.obj = .devEvStat) : KeepsTrace s (wr s f 0 x) := by
  refine ⟨rfl, ?_, ?_⟩
  · exact getObj_wr_obj s x (by rw [h]; decide) (by decide) (by rw [h]; decide)
  · exact getObj_wr_obj s x (by rw [h]; decide) (by decide) (by rw [h]; decide)

theorem keepsTrace_holdEvent (s : State) (e : Ev) : KeepsTrace s (holdEvent s e) := by
  unfold holdEvent
  split
  · exact .refl s
  · rw [incSat, addSat]
    exact keepsTrace_evStat s _ _ rfl

theorem keepsTrace_foldl {f : State → Ev → State} (h : ∀ s e, Untriggered s → KeepsTrace s (f s e)) (l : List Ev) {s : State}
    (hs : Untriggered s) : KeepsTrace s (l.foldl f s) := by
  induction l generalizing s with
  | nil => exact .refl s
  | cons e l ih => exact (h s e hs).trans (ih (hs.of_keeps (h s e hs)))

theorem keepsTrace_flush (n : Nat) {s : State} (h : Untriggered s) : KeepsTrace s (flushEvents n s) := by
  induction n generalizing s with
  | zero => exact .refl s
  | succ n ih =>
    unfold flushEvents
    split
    · exact .refl s
    · have hr : KeepsTrace s (flushRound s) := by
        unfold flushRound
        refine keepsTrace_foldl (s := { s with ctl := { s.ctl with evNew := [] } }) (fun t e ht => ?_) _ h
        split
        · exact keepsTrace_pushEvent ht e
        · exact keepsTrace_holdEvent t e
      exact hr.trans (ih (h.of_keeps hr))

end Sys2Proof.Machine
end

section
/-!
PROOFS. A write that stores an object's reset value again (O36): a register map may list an object at its reset value, which says
nothing else than its absence; STOP writes TRC_CTL back as it was, and the listing goes. `Answered` compares the maps under every
default, so that it sees the difference.
-/

namespace Sys2Proof.Machine
open Sys2Proof Sys2Proof.Machine

/-- A device out of its internal reset, TRC_CTL listed at its reset value. -/
def listedTrace : State := { awake with regs := [(objKey .devTrcCtl 0, objReset .devTrcCtl 0)] }

/-- TRC_CTL in the state a command leaves, 0 where it is not listed or the command leaves none. -/
def traceListed (o : Out) : Nat :=
  match o with
  | .next t => mget 0 t.regs (objKey .devTrcCtl 0)
  | _ => 0

theorem traceListed_next {o : Out} {t : State} (h : o = .next t) : traceListed o = mget 0 t.regs (objKey .devTrcCtl 0) := by
  rw [h, traceListed]

theorem accepts_listedTrace : Accepts listedTrace ⟨.jtag, .devTrcCtl, 0, setBits (getObj listedTrace .devTrcCtl 0) 0 2 2⟩ :=
  ⟨by decide, by decide, by decide +kernel, by decide +kernel⟩

theorem listed_listedTrace : mget 0 listedTrace.regs (objKey .devTrcCtl 0) ≠ 0 := by decide

/-- Refutes O36: STOP without a capture unlists TRC_CTL, where the statement says that nothing changes. -/
theorem not_outputWrites : ¬ Obligations.OutputWrites := by
  intro h
  obtain ⟨-, -, hstop, -⟩ := h listedTrace .jtag
  obtain ⟨t, ht, m, q⟩ := hstop accepts_listedTrace
  have h0 : traceListed (exec (.traceStop .jtag) listedTrace) = 0 := by decide +kernel
  rw [traceListed_next ht, q.regs _ _ (by decide)] at h0
  exact absurd h0 listed_listedTrace

end Sys2Proof.Machine
end

section
/-!
PROOFS. Rewriting a slot, writing trims and programming OTP (O12, O13). A message that asks for work of some time leaves a job, and the
job's end answers it: both differ from what the statements name by messages alone.
-/

namespace Sys2Proof.Machine
open Sys2Proof Sys2Proof.Machine

/-! ## Support -/

theorem endsAnswered_of {s u v : State} {c : Instr} (h : exec c s = done v) (a : Answered u v) : EndsAnswered s c u :=
  let ⟨t, ht, q⟩ := done_answered a
  ⟨t, h.trans ht, q⟩

theorem answered_withMsg (s : State) (m : Msg) : Answered s { s with msg := m } := (Quiet.refl s).answered.msg m

theorem Answered.reply {s t : State} (h : Answered s t) (src : Src) (typ op st : Nat) (body : List Byte) :
    Answered s (reply t src typ op st body) := h.trans (answered_reply _ _ _ _ _ _)

theorem Answered.release {s t : State} (h : Answered s t) (src : Src) : Answered s (release t src) := h.trans (answered_release _ _)

/-- A job is put last, its message held. -/
theorem answered_putJob (s : State) (src : Src) (j : Job) :
    Answered { s with load := { s.load with jobs := s.load.jobs ++ [j] } } (putJob s src j) := by
  unfold putJob hold
  split
  · exact answered_withMsg { s with load := { s.load with jobs := s.load.jobs ++ [j] } } _
  · exact answered_withMsg { s with load := { s.load with jobs := s.load.jobs ++ [j] } } _
  · exact (Quiet.refl _).answered

theorem endsAnswered_putJob {s u v : State} {c : Instr} {src : Src} {j : Job} (h : exec c s = done (putJob v src j))
    (a : Answered u { v with load := { v.load with jobs := v.load.jobs ++ [j] } }) : EndsAnswered s c u :=
  endsAnswered_of h (a.trans (answered_putJob v src j))

/-- The job at the head is the one that is taken. -/
theorem takeJob_head {s : State} {p : Job → Bool} {j : Job} {js : List Job} (h : s.load.jobs = j :: js) (hp : p j = true) :
    takeJob p s = some (j, modLoad s (fun l => { l with jobs := js })) := by
  unfold takeJob
  rw [h, List.find?_cons_of_pos hp]
  simp [modLoad, h]

/-! ## What the flash and the trim store say -/

section
variable {s t : State} (h : s.nv = t.nv)
include h

theorem flashBytes_of_nv : flashBytes s = flashBytes t := by
  funext a n
  rw [flashBytes, h, flashBytes]

theorem readsBlock_of_nv : readsBlock s = readsBlock t := by
  funext sig
  rw [readsBlock, h, readsBlock]

theorem sigPolicy_of_nv : sigPolicy s = sigPolicy t := by
  funext sig img blk
  rw [sigPolicy, h, sigPolicy]

theorem contentFits_of_nv : contentFits s = contentFits t := by
  funext xs
  have hs : staged s = staged t := by
    funext bs ws
    rw [staged, h, staged]
  rw [contentFits, hs, contentFits]

/-- The checks of a slot read the memories that no reset clears and nothing else. -/
theorem checkSlot_of_nv (slot : Nat) : checkSlot s slot = checkSlot t slot := by
  rw [checkSlot, flashBytes_of_nv h, readsBlock_of_nv h, sigPolicy_of_nv h, contentFits_of_nv h, checkSlot]

theorem hdrInUse_of_nv : hdrInUse s = hdrInUse t := by
  rw [hdrInUse, hdrCopy, hdrCopy, flashBytes_of_nv h, hdrInUse, hdrCopy, hdrCopy]

theorem switchCopy_of_nv : switchCopy s = switchCopy t := by rw [switchCopy, hdrInUse_of_nv h, switchCopy]

theorem switchSeq_of_nv : switchSeq s = switchSeq t := by
  have hc : hdrCopy s = hdrCopy t := by
    funext k
    rw [hdrCopy, flashBytes_of_nv h, hdrCopy]
  rw [switchSeq, hdrInUse_of_nv h, hc, switchSeq]

theorem commitFails_of_nv (crc : Nat) (hs : s.load.staging = t.load.staging) (hp : s.pwr = t.pwr) :
    commitFails s crc = commitFails t crc := by
  rw [commitFails, staging, trimStore, hs, h, hp, commitFails, staging, trimStore]

end

theorem imageMode_takeMsg (s : State) (src : Src) : imageMode (takeMsg s src) = imageMode s := rfl

theorem trimOpen_takeMsg (s : State) (src : Src) : trimOpen (takeMsg s src) = trimOpen s := rfl

theorem beginStatus_offMgmt {src : Src} (h : offMgmt src = true) (s : State) (slot len : Nat) : beginStatus s src slot len ≠ 0 := by
  simp [beginStatus, h]

theorem dataStatus_offMgmt {src : Src} (h : offMgmt src = true) (s : State) (slot off n : Nat) : dataStatus s src slot off n ≠ 0 := by
  unfold dataStatus
  rw [if_pos h]
  split
  · decide
  · decide

/-! ## Rewriting a slot -/

section
variable {s : State} {src : Src} (hr : coreRuns s = true)
include hr

theorem imageWriteBegin_ends {slot len : Nat} (h : beginStatus (takeMsg s src) src slot len = 0) :
    EndsAnswered s (.imageWriteBegin src slot len) { s with load := { s.load with
      img := some ⟨slot, len, []⟩, okSlots := [], jobs := s.load.jobs ++ [.erase src slot len] } } := by
  have he : exec (.imageWriteBegin src slot len) s =
      done (putJob (modLoad (takeMsg s src) (fun l => { l with img := some ⟨slot, len, []⟩, okSlots := [] })) src (.erase src slot len)) := by
    change execImageWriteBegin .. = _
    rw [execImageWriteBegin, clocked_run _ _ hr]
    exact if_neg (by simp [h])
  exact endsAnswered_putJob he (answered_withMsg _ (takeMsg s src).msg)

theorem imageEraseDone_ends {slot len : Nat} {js : List Job} (h : s.load.jobs = .erase src slot len :: js) :
    EndsAnswered s .imageEraseDone { s with
      nv := { s.nv with flash := memWrite 0xFF s.nv.flash (slotBase slot) (List.replicate (sectorBytes len) 0xFF) }
      load := { s.load with jobs := js } } := by
  refine endsAnswered_of (by change execImageEraseDone .. = _; rw [execImageEraseDone, clocked_run _ _ hr, takeJob_head h rfl]) ?_
  exact ((Quiet.refl _).answered.reply _ _ _ _ _).release _

theorem imageWriteData_ends {slot off : Nat} {bytes : List Byte} (h : dataStatus (takeMsg s src) src slot off bytes.length = 0) :
    EndsAnswered s (.imageWriteData src slot off bytes) { s with load := { s.load with
      img := s.load.img.map (fun x => { x with written := x.written ++ [(off, bytes.length)] })
      jobs := s.load.jobs ++ [Job.program src slot off bytes] } } := by
  have he : exec (.imageWriteData src slot off bytes) s = done (putJob (modLoad (takeMsg s src) (fun l =>
      { l with img := l.img.map (fun x => { x with written := x.written ++ [(off, bytes.length)] }) })) src (.program src slot off bytes)) := by
    change execImageWriteData .. = _
    rw [execImageWriteData, clocked_run _ _ hr]
    exact if_neg (by simp [h])
  exact endsAnswered_putJob he (answered_withMsg _ (takeMsg s src).msg)

theorem imageDataProgrammed_ends {slot off : Nat} {bytes : List Byte} {js : List Job}
    (h : s.load.jobs = .program src slot off bytes :: js) : EndsAnswered s .imageDataProgrammed { s with
      nv := { s.nv with flash := memWrite 0xFF s.nv.flash (slotBase slot + off) bytes }, load := { s.load with jobs := js } } := by
  refine endsAnswered_of (by change execImageDataProgrammed .. = _; rw [execImageDataProgrammed, clocked_run _ _ hr, takeJob_head h rfl]) ?_
  exact ((Quiet.refl _).answered.reply _ _ _ _ _).release _

theorem imageWriteEnd_ends {x : ImgSession} (h : s.load.img = some x) (hm : offMgmt src = false)
    (room : tooMany (takeMsg s src) src = false) :
    EndsAnswered s (.imageWriteEnd src x.slot) { s with load := { s.load with jobs := s.load.jobs ++ [.readback src x.slot] } } := by
  have he : exec (.imageWriteEnd src x.slot) s = done (putJob (takeMsg s src) src (.readback src x.slot)) := by
    change execImageWriteEnd .. = _
    rw [execImageWriteEnd, clocked_run _ _ hr]
    simp [hm, room, h]
  exact endsAnswered_putJob he (answered_withMsg _ (takeMsg s src).msg)

theorem imageReadbackDone_ends {slot : Nat} {js : List Job} (h : s.load.jobs = .readback src slot :: js) :
    EndsAnswered s .imageReadbackDone { s with load := { s.load with
      jobs := js, img := none
      okSlots := if (checkSlot s slot).1 = 1 then slot :: s.load.okSlots else s.load.okSlots.filter (· ≠ slot) } } := by
  refine endsAnswered_of (by change execImageReadbackDone .. = _; rw [execImageReadbackDone, clocked_run _ _ hr, takeJob_head h rfl]) ?_
  dsimp only
  rw [checkSlot_of_nv (s := modLoad s _) (t := s) rfl]
  exact ((Quiet.refl _).answered.reply _ _ _ _ _).release _

theorem imageWriteSwitch_ends {slot : Nat} (hs : slot ≤ 1) (him : imageMode s = true) (hok : slot ∈ s.load.okSlots)
    (hm : offMgmt src = false) (room : tooMany (takeMsg s src) src = false) :
    EndsAnswered s (.imageWriteSwitch src slot) { s with
      nv := { s.nv with
        flash := memWrite 0xFF s.nv.flash (0x1000 * switchCopy s)
          (hdrRecord slot (switchSeq s) ++ List.replicate (4096 - 256) 0xFF) } } := by
  have he : exec (.imageWriteSwitch src slot) s =
      done (imgReply (writeHdr (takeMsg s src) (switchCopy s) slot (switchSeq s)) src 4 0 []) := by
    change execImageWriteSwitch .. = _
    rw [execImageWriteSwitch, clocked_run _ _ hr]
    simp [hm, room, hok, imageMode_takeMsg, him, show ¬ 1 < slot by omega,
      switchCopy_of_nv (s := takeMsg s src) (t := s) rfl, switchSeq_of_nv (s := takeMsg s src) (t := s) rfl]
  exact endsAnswered_of he ((answered_withMsg _ (takeMsg s src).msg).reply _ _ _ _ _)

/-- A fabric message that is not MGMT writes no image. -/
theorem imageWrite_offMgmt (h : offMgmt src = true) (slot len off : Nat) (bytes : List Byte) {c : Instr}
    (hc : c ∈ [Instr.imageWriteBegin src slot len, .imageWriteData src slot off bytes, .imageWriteEnd src slot,
      .imageWriteSwitch src slot]) : EndsAnswered s c s := by
  have hrep (op st : Nat) : Answered s (imgReply (takeMsg s src) src op st []) := (answered_takeMsg s src).reply _ _ _ _ _
  simp only [List.mem_cons, List.not_mem_nil, or_false] at hc
  rcases hc with rfl | rfl | rfl | rfl
  · refine endsAnswered_of ?_ (hrep 1 (beginStatus (takeMsg s src) src slot len))
    change execImageWriteBegin .. = _
    rw [execImageWriteBegin, clocked_run _ _ hr]
    exact if_pos (beginStatus_offMgmt h _ _ _)
  · refine endsAnswered_of ?_ (hrep 2 (dataStatus (takeMsg s src) src slot off bytes.length))
    change execImageWriteData .. = _
    rw [execImageWriteData, clocked_run _ _ hr]
    exact if_pos (dataStatus_offMgmt h _ _ _ _)
  · refine endsAnswered_of ?_ (hrep 3 1)
    change execImageWriteEnd .. = _
    rw [execImageWriteEnd, clocked_run _ _ hr]
    exact if_pos h
  · refine endsAnswered_of ?_ (hrep 4 1)
    change execImageWriteSwitch .. = _
    rw [execImageWriteSwitch, clocked_run _ _ hr]
    exact if_pos (Or.inl h)

end

/-- Settles O12. -/
theorem imageWrites_hold : Obligations.ImageWrites := fun _ _ hr =>
  ⟨fun _ _ h => imageWriteBegin_ends hr h, fun _ _ _ h => imageEraseDone_ends hr h, fun _ _ _ h => imageWriteData_ends hr h,
    fun _ _ _ _ h => imageDataProgrammed_ends hr h, fun _ h hm room => imageWriteEnd_ends hr h hm room,
    fun _ _ h => imageReadbackDone_ends hr h, fun _ hs him hok hm room => imageWriteSwitch_ends hr hs him hok hm room,
    fun slot len off bytes h _ hc => imageWrite_offMgmt hr h slot len off bytes hc⟩

/-! ## Writing trims -/

/-- The device after a trim set that did not read back well, the store left with `m`. -/
def trimSpoiled (s : State) (js : List Job) (m : List Host.Cell) : State :=
  let t := modLoad s (fun l => { l with jobs := js })
  modLoad (draw { t with nv := { t.nv with trim := m } }) (fun l => { l with trimUse := none })

section
variable {s : State} {src : Src} (hr : coreRuns s = true)
include hr

/-- A fabric message that is not MGMT writes no trim. -/
theorem trimWrite_offMgmt (h : offMgmt src = true) (kind off : Nat) (bytes : List Byte) (crc : Word) {c : Instr}
    (hc : c ∈ [Instr.trimWriteOpen src kind, .trimWriteData src off bytes, .trimWriteCommit src crc, .trimWriteClose src]) :
    EndsAnswered s c s := by
  have hrep (op st : Nat) : Answered s (trimReply (takeMsg s src) src op st []) := (answered_takeMsg s src).reply _ _ _ _ _
  simp only [List.mem_cons, List.not_mem_nil, or_false] at hc
  rcases hc with rfl | rfl | rfl | rfl
  · refine endsAnswered_of ?_ (hrep 1 1)
    change execTrimWriteOpen .. = _
    rw [execTrimWriteOpen, clocked_run _ _ hr]
    exact if_pos (Or.inl h)
  · by_cases hn : bytes.length < 1 ∨ 224 < bytes.length
    · refine endsAnswered_of ?_ (hrep 2 4)
      change execTrimWriteData .. = _
      rw [execTrimWriteData, clocked_run _ _ hr]
      exact if_pos hn
    · refine endsAnswered_of ?_ (hrep 2 1)
      change execTrimWriteData .. = _
      rw [execTrimWriteData, clocked_run _ _ hr]
      exact (if_neg hn).trans (if_pos h)
  · refine endsAnswered_of ?_ (hrep 3 1)
    change execTrimWriteCommit .. = _
    rw [execTrimWriteCommit, clocked_run _ _ hr]
    exact if_pos h
  · refine endsAnswered_of ?_ (hrep 4 1)
    change execTrimWriteClose .. = _
    rw [execTrimWriteClose, clocked_run _ _ hr]
    exact if_pos h

theorem trimProgramDone_stores {js : List Job} (h : s.load.jobs = .trim src :: js) : Completes s (.trimProgramDone true) (fun t =>
    t.nv = { s.nv with trim := memWrite 0 [] 0 (commitSet s) } ∧ t.load = { s.load with jobs := js, trimSwitch := true }) := by
  have hs (u : State) : (showTrim u).nv = u.nv ∧ (showTrim u).load = u.load := by
    unfold showTrim
    dsimp only
    split
    · exact ⟨rfl, rfl⟩
    · exact ⟨rfl, rfl⟩
  obtain ⟨t, ht, m, q⟩ := endsAnswered_of (s := s) (c := .trimProgramDone true)
    (by change execTrimProgramDone .. = _; rw [execTrimProgramDone, clocked_run _ _ hr, takeJob_head h rfl]; exact if_pos rfl)
    (((Quiet.refl _).answered.reply _ _ _ _ _).release _)
  refine ⟨t, ht, ?_, ?_⟩
  · rw [q.nv]
    exact (hs _).1
  · rw [q.load]
    exact congrArg (fun l : Load => { l with trimSwitch := true }) (hs _).2

omit hr in
theorem answered_trimBad {x t : State} (a : Answered (wr (wr x F.devTrimCtl_TRIM_BAD 0 1) F.devTrimCtl_ORIGIN 0 3) t) :
    rd t F.devTrimCtl_TRIM_BAD 0 = 1 ∧ rd t F.devTrimCtl_ORIGIN 0 = 3 ∧ t.load = x.load ∧ t.nv = x.nv := by
  obtain ⟨m, q⟩ := a
  refine ⟨?_, ?_, q.load, q.nv⟩
  · rw [q.rd_kind (by decide) (by decide)]
    exact (rd_wr_field (wr x F.devTrimCtl_TRIM_BAD 0 1) F.devTrimCtl_ORIGIN F.devTrimCtl_TRIM_BAD 0 3 rfl (by decide)).trans (rd_wr_same x _ _ _)
  · rw [q.rd_kind (by decide) (by decide)]
    exact rd_wr_same (wr x F.devTrimCtl_TRIM_BAD 0 1) _ _ _

theorem exec_trimProgramDone_fails {js : List Job} (h : s.load.jobs = .trim src :: js) : ∃ m, exec (.trimProgramDone false) s =
    done (release (trimReply (raiseD (wr (wr (trimSpoiled s js m) F.devTrimCtl_TRIM_BAD 0 1) F.devTrimCtl_ORIGIN 0 3) 0x15 0)
      src 3 6 (leBytes 1 5)) src) := by
  refine ⟨memWrite 0 [] 0 (freeBytes s.ctl.freeCnt 16384), ?_⟩
  change execTrimProgramDone .. = _
  rw [execTrimProgramDone, clocked_run _ _ hr, takeJob_head h rfl]
  dsimp only
  rw [if_neg (by decide)]
  rfl

theorem trimProgramDone_fails {js : List Job} (h : s.load.jobs = .trim src :: js) : Completes s (.trimProgramDone false) (fun t =>
    rd t F.devTrimCtl_TRIM_BAD 0 = 1 ∧ rd t F.devTrimCtl_ORIGIN 0 = 3 ∧ t.load = { s.load with jobs := js, trimUse := none } ∧
      { t.nv with trim := s.nv.trim } = s.nv) := by
  obtain ⟨m, he⟩ := exec_trimProgramDone_fails hr h
  obtain ⟨t, ht, a⟩ := endsAnswered_of he (((quiet_raiseD _ _ _).answered.reply _ _ _ _ _).release _)
  obtain ⟨hb, ho, hl, hn⟩ := answered_trimBad a
  exact ⟨t, ht, hb, ho, hl.trans rfl, by rw [hn]; rfl⟩

end

theorem exec_otpProgramDone {s : State} {src : Src} {obj : OtpObj} {x : Nat} {js : List Job} (hr : coreRuns s = true)
    (h : s.load.jobs = .otp src obj x :: js) : EndsAnswered s .otpProgramDone
      { s with load := { s.load with jobs := js }, nv := programOtp s.nv obj x } := by
  refine endsAnswered_of (by change execOtpProgramDone .. = _; rw [execOtpProgramDone, clocked_run _ _ hr, takeJob_head h rfl]) ?_
  exact ((Quiet.refl _).answered.reply _ _ _ _ _).release _

/-- Settles O13. -/
theorem trimAndOtp : Obligations.TrimAndOtp := by
  refine ⟨fun s src hr => ⟨fun kind hk hkind hmode himg hopen => ?_, fun kind off bytes hk hkind h1 h2 h3 h4 => ?_, fun crc hk hn hc => ?_,
    fun crc hk hn hc => ?_, fun js h => trimProgramDone_stores hr h, fun js h => trimProgramDone_fails hr h, fun hsw => ?_, fun hk hn => ?_,
    fun kind off bytes crc h c hc => trimWrite_offMgmt hr h kind off bytes crc hc⟩,
    fun s src obj x js hr h => ⟨exec_otpProgramDone hr h, rfl, rfl, rfl⟩⟩
  · obtain ⟨hm, room⟩ := hk
    refine endsAnswered_of (v := trimReply (modLoad (takeMsg s src) (fun l => { l with trimKind := some kind, staging := s.nv.trim }))
      src 1 0 []) ?_ ((answered_withMsg _ (takeMsg s src).msg).reply _ _ _ _ _)
    change execTrimWriteOpen .. = _
    rw [execTrimWriteOpen, clocked_run _ _ hr]
    simp [hm, room, hmode, himg, hopen, trimOpen_takeMsg, show ¬ 1 < kind by omega]
  · obtain ⟨hm, room⟩ := hk
    refine endsAnswered_of (v := trimReply (modLoad (takeMsg s src) (fun l => { l with staging := memWrite 0 l.staging off bytes }))
      src 2 0 []) ?_ ((answered_withMsg _ (takeMsg s src).msg).reply _ _ _ _ _)
    have hn : ¬ (bytes.length < 1 ∨ 224 < bytes.length) := by omega
    have ho : ¬ (16384 < off + bytes.length ∨ (kind = 1 ∧ (off < 0x1000 ∨ 0x1300 < off + bytes.length))) := by omega
    change execTrimWriteData .. = _
    rw [execTrimWriteData, clocked_run _ _ hr]
    dsimp only
    rw [if_neg hn, if_neg (by simp [hm]), takeMsg_load, hkind]
    exact (if_neg ho).trans (if_neg (by simp [room]))
  · obtain ⟨hm, room⟩ := hk
    refine endsAnswered_putJob (v := modLoad (takeMsg s src) (fun l => { l with trimKind := none })) (src := src) (j := .trim src) ?_
      (answered_withMsg _ (takeMsg s src).msg)
    change execTrimWriteCommit .. = _
    rw [execTrimWriteCommit, clocked_run _ _ hr]
    dsimp only
    rw [if_neg (by simp [hm]), if_neg (by simpa using hn), if_neg (by simp [room]),
      commitFails_of_nv (s := modLoad (takeMsg s src) _) (t := s) rfl _ rfl rfl]
    exact if_neg (by simp [hc])
  · obtain ⟨hm, room⟩ := hk
    refine endsAnswered_of (v := trimReply (modLoad (takeMsg s src) (fun l => { l with trimKind := none })) src 3 6
      (leBytes 1 (commitFails s crc.toNat))) ?_ ((answered_withMsg _ (takeMsg s src).msg).reply _ _ _ _ _)
    change execTrimWriteCommit .. = _
    rw [execTrimWriteCommit, clocked_run _ _ hr]
    dsimp only
    rw [if_neg (by simp [hm]), if_neg (by simpa using hn), if_neg (by simp [room]),
      commitFails_of_nv (s := modLoad (takeMsg s src) _) (t := s) rfl _ rfl rfl]
    exact if_pos hc
  · refine ends_of_done ?_
    change execTrimSwitch .. = _
    rw [execTrimSwitch, clocked_run _ _ hr]
    exact if_pos hsw
  · obtain ⟨hm, room⟩ := hk
    refine endsAnswered_of (v := trimReply (modLoad (takeMsg s src) (fun l => { l with trimKind := none })) src 4 0 []) ?_
      ((answered_withMsg _ (takeMsg s src).msg).reply _ _ _ _ _)
    change execTrimWriteClose .. = _
    rw [execTrimWriteClose, clocked_run _ _ hr]
    dsimp only
    rw [if_neg (by simp [hm]), if_neg (by simpa using hn)]
    exact if_neg (by simp [room])

end Sys2Proof.Machine
end

section
/-!
PROOFS. Requests for a mode and for a reset (O39): MODE_REQ has no rule of its own, so that a MGMT message is always carried out.
-/

namespace Sys2Proof.Machine
open Sys2Proof Sys2Proof.Machine

/-! ## MODE_REQ -/

theorem judge_devModeReq (s : State) (src : Src) (w : Nat) (hm : offMgmt src = false) : judge s src .devModeReq 0 w = 0 := by
  have hw : writable .devModeReq = true := by decide
  have hr : accMask .devModeReq .rwm = 0 := rfl
  have ha : accessRules (setObj s .devModeReq 0 (mergeVal .devModeReq (baseVal s .devModeReq 0) w)) s .devModeReq 0 w = [] := rfl
  have hl : loopObj .devModeReq 0 = none := rfl
  have hb : busyBad s .devModeReq 0 (baseVal s .devModeReq 0) (mergeVal .devModeReq (baseVal s .devModeReq 0) w) w = false := rfl
  have hmr : modeRules s .devModeReq 0 (mergeVal .devModeReq (baseVal s .devModeReq 0) w) w = [] := rfl
  simp [judge, hm, hw, objThere, svBarred, hr, ha, modeBad, hl, hb, hmr]

theorem writeOutcome_modeReq {s : State} {src : Src} (w : Nat) (room : tooMany (takeMsg s src) src = false) (hm : offMgmt src = false) :
    writeOutcome s ⟨src, .devModeReq, 0, w⟩ = modeRequest (takeMsg s src) src (bits w 0 4) (bits w 16 16) := by
  rw [writeOutcome, if_neg (by simp [room]), writeObj_accepted (judge_devModeReq _ _ _ hm) (by simp [forwards, paramWord]) rfl]
  rfl

theorem modeAllows_takeMsg (s : State) (src : Src) (m c : Nat) : modeAllows (takeMsg s src) m c = modeAllows s m c := rfl

theorem resetAllowed_takeMsg (s : State) (src : Src) : resetAllowed (takeMsg s src) = resetAllowed s := rfl

theorem hold_eq (s : State) (src : Src) : ∃ m, hold s src = { s with msg := m } := by
  unfold hold
  split
  · exact ⟨_, rfl⟩
  · exact ⟨_, rfl⟩
  · exact ⟨_, rfl⟩

/-- What a request for a mode but OFF does. -/
theorem modeRequest_mode (s : State) (src : Src) {m : Nat} (h1 : 1 ≤ m) (h11 : m ≤ 11) (hs : ¬ (src = .supervisor ∧ m = mMaint))
    (hl : ¬ (m = mStandby ∧ mode s = mMaint ∧ rdB s F.devMode_FROM_LATCH 0 = true)) :
    modeRequest s src m 0 = if modeAllows s m 9 then (trigger (hold s src) m 9 (some src), 8) else (s, 2) := by
  have h0 : m ≠ mOff := by rw [mOff]; omega
  have hs' : ¬ (src = .supervisor ∧ (m = mMaint ∨ m = mOff)) := fun ⟨a, b⟩ => hs ⟨a, b.resolve_right h0⟩
  rw [modeRequest, if_neg hs', if_neg (fun a => h0 a.1), if_neg (by omega), if_neg h0, if_neg (by simpa using hl)]

/-- What a request for OFF does. -/
theorem modeRequest_off (s : State) (src : Src) (c : Nat) : modeRequest s src 0 c =
    if src = .supervisor ∨ c ≠ 0x0C5A then (s, 1)
    else if resetAllowed s then (grantReset (replyWrite s src (ownAddr s .devModeReq 0) 0) rcRequest 3, 8) else (s, 2) := by
  by_cases hs : src = .supervisor
  · rw [modeRequest, if_pos ⟨hs, Or.inr rfl⟩, if_pos (Or.inl hs)]
  · rw [modeRequest, if_neg (fun a => hs a.1)]
    by_cases hc : c = 0x0C5A
    · rw [if_neg (fun a => a.2 hc), if_neg (by decide), if_pos (show 0 = mOff from rfl)]
      exact (if_neg (by simp [hs, hc])).symm
    · rw [if_pos ⟨rfl, hc⟩, if_pos (Or.inr hc)]

/-! ## The reset of a request -/

/-- The reset of a device that has answered before it is the device's. -/
theorem resetDone_answered {s u t : State} {b : Nat} (a : Answered s u) (h : ResetDone u t b) : ResetDone s t b := by
  obtain ⟨m, q⟩ := a
  have hp : u.pending = s.pending := q.pending
  have hw : u.pwr = s.pwr := q.pwr
  have hn : u.nv = s.nv := q.nv
  have hl : u.load = s.load := q.load
  have hg : u.ledg = s.ledg := q.ledg
  refine ⟨h.held, h.objs, by rw [h.rest, hp], ?_, fun hj hwr => ?_, fun hd => ?_⟩
  · rw [h.cause, hw, hn]
  · rw [← hn]
    exact h.keeps (hl ▸ hj) (hg ▸ hwr)
  · rw [h.rtc hd, hn]

theorem ledgCanWrite_answered {s u : State} (a : Answered s u) : ledgCanWrite u = ledgCanWrite s := by
  obtain ⟨m, q⟩ := a
  rw [ledgCanWrite, q.rdB_kind (by decide) (by decide), q.rdB_kind (by decide) (by decide), q.rdB_kind (by decide) (by decide)]
  rfl

/-- The test port's answer after a reset is what the reset leaves. -/
theorem writeAnswer_assertReset (s : State) (b : Nat) {src : Src} (addr : Nat) (hs : src ≠ .supervisor) :
    writeAnswer src addr (assertReset s b, 8) = assertReset s b := by
  cases src with
  | supervisor => exact absurd rfl hs
  | jtag => rfl
  | _ => rfl

theorem wrB_withRegs (s : State) (f : Fld) (i : Nat) (b : Bool) : ∃ r, wrB s f i b = { s with regs := r } := ⟨_, rfl⟩

/-- BUSY is shown in registers. -/
theorem ledgBusy_withRegs (s : State) (b : Bool) : ∃ r, ledgBusy s b = { s with regs := r } := by
  rw [ledgBusy]
  obtain ⟨r, h⟩ := wrB_withRegs s F.devLedgStat_BUSY 0 b
  obtain ⟨q, k⟩ := wrB_withRegs (wrB s F.devLedgStat_BUSY 0 b) F.devSupply_SNAP_BUSY 0 b
  exact ⟨q, by rw [k, h]⟩

/-- The write a trigger begins. -/
def firstWrite (s : State) (cause : Nat) (forReset bo : Bool) : LedgWrite where
  cause := cause
  slot := (ledgNext s).1
  seq := (ledgNext s).2
  cal := if s.nv.rtc.valid then s.nv.rtc.sec else 0
  data := ledgData s
  retry := false
  forReset := forReset
  bo := bo

theorem ledgStart_eq (s : State) (cause : Nat) (forReset bo : Bool) : ledgStart s cause forReset bo =
    ledgBusy { s with ledg := { s.ledg with write := some (firstWrite s cause forReset bo) } } true := rfl

/-- A write for a reset has begun or waits. -/
theorem ledgTrigger_write (s : State) (cause : Nat) (forReset : Bool) (h : ledgCanWrite s = true) :
    (ledgTrigger s cause forReset).ledg.write ≠ none ∧ (ledgTrigger s cause forReset).ctl = s.ctl ∧
      (ledgTrigger s cause forReset).nv = s.nv ∧ (ledgTrigger s cause forReset).axes = s.axes := by
  rw [ledgTrigger, if_neg (by simp [h])]
  split
  next w hw => exact ⟨by simp [hw], rfl, rfl, rfl⟩
  · rw [ledgStart_eq]
    obtain ⟨r, hr⟩ := ledgBusy_withRegs { s with ledg := { s.ledg with write := some (firstWrite s cause forReset (decide (cause = 2))) } } true
    rw [hr]
    exact ⟨Option.some_ne_none _, rfl, rfl, rfl⟩

section
variable {s : State} {src : Src} (hr : coreRuns s = true) (room : tooMany (takeMsg s src) src = false) (hm : offMgmt src = false)
include hr room hm

theorem resetRequest_outcome (c : BitVec 16) : ∃ addr, exec (.resetRequest src c) s =
    done (writeAnswer src addr (modeRequest (takeMsg s src) src 0 c.toNat)) := by
  obtain ⟨addr, h⟩ := exec_of_writeOf (c := .resetRequest src c) hr rfl
  have h0 : bits (c.toNat * 2 ^ 16) 0 4 = 0 := by rw [bits]; omega
  have h1 : bits (c.toNat * 2 ^ 16) 16 16 = c.toNat := by rw [bits]; omega
  rw [writeOutcome_modeReq _ room hm, h0, h1] at h
  exact ⟨addr, h⟩

theorem modeRequest_ends {m : BitVec 4} (h1 : 1 ≤ m.toNat) (h11 : m.toNat ≤ 11) (hs : ¬ (src = .supervisor ∧ m.toNat = mMaint))
    (hl : ¬ (m.toNat = mStandby ∧ mode s = mMaint ∧ rdB s F.devMode_FROM_LATCH 0 = true)) :
    EndsAnswered s (.modeRequest src m) (if modeAllows s m.toNat 9
      then { s with ctl := { s.ctl with trigs := s.ctl.trigs ++ [⟨m.toNat, 9, some src⟩] } } else s) := by
  have h0 : bits m.toNat 0 4 = m.toNat := by rw [bits]; omega
  have h2 : bits m.toNat 16 16 = 0 := by rw [bits]; omega
  have e := write_ends (c := .modeRequest src m) hr rfl
  rw [writeOutcome_modeReq _ room hm, h0, h2, modeRequest_mode (takeMsg s src) src h1 h11 hs hl, modeAllows_takeMsg] at e
  split
  next ha =>
    rw [if_pos ha] at e
    obtain ⟨k, hk⟩ := hold_eq (takeMsg s src) src
    rw [hk] at e
    exact e.of (answered_withMsg _ k)
  next ha =>
    rw [if_neg ha] at e
    exact e.of (answered_takeMsg s src)

theorem resetRequest_refused {c : BitVec 16} (h : c.toNat ≠ 0x0C5A ∨ src = .supervisor ∨ resetAllowed s = false) :
    EndsAnswered s (.resetRequest src c) s := by
  obtain ⟨addr, he⟩ := resetRequest_outcome hr room hm c
  refine endsAnswered_of he (Answered.trans ?_ (answered_writeAnswer _ _ _))
  rw [modeRequest_off]
  split
  · exact answered_takeMsg s src
  next hn =>
    rw [not_or] at hn
    rw [if_neg]
    · exact answered_takeMsg s src
    · rw [resetAllowed_takeMsg, (h.resolve_left hn.2).resolve_left hn.1]
      decide

/-- What a request for OFF that is granted leads to. -/
theorem resetRequest_granted (hs : src ≠ .supervisor) (ha : resetAllowed s = true) :
    ∃ addr u, Answered s u ∧ exec (.resetRequest src 0x0C5A) s = done (writeAnswer src addr (grantReset u 256 3, 8)) := by
  obtain ⟨addr, he⟩ := resetRequest_outcome hr room hm 0x0C5A
  rw [modeRequest_off, if_neg (by simp [hs]), if_pos (by rwa [resetAllowed_takeMsg])] at he
  exact ⟨addr, _, (answered_takeMsg s src).reply _ _ _ _ _, he⟩

theorem resetRequest_resets (hs : src ≠ .supervisor) (ha : resetAllowed s = true) (hw : ledgCanWrite s = false) :
    Completes s (.resetRequest src 0x0C5A) (fun t => ResetDone s t 256) := by
  obtain ⟨addr, u, a, he⟩ := resetRequest_granted hr room hm hs ha
  rw [grantReset, if_neg (by simp [ledgCanWrite_answered a, hw]), writeAnswer_assertReset _ _ _ hs] at he
  exact ⟨_, he.trans (done_calm _ (calm_assertReset _ _)), resetDone_answered a (resetDone_assertReset u 256 _ rfl rfl)⟩

theorem resetRequest_writes (hs : src ≠ .supervisor) (ha : resetAllowed s = true) (hw : ledgCanWrite s = true) :
    Completes s (.resetRequest src 0x0C5A) (fun t => t.ctl.resetWait = some (s.ctl.resetWait.getD 0 ||| 256) ∧ t.nv = s.nv ∧
      t.axes = s.axes ∧ t.ledg.write ≠ none) := by
  obtain ⟨addr, u, ⟨m, k⟩, he⟩ := resetRequest_granted hr room hm hs ha
  rw [grantReset, if_pos (by rw [ledgCanWrite_answered ⟨m, k⟩, hw])] at he
  have hc : ledgCanWrite { u with ctl := { u.ctl with resetWait := some (u.ctl.resetWait.getD 0 ||| 256) } } = true := by
    show ledgCanWrite u = true
    rw [ledgCanWrite_answered ⟨m, k⟩, hw]
  obtain ⟨hwr, hctl, hnv, hax⟩ := ledgTrigger_write _ 3 true hc
  obtain ⟨t, ht, n, q⟩ := endsAnswered_of he (answered_writeAnswer _ _ _)
  have hu : u.ctl.resetWait = s.ctl.resetWait := congrArg (·.resetWait) k.ctl
  refine ⟨t, ht, ?_, ?_, ?_, ?_⟩
  · rw [show t.ctl.resetWait = _ from congrArg (·.resetWait) q.ctl, ← hu]
    exact congrArg (·.resetWait) hctl
  · exact q.nv.trans (hnv.trans k.nv)
  · exact q.axes.trans (hax.trans k.axes)
  · rw [q.ledg]
    exact hwr

end

/-- Settles O39. -/
theorem modeRequests : Obligations.ModeRequests := by
  intro s src hr room hm
  refine ⟨fun m h1 h11 hs hl => ⟨fun ha => ?_, fun ha => ?_⟩, fun c h => resetRequest_refused hr room hm h,
    fun hs ha hw => resetRequest_resets hr room hm hs ha hw, fun hs ha hw => resetRequest_writes hr room hm hs ha hw⟩
  · have e := modeRequest_ends hr room hm h1 h11 hs hl
    rwa [if_pos ha] at e
  · have e := modeRequest_ends hr room hm h1 h11 hs hl
    rwa [if_neg (by simp [ha])] at e

end Sys2Proof.Machine
end

section
/-!
PROOFS. Messages, subscriptions, the service port and the test port's boundary cells (O58).
-/

namespace Sys2Proof.Machine
open Sys2Proof Sys2Proof.Machine

/-! ## Subscriptions -/

/-- The entry of `k` that a search finds. -/
def findAt {α : Type} (m : List (Nat × α)) (k : Nat) : Option α := (m.find? (fun x => x.1 == k)).map (·.2)

theorem findAt_cons {α : Type} (j : Nat) (a : α) (m : List (Nat × α)) (k : Nat) :
    findAt ((j, a) :: m) k = if j = k then some a else findAt m k := by
  by_cases h : j = k
  · simp [findAt, h]
  · simp [findAt, h]

theorem findAt_mins {α : Type} (m : List (Nat × α)) (k j : Nat) (a : α) :
    findAt (mins m k a) j = if k = j then some a else findAt m j := by
  induction m with
  | nil => exact findAt_cons k a [] j
  | cons x m ih =>
    obtain ⟨i, b⟩ := x
    unfold mins
    split
    · exact findAt_cons k a _ j
    · split
      next h =>
        rw [findAt_cons, findAt_cons, h]
        split
        · rfl
        · rfl
      next h =>
        rw [findAt_cons, findAt_cons, ih]
        by_cases hj : i = j
        · rw [if_pos hj, if_pos hj, if_neg (fun e => h (hj.trans e.symm))]
        · rw [if_neg hj, if_neg hj]

theorem findAt_mdel {α : Type} (m : List (Nat × α)) (k j : Nat) : findAt (mdel m k) j = if k = j then none else findAt m j := by
  induction m with
  | nil => exact (ite_self none).symm
  | cons x m ih =>
    obtain ⟨i, b⟩ := x
    unfold mdel
    split
    next h =>
      rw [ih, findAt_cons, h]
      split
      · rfl
      · rfl
    next h =>
      rw [findAt_cons, findAt_cons, ih]
      by_cases hj : i = j
      · rw [if_pos hj, if_pos hj, if_neg (fun e => h (hj.trans e.symm))]
      · rw [if_neg hj, if_neg hj]

theorem subOf_of_subs {s : State} {m : List (Nat × Subscr)} (h : s.msg.subs = m) (q : Nat) : subOf s q = findAt m q := by
  rw [subOf, h, findAt]

theorem Quiet.subs {s t : State} (h : Quiet s t) : t.msg.subs = s.msg.subs := congrArg (·.subs) h.msg

/-- An answer leaves the subscriptions. -/
theorem subs_reply (s : State) (src : Src) (typ op st : Nat) (body : List Byte) : (reply s src typ op st body).msg.subs = s.msg.subs := by
  have hq (q : Nat) (bs : List Byte) : (qPushBytes s 7 q bs).1.msg.subs = s.msg.subs := (quiet_qPushBytes s 7 q bs).subs
  unfold reply
  split
  · dsimp only
    split
    · exact hq _ _
    · exact hq _ _
  · dsimp only
    split
    · exact hq _ _
    · exact hq _ _
  · rfl
  · rfl
  · rfl

/-- What a SUBSCRIBE makes of the subscriptions. -/
def subscribed (s : State) (src : Src) (r : SubReq) : List (Nat × Subscr) :=
  if subStatus (takeMsg s src) src r ≠ 0 then s.msg.subs
  else if r.cancel then mdel s.msg.subs r.queue.toNat
  else mins s.msg.subs r.queue.toNat ⟨r.svc, r.dstNode, r.dstQueue.toNat, r.rsize, [], 0⟩

theorem msgSubscribe_subs {s : State} (src : Src) (r : SubReq) (hr : coreRuns s = true) :
    Completes s (.msgSubscribe src r) (fun t => t.msg.subs = subscribed s src r) := by
  refine completes_of_done (u := reply (if subStatus (takeMsg s src) src r ≠ 0 then takeMsg s src
    else if r.cancel then modSubs (takeMsg s src) (fun m => mdel m r.queue.toNat)
    else modSubs (takeMsg s src) (fun m => mins m r.queue.toNat ⟨r.svc, r.dstNode, r.dstQueue.toNat, r.rsize, [], 0⟩))
      src 3 0 (subStatus (takeMsg s src) src r) []) (by change execMsgSubscribe .. = _; rw [execMsgSubscribe, clocked_run _ _ hr]) fun t q => ?_
  rw [q.subs, subs_reply, subscribed]
  split
  · rfl
  · split
    · rfl
    · rfl

theorem Completes.imp {s : State} {c : Instr} {P Q : State → Prop} (h : Completes s c P) (k : ∀ t, P t → Q t) : Completes s c Q :=
  let ⟨t, ht, hp⟩ := h
  ⟨t, ht, k t hp⟩

section
variable {s : State} (hr : coreRuns s = true)
include hr

theorem subscriptionDelivery_none {q : Halfword} (h : subOf s q.toNat = none) : Ends s (.subscriptionDelivery q) s := by
  refine ends_of_done ?_
  change execSubscriptionDelivery .. = _
  rw [execSubscriptionDelivery, clocked_run _ _ hr, h]

theorem exec_subscriptionDelivery {q : Halfword} {u : Subscr} (h : subOf s q.toNat = some u) : exec (.subscriptionDelivery q) s =
    done (if subOpen s q.toNat u && decide (0 < subFit q.toNat u) then subDeliver s q.toNat u else s) := by
  change execSubscriptionDelivery .. = _
  rw [execSubscriptionDelivery, clocked_run _ _ hr, h]

/-! ## PUSH and TRACE_READ -/

theorem exec_msgPush (src : Src) (q : Halfword) (prio : Byte) (bs : List Byte) : exec (.msgPush src q prio bs) s =
    done (reply (msgPushRun (takeMsg s src) src q.toNat prio.toNat bs).1 src 5 0
      (msgPushRun (takeMsg s src) src q.toNat prio.toNat bs).2 []) := by
  change execMsgPush .. = _
  rw [execMsgPush, clocked_run _ _ hr]

/-- A PUSH that is refused changes nothing. -/
theorem msgPush_refused {src : Src} {q : Halfword} {prio : Byte} {bs : List Byte}
    (h : (msgPushRun (takeMsg s src) src q.toNat prio.toNat bs).1 = takeMsg s src) : EndsAnswered s (.msgPush src q prio bs) s := by
  refine endsAnswered_of (exec_msgPush hr src q prio bs) ?_
  rw [h]
  exact (answered_takeMsg s src).reply _ _ _ _ _

theorem exec_msgTraceRead (src : Src) (prb : Byte) (count : Halfword) (first : Word) :
    ∃ st body, exec (.msgTraceRead src prb count first) s = done (reply (takeMsg s src) src 6 0 st body) :=
  ⟨_, _, clocked_run _ _ hr⟩

end

theorem msgPushRun_refused {s : State} {src : Src} {q prio : Nat} {bs : List Byte} (h : fromFabric src = true ∨
    bs.length < 2 ∨ 228 < bs.length ∨ bs.length % 2 = 1 ∨ isQueue q = false ∨ tooMany s src = true) :
    (msgPushRun s src q prio bs).1 = s := by
  unfold msgPushRun
  split
  · rfl
  next h1 =>
    split
    · rfl
    next h2 =>
      split
      · rfl
      next h3 =>
        simp only [Bool.or_eq_true, decide_eq_true_eq, Bool.not_eq_true', not_or] at h1 h2
        obtain ⟨hf, ha, hb, hc⟩ := h1
        rcases h with h | h | h | h | h | h
        · exact absurd h hf
        · exact absurd h ha
        · exact absurd h hb
        · exact absurd h hc
        · exact absurd h h2
        · exact absurd h h3

theorem msgPushRun_taken {s : State} {src : Src} {q prio : Nat} {bs : List Byte} (h2 : 2 ≤ bs.length) (h228 : bs.length ≤ 228)
    (he : bs.length % 2 = 0) (hq : isQueue q = true) (room : tooMany s src = false) (hf : fromFabric src = false) :
    msgPushRun s src q prio bs = ((pushFor s 5 q prio (halfwords bs)).1, if (pushFor s 5 q prio (halfwords bs)).2 then 0 else 5) := by
  rw [msgPushRun, if_neg (by simp [hf]; omega), if_neg (by simp [hq]), if_neg (by simp [room])]

/-- A TRACE_READ of a capture that is done reads samples of 32 bits. -/
theorem exec_msgTraceRead_done {s : State} {src : Src} {prb : Byte} {first : Word} (count : Halfword) (hr : coreRuns s = true)
    (room : tooMany (takeMsg s src) src = false) (hd : trcState s = trcDone) (hp : prb.toNat ≤ 63)
    (hen : rdB s F.devTrcProbe_EN prb.toNat = true) (hf : first.toNat < (probe s prb.toNat).ring.length)
    (hw : rdB s F.devTrcProbe_W32 prb.toNat = true) :
    let xs := ((probe s prb.toNat).ring.drop first.toNat).take (min count.toNat 56)
    exec (.msgTraceRead src prb count first) s = done (reply (takeMsg s src) src 6 0 0
      (leBytes 1 prb.toNat ++ [0] ++ leBytes 2 xs.length ++ leBytes 4 first.toNat ++ xs.flatMap (fun x => leBytes 4 (tc 32 x)))) := by
  have hst : traceStatus (takeMsg s src) src prb.toNat first.toNat = 0 := by
    rw [traceStatus, if_neg (by simp [room]), if_neg (fun h => h hd)]
    exact (if_neg (by rintro (h | h); omega; simp [show rdB (takeMsg s src) F.devTrcProbe_EN prb.toNat = true from hen] at h)).trans
      (if_neg (by rw [show probe (takeMsg s src) prb.toNat = probe s prb.toNat from rfl]; omega))
  intro xs
  change execMsgTraceRead .. = _
  rw [execMsgTraceRead, clocked_run _ _ hr]
  dsimp only
  rw [hst, show rdB (takeMsg s src) F.devTrcProbe_W32 prb.toNat = true from hw]
  rfl

/-! ## The service port -/

theorem svcFrame_length : (svcFrame []).length = 6 := by
  simp [svcFrame, leBytes]

theorem takeIn_svc (s : State) (tag : Halfword) {m : List Byte} (h : msgFits false m = true) :
    takeIn s (.svc tag) m = { s with msg := { s.msg with inbox := s.msg.inbox ++ [⟨.svc tag, m⟩] } } := if_pos h

section
variable {s : State} (hr : coreRuns s = true) (hc : Calm s)
include hr hc

theorem exec_svcSend_good {len : Nat} {m : List Byte} {crc : Word} (h8 : 8 ≤ len) (h240 : len ≤ 240) (hl : m.length = len)
    (hcrc : crc.toNat = crc32 (leBytes 2 len ++ m)) (hready : svcReady s = true) (hfit : msgFits false m = true) :
    exec (.svcSend len m crc) s = .next { s with msg := { s.msg with
      inbox := s.msg.inbox ++ [⟨.svc (BitVec.ofNat 16 (fieldB m 2 2)), m⟩] } } := by
  change execSvcSend .. = _
  rw [execSvcSend, if_neg (by simp [svcAlive, hr]), if_pos (by simp [h8, h240, hl, hcrc, hready]),
    takeIn_svc _ _ hfit]
  exact done_calm _ hc

theorem exec_svcSend_bad {len : Nat} {m : List Byte} {crc : Word}
    (h : len < 8 ∨ 240 < len ∨ m.length ≠ len ∨ crc.toNat ≠ crc32 (leBytes 2 len ++ m) ∨ svcReady s = false) :
    exec (.svcSend len m crc) s = .next { s with msg := { s.msg with bad := true } } := by
  change execSvcSend .. = _
  rw [execSvcSend, if_neg (by simp [svcAlive, hr]), if_neg]
  · exact done_calm _ hc
  · simp only [Bool.and_eq_true, decide_eq_true_eq]
    rintro ⟨⟨⟨h8, h240, hl⟩, hcrc⟩, hready⟩
    rcases h with h | h | h | h | h
    · omega
    · omega
    · exact h hl
    · exact h hcrc
    · simp [h] at hready

theorem exec_svcRecv_empty (n : Nat) (h : s.msg.svcLens = []) : exec (.svcRecv n) s = .next { s with msg := { s.msg with
    svcOut := (svcFrame []).take n ++ List.replicate (n - 6) 0 } } := by
  change execSvcRecv .. = _
  rw [execSvcRecv, if_neg (by simp [svcAlive, hr]), h]
  dsimp only
  rw [svcShow, svcFrame_length]
  exact done_calm _ hc

theorem exec_svcStat : exec .svcStat s = .next { s with msg := { s.msg with
    bad := false
    svcOut := leBytes 1 (b2n (svcReady s) + 2 * b2n (svcWaits s) + 4 * b2n s.msg.bad + 8) } } := by
  change execSvcStat .. = _
  rw [execSvcStat, if_neg (by simp [svcAlive, hr])]
  exact done_calm _ hc

end

/-- Settles O58. -/
theorem messagesAndPorts : Obligations.MessagesAndPorts := by
  refine ⟨fun s src hr => ⟨fun r h0 hc => ?_, fun r h0 hc => ?_, fun r h0 => ?_, fun q h => subscriptionDelivery_none hr h,
    fun q u hu h => ?_, fun q u hu ho hf => ?_, fun bs => ends_of_done ?_, fun q prio bs h => msgPush_refused hr (msgPushRun_refused (Or.inr h)),
    fun q prio bs h => msgPush_refused hr (msgPushRun_refused (Or.inl h)), fun q prio bs h2 h228 he hq room hf => ?_, fun prb count first => ?_,
    fun prb count first room hd hp hen hf hw => exec_msgTraceRead_done count hr room hd hp hen hf hw⟩,
    fun s => ⟨fun hr hc len m crc => ⟨fun h8 h240 hl hcrc hready hfit => exec_svcSend_good hr hc h8 h240 hl hcrc hready hfit,
      fun h => exec_svcSend_bad hr hc h⟩, fun hr hc n h => exec_svcRecv_empty hr hc n h, fun hr hc => exec_svcStat hr hc,
      fun hr len m crc n => ?_, fun cells h => ends_of_done ?_, fun cells h => ends_of_done ?_⟩⟩
  · refine (msgSubscribe_subs src r hr).imp fun t ht => ?_
    rw [subscribed, if_neg (by simp [h0]), if_neg (by simp [hc])] at ht
    refine ⟨(subOf_of_subs ht _).trans ?_, fun q hq => (subOf_of_subs ht q).trans ?_⟩
    · rw [findAt_mins, if_pos rfl]
    · rw [findAt_mins, if_neg (Ne.symm hq)]
      rfl
  · refine (msgSubscribe_subs src r hr).imp fun t ht => ?_
    rw [subscribed, if_neg (by simp [h0]), if_pos hc] at ht
    refine ⟨(subOf_of_subs ht _).trans ?_, fun q hq => (subOf_of_subs ht q).trans ?_⟩
    · rw [findAt_mdel, if_pos rfl]
    · rw [findAt_mdel, if_neg (Ne.symm hq)]
      rfl
  · refine (msgSubscribe_subs src r hr).imp fun t ht => ?_
    rwa [subscribed, if_pos h0] at ht
  · refine ends_of_done ((exec_subscriptionDelivery hr hu).trans ?_)
    rw [if_neg]
    rcases h with h | h
    · simp [h]
    · simp [h]
  · refine ends_of_done ((exec_subscriptionDelivery hr hu).trans ?_)
    rw [if_pos (by simp [ho, hf])]
  · exact clocked_run _ _ hr
  · rw [exec_msgPush hr, msgPushRun_taken h2 h228 he hq room hf]
  · obtain ⟨st, body, h⟩ := exec_msgTraceRead hr src prb count first
    exact endsAnswered_of h ((answered_takeMsg s src).reply _ _ _ _ _)
  · refine ⟨ends_of_done ?_, ends_of_done ?_, ends_of_done ?_⟩
    · exact if_pos (by simp [svcAlive, hr])
    · exact if_pos (by simp [svcAlive, hr])
    · exact if_pos (by simp [svcAlive, hr])
  · change execJtagExtest .. = _
    rw [execJtagExtest, if_pos h]
  · change execJtagExtest .. = _
    rw [execJtagExtest, if_neg (by simp [h])]

end Sys2Proof.Machine
end

section
/-!
PROOFS. The flash probe and the attempts at the two slots (O11).
-/

namespace Sys2Proof.Machine
open Sys2Proof Sys2Proof.Machine

/-- A failed start asks for LATCH. -/
theorem quiet_bootFails (s : State) : Quiet (trigger s mLatch 2 none) (bootFails s) := by
  unfold bootFails noteKey
  split
  · exact quiet_raiseD (trigger s mLatch 2 none) 0x18 0
  · exact Quiet.refl _

theorem rd_trigger (s : State) (m c : Nat) (src : Option Src) (f : Fld) (i : Nat) : rd (trigger s m c src) f i = rd s f i := rfl

section
variable {s : State} (hr : coreRuns s = true) (hm : mode s = mLoad)
include hr hm

/-! ## The flash probe -/

section
variable {p : FlashProbe} (hok : s.load.flashOk = false) (ha : rd s F.devBootStatus_A_RESULT 0 = 0)
include hok ha

omit hr in
theorem flashProbe_awaited : ¬ (mode s ≠ mLoad ∨ s.load.flashOk ∨ rd s F.devBootStatus_A_RESULT 0 ≠ 0) := by
  simp [hm, hok, ha]

theorem exec_flashProbeDone_bad (hp : flashUsable p = false) : exec (.flashProbeDone p) s =
    done (bootFails (wr (wr (wr s F.devBootStatus_A_RESULT 0 14) F.devBootStatus_B_RESULT 0 14) F.devBootStatus_HDR_NONE 0 1)) := by
  change execFlashProbeDone p s = _
  rw [execFlashProbeDone, clocked_run _ _ hr, if_neg (flashProbe_awaited hm hok ha), if_neg (by simp [hp])]

theorem exec_flashProbeDone_header {k : Nat} (hp : flashUsable p = true) (hk : hdrInUse s = some k) : exec (.flashProbeDone p) s =
    done (modLoad (wr (wrB (modLoad s (fun l => { l with flashOk := true })) F.devBootStatus_SFDP_FB 0 (flashFallback p))
      F.devBootStatus_HDR_COPY 0 k) (fun l => { l with toTry := [fieldB (hdrCopy s k) 6 2, 1 - fieldB (hdrCopy s k) 6 2] })) := by
  change execFlashProbeDone p s = _
  rw [execFlashProbeDone, clocked_run _ _ hr, if_neg (flashProbe_awaited hm hok ha), if_pos hp, hk]

theorem exec_flashProbeDone_none (hp : flashUsable p = true) (hk : hdrInUse s = none) : exec (.flashProbeDone p) s =
    done (modLoad (wr (wrB (modLoad s (fun l => { l with flashOk := true })) F.devBootStatus_SFDP_FB 0 (flashFallback p))
      F.devBootStatus_HDR_NONE 0 1) (fun l => { l with toTry := [0, 1] })) := by
  change execFlashProbeDone p s = _
  rw [execFlashProbeDone, clocked_run _ _ hr, if_neg (flashProbe_awaited hm hok ha), if_pos hp, hk]

end

omit hr hm in
/-- A probe that goes well shows two fields of BOOT_STATUS. -/
theorem only_bootStatus {t : State} {f : Load → Load} {b : Bool} {h g : Fld} {x : Nat} (hh : h.obj = .devBootStatus)
    (hg : g.obj = .devBootStatus) (q : Quiet (modLoad (wr (wrB (modLoad s (fun l => { l with flashOk := true })) h 0 b) g 0 x) f) t) :
    t.load = f { s.load with flashOk := true } ∧ rd t g 0 = x % 2 ^ g.w ∧
      Only [objKey .devBootStatus 0] { s with load := t.load } t := by
  have hl : t.load = f { s.load with flashOk := true } := q.load
  refine ⟨hl, ?_, ?_⟩
  · rw [q.rd_kind (by rw [hg]; decide) (by rw [hg]; decide)]
    exact rd_wr_same _ g 0 x
  · rw [hl]
    have hb : RegsBut [objKey .devBootStatus 0] s
        (wr (wrB (modLoad s (fun l => { l with flashOk := true })) h 0 b) g 0 x) :=
      (regsBut_wr (modLoad s (fun l => { l with flashOk := true })) h 0 (b2n b) (by simp [hh])).wr g 0 x (by simp [hg])
    exact ⟨_, hb, q⟩

/-! ## The attempts -/

variable {slot : Nat} {rest : List Nat} (ht : s.load.toTry = slot :: rest)
include ht

theorem exec_slotAttemptDone_applied {im : Image} (hc : (checkSlot s slot).2 = some im) : exec .slotAttemptDone s =
    done (trigger (wrB (wr (modLoad (applyImage (modSv (showReason s slot (checkSlot s slot).1) (fun c => { c with mem := [], badPar := [] })) im)
      (fun l => { l with toTry := [] })) F.devBootStatus_BOOTED 0 (slot + 1)) F.devBootStatus_SIG_CHECKED 0 im.checked) mTest 1 none) := by
  change execSlotAttemptDone s = _
  rw [execSlotAttemptDone, clocked_run _ _ hr, ht]
  dsimp only
  rw [if_neg (fun h => h hm), hc]

/-- The state after a slot that failed. -/
def slotFailed (s : State) (slot : Nat) (rest : List Nat) : State :=
  modLoad (modSv (showReason s slot (checkSlot s slot).1) (fun c => { c with mem := [], badPar := [] })) (fun l => { l with toTry := rest })

theorem exec_slotAttemptDone_failed (hc : (checkSlot s slot).2 = none) : exec .slotAttemptDone s =
    done (if rest.isEmpty then bootFails (slotFailed s slot rest) else slotFailed s slot rest) := by
  change execSlotAttemptDone s = _
  rw [execSlotAttemptDone, clocked_run _ _ hr, ht]
  dsimp only
  rw [if_neg (fun h => h hm), hc]
  rfl

end

theorem showReason_eq (s : State) (slot r : Nat) :
    showReason s slot r = wr s (if slot = 0 then F.devBootStatus_A_RESULT else F.devBootStatus_B_RESULT) 0 r := by
  unfold showReason
  split
  · rfl
  · rfl

/-- What a slot that failed leaves. -/
theorem slotFailed_leaves (s : State) (slot : Nat) (rest : List Nat) :
    rd (slotFailed s slot rest) (if slot = 0 then F.devBootStatus_A_RESULT else F.devBootStatus_B_RESULT) 0 = (checkSlot s slot).1 % 16 ∧
    (slotFailed s slot rest).load.toTry = rest ∧ (slotFailed s slot rest).ctl = s.ctl ∧ (slotFailed s slot rest).nv = s.nv ∧
    (slotFailed s slot rest).axes = s.axes := by
  rw [slotFailed, showReason_eq]
  refine ⟨(rd_wr_same s _ 0 _).trans ?_, rfl, rfl, rfl, rfl⟩
  split
  · rfl
  · rfl

/-- Settles O11. -/
theorem startupSlots : Obligations.StartupSlots := by
  refine ⟨fun s p hr hm hok ha => ⟨fun hp => ?_, fun k hp hk => ?_, fun hp hk => ?_⟩,
    fun s slot rest hr hm ht hs => ⟨fun im hc => ?_, fun hc => ?_⟩⟩
  · refine completes_of_done (exec_flashProbeDone_bad hr hm hok ha hp) fun t q' => ?_
    have q := (quiet_bootFails _).trans q'
    refine ⟨?_, ?_, ?_, q.trigs, (congrArg Load.flashOk q.load).trans hok⟩
    · rw [q.rd_kind (by decide) (by decide), rd_trigger]
      simp (disch := decide) only [rd_wr_field, rd_wr_same] <;> rfl
    · rw [q.rd_kind (by decide) (by decide), rd_trigger]
      simp (disch := decide) only [rd_wr_field, rd_wr_same] <;> rfl
    · rw [q.rd_kind (by decide) (by decide), rd_trigger, rd_wr_same]
      rfl
  · refine completes_of_done (exec_flashProbeDone_header hr hm hok ha hp hk) fun t q => ?_
    obtain ⟨hl, hx, ho⟩ := only_bootStatus rfl rfl q
    exact ⟨hx, hl, ho⟩
  · refine completes_of_done (exec_flashProbeDone_none hr hm hok ha hp hk) fun t q => ?_
    obtain ⟨hl, hx, ho⟩ := only_bootStatus rfl rfl q
    exact ⟨hx, hl, ho⟩
  · refine completes_of_done (exec_slotAttemptDone_applied hr hm ht hc) fun t q => ⟨?_, congrArg Load.toTry q.load, _, q.trigs⟩
    rw [q.rd_kind (by decide) (by decide), rd_trigger, wrB]
    refine (rd_wr_field _ F.devBootStatus_SIG_CHECKED F.devBootStatus_BOOTED 0 _ rfl (by decide)).trans ((rd_wr_same _ _ _ _).trans ?_)
    exact Nat.mod_eq_of_lt (show slot + 1 < 2 ^ 2 by omega)
  · obtain ⟨hreason, htry, hctl, hnv, hax⟩ := slotFailed_leaves s slot rest
    refine completes_of_done (exec_slotAttemptDone_failed hr hm ht hc) fun t q' => ?_
    by_cases hn : rest = []
    · rw [if_pos (by simp [hn])] at q'
      have q := (quiet_bootFails _).trans q'
      refine ⟨?_, (congrArg Load.toTry q.load).trans htry, ?_, q.nv.trans hnv, q.axes.trans hax⟩
      · rw [q.rd_kind (by split <;> decide) (by split <;> decide), rd_trigger]
        exact hreason
      · rw [if_pos hn, q.trigs]
        exact congrArg (fun c : Ctl => c.trigs ++ [⟨mLatch, 2, none⟩]) hctl
    · rw [if_neg (by simp [hn])] at q'
      refine ⟨?_, (congrArg Load.toTry q'.load).trans htry, ?_, q'.nv.trans hnv, q'.axes.trans hax⟩
      · rw [q'.rd_kind (by split <;> decide) (by split <;> decide)]
        exact hreason
      · rw [if_neg hn, q'.trigs, hctl, List.append_nil]

end Sys2Proof.Machine
end

section
/-!
PROOFS. Ranges and multiplexer sources (O17): what touches one axis and the status of its front end.
-/

namespace Sys2Proof.Machine
open Sys2Proof Sys2Proof.Machine

/-! ## What touches one axis -/

/-- `u` is `s` but for axis `n` and the objects of `ks`. -/
structure AxisOnly (ks : List Nat) (n : Nat) (s u : State) : Prop where
  regs : RegsBut ks s u
  axes : ∀ m, m ≠ n → ax u m = ax s m
  rest : u = { s with regs := u.regs, axes := u.axes }

theorem AxisOnly.refl (ks : List Nat) (n : Nat) (s : State) : AxisOnly ks n s s := ⟨.refl ks s, fun _ _ => rfl, rfl⟩

theorem AxisOnly.trans {ks : List Nat} {n : Nat} {s t u : State} (h : AxisOnly ks n s t) (k : AxisOnly ks n t u) :
    AxisOnly ks n s u := by
  refine ⟨h.regs.trans k.regs, fun m hm => (k.axes m hm).trans (h.axes m hm), ?_⟩
  have a := h.rest
  have b := k.rest
  rw [a] at b
  exact b

theorem AxisOnly.setObj {ks : List Nat} {n : Nat} {s t : State} (h : AxisOnly ks n s t) (o : ObjId) (i v : Nat) (hk : objKey o i ∈ ks) :
    AxisOnly ks n s (setObj t o i v) := h.trans ⟨regsBut_setObj t o i v hk, fun _ _ => rfl, rfl⟩

theorem AxisOnly.wr {ks : List Nat} {n : Nat} {s t : State} (h : AxisOnly ks n s t) (f : Fld) (i x : Nat) (hk : objKey f.obj i ∈ ks) :
    AxisOnly ks n s (wr t f i x) := h.setObj _ _ _ hk

theorem AxisOnly.incSat {ks : List Nat} {n : Nat} {s t : State} (h : AxisOnly ks n s t) (f : Fld) (i : Nat) (hk : objKey f.obj i ∈ ks) :
    AxisOnly ks n s (incSat t f i) := by
  rw [Machine.incSat, addSat]
  exact h.wr f i _ hk

theorem AxisOnly.setAx {ks : List Nat} {n : Nat} {s t : State} (h : AxisOnly ks n s t) (a : Axis) : AxisOnly ks n s (setAx t n a) :=
  h.trans ⟨.of_eq rfl, fun _ hm => ax_setAx_ne t a hm, rfl⟩

theorem AxisOnly.modFe {ks : List Nat} {n : Nat} {s t : State} (h : AxisOnly ks n s t) (f : AxFe → AxFe) :
    AxisOnly ks n s (modFe t n f) := h.setAx _

theorem AxisOnly.modExc {ks : List Nat} {n : Nat} {s t : State} (h : AxisOnly ks n s t) (f : AxExc → AxExc) :
    AxisOnly ks n s (modExc t n f) := h.setAx _

/-- What touches one axis, as the statements say it. -/
theorem AxisOnly.only {ks : List Nat} {n : Nat} {s u t : State} (h : AxisOnly ks n s u) (q : Quiet u t) :
    Only ks { s with axes := t.axes } t ∧ ∀ m, m ≠ n → ax t m = ax s m := by
  refine ⟨⟨u.regs, h.regs, ?_⟩, fun m hm => (q.ax m).trans (h.axes m hm)⟩
  have hu := h.rest
  rw [hu] at q
  rw [q.axes]
  exact q

/-- Without registers of its own, a change of one axis is quiet beside it. -/
theorem AxisOnly.quiet {n : Nat} {s u t : State} (h : AxisOnly [] n s u) (hr : u.regs = s.regs) (q : Quiet u t) :
    Quiet { s with axes := t.axes } t ∧ ∀ m, m ≠ n → ax t m = ax s m := by
  refine ⟨?_, fun m hm => (q.ax m).trans (h.axes m hm)⟩
  have hu := h.rest
  rw [hu, hr] at q
  rw [q.axes]
  exact q

theorem ax_modFe (s : State) (n : Nat) (f : AxFe → AxFe) : ax (modFe s n f) n = { ax s n with fe := f (ax s n).fe } := ax_setAx_same _ _ _

theorem ax_modExc (s : State) (n : Nat) (f : AxExc → AxExc) : ax (modExc s n f) n = { ax s n with exc := f (ax s n).exc } :=
  ax_setAx_same _ _ _

/-! ## Ranges -/

theorem rangeOf_of_regs {s u : State} (h : u.regs = s.regs) (n : Nat) (cur : Bool) : rangeOf u n cur = rangeOf s n cur := by
  unfold rangeOf rd getObj
  rw [h]

/-- The field that holds the range of a pair. -/
def rngFld (cur : Bool) : Fld := if cur then F.axFeStat_I_RANGE else F.axFeStat_R_RANGE

theorem rngFld_obj (c : Bool) : (rngFld c).obj = .axFeStat := by cases c <;> rfl

theorem rngFld_w (c : Bool) : (rngFld c).w = 2 := by cases c <;> rfl

theorem rangeOf_eq (s : State) (n : Nat) (c : Bool) : rangeOf s n c = rd s (rngFld c) n := by
  cases c
  · rw [rangeOf, if_neg Bool.false_ne_true, rngFld, if_neg Bool.false_ne_true]
  · rw [rangeOf, if_pos rfl, rngFld, if_pos rfl]

theorem setRange_eq (s : State) (n : Nat) (c : Bool) (r : Nat) : setRange s n c r = wr s (rngFld c) n r := by
  cases c
  · rw [setRange, if_neg Bool.false_ne_true, rngFld, if_neg Bool.false_ne_true]
  · rw [setRange, if_pos rfl, rngFld, if_pos rfl]

/-- The two ranges lie beside each other. -/
theorem rngFld_apart (c : Bool) :
    (rngFld !c).lo + (rngFld !c).w ≤ (rngFld c).lo ∨ (rngFld c).lo + (rngFld c).w ≤ (rngFld !c).lo := by
  cases c
  · decide
  · decide

/-- The count of changes lies above the ranges. -/
theorem rngFld_below (c : Bool) : (rngFld c).lo + (rngFld c).w ≤ F.axFeStat_R_CHANGES.lo := by
  cases c
  · decide
  · decide

theorem rangeOf_setRange (s : State) (n : Nat) (c : Bool) (r : Nat) : rangeOf (setRange s n c r) n c = r % 4 := by
  rw [rangeOf_eq, setRange_eq, rd_wr_same, rngFld_w, show 2 ^ 2 = 4 by rfl]

theorem rangeOf_setRange_other (s : State) (n : Nat) (c : Bool) (r : Nat) :
    rangeOf (setRange s n c r) n (!c) = rangeOf s n (!c) := by
  rw [rangeOf_eq, rangeOf_eq, setRange_eq]
  exact rd_wr_field s (rngFld c) (rngFld !c) n r ((rngFld_obj _).trans (rngFld_obj _).symm) (rngFld_apart c)

theorem incSat_axes (s : State) (f : Fld) (n : Nat) : (incSat s f n).axes = s.axes := by
  rw [incSat, addSat]
  rfl

theorem rangeOf_changes (s : State) (n : Nat) (c : Bool) :
    rangeOf (incSat s F.axFeStat_R_CHANGES n) n c = rangeOf s n c := by
  rw [incSat, addSat, rangeOf_eq, rangeOf_eq]
  exact rd_wr_field s F.axFeStat_R_CHANGES (rngFld c) n _ (rngFld_obj c) (.inl (rngFld_below c))

theorem changes_setRange (s : State) (n : Nat) (c : Bool) (r : Nat) :
    rd (setRange s n c r) F.axFeStat_R_CHANGES n = rd s F.axFeStat_R_CHANGES n := by
  rw [setRange_eq]
  exact rd_wr_field s (rngFld c) F.axFeStat_R_CHANGES n r (rngFld_obj c).symm (.inr (rngFld_below c))

theorem setRange_axes (s : State) (n : Nat) (c : Bool) (r : Nat) : (setRange s n c r).axes = s.axes := by
  rw [setRange_eq]
  rfl

/-- The registers a change of range writes. -/
def feKeys (n : Nat) : List Nat := [objKey .axFeStat n]

theorem AxisOnly.setRange {n : Nat} {s t : State} (h : AxisOnly (feKeys n) n s t) (cur : Bool) (r : Nat) :
    AxisOnly (feKeys n) n s (setRange t n cur r) := by
  rw [setRange_eq]
  exact h.wr _ n r (by rw [rngFld_obj]; exact List.mem_cons_self)

theorem AxisOnly.openWindow {ks : List Nat} {n : Nat} {s t : State} (h : AxisOnly ks n s t) (cur : Bool) (len : Nat) :
    AxisOnly ks n s (openWindow t n cur len) := by
  unfold Machine.openWindow
  split
  · exact h.modFe _
  · split
    · exact h.modFe _
    · exact h.modExc _

theorem openWindow_regs (s : State) (n : Nat) (cur : Bool) (len : Nat) : (openWindow s n cur len).regs = s.regs := by
  unfold openWindow
  split
  · rfl
  · split
    · rfl
    · rfl

/-- An open window keeps the down-range counts. -/
theorem openWindow_counts (s : State) (n : Nat) (cur : Bool) (len : Nat) :
    (ax (openWindow s n cur len) n).fe.iDn = (ax s n).fe.iDn ∧ (ax (openWindow s n cur len) n).fe.rDn = (ax s n).fe.rDn := by
  unfold openWindow
  split
  · rw [ax_modFe]; exact ⟨rfl, rfl⟩
  · split
    · rw [ax_modFe]; exact ⟨rfl, rfl⟩
    · rw [ax_modExc]; exact ⟨rfl, rfl⟩

/-- The ripe requests go. -/
def dropRipe (s : State) (n : Nat) (cur : Bool) (t : State) : State :=
  modFe t n (fun f => if cur then { f with iReq := leftReq s f.iReq } else { f with rReq := leftReq s f.rReq })

/-- The down-range count restarts. -/
def restartDown (n : Nat) (cur : Bool) (t : State) : State :=
  modFe t n (fun f => if cur then { f with iDn := 0, iPeak := 0 } else { f with rDn := 0, rPeak := 0 })

theorem changeRange_none {s : State} {n : Nat} {cur : Bool} (h : newRange s n cur = none) : changeRange s n cur = dropRipe s n cur s := by
  rw [changeRange, h]
  rfl

theorem changeRange_some {s : State} {n : Nat} {cur : Bool} {r : Nat} (h : newRange s n cur = some r) : changeRange s n cur =
    openWindow (restartDown n cur (dropRipe s n cur (incSat (setRange s n cur r) F.axFeStat_R_CHANGES n))) n cur
      (rd s F.axFeCtl_RNG_PW n) := by
  rw [changeRange, h]
  rfl

theorem restartDown_counts (t : State) (n : Nat) (cur : Bool) :
    if cur then (ax (restartDown n cur t) n).fe.iDn = 0 else (ax (restartDown n cur t) n).fe.rDn = 0 := by
  rw [restartDown, ax_modFe]
  cases cur
  · rfl
  · rfl

/-- A change of range. -/
theorem changeRange_leaves {s t : State} {n : Nat} {cur : Bool} {r : Nat} (h : newRange s n cur = some r)
    (q : Quiet (changeRange s n cur) t) (hn : n < 48) :
    rangeOf t n cur = r % 4 ∧ rangeOf t n (!cur) = rangeOf s n (!cur) ∧
      rd t F.axFeStat_R_CHANGES n = min (rd s F.axFeStat_R_CHANGES n + 1) (2 ^ F.axFeStat_R_CHANGES.w - 1) ∧
      (if cur then (ax t n).fe.iDn = 0 else (ax t n).fe.rDn = 0) ∧
      Only [objKey .axFeStat n] { s with axes := t.axes } t ∧ ∀ m, m ≠ n → ax t m = ax s m := by
  have ho : AxisOnly (feKeys n) n s (changeRange s n cur) := by
    rw [changeRange_some h]
    exact ((((AxisOnly.refl (feKeys n) n s).setRange cur r).incSat F.axFeStat_R_CHANGES n List.mem_cons_self).modFe _
      |>.modFe _).openWindow cur _
  have hg : (changeRange s n cur).regs = (incSat (setRange s n cur r) F.axFeStat_R_CHANGES n).regs := by
    rw [changeRange_some h]
    exact openWindow_regs _ _ _ _
  have hq (c : Bool) : rangeOf t n c = rangeOf (incSat (setRange s n cur r) F.axFeStat_R_CHANGES n) n c := by
    rw [← rangeOf_of_regs hg n c, rangeOf_eq, rangeOf_eq]
    exact q.rd_kind (by rw [rngFld_obj]; decide) (by rw [rngFld_obj]; exact hn)
  obtain ⟨h1, h2⟩ := ho.only q
  refine ⟨?_, ?_, ?_, ?_, h1, h2⟩
  · rw [hq, rangeOf_changes, rangeOf_setRange]
  · rw [hq, rangeOf_changes, rangeOf_setRange_other]
  · rw [q.rd_kind (by decide) hn, rd_of_regs hg, rd_incSat, changes_setRange]
  · rw [q.ax, changeRange_some h, (openWindow_counts _ _ _ _).1, (openWindow_counts _ _ _ _).2]
    exact restartDown_counts _ n cur

theorem rd_of_ends {u t : State} {n : Nat} (q : Quiet u t) (hn : n < 48) (c : Bool) : rangeOf t n c = rangeOf u n c := by
  rw [rangeOf_eq, rangeOf_eq]
  exact q.rd_kind (by rw [rngFld_obj]; decide) (by rw [rngFld_obj]; exact hn)

theorem exec_rangeChange {s : State} (n : Fin 48) (cur : Bool) (hr : coreRuns s = true) :
    exec (.rangeChange n cur) s = done (if cur && !(ax s n).pwm.active then s else changeRange s n cur) :=
  exec_of_clocked hr (show execRangeChange n cur s = _ by rw [execRangeChange])

theorem exec_muxSwitch {s : State} (n : Fin 48) (cur : Bool) (hr : coreRuns s = true) :
    exec (.muxSwitch n cur) s = done (setSource s n cur (srcObj s n cur)) :=
  exec_of_clocked hr (show execMuxSwitch n cur s = _ by rw [execMuxSwitch, switchMux])

theorem changeRange_moves {s : State} {n : Nat} {cur : Bool} (h : cur = true → (ax s n).pwm.active = true) :
    (if cur && !(ax s n).pwm.active then s else changeRange s n cur) = changeRange s n cur := by
  refine if_neg fun hc => ?_
  rw [Bool.and_eq_true] at hc
  rw [h hc.1] at hc
  exact absurd hc.2 (by decide)

/-! ## Sources -/

/-- A pair takes a source, and its multiplexer settles. -/
def takeSource (s : State) (n : Nat) (cur : Bool) (src len : Nat) : State :=
  clearRanging (modFe s n (fun f => if cur then { f with isrc := src, iMux := some len } else { f with rsrc := src, rMux := some len })) n cur

theorem AxisOnly.takeSource {ks : List Nat} {n : Nat} {s t : State} (h : AxisOnly ks n s t) (cur : Bool) (src len : Nat) :
    AxisOnly ks n s (takeSource t n cur src len) := by
  rw [Machine.takeSource, clearRanging]
  exact (h.modFe _).modFe _

theorem takeSource_regs (s : State) (n : Nat) (cur : Bool) (src len : Nat) : (takeSource s n cur src len).regs = s.regs := rfl

theorem srcOf_of_axes {s u : State} (h : u.axes = s.axes) (n : Nat) (c : Bool) : srcOf u n c = srcOf s n c := by
  rw [srcOf, srcOf, ax_of_axes h]

theorem srcOf_takeSource (s : State) (n : Nat) (cur c : Bool) (src len : Nat) :
    srcOf (takeSource s n cur src len) n c = if c = cur then src else srcOf s n c := by
  rw [takeSource, clearRanging, srcOf, ax_modFe, ax_modFe]
  cases cur
  · cases c
    · rfl
    · rfl
  · cases c
    · rfl
    · rfl

/-- The range a pair starts in at a source. -/
def rangeAt (s : State) (n : Nat) (cur : Bool) (src : Nat) : Nat :=
  if autoOf s n cur && decide (src = 0) then 0 else fixOf s n cur

theorem startRange_takeSource (s : State) (n : Nat) (cur : Bool) (src len : Nat) :
    startRange (takeSource s n cur src len) n cur = setRange (takeSource s n cur src len) n cur (rangeAt s n cur src) := by
  rw [startRange, autoRanging, srcOf_takeSource, if_pos rfl, rangeAt]
  rfl

/-- The proof window of a new source. -/
def muxLen (s : State) (n : Nat) (cur : Bool) : Nat :=
  if cur || inSine s n then rd s F.axFeCtl_MUX_PW n else max (rd s F.axFeCtl_MUX_PW n) (rd s F.axExcCtl_PROOF n)

/-- A pair with its new source, in the range it starts in. -/
def started (s : State) (n : Nat) (cur : Bool) (src : Nat) : State := startRange (takeSource s n cur src (muxLen s n cur)) n cur

theorem setSource_changes {s : State} {n : Nat} {cur : Bool} {src : Nat} (h : src ≠ srcOf s n cur) :
    setSource s n cur src = if rangeOf (started s n cur src) n cur = rangeOf s n cur then started s n cur src
      else incSat (started s n cur src) F.axFeStat_R_CHANGES n := by
  rw [setSource, if_neg h]
  rfl

/-- A source that is not in force. -/
theorem setSource_ne {s : State} {n : Nat} {cur : Bool} {src : Nat} (h : src ≠ srcOf s n cur) :
    ∃ len, setSource s n cur src = setRange (takeSource s n cur src len) n cur (rangeAt s n cur src) ∨
      setSource s n cur src = incSat (setRange (takeSource s n cur src len) n cur (rangeAt s n cur src)) F.axFeStat_R_CHANGES n := by
  refine ⟨muxLen s n cur, ?_⟩
  rw [← startRange_takeSource, setSource_changes h]
  split
  · exact .inl rfl
  · exact .inr rfl

/-- What a pair's new source leaves, whether its range counts as changed or not. -/
theorem setSource_leaves {s : State} {n : Nat} {cur : Bool} {src : Nat} (h : src ≠ srcOf s n cur) :
    srcOf (setSource s n cur src) n cur = src ∧ srcOf (setSource s n cur src) n (!cur) = srcOf s n (!cur) ∧
    rangeOf (setSource s n cur src) n cur = rangeAt s n cur src % 4 ∧
    rangeOf (setSource s n cur src) n (!cur) = rangeOf s n (!cur) ∧ AxisOnly (feKeys n) n s (setSource s n cur src) := by
  obtain ⟨len, hu⟩ := setSource_ne h
  have hsrc (u : State) (ha : u.axes = (takeSource s n cur src len).axes) : srcOf u n cur = src ∧ srcOf u n (!cur) = srcOf s n (!cur) := by
    rw [srcOf_of_axes ha, srcOf_of_axes ha, srcOf_takeSource, srcOf_takeSource, if_pos rfl, if_neg (by simp)]
    exact ⟨rfl, rfl⟩
  have hm := ((AxisOnly.refl (feKeys n) n s).takeSource cur src len).setRange cur (rangeAt s n cur src)
  have ha := setRange_axes (takeSource s n cur src len) n cur (rangeAt s n cur src)
  obtain hu | hu := hu
  · rw [hu, rangeOf_setRange, rangeOf_setRange_other]
    exact ⟨(hsrc _ ha).1, (hsrc _ ha).2, rfl, rangeOf_of_regs (takeSource_regs _ _ _ _ _) _ _, hm⟩
  · rw [hu, rangeOf_changes, rangeOf_changes, rangeOf_setRange, rangeOf_setRange_other]
    have hb := (incSat_axes (setRange (takeSource s n cur src len) n cur (rangeAt s n cur src)) F.axFeStat_R_CHANGES n).trans ha
    exact ⟨(hsrc _ hb).1, (hsrc _ hb).2, rfl, rangeOf_of_regs (takeSource_regs _ _ _ _ _) _ _,
      hm.incSat F.axFeStat_R_CHANGES n List.mem_cons_self⟩

/-- Settles O17: an instant for a change of range, and a written source that takes effect. -/
theorem rangesAndSources : Obligations.RangesAndSources := by
  refine ⟨fun s n cur hr => ⟨fun hc ha => ?_, fun hc hn => ?_, fun r hc hn => ?_⟩, fun s n cur hr => ⟨fun h => ?_, fun h => ?_⟩⟩
  · refine ends_of_done ((exec_rangeChange n cur hr).trans ?_)
    rw [hc, ha]
    rfl
  · refine completes_of_done (exec_rangeChange n cur hr) fun t q => ?_
    rw [changeRange_moves hc, changeRange_none hn] at q
    obtain ⟨h1, h2⟩ := ((AxisOnly.refl [] n.val s).modFe _).quiet rfl q
    exact ⟨rd_of_ends q n.isLt cur, h1, h2⟩
  · refine completes_of_done (exec_rangeChange n cur hr) fun t q => ?_
    rw [changeRange_moves hc] at q
    exact changeRange_leaves hn q n.isLt
  · refine ends_of_done ((exec_muxSwitch n cur hr).trans ?_)
    rw [setSource, if_pos h]
  · refine completes_of_done (exec_muxSwitch n cur hr) fun t q => ?_
    obtain ⟨h1, h2, h3, h4, ho⟩ := setSource_leaves h
    obtain ⟨h5, h6⟩ := ho.only q
    exact ⟨(srcOf_of_axes q.axes n cur).trans h1, (srcOf_of_axes q.axes n (!cur)).trans h2, (rd_of_ends q n.isLt cur).trans h3,
      (rd_of_ends q n.isLt (!cur)).trans h4, h5, h6⟩

end Sys2Proof.Machine
end

section
/-!
PROOFS. Accepted writes of links, fabric, supervisor, ledger, calendar, events, OTP and queues (O37). The command objects among them
have no field a rule of access or of MAINT speaks of: only their own rules of mode and of a busy device decide.
-/

namespace Sys2Proof.Machine
open Sys2Proof Sys2Proof.Machine

/-! ## Writes of command objects -/

/-- An object no rule of access, of MAINT or of the loops speaks of. -/
structure Command (o : ObjId) : Prop where
  writes : writable o = true
  open_ : accMask o .rwm = 0
  loop : ∀ i, loopObj o i = none
  front : ∀ s i, rulesFront s o i = []
  track : ∀ s t i, rulesTrack s t o i = []
  loops : ∀ s i, rulesLoop s o i = []
  word : ∀ i, paramWord o i = none
  own : o ≠ .axMode ∧ o ≠ .axPosSet

theorem Command.forwards {o : ObjId} (h : Command o) (s : State) (i : Nat) : forwards s o i = false := by
  rw [Machine.forwards, h.word, decide_eq_false (not_or.mpr h.own)]
  exact Bool.and_false _

theorem any_broken {old v : Nat} {l : List WRule} (h : ∀ r ∈ l, r.ok = true) : l.any (broken old v) = false := by
  rw [List.any_eq_false]
  intro r hr
  rw [broken, h r hr]
  exact Bool.false_ne_true

/-- A write of a command object that keeps the object's own rules is accepted. -/
theorem judge_command {s : State} {src : Src} {o : ObjId} {i w : Nat} (h : Command o) (hm : offMgmt src = false)
    (ht : objThere o i = true) (hv : ¬ (src = .supervisor ∧ (o = .devSvCtl ∨ o = .devSvCmd)))
    (hd : ∀ u t, ∀ r ∈ rulesDevice u t o i w, r.ok = true) (hmode : ∀ v, ∀ r ∈ modeRules s o i v w, r.ok = true)
    (hb : ∀ v, ∀ r ∈ busyRules s o i v w, r.ok = true) : judge s src o i w = 0 := by
  unfold judge
  simp only []
  rw [if_neg (by simp [hm, h.writes, ht]), if_neg ?_, accessRules, h.front, h.track, h.loops, List.nil_append, List.nil_append,
    List.nil_append, if_neg (by rw [any_broken (hd _ _)]; exact Bool.false_ne_true), if_neg (by rw [h.forwards]; exact Bool.false_ne_true),
    if_neg ?_, if_neg ?_]
  · rw [busyBad, any_broken (hb _), h.word]
    exact Bool.false_ne_true
  · rw [modeBad, any_broken (hmode _), h.open_, h.loop]
    simp
  · rw [svBarred, h.open_]
    simpa using hv

/-- A write that a rule of access refuses. -/
theorem judge_accessBad {s : State} {src : Src} {o : ObjId} {i w : Nat}
    (h : (accessRules (setObj s o i (mergeVal o (baseVal s o i) w)) s o i w).any (broken (baseVal s o i) (mergeVal o (baseVal s o i) w)) =
      true) : judge s src o i w ≠ 0 := by
  unfold judge
  simp only []
  rw [h]
  split
  · decide
  · split
    · decide
    · rw [if_pos rfl]
      decide

theorem Command.accessRules {o : ObjId} (h : Command o) (s t : State) (i w : Nat) : accessRules s t o i w = rulesDevice s t o i w := by
  rw [Machine.accessRules, h.front, h.track, h.loops]
  rfl

/-- A write that a rule of mode refuses. -/
theorem judge_modeBad {s : State} {src : Src} {o : ObjId} {i w : Nat} (hf : forwards s o i = false)
    (h : modeBad s o i (baseVal s o i) (mergeVal o (baseVal s o i) w) w = true) : judge s src o i w ≠ 0 := by
  unfold judge
  simp only []
  rw [hf, h]
  split
  · decide
  · split
    · decide
    · split
      · decide
      · simp

theorem command_devFabCmd : Command .devFabCmd :=
  ⟨by decide, rfl, fun _ => rfl, fun _ _ => rfl, fun _ _ _ => rfl, fun _ _ => rfl, fun _ => rfl, by decide⟩

theorem command_devSvCmd : Command .devSvCmd :=
  ⟨by decide, rfl, fun _ => rfl, fun _ _ => rfl, fun _ _ _ => rfl, fun _ _ => rfl, fun _ => rfl, by decide⟩

theorem command_devCalSet : Command .devCalSet :=
  ⟨by decide, rfl, fun _ => rfl, fun _ _ => rfl, fun _ _ _ => rfl, fun _ _ => rfl, fun _ => rfl, by decide⟩

theorem command_devEvRaise : Command .devEvRaise :=
  ⟨by decide, rfl, fun _ => rfl, fun _ _ => rfl, fun _ _ _ => rfl, fun _ _ => rfl, fun _ => rfl, by decide⟩

theorem command_devEvCmd : Command .devEvCmd :=
  ⟨by decide, rfl, fun _ => rfl, fun _ _ => rfl, fun _ _ _ => rfl, fun _ _ => rfl, fun _ => rfl, by decide⟩

theorem command_qPop : Command .qPop :=
  ⟨by decide, rfl, fun _ => rfl, fun _ _ => rfl, fun _ _ _ => rfl, fun _ _ => rfl, fun _ => rfl, by decide⟩

theorem no_rule {P : WRule → Prop} : ∀ r ∈ ([] : List WRule), P r := fun _ h => absurd h List.not_mem_nil

theorem rules_one {b : Bool} (h : b = true) : ∀ r ∈ [ruleAll b], r.ok = true := by
  intro r hr
  rw [List.mem_singleton.mp hr]
  exact h

theorem command_outcome {s : State} {src : Src} {o : ObjId} {i w : Nat} (h : Command o) (room : tooMany (takeMsg s src) src = false)
    (hj : judge (takeMsg s src) src o i w = 0) : writeOutcome s ⟨src, o, i, w⟩ =
      effect (takeMsg s src) src o i (baseVal (takeMsg s src) o i) (mergeVal o (baseVal (takeMsg s src) o i) w) w := by
  rw [writeOutcome, if_neg (by rw [room]; exact Bool.false_ne_true)]
  exact writeObj_accepted hj (h.forwards _ _) (h.word _)

/-! ## The halt -/

/-- A halt on command: the stop, its event, and the core no longer waiting. -/
theorem svHalt_command (s : State) :
    svHalt s 4 = modSv (raise (svStop s 4) 0x91 devAxis 4) (fun c => { c with wfi := false, late := none }) := by
  rw [svHalt, if_neg (by decide), raiseD]

/-- What a halt on command shows and leaves. -/
theorem svHalt_shows (s : State) : rdB (svHalt s 4) F.devSvStat_RUNNING 0 = false ∧ rd (svHalt s 4) F.devSvStat_HALT_CAUSE 0 = 4 ∧
    (svHalt s 4).nv = s.nv ∧ (svHalt s 4).axes = s.axes := by
  have hr : (svHalt s 4).regs = (svStop s 4).regs := by rw [svHalt_command, modSv_regs, raise_regs]
  refine ⟨?_, ?_, ?_, ?_⟩
  · rw [rdB_of_regs hr, svStop_running]
  · rw [rd_of_regs hr, svStop_cause]
  · rw [svHalt_command]
    exact nv_of_held (by simp)
  · rw [svHalt_command, modSv_axes, raise_axes, svStop, wr_axes, wr_axes, wr_axes, wr_axes]

/-- What the command to halt shows and leaves. -/
theorem svCmd_halts (s : State) : rdB (svCmd s 2) F.devSvStat_RUNNING 0 = false ∧
    rd (svCmd s 2) F.devSvStat_HALT_CAUSE 0 = (if rdB s F.devSvStat_RUNNING 0 then 4 else rd s F.devSvStat_HALT_CAUSE 0) ∧
    (svCmd s 2).nv = s.nv ∧ (svCmd s 2).axes = s.axes := by
  rw [svCmd, if_neg (by decide), show bit 2 1 = true from by decide, Bool.true_and]
  by_cases hr : rdB s F.devSvStat_RUNNING 0 = true
  · rw [if_pos hr, if_pos hr]
    exact svHalt_shows s
  · rw [if_neg hr, if_neg hr]
    exact ⟨Bool.not_eq_true _ ▸ hr, rfl, rfl, rfl⟩

/-- What the command to restart shows and leaves. -/
theorem svCmd_restarts (s : State) : rdB (svCmd s 1) F.devSvStat_RUNNING 0 = false ∧ rdB (svCmd s 1) F.devSvStat_RELOADING 0 = true ∧
    rd (svCmd s 1) F.devSvStat_HALT_CAUSE 0 = 4 ∧ (svCmd s 1).nv = s.nv ∧ (svCmd s 1).axes = s.axes := by
  rw [svCmd, if_pos (by decide)]
  have h : let u := if rdB s F.devSvStat_RUNNING 0 then svHalt s 4 else wr s F.devSvStat_HALT_CAUSE 0 4
      rdB u F.devSvStat_RUNNING 0 = false ∧ rd u F.devSvStat_HALT_CAUSE 0 = 4 ∧ u.nv = s.nv ∧ u.axes = s.axes := by
    intro u
    by_cases hr : rdB s F.devSvStat_RUNNING 0 = true
    · rw [show u = _ from if_pos hr]
      exact svHalt_shows s
    · rw [show u = _ from if_neg hr]
      refine ⟨?_, rd_wr_same s F.devSvStat_HALT_CAUSE 0 4, nv_of_held (by simp), wr_axes _ _ _ _⟩
      simp (disch := decide) only [rdB, rd_wr_field]
      exact Bool.not_eq_true _ ▸ hr
  generalize (if rdB s F.devSvStat_RUNNING 0 then svHalt s 4 else wr s F.devSvStat_HALT_CAUSE 0 4) = u at h
  obtain ⟨h1, h2, h3, h4⟩ := h
  refine ⟨?_, ?_, ?_, (nv_of_held (by simp)).trans h3, (wr_axes _ _ _ _).trans h4⟩
  · simp (disch := decide) only [rdB, rd_wr_field]
    exact h1
  · rw [rdB, rd_wr_same]
    decide
  · simp (disch := decide) only [rd_wr_field]
    exact h2

/-! ## What the commands do -/

section
variable {s : State} {src : Src} (hr : coreRuns s = true) (room : tooMany (takeMsg s src) src = false) (hm : offMgmt src = false)
include hr room hm

theorem fabCommand_ends {c : Instr} {w : Nat} (hc : writeOf s c = some ⟨src, .devFabCmd, 0, w⟩) (h : bit w 0 = false ∨ isGm s = true) :
    EndsAnswered s c (fabCmd (takeMsg s src) w) := by
  have e := write_ends hr hc
  rw [command_outcome command_devFabCmd room (judge_command command_devFabCmd hm rfl (by simp) (fun _ _ => no_rule)
    (fun _ => rules_one ?_) (fun _ => no_rule))] at e
  · exact e
  · rcases h with h | h
    · rw [h]; rfl
    · rw [show isGm (takeMsg s src) = isGm s from rfl, h]; exact Bool.or_true _

theorem fabUnquar_ends (m : Byte) : EndsAnswered s (.fabUnquar src m) (fabEnd (takeMsg s src) ((List.range 8).foldl
    (fun t p => if bit m.toNat p && decide (lkState t p = lQuar) then retrain t p else t) (takeMsg s src))) := by
  have h0 : bit (m.toNat * 2 ^ 8) 0 = false := by simp only [bit, beq_eq_false_iff_ne]; omega
  have hb (p : Nat) : bit (m.toNat * 2 ^ 8) (8 + p) = bit m.toNat p := by
    rw [bit, bit, Nat.pow_add, ← Nat.div_div_eq_div_mul, Nat.mul_div_cancel _ (by decide)]
  have e := fabCommand_ends hr room hm (c := .fabUnquar src m) rfl (.inl h0)
  rw [fabCmd, if_neg (by rw [h0]; exact Bool.false_ne_true)] at e
  simp only [hb] at e
  exact e

theorem fabCmdSync_gm (h : isGm s = true) : EndsAnswered s (.fabCmdSync src) (fabEnd (takeMsg s src) (sendSync (takeMsg s src) syncStep)) := by
  have hb (p : Nat) : bit 1 (8 + p) = false := by
    rw [bit, Nat.div_eq_of_lt (by rw [Nat.pow_add]; have := Nat.one_le_two_pow (n := p); omega)]; rfl
  have hf (l : List Nat) (t : State) :
      l.foldl (fun t p => if bit 1 (8 + p) && decide (lkState t p = lQuar) then retrain t p else t) t = t := by
    induction l with
    | nil => rfl
    | cons p l ih => rw [List.foldl_cons, hb, Bool.false_and, if_neg Bool.false_ne_true, ih]
  have e := fabCommand_ends hr room hm (c := .fabCmdSync src) rfl (.inr h)
  rw [fabCmd, if_pos (by rfl), hf] at e
  exact e

omit room hm in
theorem fabCmdSync_other (h : isGm s = false) : EndsAnswered s (.fabCmdSync src) s := by
  refine write_refused hr (w := ⟨src, .devFabCmd, 0, 1⟩) rfl (judge_modeBad (command_devFabCmd.forwards _ _) ?_)
  rw [modeBad, show modeRules (takeMsg s src) .devFabCmd 0 _ 1 = [ruleAll (!bit 1 0 || isGm s)] from rfl, h]
  exact Bool.or_true _

omit hm in
theorem svRestart_restarts (h : Accepts s ⟨src, .devSvCmd, 0, 1⟩) : Completes s (.svRestart src) (fun t =>
    rdB t F.devSvStat_RUNNING 0 = false ∧ rdB t F.devSvStat_RELOADING 0 = true ∧ rd t F.devSvStat_HALT_CAUSE 0 = 4 ∧ t.nv = s.nv ∧
    t.axes = s.axes) := by
  have e : EndsAnswered s (.svRestart src) (svCmd (takeMsg s src) 1) := by
    have e := write_ends hr (c := .svRestart src) rfl
    rwa [command_outcome command_devSvCmd room h.judged] at e
  refine e.imp fun t ⟨m, q⟩ => ?_
  obtain ⟨h1, h2, h3, h4, h5⟩ := svCmd_restarts (takeMsg s src)
  exact ⟨(q.rdB_kind (by decide) (by decide)).trans h1, (q.rdB_kind (by decide) (by decide)).trans h2,
    (q.rd_kind (by decide) (by decide)).trans h3, q.nv.trans h4, q.axes.trans h5⟩

theorem svHaltCommand_halts (hs : src ≠ .supervisor) : Completes s (.svHaltCommand src) (fun t =>
    rdB t F.devSvStat_RUNNING 0 = false ∧
    rd t F.devSvStat_HALT_CAUSE 0 = (if rdB s F.devSvStat_RUNNING 0 then 4 else rd s F.devSvStat_HALT_CAUSE 0) ∧
    t.nv = s.nv ∧ t.axes = s.axes) := by
  have e : EndsAnswered s (.svHaltCommand src) (svCmd (takeMsg s src) 2) := by
    have e := write_ends hr (c := .svHaltCommand src) rfl
    rwa [command_outcome command_devSvCmd room (judge_command command_devSvCmd hm rfl (fun h => hs h.1) (fun _ _ => no_rule)
      (fun _ => rules_one rfl) (fun _ => rules_one rfl))] at e
  refine e.imp fun t ⟨m, q⟩ => ?_
  obtain ⟨h1, h2, h3, h4⟩ := svCmd_halts (takeMsg s src)
  exact ⟨(q.rdB_kind (by decide) (by decide)).trans h1, (q.rd_kind (by decide) (by decide)).trans h2, q.nv.trans h3, q.axes.trans h4⟩

theorem ledgerSnap_ends : EndsAnswered s (.ledgerSnap src) (ledgTrigger (takeMsg s src) 5 false) := by
  have hj : judge (takeMsg s src) src .devLedgCmd 0 1 = 0 := by
    rw [judge_devLedgCmd, if_neg (by rw [hm]; decide), if_neg (fun h => absurd h.1 (by decide))]
  have e := write_ends hr (c := .ledgerSnap src) rfl
  rw [writeOutcome, if_neg (by rw [room]; exact Bool.false_ne_true), writeObj_devLedgCmd _ _ _ hj, ledgCmd, if_pos (by decide),
    if_neg (by decide)] at e
  exact e

theorem calSet_ends (v : Word) (h2 : 2 ≤ mode s) (hg : isGm s = true ∨ rdB s F.devCalCfg_CAL_SRC 0 = false) :
    EndsAnswered s (.calSet src v) { s with nv := { s.nv with rtc := { s.nv.rtc with sets := s.nv.rtc.sets ++ [v.toNat] } } } := by
  have e := write_ends hr (c := .calSet src v) rfl
  rw [command_outcome command_devCalSet room (judge_command command_devCalSet hm rfl (by simp) (fun _ _ => no_rule)
    (fun _ => rules_one ?_) (fun _ => no_rule))] at e
  · have he : EndsAnswered s (.calSet src v) (calSend (takeMsg s src) (v.toNat % 2 ^ 32)) := e
    rw [Nat.mod_eq_of_lt v.isLt] at he
    exact he.of (answered_withMsg _ (takeMsg s src).msg)
  · rw [mode_takeMsg, decide_eq_true h2, Bool.true_and, show isGm (takeMsg s src) = isGm s from rfl,
      show rdB (takeMsg s src) F.devCalCfg_CAL_SRC 0 = rdB s F.devCalCfg_CAL_SRC 0 from rfl]
    rcases hg with h | h
    · rw [h]; rfl
    · rw [h]; exact Bool.or_true _

end

/-! ## Events -/

section
variable {s : State} {src : Src} (room : tooMany (takeMsg s src) src = false) (hm : offMgmt src = false)
include room hm

/-- A code and an axis an EV_RAISE may name. -/
def evRaisable (w : Nat) : Prop := 0xF000 ≤ bits w 0 16 ∧ (bits w 16 8 < 48 ∨ bits w 16 8 = 0xFF)

theorem evRaise_outcome {w : Nat} (h : evRaisable w) : writeOutcome s ⟨src, .devEvRaise, 0, w⟩ =
    (raise (takeMsg s src) (bits w 0 16) (bits w 16 8) (bits w 32 32), 0) := by
  rw [command_outcome command_devEvRaise room (judge_command command_devEvRaise hm rfl (by simp) (fun _ _ => rules_one ?_)
    (fun _ => no_rule) (fun _ => no_rule))]
  · rfl
  · rw [decide_eq_true h.1, Bool.true_and, Bool.or_eq_true, decide_eq_true_iff, decide_eq_true_iff]
    exact h.2

theorem evDump_outcome : writeOutcome s ⟨src, .devEvCmd, 0, 1⟩ = (dumpLog (takeMsg s src), 0) := by
  rw [command_outcome command_devEvCmd room (judge_command command_devEvCmd hm rfl (by simp) (fun _ _ => no_rule)
    (fun _ => no_rule) (fun _ => no_rule))]
  rfl

end

theorem quiet_dumpLog (s : State) : Quiet s (dumpLog s) := quiet_foldl _ (fun t _ => quiet_qPushBytes t _ _ _) _ s

/-- A word the test port writes is answered with its status alone. -/
theorem writeAnswer_jtag (addr : Nat) (r : State × Nat) :
    writeAnswer .jtag addr r = { r.1 with msg := { r.1.msg with jtagStatus := if r.2 ≠ 8 then r.2 else 0 } } := by
  unfold writeAnswer
  split
  · rfl
  · rfl

theorem evRaise_ends {s : State} {src : Src} (hr : coreRuns s = true) (room : tooMany (takeMsg s src) src = false)
    (hm : offMgmt src = false) (v : BitVec 64) : EndsAnswered s (.evRaise src v) s := by
  by_cases h : evRaisable v.toNat
  · have e := write_ends hr (c := .evRaise src v) rfl
    rw [evRaise_outcome room hm h] at e
    exact e.of ((answered_takeMsg s src).quiet (quiet_raise _ _ _ _))
  · refine write_refused hr (w := ⟨src, .devEvRaise, 0, v.toNat⟩) rfl (judge_accessBad ?_)
    have hb : (decide (0xF000 ≤ bits v.toNat 0 16) && (decide (bits v.toNat 16 8 < 48) || decide (bits v.toNat 16 8 = 0xFF))) = false := by
      rw [← Bool.not_eq_true, Bool.and_eq_true, Bool.or_eq_true, decide_eq_true_iff, decide_eq_true_iff, decide_eq_true_iff]
      exact h
    rw [command_devEvRaise.accessRules, show rulesDevice _ _ .devEvRaise 0 v.toNat = [ruleAll (decide (0xF000 ≤ bits v.toNat 0 16) &&
      (decide (bits v.toNat 16 8 < 48) || decide (bits v.toNat 16 8 = 0xFF)))] from rfl, hb]
    rfl

theorem evRaise_jtag {s : State} (hr : coreRuns s = true) (v : BitVec 64) (h : evRaisable v.toNat) :
    exec (.evRaise .jtag v) s = done { raise (takeMsg s .jtag) (bits v.toNat 0 16) (bits v.toNat 16 8) (bits v.toNat 32 32) with
      msg := { (takeMsg s .jtag).msg with jtagStatus := 0 } } := by
  obtain ⟨addr, e⟩ := exec_of_writeOf hr (c := .evRaise .jtag v) rfl
  rw [evRaise_outcome rfl rfl h, writeAnswer_jtag] at e
  exact e

theorem evDump_ends {s : State} {src : Src} (hr : coreRuns s = true) (room : tooMany (takeMsg s src) src = false)
    (hm : offMgmt src = false) : EndsAnswered s (.evDump src) s := by
  have e := write_ends hr (c := .evDump src) rfl
  rw [evDump_outcome room hm] at e
  exact e.of ((answered_takeMsg s src).quiet (quiet_dumpLog _))

theorem evDump_jtag {s : State} (hr : coreRuns s = true) :
    ∃ m, exec (.evDump .jtag) s =
      done { s.ctl.evLog.foldl (fun t e => (qPushBytes t 7 1 (evBytes e)).1) (takeMsg s .jtag) with msg := m } := by
  obtain ⟨addr, e⟩ := exec_of_writeOf hr (c := .evDump .jtag) rfl
  rw [evDump_outcome rfl rfl, writeAnswer_jtag] at e
  exact ⟨_, e⟩

/-! ## OTP -/

theorem effect_otp (s : State) (src : Src) (o : OtpObj) (old v w : Nat) : effect s src (otpAt o) 0 old v w =
    if old = v then (s, 0) else (putJob s src (.otp src o v), 8) := by
  cases o
  · rfl
  · rfl
  · rfl

theorem otpWrite_ends {s : State} {src : Src} (o : OtpObj) (v : Nat) (h : Accepts s ⟨src, otpAt o, 0, v⟩) :
    EndsAnswered s (.otpWrite src o v)
      (let x := mergeVal (otpAt o) (baseVal s (otpAt o) 0) v
       if baseVal s (otpAt o) 0 = x then s else { s with load := { s.load with jobs := s.load.jobs ++ [.otp src o x] } }) := by
  have hb : baseVal (takeMsg s src) (otpAt o) 0 = baseVal s (otpAt o) 0 := by
    cases o
    · rfl
    · rfl
    · rfl
  have e := write_ends h.core (c := .otpWrite src o v) rfl
  rw [writeOutcome_accepted h (by cases o <;> rfl), hb] at e
  simp only [effect_otp] at e ⊢
  split at e
  next hc =>
    rw [if_pos hc]
    exact e.of (answered_takeMsg s src)
  next hc =>
    rw [if_neg hc]
    exact e.of ((answered_withMsg _ (takeMsg s src).msg).trans (answered_putJob (takeMsg s src) src _))

/-! ## Queues -/

/-- What a reset leaves of a sorted queue: its marker alone. -/
def SortedAnew (u x : State) (q : Nat) : Prop := ∃ m, x = { u with qm := m } ∧ mget [] m.sorted q = [⟨0, 0, false, true⟩]

theorem sortedAnew_setQd (u : State) (q : Nat) (d : QDesc) {t : State} (h : t = setQd u q d) :
    SortedAnew u { t with qm := { t.qm with sorted := mset [] t.qm.sorted q [⟨0, 0, false, true⟩] } } q := by
  subst h
  refine ⟨{ (setQd u q d).qm with sorted := mset [] (setQd u q d).qm.sorted q [⟨0, 0, false, true⟩] }, rfl, ?_⟩
  dsimp only
  exact mget_mset_same _ _ _ _

/-- A sorted queue that is reset counts it, reports it, and holds its marker alone. -/
theorem resetQueue_sorted {s : State} {q : Nat} (h : isSorted q = true) :
    SortedAnew (raiseD (incSat s F.devQmCnt_RESETS 0) 0x62 (q + 0x60000)) (resetQueue s q) q := by
  rw [resetQueue, if_pos h]
  exact sortedAnew_setQd _ q _ rfl

theorem quiet_resetQueue (s : State) (q : Nat) : Quiet s (resetQueue s q) := by
  by_cases h : isSorted q = true
  · obtain ⟨m, hm, -⟩ := resetQueue_sorted (s := s) h
    rw [hm]
    refine Quiet.trans ?_ (quiet_qm _ m)
    exact (quiet_wr s F.devQmCnt_RESETS _ key_qmCnt).trans (quiet_raiseD _ _ _)
  · rw [resetQueue, if_neg h]
    split
    · exact quiet_startReset s q 6
    · exact .refl s

/-- A pool queue that is not resetting resets for the reason asked. -/
theorem startReset_resetting {s : State} {q : Nat} (r : Nat) (h : (qd s q).resetting = none) :
    ∃ x, (qd (startReset s q r) q).resetting = some x ∧ x.reason = r := by
  unfold startReset
  simp only []
  rw [h]
  have k : KeepsResets (setQd s q { qd s q with resetting := some ⟨r, 0, markTime s, false⟩ }) _ :=
    ((steady_dropReplies _ q).resets.trans (keepsResets_incSat _ F.devQmCnt_RESETS 0)).trans (steady_raiseD _ 0x62 (q + 0x10000 * r)).resets
  exact k q ⟨r, 0, markTime s, false⟩ (by rw [qd_setQd_same])

theorem isPool_not_sorted {q : Nat} (h : isPool q = true) : isSorted q = false := by
  simp only [isPool, isSorted, Bool.or_eq_true, Bool.and_eq_true, decide_eq_true_iff, decide_eq_false_iff_not] at h ⊢
  omega

section
variable {s : State} {src : Src} {q : Halfword} (hr : coreRuns s = true) (room : tooMany (takeMsg s src) src = false)
  (hm : offMgmt src = false)
include room hm

theorem queueReset_outcome (hq : isQueue q.toNat = true) :
    writeOutcome s ⟨src, .qPop, q.toNat, 2 ^ 72⟩ = (resetQueue (takeMsg s src) q.toNat, 0) := by
  rw [command_outcome command_qPop room (judge_command command_qPop hm hq (by simp) (fun _ _ => no_rule)
    (fun _ => no_rule) (fun _ => no_rule))]
  exact congrArg (fun x => (x, 0)) (if_pos (by decide))

include hr

theorem queueReset_ends : EndsAnswered s (.queueResetRequest src q) s := by
  by_cases hq : isQueue q.toNat = true
  · have e := write_ends hr (c := .queueResetRequest src q) rfl
    rw [queueReset_outcome room hm hq] at e
    exact e.of ((answered_takeMsg s src).quiet (quiet_resetQueue _ _))
  · refine write_refused hr (w := ⟨src, .qPop, q.toNat, 2 ^ 72⟩) rfl ?_
    unfold judge
    simp only []
    rw [if_pos (by rw [show objThere .qPop q.toNat = isQueue q.toNat from rfl]; simp [hq])]
    decide

theorem queueReset_pool (hp : isPool q.toNat = true) (hn : (qd s q.toNat).resetting = none) :
    Completes s (.queueResetRequest src q) (fun t => ∃ r, (qd t q.toNat).resetting = some r ∧ r.reason = 6) := by
  obtain ⟨addr, e⟩ := exec_of_writeOf hr (c := .queueResetRequest src q) rfl
  rw [queueReset_outcome room hm (by rw [isQueue, hp, Bool.true_or]), resetQueue, isPool_not_sorted hp, if_neg Bool.false_ne_true,
    if_pos hp] at e
  obtain ⟨x, hx, h6⟩ := startReset_resetting (s := takeMsg s src) 6 hn
  obtain ⟨y, hy, h⟩ := ((steady_writeAnswer src addr (startReset (takeMsg s src) q.toNat 6, 0)).resets.trans
    (keepsResets_flush flushFuel _)) q.toNat x hx
  exact ⟨_, e, y, hy, h.trans h6⟩

end

theorem queueReset_jtag {s : State} {q : Halfword} (hr : coreRuns s = true) (hs : isSorted q.toNat = true) :
    ∃ m, exec (.queueResetRequest .jtag q) s = done { resetQueue (takeMsg s .jtag) q.toNat with msg := m } := by
  obtain ⟨addr, e⟩ := exec_of_writeOf hr (c := .queueResetRequest .jtag q) rfl
  rw [queueReset_outcome rfl rfl (by rw [isQueue, hs, Bool.or_true]), writeAnswer_jtag] at e
  exact ⟨_, e⟩

/-! ## Links -/

theorem linkReconfigure_ends {s : State} {src : Src} {p : Fin 8} {v : Word} (h : Accepts s ⟨src, .lkCfg, p, v.toNat⟩) :
    EndsAnswered s (.linkReconfigure src p v) (effLink (setObj (takeMsg s src) .lkCfg p (mergeVal .lkCfg (getObj s .lkCfg p) v.toNat)) p
      (getObj s .lkCfg p) (mergeVal .lkCfg (getObj s .lkCfg p) v.toNat)) := by
  have e := write_ends h.core (c := .linkReconfigure src p v) rfl
  rw [writeOutcome_accepted h rfl] at e
  exact e

/-- A written configuration that keeps EN and PRESET moves the link nowhere. -/
theorem effLink_same {s : State} {p old v : Nat} (he : fget old F.lkCfg_EN = fget v F.lkCfg_EN)
    (hp : fget old F.lkCfg_PRESET = fget v F.lkCfg_PRESET) : effLink s p old v = s := by
  rw [effLink, he, hp, beq_self_eq_true, beq_self_eq_true]
  rfl

theorem linkReconfigure_same {s : State} {src : Src} {p : Fin 8} {v : Word} (h : Accepts s ⟨src, .lkCfg, p, v.toNat⟩)
    (he : fget v.toNat F.lkCfg_EN = rd s F.lkCfg_EN p) (hp : fget v.toNat F.lkCfg_PRESET = rd s F.lkCfg_PRESET p) :
    EndsAnswered s (.linkReconfigure src p v) (setObj s .lkCfg p (mergeVal .lkCfg (getObj s .lkCfg p) v.toNat)) := by
  have e := linkReconfigure_ends h
  have hf (f : FieldRow) (hf : f ∈ (objRow .lkCfg).fields) (ha : f.acc = .rw) :
      bits v.toNat f.lo f.w = bits (mergeVal .lkCfg (getObj s .lkCfg p) v.toNat) f.lo f.w := by
    rw [bits_mergeVal _ _ _ f hf, ha]; rfl
  rw [effLink_same] at e
  · exact e.of (answered_setObj_takeMsg s src _ _ _)
  · exact he.symm.trans (hf ⟨0, 1, .rw⟩ (by decide) rfl)
  · exact hp.symm.trans (hf ⟨1, 4, .rw⟩ (by decide) rfl)

/-- Settles O37. -/
theorem deviceWrites : Obligations.DeviceWrites := by
  intro s src hr room hm
  refine ⟨fabUnquar_ends hr room hm, fun p v h he hp => linkReconfigure_same h he hp, fun p v h => linkReconfigure_ends h,
    fabCmdSync_gm hr room hm, fabCmdSync_other hr, svRestart_restarts hr room, svHaltCommand_halts hr room hm,
    ledgerSnap_ends hr room hm, calSet_ends hr room hm, evRaise_ends hr room hm, fun v h1 h2 => evRaise_jtag hr v ⟨h1, h2⟩,
    evDump_ends hr room hm, evDump_jtag hr, otpWrite_ends, fun q => queueReset_ends hr room hm,
    fun q hp hn => queueReset_pool hr room hm hp hn, fun q hs => ⟨?_, queueReset_jtag hr hs⟩⟩
  obtain ⟨m, e, h⟩ := resetQueue_sorted (s := s) hs
  rw [e]
  exact h

end Sys2Proof.Machine
end

section
/-!
PROOFS. The ledger's writes, its load and its counters (O56): a counter of the ledger saturates and touches nothing but its field and
its SAT bit; the accumulators lie apart from each other.
-/

namespace Sys2Proof.Machine
open Sys2Proof Sys2Proof.Machine

/-! ## Writing records -/

theorem cutJob_ledgMem (k : Nat) (v : Nv) (j : Job) : (cutJob k v j).ledgMem = v.ledgMem := by
  cases j with
  | otp src o x =>
    cases o with
    | lock => rfl
    | khash => rfl
    | fkey => rfl
  | trim src => rw [cutJob]
  | readback src slot => rfl
  | program src slot off bs => rw [cutJob]
  | erase src slot len => rw [cutJob]

theorem cutNv_ledgMem (s : State) : (cutNv s).ledgMem = s.nv.ledgMem := by
  have h (l : List Job) (v : Nv) : (l.foldl (cutJob s.ctl.freeCnt) v).ledgMem = v.ledgMem := by
    induction l generalizing v with
    | nil => rfl
    | cons j l ih => exact (ih _).trans (cutJob_ledgMem _ _ _)
  unfold cutNv
  simp only []
  split
  · exact h _ _
  · exact h _ _

theorem rd_withLedg (s : State) (l : Ledg) (f : Fld) (i : Nat) : rd { s with ledg := l } f i = rd s f i := rfl

theorem getObj_withLedg (s : State) (l : Ledg) (o : ObjId) (i : Nat) : getObj { s with ledg := l } o i = getObj s o i := rfl

theorem nv_withLedg (s : State) (l : Ledg) : ({ s with ledg := l } : State).nv = s.nv := rfl

/-- The state in which a write of the ledger has ended. -/
def ledgIdle (s : State) (w : LedgWrite) : State :=
  ledgBusy { s with ledg := { s.ledg with write := none, lastBo := if w.bo then some (locNs s) else s.ledg.lastBo } } false

theorem ledgEnd_idle {s : State} {w : LedgWrite} (hf : w.forReset = false) (hw : s.ledg.waiting = []) :
    ledgEnd s w = ledgIdle s w := by
  have hi : (ledgIdle s w).ledg.waiting = [] := by
    obtain ⟨r, hr⟩ := ledgBusy_withRegs { s with ledg := { s.ledg with
      write := none, lastBo := if w.bo then some (locNs s) else s.ledg.lastBo } } false
    rw [ledgIdle, hr]
    exact hw
  rw [ledgEnd, if_neg (by rw [hf]; exact Bool.false_ne_true)]
  change (match (ledgIdle s w).ledg.waiting with | [] => ledgIdle s w | c :: cs => _) = _
  rw [hi]

theorem ledgIdle_shows (s : State) (w : LedgWrite) : (ledgIdle s w).nv = s.nv ∧ (ledgIdle s w).ledg.write = none ∧
    (ledgIdle s w).ledg.newest = s.ledg.newest ∧ (ledgIdle s w).ledg.fails = s.ledg.fails ∧
    rdB (ledgIdle s w) F.devLedgStat_BUSY 0 = false ∧ rd (ledgIdle s w) F.devLedgStat_WRITES 0 = rd s F.devLedgStat_WRITES 0 ∧
    rd (ledgIdle s w) F.devLedgStat_MEM_FAIL 0 = rd s F.devLedgStat_MEM_FAIL 0 := by
  rw [ledgIdle]
  have hs (f : Fld) : rd { s with ledg := { s.ledg with write := none, lastBo := if w.bo then some (locNs s) else s.ledg.lastBo } } f 0 =
    rd s f 0 := rfl
  obtain ⟨r, hr⟩ := ledgBusy_withRegs { s with ledg := { s.ledg with
    write := none, lastBo := if w.bo then some (locNs s) else s.ledg.lastBo } } false
  refine ⟨by rw [hr], by rw [hr], by rw [hr], by rw [hr], ?_, ?_, ?_⟩
  · simp (disch := decide) only [ledgBusy, wrB, rdB, rd_wr_obj, rd_wr_same]
    rfl
  · simp (disch := decide) only [ledgBusy, wrB, rd_wr_obj, rd_wr_field]
    exact hs _
  · simp (disch := decide) only [ledgBusy, wrB, rd_wr_obj, rd_wr_field]
    exact hs _

/-- A record that compared well is the newest, and counts. -/
theorem ledgOk_shows (s : State) (w : LedgWrite) : (ledgOk s w).nv = (ledgStore s w).nv ∧
    (ledgOk s w).ledg = { s.ledg with newest := some (w.slot, w.seq), fails := 0 } ∧
    rd (ledgOk s w) F.devLedgStat_WRITES 0 = min (rd s F.devLedgStat_WRITES 0 + 1) (2 ^ F.devLedgStat_WRITES.w - 1) := by
  have hn : (ledgNote (ledgStore s w) w.slot w.seq).ledg = { s.ledg with newest := some (w.slot, w.seq) } := by
    rw [ledgNote, wr_ledg, wr_ledg, ledgStore]
  refine ⟨?_, ?_, ?_⟩
  · rw [ledgOk, incSat, addSat, wr_nv, nv_withLedg, ledgNote, wr_nv, wr_nv]
  · rw [ledgOk, incSat, addSat, wr_ledg, hn]
  · rw [ledgOk, rd_incSat]
    dsimp only
    rw [rd_withLedg, ledgNote]
    simp (disch := decide) only [rd_wr_field, rd_withLedg]
    rw [ledgStore]
    exact congrArg (fun x => min (x + 1) _) (rd_of_regs rfl _ _)

/-- What a failed compare leaves in the device, but for what the slot holds. -/
theorem ledgBad_shows (s : State) (w : LedgWrite) : (ledgBad s w).ledg = s.ledg ∧
    rd (ledgBad s w) F.devLedgStat_ERRS 0 = min (rd s F.devLedgStat_ERRS 0 + 1) (2 ^ F.devLedgStat_ERRS.w - 1) := by
  have h : ∀ u : State, u.ledg = s.ledg → u.regs = s.regs → (raiseD (incSat u F.devLedgStat_ERRS 0) 0xA1 w.slot).ledg = s.ledg ∧
      rd (raiseD (incSat u F.devLedgStat_ERRS 0) 0xA1 w.slot) F.devLedgStat_ERRS 0 =
        min (rd s F.devLedgStat_ERRS 0 + 1) (2 ^ F.devLedgStat_ERRS.w - 1) := by
    intro u hl hr
    refine ⟨?_, ?_⟩
    · rw [raiseD, raise_ledg, incSat, addSat, wr_ledg, hl]
    · rw [raiseD, rd_of_regs (raise_regs _ _ _ _), rd_incSat, rd_of_regs hr]
  rw [ledgBad]
  split
  · exact h _ rfl rfl
  · exact h _ rfl rfl

section
variable {s : State} {w : LedgWrite} (hr : coreRuns s = true) (hw : s.ledg.write = some w)
include hr hw

theorem ledgerWriteDone_stores (hf : w.forReset = false) (he : s.ledg.waiting = []) : Completes s (.ledgerWriteDone true) (fun t =>
    t.nv = (ledgStore s w).nv ∧ t.ledg.write = none ∧ t.ledg.newest = some (w.slot, w.seq) ∧ t.ledg.fails = 0 ∧
    rd t F.devLedgStat_WRITES 0 = min (rd s F.devLedgStat_WRITES 0 + 1) (2 ^ F.devLedgStat_WRITES.w - 1) ∧
    rdB t F.devLedgStat_BUSY 0 = false) := by
  obtain ⟨hnv, hl, hc⟩ := ledgOk_shows s w
  have e : exec (.ledgerWriteDone true) s = done (ledgIdle (ledgOk s w) w) := by
    change execLedgerWriteDone true s = _
    rw [execLedgerWriteDone, clocked_run _ _ hr, hw]
    dsimp only
    rw [if_pos rfl, ledgEnd_idle hf (by rw [hl]; exact he)]
  refine completes_of_done e fun t q => ?_
  obtain ⟨h1, h2, h3, h4, h5, h6, -⟩ := ledgIdle_shows (ledgOk s w) w
  refine ⟨q.nv.trans (h1.trans hnv), ?_, ?_, ?_, ?_, ?_⟩
  · rw [q.ledg, h2]
  · rw [q.ledg, h3, hl]
  · rw [q.ledg, h4, hl]
  · rw [q.rd_kind (by decide) (by decide), h6, hc]
  · rw [q.rdB_kind (by decide) (by decide), h5]

theorem ledgerWriteDone_again (hy : w.retry = false) : Completes s (.ledgerWriteDone false) (fun t =>
    t.ledg.write = some { w with slot := (w.slot + 1) % 8, seq := (w.seq + 1) % 2 ^ 32, retry := true } ∧
    rd t F.devLedgStat_ERRS 0 = min (rd s F.devLedgStat_ERRS 0 + 1) (2 ^ F.devLedgStat_ERRS.w - 1)) := by
  obtain ⟨hl, hc⟩ := ledgBad_shows s w
  have e : exec (.ledgerWriteDone false) s = done { ledgBad s w with ledg := { (ledgBad s w).ledg with
      write := some { w with slot := (w.slot + 1) % 8, seq := (w.seq + 1) % 2 ^ 32, retry := true } } } := by
    change execLedgerWriteDone false s = _
    rw [execLedgerWriteDone, clocked_run _ _ hr, hw]
    dsimp only
    rw [if_neg Bool.false_ne_true, hy]
    rfl
  refine completes_of_done e fun t q => ⟨by rw [q.ledg], ?_⟩
  rw [q.rd_kind (by decide) (by decide), rd_withLedg, hc]

omit hr in
/-- A trigger waits for the write that runs. -/
theorem ledgTrigger_waits {c : Nat} {b : Bool} (hc : ledgCanWrite s = true) :
    ledgTrigger s c b = { s with ledg := { s.ledg with waiting := s.ledg.waiting ++ [c] } } := by
  rw [ledgTrigger, if_neg (by rw [hc]; decide)]
  split
  · rfl
  next h => rw [hw] at h; cases h

/-- The second failed compare. -/
def ledgFailed (s : State) (w : LedgWrite) : State :=
  let u := { ledgBad s w with ledg := { (ledgBad s w).ledg with fails := (ledgBad s w).ledg.fails + 1 } }
  if 3 ≤ (ledgBad s w).ledg.fails + 1 then wr u F.devLedgStat_MEM_FAIL 0 1 else u

omit hr hw in
theorem ledgFailed_shows (s : State) (w : LedgWrite) : (ledgFailed s w).ledg = { s.ledg with fails := s.ledg.fails + 1 } ∧
    (2 ≤ s.ledg.fails → rd (ledgFailed s w) F.devLedgStat_MEM_FAIL 0 = 1) := by
  obtain ⟨hl, -⟩ := ledgBad_shows s w
  unfold ledgFailed
  simp only [hl]
  split
  · exact ⟨wr_ledg _ _ _ _, fun _ => rd_wr_same _ _ _ _⟩
  · exact ⟨rfl, fun h => absurd h (by omega)⟩

theorem ledgerWriteDone_fails (hy : w.retry = true) (hf : w.forReset = false) (he : s.ledg.waiting = []) :
    Completes s (.ledgerWriteDone false) (fun t => t.ledg.write = none ∧ t.ledg.fails = s.ledg.fails + 1 ∧
      (2 ≤ s.ledg.fails → rdB t F.devLedgStat_MEM_FAIL 0 = true)) := by
  obtain ⟨hl, hm⟩ := ledgFailed_shows s w
  have e : exec (.ledgerWriteDone false) s = done (ledgIdle (ledgFailed s w) w) := by
    rw [← ledgEnd_idle hf (by rw [hl]; exact he)]
    change execLedgerWriteDone false s = _
    rw [execLedgerWriteDone, clocked_run _ _ hr, hw]
    dsimp only
    rw [if_neg Bool.false_ne_true, hy, if_pos rfl, ledgFailed]
  refine completes_of_done e fun t q => ?_
  obtain ⟨-, h2, -, h4, -, -, h7⟩ := ledgIdle_shows (ledgFailed s w) w
  refine ⟨by rw [q.ledg, h2], by rw [q.ledg, h4, hl], fun h => ?_⟩
  rw [q.rdB_kind (by decide) (by decide), rdB, h7, hm h]
  rfl

theorem ledgerWriteDone_resets (hf : w.forReset = true) : Completes s (.ledgerWriteDone true) (fun t =>
    t.pwr.rst = true ∧ t.nv.ledgMem = (ledgStore s w).nv.ledgMem) := by
  obtain ⟨hnv, -, -⟩ := ledgOk_shows s w
  have e : exec (.ledgerWriteDone true) s = done (assertReset (ledgIdle (ledgOk s w) w)
      ((ledgIdle (ledgOk s w) w).ctl.resetWait.getD rcRequest)) := by
    change execLedgerWriteDone true s = _
    rw [execLedgerWriteDone, clocked_run _ _ hr, hw]
    dsimp only
    rw [if_pos rfl, ledgEnd, hf, if_pos rfl, ledgIdle]
  refine completes_of_done e fun t q => ⟨by rw [q.pwr]; rfl, ?_⟩
  rw [q.nv, ← hnv, ← (ledgIdle_shows (ledgOk s w) w).1]
  exact cutNv_ledgMem _

theorem ledgerInterval_bo (hb : w.bo = true) : Ends s .ledgerIntervalExpiry s := by
  refine ends_of_done ?_
  change execLedgerIntervalExpiry s = _
  rw [execLedgerIntervalExpiry, clocked_run _ _ hr, hw]
  dsimp only
  rw [if_pos hb]

theorem ledgerInterval_waits (hb : w.bo = false) (hc : ledgCanWrite s = true) : Ends s .ledgerIntervalExpiry
    { s with ledg := { s.ledg with waiting := s.ledg.waiting ++ [1] } } := by
  refine ends_of_done ?_
  change execLedgerIntervalExpiry s = _
  rw [execLedgerIntervalExpiry, clocked_run _ _ hr, hw]
  dsimp only
  rw [hb, if_neg Bool.false_ne_true, ledgTrigger_waits hw hc]

end

theorem ledgerWriteDone_idle {s : State} (hr : coreRuns s = true) (ok : Bool) (h : s.ledg.write = none) :
    Ends s (.ledgerWriteDone ok) s := by
  refine ends_of_done ?_
  change execLedgerWriteDone ok s = _
  rw [execLedgerWriteDone, clocked_run _ _ hr, h]

theorem ledgerInterval_starts {s : State} (hr : coreRuns s = true) (h : s.ledg.write = none) :
    Ends s .ledgerIntervalExpiry (ledgTrigger s 1 false) := by
  refine ends_of_done ?_
  change execLedgerIntervalExpiry s = _
  rw [execLedgerIntervalExpiry, clocked_run _ _ hr, h]

/-! ## What a counter of the ledger touches -/

/-- `u` is `s` but for the objects of `ks` and for events. -/
structure Shows (ks : List Nat) (s u : State) : Prop where
  regs : RegsBut ks s u
  rest : u = { s with regs := u.regs, ctl := u.ctl }

theorem Shows.refl (ks : List Nat) (s : State) : Shows ks s s := ⟨.refl ks s, rfl⟩

theorem Shows.trans {ks : List Nat} {s t u : State} (h : Shows ks s t) (k : Shows ks t u) : Shows ks s u := by
  refine ⟨h.regs.trans k.regs, ?_⟩
  have a := h.rest
  have b := k.rest
  rw [a] at b
  exact b

theorem Shows.setObj {ks : List Nat} {s t : State} (h : Shows ks s t) (o : ObjId) (i v : Nat) (hk : objKey o i ∈ ks) :
    Shows ks s (setObj t o i v) := h.trans ⟨regsBut_setObj t o i v hk, rfl⟩

theorem Shows.wr {ks : List Nat} {s t : State} (h : Shows ks s t) (f : Fld) (i x : Nat) (hk : objKey f.obj i ∈ ks) :
    Shows ks s (wr t f i x) := h.setObj _ _ _ hk

theorem Shows.raise {ks : List Nat} {s t : State} (h : Shows ks s t) (c a g : Nat) : Shows ks s (raise t c a g) :=
  h.trans ⟨.of_eq rfl, rfl⟩

theorem Shows.foldl {α : Type} {ks : List Nat} {f : State → α → State} {l : List α} (h : ∀ s, ∀ a ∈ l, Shows ks s (f s a)) (s : State) :
    Shows ks s (l.foldl f s) := by
  induction l generalizing s with
  | nil => exact .refl ks s
  | cons a l ih => exact (h s a List.mem_cons_self).trans (ih (fun t b hb => h t b (List.mem_cons_of_mem _ hb)) _)

theorem Shows.ledg {ks : List Nat} {s u : State} (h : Shows ks s u) : u.ledg = s.ledg := by rw [h.rest]

theorem Shows.rd {ks : List Nat} {s u : State} (h : Shows ks s u) {f : Fld} {i : Nat} (k : objKey f.obj i ∉ ks) : rd u f i = rd s f i :=
  h.regs.rd k

theorem shows_ledgDev {ks : List Nat} (s : State) (f : Fld) (i b k : Nat) (hf : objKey f.obj i ∈ ks) (hs : objKey .devLedger 0 ∈ ks) :
    Shows ks s (ledgDev s f i b k) := by
  unfold ledgDev
  simp only []
  split
  · exact (Shows.refl ks s).wr f i _ hf
  · split
    · exact (Shows.refl ks s).wr f i _ hf
    · exact (((Shows.refl ks s).wr f i _ hf).wr F.devLedger_SAT 0 _ hs).raise _ _ _

theorem shows_ledgAdd (old s : State) : Shows [objKey .devLedger 0] s (ledgAdd old s) := by
  have h (s : State) (f : Fld) (b k : Nat) (hf : f.obj = .devLedger) : Shows [objKey .devLedger 0] s (ledgDev s f 0 b k) :=
    shows_ledgDev s f 0 b k (by rw [hf]; exact List.mem_cons_self) List.mem_cons_self
  unfold ledgAdd
  simp only []
  split
  · exact ((h s F.devLedger_POWER_ON 0 _ rfl).trans (h _ F.devLedger_BROWNOUTS 2 _ rfl)).trans (h _ F.devLedger_POWER_CYCLES 1 _ rfl)
  · exact (h s F.devLedger_POWER_ON 0 _ rfl).trans (h _ F.devLedger_BROWNOUTS 2 _ rfl)

/-! ## The load -/

theorem getObj_foldl_setObj {o : ObjId} (g : Nat → Nat) (l : List Nat) (hl : l.Nodup) (hb : ∀ n ∈ l, n < objCount o) (s : State)
    {n : Nat} (hn : n < objCount o) :
    getObj (l.foldl (fun t n => setObj t o n (g n)) s) o n = if n ∈ l then g n else getObj s o n := by
  induction l generalizing s with
  | nil => rfl
  | cons m l ih =>
    obtain ⟨hm, hl⟩ := List.nodup_cons.mp hl
    rw [List.foldl_cons, ih hl (fun k hk => hb k (List.mem_cons_of_mem _ hk))]
    by_cases h : n ∈ l
    · rw [if_pos h, if_pos (List.mem_cons_of_mem _ h)]
    · rw [if_neg h]
      by_cases e : n = m
      · subst e
        rw [if_pos List.mem_cons_self, getObj_setObj_same]
      · rw [if_neg (by simp [e, h]), getObj_setObj_ne _ _ _ _ _ _ (objKey_ne_inst e hn (hb m List.mem_cons_self))]

/-- The counters a record holds. -/
def counterKeys : List Nat := objKey .devLedger 0 :: ((List.range 8).map (objKey .lkLedger) ++ axKeys .axLedger)

/-- The counters of slot `k`, restored. -/
def restored (s : State) (k : Nat) : State :=
  forAxes (fun t n => setObj t .axLedger n (fieldB (ledgSlot s k) (0xA0 + 32 * n) 32 % 2 ^ 230))
    ((List.range 8).foldl (fun t p => setObj t .lkLedger p (fieldB (ledgSlot s k) (0x40 + 8 * p) 8))
      (setObj s .devLedger 0 (fieldB (ledgSlot s k) 0x20 32)))

theorem ledgRestore_eq (s : State) (k : Nat) : ledgRestore s k = ledgNote (restored s k) k (ledgSeq s k) := by
  rw [ledgRestore, restored]

theorem mem_counterKeys_axis {n : Nat} (hn : n < 48) : objKey .axLedger n ∈ counterKeys :=
  List.mem_cons_of_mem _ (List.mem_append_right _ (List.mem_map.mpr ⟨n, List.mem_range.mpr hn, rfl⟩))

theorem mem_counterKeys_link {p : Nat} (hp : p < 8) : objKey .lkLedger p ∈ counterKeys :=
  List.mem_cons_of_mem _ (List.mem_append_left _ (List.mem_map.mpr ⟨p, List.mem_range.mpr hp, rfl⟩))

theorem shows_restored (s : State) (k : Nat) : Shows counterKeys s (restored s k) := by
  rw [restored, forAxes]
  refine (((Shows.refl counterKeys s).setObj .devLedger 0 _ List.mem_cons_self).trans (Shows.foldl (fun t p hp => ?_) _)).trans
    (Shows.foldl (fun t n hn => ?_) _)
  · exact (Shows.refl _ t).setObj _ _ _ (mem_counterKeys_link (List.mem_range.mp hp))
  · exact (Shows.refl _ t).setObj _ _ _ (mem_counterKeys_axis (List.mem_range.mp hn))

theorem restored_axis (s : State) (k : Nat) {n : Nat} (hn : n < 48) :
    getObj (restored s k) .axLedger n = fieldB (ledgSlot s k) (0xA0 + 32 * n) 32 % 2 ^ 230 := by
  rw [restored, forAxes, getObj_foldl_setObj (o := .axLedger) (fun m => fieldB (ledgSlot s k) (0xA0 + 32 * m) 32 % 2 ^ 230) (List.range 48)
    List.nodup_range (fun m h => List.mem_range.mp h) _ hn, if_pos (List.mem_range.mpr hn)]

/-- LEDG_STAT is no counter. -/
theorem ledgStat_not_counter : objKey .devLedgStat 0 ∉ counterKeys := by
  intro h
  rcases List.mem_cons.mp h with h | h
  · exact objKey_ne_obj (by decide) (by decide) (by decide) h
  · rcases List.mem_append.mp h with h | h
    · obtain ⟨p, hp, e⟩ := List.mem_map.mp h
      exact objKey_ne_obj (by decide) (List.mem_range.mp hp) (by decide) e
    · obtain ⟨n, hn, e⟩ := List.mem_map.mp h
      exact objKey_ne_obj (by decide) (List.mem_range.mp hn) (by decide) e

theorem ledgSlot_of_nv {s u : State} (h : u.nv = s.nv) (k : Nat) : ledgSlot u k = ledgSlot s k := by
  simp only [ledgSlot, h]

theorem ledgSeq_of_nv {s u : State} (h : u.nv = s.nv) (k : Nat) : ledgSeq u k = ledgSeq s k :=
  congrArg (fun b => fieldB b 8 4) (ledgSlot_of_nv h k)

/-- The device with LOADED set. -/
def loaded (s : State) : State := wr s F.devLedgStat_LOADED 0 1

theorem loaded_of_shows {ks : List Nat} {s u : State} (h : Shows ks (loaded s) u) (hk : objKey .devLedgStat 0 ∉ ks) :
    rd u F.devLedgStat_LOADED 0 = 1 := by
  rw [h.rd (f := F.devLedgStat_LOADED) (i := 0) hk, loaded, rd_wr_same]
  rfl

/-- No counter is restored. -/
def unrestored (s : State) : State := ledgAdd s (setObj (loaded s) .devLedger 0 0)

theorem shows_unrestored (s : State) : Shows [objKey .devLedger 0] (loaded s) (unrestored s) :=
  ((Shows.refl _ _).setObj .devLedger 0 0 List.mem_cons_self).trans (shows_ledgAdd s _)

theorem ledgStat_not_devLedger : objKey .devLedgStat 0 ∉ [objKey .devLedger 0] := by
  rw [List.mem_singleton]
  exact objKey_ne_obj (by decide) (by decide) (by decide)

section
variable {s : State} (hr : coreRuns s = true) (hl : rdB s F.devLedgStat_LOADED 0 = false) (hm : mTest ≤ mode s)
include hr hl hm

theorem exec_ledgerLoad : exec .ledgerLoad s = if ledgSilent s then
      done (raiseD (wr (unrestored s) F.devLedgStat_NOMEM 0 1) 0xA3 0)
    else match ledgNewest s with
      | some k => done (ledgAdd s (ledgRestore (loaded s) k))
      | none => done (raiseD (wr (if (List.range 8).any (fun k => ledgIntact s k) then wr (unrestored s) F.devLedgStat_FOREIGN 0 1
          else unrestored s) F.devLedgStat_NEW 0 1) 0xA2 0) := by
  have hp : s.pwr.rst = false := by
    rw [coreRuns, Bool.and_eq_true, Bool.not_eq_true', Bool.not_eq_true'] at hr
    exact hr.1
  change execLedgerLoad s = _
  rw [execLedgerLoad, clocked_run _ _ hr, if_neg (by rw [hl, hp, decide_eq_false (Nat.not_lt.mpr hm)]; decide)]
  rfl

theorem ledgerLoad_loads : Completes s .ledgerLoad (fun t => rdB t F.devLedgStat_LOADED 0 = true ∧ t.nv = s.nv ∧
    (ledgSilent s = true → rdB t F.devLedgStat_NOMEM 0 = true) ∧
    (ledgSilent s = false → ledgNewest s = none → rdB t F.devLedgStat_NEW 0 = true) ∧
    (∀ k, ledgSilent s = false → ledgNewest s = some k → t.ledg.newest = some (k, ledgSeq s k) ∧
      (∀ n < 48, getObj t .axLedger n = fieldB (ledgSlot s k) (0xA0 + 32 * n) 32 % 2 ^ 230))) := by
  have e := exec_ledgerLoad hr hl hm
  have hu := loaded_of_shows (shows_unrestored s) ledgStat_not_devLedger
  have hnv : (loaded s).nv = s.nv := by rw [loaded, wr_nv]
  by_cases hs : ledgSilent s = true
  · rw [if_pos hs] at e
    refine completes_of_done e fun t q => ⟨?_, q.nv.trans ?_, fun _ => ?_, fun h => ?_, fun k h => ?_⟩
    · rw [q.rdB_kind (by decide) (by decide), raiseD, rdB_of_regs (raise_regs _ _ _ _), rdB]
      simp (disch := decide) only [rd_wr_field]
      rw [hu]
      rfl
    · exact nv_of_held (by simp [unrestored, loaded])
    · rw [q.rdB_kind (by decide) (by decide), raiseD, rdB_of_regs (raise_regs _ _ _ _), rdB, rd_wr_same]
      rfl
    · exact absurd (hs.symm.trans h) (by decide)
    · exact absurd (hs.symm.trans h) (by decide)
  · rw [if_neg hs] at e
    cases hk : ledgNewest s with
    | none =>
      rw [hk] at e
      dsimp only at e
      refine completes_of_done e fun t q => ⟨?_, q.nv.trans ?_, fun h => absurd h hs, fun _ _ => ?_, fun k _ h => (Option.some_ne_none k h.symm).elim⟩
      · rw [q.rdB_kind (by decide) (by decide), raiseD, rdB_of_regs (raise_regs _ _ _ _), rdB]
        simp (disch := decide) only [rd_wr_field]
        split
        · simp (disch := decide) only [rd_wr_field]
          rw [hu]
          rfl
        · rw [hu]
          rfl
      · split
        · exact nv_of_held (by simp [unrestored, loaded])
        · exact nv_of_held (by simp [unrestored, loaded])
      · rw [q.rdB_kind (by decide) (by decide), raiseD, rdB_of_regs (raise_regs _ _ _ _), rdB, rd_wr_same]
        rfl
    | some k =>
      rw [hk] at e
      dsimp only at e
      have ha := shows_ledgAdd s (ledgRestore (loaded s) k)
      refine completes_of_done e fun t q => ⟨?_, q.nv.trans ?_, fun h => absurd h hs, fun _ h => (Option.some_ne_none k h).elim, fun j _ h => ?_⟩
      · rw [q.rdB_kind (by decide) (by decide), rdB, ha.rd (f := F.devLedgStat_LOADED) (i := 0) ledgStat_not_devLedger, ledgRestore_eq, ledgNote]
        simp (disch := decide) only [rd_wr_field]
        rw [rd_withLedg, loaded_of_shows (shows_restored _ _) ledgStat_not_counter]
        rfl
      · exact nv_of_held (by simp [loaded])
      · cases h
        refine ⟨?_, fun n hn => ?_⟩
        · rw [q.ledg, ha.ledg, ledgRestore_eq, ledgNote, wr_ledg, wr_ledg, ledgSeq_of_nv hnv]
        · have hne : objKey .axLedger n ≠ objKey .devLedger 0 := objKey_ne_obj (by decide) hn (by decide)
          rw [q.getObj_kind (by decide) hn, ha.regs.getObj (by rw [List.mem_singleton]; exact hne), ledgRestore_eq, ledgNote,
            getObj_wr_obj _ _ (by decide) hn (by decide), getObj_wr_obj _ _ (by decide) hn (by decide),
            getObj_withLedg, restored_axis (loaded s) k hn, ledgSlot_of_nv hnv]

end

theorem ledgerLoad_not {s : State} (hr : coreRuns s = true) (h : rdB s F.devLedgStat_LOADED 0 = true ∨ mode s < mTest) :
    Ends s .ledgerLoad s := by
  refine ends_of_done ?_
  change execLedgerLoad s = _
  rw [execLedgerLoad, clocked_run _ _ hr, if_pos]
  rcases h with h | h
  · rw [h]; rfl
  · rw [decide_eq_true h, Bool.or_true]

/-! ## Counters -/

theorem rd_ledgDev_same {f : Fld} {i : Nat} (hs : ∀ s x, rd (wr s F.devLedger_SAT 0 x) f i = rd s f i) (s : State) (b k : Nat) :
    rd (ledgDev s f i b k) f i = min (rd s f i + k) (2 ^ f.w - 1) := by
  have hp : 0 < 2 ^ f.w := Nat.two_pow_pos _
  unfold ledgDev
  simp only []
  split
  next h => rw [rd_wr_same, Nat.mod_eq_of_lt h]; omega
  next h =>
    have hm : (2 ^ f.w - 1) % 2 ^ f.w = min (rd s f i + k) (2 ^ f.w - 1) := by rw [Nat.mod_eq_of_lt (by omega)]; omega
    split
    · rw [rd_wr_same, hm]
    · rw [raiseD, rd_of_regs (raise_regs _ _ _ _), hs, rd_wr_same, hm]

theorem rd_ledgDev_other {f g : Fld} {i j : Nat} (hf : ∀ s x, rd (wr s f i x) g j = rd s g j)
    (hs : ∀ s x, rd (wr s F.devLedger_SAT 0 x) g j = rd s g j) (s : State) (b k : Nat) : rd (ledgDev s f i b k) g j = rd s g j := by
  unfold ledgDev
  simp only []
  split
  · exact hf _ _
  · split
    · exact hf _ _
    · rw [raiseD, rd_of_regs (raise_regs _ _ _ _), hs, hf]

theorem rd_ledgAxis_same {f : Fld} {n : Nat} (hs : ∀ s x, rd (wr s F.axLedger_SAT n x) f n = rd s f n) (s : State) (b k : Nat) :
    rd (ledgAxis s f n b k) f n = min (rd s f n + k) (2 ^ f.w - 1) := by
  have hp : 0 < 2 ^ f.w := Nat.two_pow_pos _
  unfold ledgAxis
  simp only []
  split
  next h => rw [rd_wr_same, Nat.mod_eq_of_lt h]; omega
  next h =>
    have hm : (2 ^ f.w - 1) % 2 ^ f.w = min (rd s f n + k) (2 ^ f.w - 1) := by rw [Nat.mod_eq_of_lt (by omega)]; omega
    split
    · rw [rd_wr_same, hm]
    · rw [rd_of_regs (raise_regs _ _ _ _), hs, rd_wr_same, hm]

theorem rd_ledgAxis_other {f g : Fld} {n j : Nat} (hf : ∀ s x, rd (wr s f n x) g j = rd s g j)
    (hs : ∀ s x, rd (wr s F.axLedger_SAT n x) g j = rd s g j) (s : State) (b k : Nat) : rd (ledgAxis s f n b k) g j = rd s g j := by
  unfold ledgAxis
  simp only []
  split
  · exact hf _ _
  · split
    · exact hf _ _
    · rw [rd_of_regs (raise_regs _ _ _ _), hs, hf]

theorem ledgDev_ledg (s : State) (f : Fld) (i b k : Nat) : (ledgDev s f i b k).ledg = s.ledg := by
  unfold ledgDev
  simp only []
  split
  · exact wr_ledg _ _ _ _
  · split
    · exact wr_ledg _ _ _ _
    · rw [raiseD, raise_ledg, wr_ledg, wr_ledg]

theorem ledgAxis_ledg (s : State) (f : Fld) (n b k : Nat) : (ledgAxis s f n b k).ledg = s.ledg := by
  unfold ledgAxis
  simp only []
  split
  · exact wr_ledg _ _ _ _
  · split
    · exact wr_ledg _ _ _ _
    · rw [raise_ledg, wr_ledg, wr_ledg]

/-- A fold that touches what is observed once. -/
theorem foldl_once {β : Type} {f : State → Nat → State} {l : List Nat} {n : Nat} (hl : l.Nodup) (hn : n ∈ l) (obs : State → β)
    (g : β → β) (keep : ∀ t m, m ∈ l → m ≠ n → obs (f t m) = obs t) (own : ∀ t, obs (f t n) = g (obs t)) (s : State) :
    obs (l.foldl f s) = g (obs s) := by
  have rest : ∀ (l' : List Nat) (s : State), (∀ m ∈ l', m ∈ l ∧ m ≠ n) → obs (l'.foldl f s) = obs s := by
    intro l'
    induction l' with
    | nil => intro s _; rfl
    | cons m l' ih =>
      intro s h
      obtain ⟨h1, h2⟩ := h m List.mem_cons_self
      rw [List.foldl_cons, ih _ (fun k hk => h k (List.mem_cons_of_mem _ hk)), keep _ _ h1 h2]
  obtain ⟨a, b, rfl⟩ := List.append_of_mem hn
  rw [List.nodup_append] at hl
  obtain ⟨-, hb, hab⟩ := hl
  obtain ⟨hnb, -⟩ := List.nodup_cons.mp hb
  rw [List.foldl_append, List.foldl_cons, rest b _ (fun m hm => ⟨by simp [hm], fun e => hnb (e ▸ hm)⟩), own,
    rest a _ (fun m hm => ⟨by simp [hm], fun e => hab m hm n List.mem_cons_self e⟩)]

theorem foldl_keeps {β : Type} {f : State → Nat → State} {l : List Nat} (obs : State → β) (keep : ∀ t m, m ∈ l → obs (f t m) = obs t)
    (s : State) : obs (l.foldl f s) = obs s := by
  induction l generalizing s with
  | nil => rfl
  | cons m l ih =>
    rw [List.foldl_cons, ih (fun t k hk => keep t k (List.mem_cons_of_mem _ hk)), keep _ _ List.mem_cons_self]

/-! ## The fold -/

/-- An accumulator. -/
def accOf (s : State) (k : Nat) : Nat := mget 0 s.ledg.acc k

/-- `u` is `s` but for accumulators. -/
def AccOnly (s u : State) : Prop := ∃ a, u = { s with ledg := { s.ledg with acc := a } }

theorem AccOnly.refl (s : State) : AccOnly s s := ⟨s.ledg.acc, rfl⟩

theorem AccOnly.trans {s t u : State} : AccOnly s t → AccOnly t u → AccOnly s u := by
  rintro ⟨a, rfl⟩ ⟨b, rfl⟩
  exact ⟨b, rfl⟩

theorem accOnly_foldl {f : State → Nat → State} (h : ∀ s n, AccOnly s (f s n)) (l : List Nat) (s : State) : AccOnly s (l.foldl f s) := by
  induction l generalizing s with
  | nil => exact .refl s
  | cons n l ih => exact (h s n).trans (ih _)

theorem accOnly_accMs (s : State) (k : Nat) (on : Bool) : AccOnly s (accMs s k on) := by
  unfold accMs
  split
  · exact ⟨_, rfl⟩
  · exact .refl s

theorem accOf_accMs_same (s : State) (k : Nat) (on : Bool) : accOf (accMs s k on) k = accOf s k + b2n on := by
  cases on
  · rfl
  · exact mget_mset_same (α := Nat) 0 s.ledg.acc k (mget 0 s.ledg.acc k + 1)

theorem accOf_accMs_ne (s : State) {k j : Nat} (on : Bool) (h : j ≠ k) : accOf (accMs s k on) j = accOf s j := by
  cases on
  · rfl
  · exact mget_mset_ne (α := Nat) 0 0 s.ledg.acc k j (mget 0 s.ledg.acc k + 1) h

theorem accOnly_accAxisMs (s : State) (n : Nat) : AccOnly s (accAxisMs s n) :=
  ((accOnly_accMs _ _ _).trans (accOnly_accMs _ _ _)).trans (accOnly_accMs _ _ _)

theorem AccOnly.energised {s u : State} (h : AccOnly s u) (n : Nat) : energised u n = energised s n := by
  obtain ⟨a, rfl⟩ := h
  rfl

/-- The accumulators of an axis lie apart from those of the others and from that of the device. -/
theorem accAxis_ne {n m c d : Nat} (hc : c < 3) (hd : d < 3) (h : n ≠ m ∨ c ≠ d) : accAxis n c ≠ accAxis m d := by
  unfold accAxis
  omega

theorem accAxis_ne_power (n c : Nat) : accPower ≠ accAxis n c := by
  unfold accPower accAxis
  omega

theorem accOf_accAxisMs_own (s : State) (n : Nat) : accOf (accAxisMs s n) (accAxis n 0) = accOf s (accAxis n 0) + b2n (energised s n) := by
  rw [accAxisMs, accOf_accMs_ne _ _ (accAxis_ne (by decide) (by decide) (.inr (by decide))),
    accOf_accMs_ne _ _ (accAxis_ne (by decide) (by decide) (.inr (by decide))), accOf_accMs_same]

theorem accOf_accAxisMs_other (s : State) {n j : Nat} (h : ∀ c < 3, j ≠ accAxis n c) : accOf (accAxisMs s n) j = accOf s j := by
  rw [accAxisMs, accOf_accMs_ne _ _ (h 2 (by decide)), accOf_accMs_ne _ _ (h 1 (by decide)), accOf_accMs_ne _ _ (h 0 (by decide))]

/-- The accumulators after a millisecond. -/
def msPassed (s : State) : State := forAxes accAxisMs (accMs s accPower true)

theorem accOnly_msPassed (s : State) : AccOnly s (msPassed s) :=
  (accOnly_accMs _ _ _).trans (accOnly_foldl accOnly_accAxisMs _ _)

theorem accOf_msPassed_power (s : State) : accOf (msPassed s) accPower = accOf s accPower + 1 := by
  rw [msPassed, forAxes, foldl_keeps (accOf · accPower) (fun t n _ => accOf_accAxisMs_other t (fun c _ => accAxis_ne_power n c))]
  exact accOf_accMs_same s accPower true

theorem accOf_msPassed_axis (s : State) {n : Nat} (hn : n < 48) :
    accOf (msPassed s) (accAxis n 0) = accOf s (accAxis n 0) + b2n (energised s n) := by
  have h := foldl_once (f := accAxisMs) List.nodup_range (List.mem_range.mpr hn)
    (fun t => (accOf t (accAxis n 0), energised t n)) (fun x => (x.1 + b2n x.2, x.2))
    (fun t m _ hm => by rw [accOf_accAxisMs_other t (fun c hc => accAxis_ne (by decide) hc (.inl (Ne.symm hm))),
      (accOnly_accAxisMs t m).energised])
    (fun t => by rw [accOf_accAxisMs_own, (accOnly_accAxisMs t n).energised]) (accMs s accPower true)
  rw [msPassed, forAxes]
  refine (congrArg Prod.fst h).trans ?_
  dsimp only
  rw [accOf_accMs_ne _ _ (Ne.symm (accAxis_ne_power n 0)), (accOnly_accMs s accPower true).energised]

/-- What a fold of another raw counter leaves. -/
structure FoldKeeps (s u : State) : Prop where
  acc : u.ledg.acc = s.ledg.acc
  base : mget 0 u.ledg.base 0 = mget 0 s.ledg.base 0
  squash : rd u F.devLedger_SQUASH 0 = rd s F.devLedger_SQUASH 0

theorem FoldKeeps.trans {s t u : State} (h : FoldKeeps s t) (k : FoldKeeps t u) : FoldKeeps s u :=
  ⟨k.acc.trans h.acc, k.base.trans h.base, k.squash.trans h.squash⟩

theorem foldKeeps_foldl {f : State → Nat → State} {l : List Nat} (h : ∀ s, ∀ n ∈ l, FoldKeeps s (f s n)) (s : State) :
    FoldKeeps s (l.foldl f s) := by
  induction l generalizing s with
  | nil => exact ⟨rfl, rfl, rfl⟩
  | cons n l ih => exact (h s n List.mem_cons_self).trans (ih (fun t m hm => h t m (List.mem_cons_of_mem _ hm)) _)

theorem foldOne_keeps {raw f : Fld} {i key : Nat} (hk : 0 ≠ key)
    (hf : ∀ s x, rd (wr s f i x) F.devLedger_SQUASH 0 = rd s F.devLedger_SQUASH 0) (s : State) (b : Nat) :
    FoldKeeps s (foldOne s raw f i key b) := by
  rw [foldOne]
  refine ⟨?_, ?_, ?_⟩
  · rw [ledgDev_ledg]
  · rw [ledgDev_ledg]
    exact mget_mset_ne _ _ _ _ _ _ hk
  · rw [rd_ledgDev_other hf (fun t x => rd_wr_field t _ _ 0 x rfl (by decide))]
    exact rd_withLedg _ _ _ _

/-- The first fold: squashes. -/
theorem foldOne_squash (s : State) : (foldOne s F.devSpecTot_SQUASH_TOT F.devLedger_SQUASH 0 0 3).ledg.acc = s.ledg.acc ∧
    mget 0 (foldOne s F.devSpecTot_SQUASH_TOT F.devLedger_SQUASH 0 0 3).ledg.base 0 = rd s F.devSpecTot_SQUASH_TOT 0 ∧
    rd (foldOne s F.devSpecTot_SQUASH_TOT F.devLedger_SQUASH 0 0 3) F.devLedger_SQUASH 0 = min (rd s F.devLedger_SQUASH 0 +
      (rd s F.devSpecTot_SQUASH_TOT 0 + 2 ^ 32 - mget 0 s.ledg.base 0) % 2 ^ 32) (2 ^ F.devLedger_SQUASH.w - 1) := by
  rw [foldOne]
  refine ⟨?_, ?_, ?_⟩
  · rw [ledgDev_ledg]
  · rw [ledgDev_ledg]
    exact mget_mset_same _ _ _ _
  · rw [rd_ledgDev_same (f := F.devLedger_SQUASH) (i := 0) (fun t x => rd_wr_field t _ _ 0 x rfl (by decide)), rd_withLedg]

theorem foldAll_keeps (s : State) : FoldKeeps (foldOne s F.devSpecTot_SQUASH_TOT F.devLedger_SQUASH 0 0 3) (foldAll s) := by
  rw [foldAll]
  refine (foldOne_keeps (raw := F.devSpecTot_MISS_TOT) (f := F.devLedger_MISS) (i := 0) (key := 1) (by decide)
    (fun t x => rd_wr_field t _ _ 0 x rfl (by decide)) _ 4).trans (foldKeeps_foldl (fun t p hp => ?_) _)
  have hp := List.mem_range.mp hp
  exact (foldOne_keeps (raw := F.lkTot_CRC_TOT) (f := F.lkLedger_CRC) (i := p) (key := 2 + p) (by omega)
    (fun t x => rd_wr_kind t x (by decide) (by decide) hp) t (8 + p)).trans
    (foldOne_keeps (raw := F.lkTot_REPLAY_TOT) (f := F.lkLedger_REPLAYS) (i := p) (key := 10 + p) (by omega)
      (fun t x => rd_wr_kind t x (by decide) (by decide) hp) _ (16 + p))

theorem ledgerFold_folds {s : State} (hr : coreRuns s = true) : Completes s .ledgerFold (fun t =>
    mget 0 t.ledg.acc accPower = mget 0 s.ledg.acc accPower + 1 ∧
    mget 0 t.ledg.base 0 = rd s F.devSpecTot_SQUASH_TOT 0 ∧
    (let d := (rd s F.devSpecTot_SQUASH_TOT 0 + 2 ^ 32 - mget 0 s.ledg.base 0) % 2 ^ 32
     rd t F.devLedger_SQUASH 0 = min (rd s F.devLedger_SQUASH 0 + d) (2 ^ F.devLedger_SQUASH.w - 1)) ∧
    ∀ n < 48, mget 0 t.ledg.acc (accAxis n 0) = mget 0 s.ledg.acc (accAxis n 0) + b2n (energised s n)) := by
  have hp : s.pwr.rst = false := by
    rw [coreRuns, Bool.and_eq_true, Bool.not_eq_true', Bool.not_eq_true'] at hr
    exact hr.1
  have e : exec .ledgerFold s = done (foldAll (msPassed s)) := by
    change execLedgerFold s = _
    rw [execLedgerFold, clocked_run _ _ hr, hp, if_neg Bool.false_ne_true, msPassed]
  refine completes_of_done e fun t q => ?_
  have k := foldAll_keeps (msPassed s)
  obtain ⟨h1, h2, h3⟩ := foldOne_squash (msPassed s)
  have ha : t.ledg.acc = (msPassed s).ledg.acc := by rw [q.ledg, k.acc, h1]
  obtain ⟨a, hs⟩ := accOnly_msPassed s
  have hrd (f : Fld) : rd (msPassed s) f 0 = rd s f 0 := by rw [hs, rd_withLedg]
  have hb : (msPassed s).ledg.base = s.ledg.base := by rw [hs]
  refine ⟨?_, ?_, ?_, fun n hn => ?_⟩
  · rw [ha]
    exact accOf_msPassed_power s
  · rw [q.ledg, k.base, h2, hrd]
  · rw [q.rd_kind (by decide) (by decide), k.squash, h3, hrd, hrd, hb]
  · rw [ha]
    exact accOf_msPassed_axis s hn

/-! ## The second -/

/-- The rest of an accumulator that a full second leaves. -/
def secondLeft (v : Nat) : Nat := v - if 1000 ≤ v then 1000 else 0

/-- The device with an accumulator at `v`. -/
def accSet (s : State) (k v : Nat) : State := { s with ledg := { s.ledg with acc := mset 0 s.ledg.acc k v } }

theorem accOf_accSet_same (s : State) (k v : Nat) : accOf (accSet s k v) k = v := mget_mset_same (α := Nat) 0 s.ledg.acc k v

theorem accOf_accSet_ne (s : State) {k j : Nat} (v : Nat) (h : j ≠ k) : accOf (accSet s k v) j = accOf s j :=
  mget_mset_ne (α := Nat) 0 0 s.ledg.acc k j v h

theorem rd_accSet (s : State) (k v : Nat) (f : Fld) (i : Nat) : rd (accSet s k v) f i = rd s f i := rfl

theorem accOf_of_ledg {s u : State} (h : u.ledg = s.ledg) (k : Nat) : accOf u k = accOf s k := by rw [accOf, h, accOf]

theorem accTake_some {s : State} {k : Nat} (h : 1000 ≤ accOf s k) : accTake s k = some (accSet s k (secondLeft (accOf s k))) := by
  rw [secondLeft, if_pos h]
  exact if_pos h

theorem accTake_none {s : State} {k : Nat} (h : ¬ 1000 ≤ accOf s k) : accTake s k = none := if_neg h

theorem secondLeft_short {v : Nat} (h : ¬ 1000 ≤ v) : secondLeft v = v := by rw [secondLeft, if_neg h, Nat.sub_zero]

theorem b2n_true : b2n true = 1 := rfl

theorem b2n_false : b2n false = 0 := rfl

theorem min_rd (s : State) (f : Fld) (i : Nat) : min (rd s f i + 0) (2 ^ f.w - 1) = rd s f i := by
  have : rd s f i < 2 ^ f.w := bits_lt _ _ _
  omega

/-- A second of the device: its counter and its accumulator. -/
def secondDev (s : State) : State :=
  match accTake s accPower with
  | some t => ledgDev t F.devLedger_POWER_ON 0 0 1
  | none => s

theorem secondDev_own (s : State) :
    rd (secondDev s) F.devLedger_POWER_ON 0 = min (rd s F.devLedger_POWER_ON 0 + b2n (decide (1000 ≤ accOf s accPower)))
      (2 ^ F.devLedger_POWER_ON.w - 1) ∧ accOf (secondDev s) accPower = secondLeft (accOf s accPower) := by
  rw [secondDev]
  by_cases h : 1000 ≤ accOf s accPower
  · rw [accTake_some h, decide_eq_true h, b2n_true]
    dsimp only
    rw [rd_ledgDev_same (f := F.devLedger_POWER_ON) (i := 0) (fun t x => rd_wr_field t _ _ 0 x rfl (by decide)), rd_accSet,
      accOf_of_ledg (ledgDev_ledg _ _ _ _ _), accOf_accSet_same]
    exact ⟨rfl, rfl⟩
  · rw [accTake_none h, decide_eq_false h, b2n_false, min_rd, secondLeft_short h]
    exact ⟨rfl, rfl⟩

theorem secondDev_other {s : State} {n : Nat} (hn : n < 48) : rd (secondDev s) F.axLedger_ENERGISED n = rd s F.axLedger_ENERGISED n ∧
    accOf (secondDev s) (accAxis n 0) = accOf s (accAxis n 0) := by
  rw [secondDev]
  by_cases h : 1000 ≤ accOf s accPower
  · rw [accTake_some h]
    dsimp only
    rw [rd_ledgDev_other (f := F.devLedger_POWER_ON) (i := 0) (g := F.axLedger_ENERGISED) (j := n)
        (fun t x => rd_wr_kind t x (by decide) hn (by decide)) (fun t x => rd_wr_kind t x (by decide) hn (by decide)), rd_accSet,
      accOf_of_ledg (ledgDev_ledg _ _ _ _ _), accOf_accSet_ne _ _ (Ne.symm (accAxis_ne_power n 0))]
    exact ⟨rfl, rfl⟩
  · rw [accTake_none h]
    exact ⟨rfl, rfl⟩

/-- A second of one accumulator of an axis leaves every accumulator but its own. -/
theorem accOf_secAxis_ne (s : State) {n c k : Nat} (b : Nat) (f : Fld) (h : k ≠ accAxis n c) : accOf (secAxis s n c b f) k = accOf s k := by
  rw [secAxis]
  by_cases ha : 1000 ≤ accOf s (accAxis n c)
  · rw [accTake_some ha]
    dsimp only
    rw [accOf_of_ledg (ledgAxis_ledg _ _ _ _ _), accOf_accSet_ne _ _ h]
  · rw [accTake_none ha]

/-- A second of one accumulator of an axis leaves what its counter and its SAT do not hold. -/
theorem rd_secAxis_other {f g : Fld} {n j : Nat} (hf : ∀ s x, rd (wr s f n x) g j = rd s g j)
    (hs : ∀ s x, rd (wr s F.axLedger_SAT n x) g j = rd s g j) (s : State) (c b : Nat) : rd (secAxis s n c b f) g j = rd s g j := by
  rw [secAxis]
  by_cases ha : 1000 ≤ accOf s (accAxis n c)
  · rw [accTake_some ha]
    dsimp only
    rw [rd_ledgAxis_other hf hs, rd_accSet]
  · rw [accTake_none ha]

theorem secAxis_own (s : State) (n b : Nat) :
    rd (secAxis s n 0 b F.axLedger_ENERGISED) F.axLedger_ENERGISED n =
      min (rd s F.axLedger_ENERGISED n + b2n (decide (1000 ≤ accOf s (accAxis n 0)))) (2 ^ F.axLedger_ENERGISED.w - 1) := by
  rw [secAxis]
  by_cases ha : 1000 ≤ accOf s (accAxis n 0)
  · rw [accTake_some ha, decide_eq_true ha, b2n_true]
    dsimp only
    rw [rd_ledgAxis_same (f := F.axLedger_ENERGISED) (n := n) (fun t x => rd_wr_field t _ _ n x rfl (by decide)), rd_accSet]
  · rw [accTake_none ha, decide_eq_false ha, b2n_false, min_rd]

/-- A second of an axis. -/
def secondAxis (t : State) (n : Nat) : State :=
  secAxis (secAxis (secAxis t n 0 2 F.axLedger_ENERGISED) n 1 4 F.axLedger_ILIM_S) n 2 5 F.axLedger_OT_S

theorem secondAxis_own (t : State) (n : Nat) : rd (secondAxis t n) F.axLedger_ENERGISED n =
    min (rd t F.axLedger_ENERGISED n + b2n (decide (1000 ≤ accOf t (accAxis n 0)))) (2 ^ F.axLedger_ENERGISED.w - 1) := by
  have h (f : Fld) (ho : f.obj = .axLedger) (ha : F.axLedger_ENERGISED.lo + F.axLedger_ENERGISED.w ≤ f.lo) (u : State) (c b : Nat) :
      rd (secAxis u n c b f) F.axLedger_ENERGISED n = rd u F.axLedger_ENERGISED n :=
    rd_secAxis_other (fun t x => rd_wr_field t f F.axLedger_ENERGISED n x ho.symm (.inl ha))
      (fun t x => rd_wr_field t _ _ n x rfl (by decide)) u c b
  rw [secondAxis, h F.axLedger_OT_S rfl (by decide), h F.axLedger_ILIM_S rfl (by decide), secAxis_own]

theorem secondAxis_other (t : State) {n m : Nat} (hn : n < 48) (hm : m < 48) (h : m ≠ n) :
    rd (secondAxis t m) F.axLedger_ENERGISED n = rd t F.axLedger_ENERGISED n := by
  have k (f : Fld) (ho : f.obj = .axLedger) (u : State) (c b : Nat) :
      rd (secAxis u m c b f) F.axLedger_ENERGISED n = rd u F.axLedger_ENERGISED n :=
    rd_secAxis_other (fun t x => rd_wr_obj t f F.axLedger_ENERGISED m n x (by rw [ho]; exact objKey_ne_inst (Ne.symm h) hn hm))
      (fun t x => rd_wr_obj t _ _ m n x (objKey_ne_inst (Ne.symm h) hn hm)) u c b
  rw [secondAxis, k F.axLedger_OT_S rfl, k F.axLedger_ILIM_S rfl, k F.axLedger_ENERGISED rfl]

theorem secondAxis_power (t : State) {m : Nat} (hm : m < 48) :
    rd (secondAxis t m) F.devLedger_POWER_ON 0 = rd t F.devLedger_POWER_ON 0 := by
  have k (f : Fld) (ho : f.obj = .axLedger) (u : State) (c b : Nat) :
      rd (secAxis u m c b f) F.devLedger_POWER_ON 0 = rd u F.devLedger_POWER_ON 0 :=
    rd_secAxis_other (fun t x => rd_wr_kind t x (by rw [ho]; decide) (by decide) (by rw [ho]; exact hm))
      (fun t x => rd_wr_kind t x (by decide) (by decide) hm) u c b
  rw [secondAxis, k F.axLedger_OT_S rfl, k F.axLedger_ILIM_S rfl, k F.axLedger_ENERGISED rfl]

theorem accOf_secAxis_same (s : State) (n c b : Nat) (f : Fld) :
    accOf (secAxis s n c b f) (accAxis n c) = secondLeft (accOf s (accAxis n c)) := by
  rw [secAxis]
  by_cases ha : 1000 ≤ accOf s (accAxis n c)
  · rw [accTake_some ha]
    dsimp only
    rw [accOf_of_ledg (ledgAxis_ledg _ _ _ _ _), accOf_accSet_same]
  · rw [accTake_none ha, secondLeft_short ha]

theorem accOf_secondAxis_own (t : State) (n : Nat) : accOf (secondAxis t n) (accAxis n 0) = secondLeft (accOf t (accAxis n 0)) := by
  rw [secondAxis, accOf_secAxis_ne _ _ _ (accAxis_ne (by decide) (by decide) (.inr (by decide))),
    accOf_secAxis_ne _ _ _ (accAxis_ne (by decide) (by decide) (.inr (by decide))), accOf_secAxis_same]

theorem accOf_secondAxis (t : State) {m k : Nat} (h : ∀ c < 3, k ≠ accAxis m c) : accOf (secondAxis t m) k = accOf t k := by
  rw [secondAxis, accOf_secAxis_ne _ _ _ (h 2 (by decide)), accOf_secAxis_ne _ _ _ (h 1 (by decide)),
    accOf_secAxis_ne _ _ _ (h 0 (by decide))]

theorem held_secondDev (s : State) : held (secondDev s) = held s := by
  rw [secondDev]
  by_cases h : 1000 ≤ accOf s accPower
  · rw [accTake_some h]
    exact held_ledgDev _ _ _ _ _
  · rw [accTake_none h]

theorem exec_ledgerSecond {s : State} (hr : coreRuns s = true) : exec .ledgerSecond s = done (forAxes secondAxis (secondDev s)) :=
  exec_of_clocked hr (show execLedgerSecond s = _ by rw [execLedgerSecond]; rfl)

theorem ledgerSecond_counts {s : State} (hr : coreRuns s = true) : Completes s .ledgerSecond (fun t =>
    rd t F.devLedger_POWER_ON 0 = min (rd s F.devLedger_POWER_ON 0 + b2n (decide (1000 ≤ mget 0 s.ledg.acc accPower)))
      (2 ^ F.devLedger_POWER_ON.w - 1) ∧
    (∀ n < 48, rd t F.axLedger_ENERGISED n = min (rd s F.axLedger_ENERGISED n +
      b2n (decide (1000 ≤ mget 0 s.ledg.acc (accAxis n 0)))) (2 ^ F.axLedger_ENERGISED.w - 1)) ∧
    mget 0 t.ledg.acc accPower = mget 0 s.ledg.acc accPower - (if 1000 ≤ mget 0 s.ledg.acc accPower then 1000 else 0) ∧
    t.nv = s.nv) := by
  obtain ⟨h1, h2⟩ := secondDev_own s
  refine completes_of_done (exec_ledgerSecond hr) fun t q => ⟨?_, fun n hn => ?_, ?_, q.nv.trans ?_⟩
  · rw [q.rd_kind (by decide) (by decide), forAxes,
      foldl_keeps (rd · F.devLedger_POWER_ON 0) (fun t m hm => secondAxis_power t (List.mem_range.mp hm)), h1]
    rfl
  · obtain ⟨k1, k2⟩ := secondDev_other (s := s) hn
    have h := foldl_once (f := secondAxis) List.nodup_range (List.mem_range.mpr hn)
      (fun t => (rd t F.axLedger_ENERGISED n, accOf t (accAxis n 0)))
      (fun x => (min (x.1 + b2n (decide (1000 ≤ x.2))) (2 ^ F.axLedger_ENERGISED.w - 1), secondLeft x.2))
      (fun t m hm hne => by rw [secondAxis_other t hn (List.mem_range.mp hm) hne,
        accOf_secondAxis t (fun c hc => accAxis_ne (by decide) hc (.inl (Ne.symm hne)))])
      (fun t => by rw [secondAxis_own, accOf_secondAxis_own]) (secondDev s)
    rw [q.rd_kind (by decide) hn, forAxes]
    refine (congrArg Prod.fst h).trans ?_
    dsimp only
    rw [k1, k2]
    rfl
  · rw [q.ledg, forAxes]
    have h3 : accOf ((List.range 48).foldl secondAxis (secondDev s)) accPower = accOf (secondDev s) accPower :=
      foldl_keeps (accOf · accPower) (fun t m _ => accOf_secondAxis t (fun c _ => accAxis_ne_power m c)) (secondDev s)
    rw [h2] at h3
    rw [accOf, secondLeft, accOf] at h3
    rw [h3]
  · refine nv_of_held ?_
    rw [forAxes, held_foldl _ _ _ (fun u n => by simp [secondAxis])]
    exact held_secondDev s

/-- Settles O56. -/
theorem ledgerCommands : Obligations.LedgerCommands := fun _ hr =>
  ⟨fun ok h => ledgerWriteDone_idle hr ok h, fun _ hw hf he => ledgerWriteDone_stores hr hw hf he,
    fun _ hw hy => ledgerWriteDone_again hr hw hy, fun _ hw hy hf he => ledgerWriteDone_fails hr hw hy hf he,
    fun _ hw hf => ledgerWriteDone_resets hr hw hf, fun h => ledgerInterval_starts hr h, fun _ hw hb => ledgerInterval_bo hr hw hb,
    fun _ hw hb hc => ledgerInterval_waits hr hw hb hc, fun h => ledgerLoad_not hr h, fun hl hm => ledgerLoad_loads hr hl hm,
    ledgerFold_folds hr, ledgerSecond_counts hr⟩

end Sys2Proof.Machine
end

section
/-!
SUPPORT. What the fabric's upkeep touches: a change of the link-state database and a flooded frame change the fabric's own state, its
status objects and records, and nothing else.
-/

namespace Sys2Proof.Machine
open Sys2Proof Sys2Proof.Machine

/-! ## Every object but some -/

/-- Every object but those of the kinds `os` is as it was. -/
def ObjsBut (os : List ObjId) (s u : State) : Prop := ∀ o i, o ∉ os → i < objCount o → getObj u o i = getObj s o i

theorem ObjsBut.refl (os : List ObjId) (s : State) : ObjsBut os s s := fun _ _ _ _ => rfl

theorem ObjsBut.trans {os : List ObjId} {s t u : State} (h : ObjsBut os s t) (k : ObjsBut os t u) : ObjsBut os s u :=
  fun o i ho hi => (k o i ho hi).trans (h o i ho hi)

theorem ObjsBut.of_regs {os : List ObjId} {s u : State} (h : u.regs = s.regs) : ObjsBut os s u := fun o i _ _ => by
  rw [Machine.getObj, h, Machine.getObj]

theorem ObjsBut.mono {os ps : List ObjId} {s u : State} (h : ObjsBut os s u) (k : ∀ o ∈ os, o ∈ ps) : ObjsBut ps s u :=
  fun o i ho hi => h o i (fun hm => ho (k o hm)) hi

theorem objsBut_setObj {os : List ObjId} (s : State) (o : ObjId) (i v : Nat) (ho : o ∈ os) (hi : i < objCount o) :
    ObjsBut os s (setObj s o i v) := fun _ _ hp hj => getObj_setObj_obj s v (fun e => hp (e ▸ ho)) hj hi

theorem objsBut_wr {os : List ObjId} (s : State) (f : Fld) (i x : Nat) (ho : f.obj ∈ os) (hi : i < objCount f.obj) :
    ObjsBut os s (wr s f i x) := objsBut_setObj s f.obj i _ ho hi

theorem objsBut_quiet {os : List ObjId} {s u : State} (q : Quiet s u) (h : ∀ o ∈ recordObjs, o ∈ os) : ObjsBut os s u :=
  fun _ _ ho hi => q.getObj_kind (fun hm => ho (h _ hm)) hi

theorem ObjsBut.rd {os : List ObjId} {s u : State} (h : ObjsBut os s u) {f : Fld} {i : Nat} (ho : f.obj ∉ os) (hi : i < objCount f.obj) :
    rd u f i = rd s f i := by
  rw [Machine.rd, h _ _ ho hi, Machine.rd]

theorem ObjsBut.rdB {os : List ObjId} {s u : State} (h : ObjsBut os s u) {f : Fld} {i : Nat} (ho : f.obj ∉ os)
    (hi : i < objCount f.obj) : rdB u f i = rdB s f i := by
  rw [Machine.rdB, h.rd ho hi, Machine.rdB]

/-! ## The fabric's upkeep -/

/-- The objects in which the fabric shows its state, and those of records. -/
def fabObjs : List ObjId := [.devFabStat, .lkStat] ++ recordObjs

/-- `u` is `s` but for the fabric's database, its status objects, the rate of the grid's time, and records: the links and their states
are as they were. -/
structure FabOnly (s u : State) : Prop where
  links : u.fab.links = s.fab.links
  seq : u.fab.lsrSeq = s.fab.lsrSeq
  states : ∀ p < 8, rd u F.lkStat_STATE p = rd s F.lkStat_STATE p
  objs : ObjsBut fabObjs s u
  rest : u = { s with regs := u.regs, qm := u.qm, probes := u.probes, ctl := u.ctl, msg := u.msg, fab := u.fab }
  ctl : { u.ctl with evNew := s.ctl.evNew, evPre := s.ctl.evPre, evLog := s.ctl.evLog, rate := s.ctl.rate } = s.ctl

theorem FabOnly.refl (s : State) : FabOnly s s := ⟨rfl, rfl, fun _ _ => rfl, .refl _ s, rfl, rfl⟩

theorem FabOnly.trans {s t u : State} (h : FabOnly s t) (k : FabOnly t u) : FabOnly s u := by
  refine ⟨k.links.trans h.links, k.seq.trans h.seq, fun p hp => (k.states p hp).trans (h.states p hp), h.objs.trans k.objs, ?_, ?_⟩
  · have a := h.rest
    have b := k.rest
    rw [a] at b
    exact b
  · exact (congrArg (fun c : Ctl => { c with
      evNew := s.ctl.evNew, evPre := s.ctl.evPre, evLog := s.ctl.evLog, rate := s.ctl.rate }) k.ctl).trans h.ctl

theorem fabOnly_quiet {s u : State} (q : Quiet s u) : FabOnly s u := by
  refine ⟨by rw [q.fab], by rw [q.fab], fun p hp => q.rd_kind (by decide) hp, objsBut_quiet q (by decide), ?_, ?_⟩
  · have h := q.rest
    exact congrArg (fun x : State => { x with regs := u.regs, qm := u.qm, probes := u.probes, ctl := u.ctl, msg := u.msg, fab := u.fab }) h
  · exact congrArg (fun c : Ctl => { c with rate := s.ctl.rate }) q.ctl

theorem FabOnly.quiet {s t u : State} (h : FabOnly s t) (q : Quiet t u) : FabOnly s u := h.trans (fabOnly_quiet q)

theorem FabOnly.modFab {s t : State} (h : FabOnly s t) (f : Fab → Fab) (hl : ∀ x, (f x).links = x.links := by intro; rfl)
    (hs : ∀ x, (f x).lsrSeq = x.lsrSeq := by intro; rfl) : FabOnly s (modFab t f) :=
  h.trans ⟨hl _, hs _, fun _ _ => rfl, .of_regs rfl, rfl, rfl⟩

theorem FabOnly.rate {s t : State} (h : FabOnly s t) (r : Nat) : FabOnly s { t with ctl := { t.ctl with rate := r } } :=
  h.trans ⟨rfl, rfl, fun _ _ => rfl, .of_regs rfl, rfl, rfl⟩

/-- A write beside a link's STATE keeps every link's state. -/
theorem linkState_wr (s : State) (f : Fld) {i p : Nat} (x : Nat) (h : f.obj = .lkStat → 3 ≤ f.lo) (hi : i < objCount f.obj) (hp : p < 8) :
    rd (wr s f i x) F.lkStat_STATE p = rd s F.lkStat_STATE p := by
  by_cases ho : ObjId.lkStat = f.obj
  · by_cases he : p = i
    · subst he
      exact rd_wr_field s f _ p x ho (.inl (h ho.symm))
    · exact rd_wr_inst s (g := F.lkStat_STATE) x hp hi ho he
  · exact rd_wr_kind s x ho hp hi

theorem FabOnly.wr {s t : State} (h : FabOnly s t) (f : Fld) (i x : Nat) (ho : f.obj ∈ fabObjs) (hi : i < objCount f.obj)
    (hs : f.obj = .lkStat → 3 ≤ f.lo := by decide) : FabOnly s (wr t f i x) :=
  h.trans ⟨rfl, rfl, fun _ hp => linkState_wr t f x hs hi hp, objsBut_wr t f i x ho hi, rfl, rfl⟩

theorem FabOnly.wrB {s t : State} (h : FabOnly s t) (f : Fld) (i : Nat) (b : Bool) (ho : f.obj ∈ fabObjs) (hi : i < objCount f.obj)
    (hs : f.obj = .lkStat → 3 ≤ f.lo := by decide) : FabOnly s (wrB t f i b) := h.wr f i _ ho hi hs

theorem FabOnly.raiseD {s t : State} (h : FabOnly s t) (c g : Nat) : FabOnly s (raiseD t c g) := h.quiet (quiet_raiseD t c g)

theorem FabOnly.place {s u : State} (h : FabOnly s u) : u.place = s.place := by rw [h.rest]

theorem FabOnly.trigs {s u : State} (h : FabOnly s u) : u.ctl.trigs = s.ctl.trigs := congrArg (·.trigs) h.ctl

theorem fabOnly_foldl {α : Type} {f : State → α → State} {l : List α} (h : ∀ s, ∀ a ∈ l, FabOnly s (f s a)) (s : State) :
    FabOnly s (l.foldl f s) := by
  induction l generalizing s with
  | nil => exact .refl s
  | cons a l ih => exact (h s a List.mem_cons_self).trans (ih (fun t b hb => h t b (List.mem_cons_of_mem _ hb)) _)

theorem fabOnly_ite {s t u : State} {c : Prop} [Decidable c] (h : FabOnly s t) (k : FabOnly s u) : FabOnly s (if c then t else u) := by
  split
  · exact h
  · exact k

theorem fabOnly_showFab (s : State) : FabOnly s (showFab s) := by
  unfold showFab
  extract_lets own s1 path par s2 s3
  have h1 : FabOnly s s1 := by
    unfold s1
    clear s3 s2 par path s1
    clear_value own
    split
    · dsimp only
      have h2 (t : State) (e : Lsr) (h : FabOnly s t) :
          FabOnly s (match e.id with | some i => wr t F.devFabStat_NODE_ID 0 i | none => t) := by
        split
        · exact h.wr _ _ _ (by decide) (by decide)
        · exact h
      refine fabOnly_ite ((FabOnly.wrB (h2 _ _ ?_) _ _ _ (by decide) (by decide)).raiseD _ _) (FabOnly.wrB (h2 _ _ ?_) _ _ _ (by decide) (by decide))
      · exact (FabOnly.refl s).wrB _ _ _ (by decide) (by decide)
      · exact (FabOnly.refl s).wrB _ _ _ (by decide) (by decide)
    · exact .refl s
  have h3 : FabOnly s s3 := by
    unfold s3 s2
    split
    · exact ((h1.wr _ _ _ (by decide) (by decide)).wr _ _ _ (by decide) (by decide)).wr _ _ _ (by decide) (by decide)
    · exact (h1.wr _ _ _ (by decide) (by decide)).wr _ _ _ (by decide) (by decide)
  refine h3.trans (fabOnly_foldl (fun t p hp => ?_) _)
  have hp : p < 8 := List.mem_range.mp hp
  dsimp only
  split
  · exact ((FabOnly.refl t).wrB F.lkStat_PARENT p _ (by decide) hp).wr F.lkStat_NBR_NODE p _ (by decide) hp
  · exact (FabOnly.refl t).wrB F.lkStat_PARENT p _ (by decide) hp

theorem fabOnly_gmChange (old s : State) : FabOnly s (gmChange old s) := by
  unfold gmChange
  extract_lets g0 g1 own c1 s1 lost s2
  have h1 : FabOnly s s1 := by
    unfold s1
    refine fabOnly_ite ((FabOnly.refl s).rate _) (fabOnly_ite (fabOnly_ite (.refl s) ?_) (.refl s))
    exact ((FabOnly.refl s).wr _ _ _ (by decide) (by decide)).modFab _
  have h2 : FabOnly s s2 := fabOnly_ite (h1.raiseD _ _) h1
  exact h2.wrB _ _ _ (by decide) (by decide)

theorem fabOnly_dbChanged (s : State) : FabOnly s (dbChanged s) := by
  unfold dbChanged
  exact ((((FabOnly.refl s).modFab _).trans (fabOnly_showFab _)).trans (fabOnly_gmChange _ _)).wr _ _ _ (by decide) (by decide)

theorem fabOnly_ownUpdate (s : State) : FabOnly s (ownUpdate s) := by
  unfold ownUpdate
  extract_lets old e same s1
  exact fabOnly_ite ((FabOnly.refl s).modFab _) (((FabOnly.refl s).modFab _).trans (fabOnly_dbChanged _))

theorem quiet_queueFrame (s : State) (p : Nat) (h : Hdr) (pl : List Byte) : Quiet s (queueFrame s p h pl).1 := by
  unfold queueFrame
  extract_lets q a
  have ha : Quiet s a.1 := quiet_qPushBytes s 4 q (hdrBytes h)
  split
  · split
    · exact ha.trans (quiet_qPushBytes a.1 4 q pl)
    · exact .refl s
  · exact .refl s

theorem fabOnly_floodOwn (s : State) (h : Hdr) (pl : List Byte) : FabOnly s (floodOwn s h pl) := by
  unfold floodOwn markSeen
  exact (FabOnly.modFab (fabOnly_foldl (fun t p _ => fabOnly_quiet (quiet_queueFrame t p h pl)) s) _)

theorem fabOnly_sendSync (s : State) (step : Nat) : FabOnly s (sendSync s step) := by
  unfold sendSync
  exact (fabOnly_floodOwn _ _ _).modFab _

theorem fabOnly_planSync (s : State) : FabOnly s (planSync s) := fabOnly_ite (fabOnly_sendSync s _) (.refl s)

end Sys2Proof.Machine
end

section
/-!
PROOFS. The commands of a placement attempt and of a re-placement (O47).
-/

namespace Sys2Proof.Machine
open Sys2Proof Sys2Proof.Machine

theorem rd_modPlace (s : State) (g : Place → Place) (f : Fld) (i : Nat) : rd (modPlace s g) f i = rd s f i := rfl

/-- What the start of an attempt shows. -/
theorem placeRun_shows (s : State) (st : Nat) : (∃ c, (placeRun s st).place = { s.place with run := some c, next := none }) ∧
    rd (placeRun s st) F.devPlaceStat_STATE 0 = st % 8 := by
  have h : FabOnly s (if (ownLsr s).bind (·.id) = none then ownUpdate s else s) := fabOnly_ite (fabOnly_ownUpdate s) (.refl s)
  rw [placeRun]
  generalize (if (ownLsr s).bind (·.id) = none then ownUpdate s else s) = u at h
  refine ⟨⟨u.fab.changes, ?_⟩, ?_⟩
  · rw [modPlace, wr_place, h.place]
  · rw [rd_modPlace, rd_wr_same]
    rfl

/-- The device whose attempt has failed, before it weighs LATCH. -/
def placeFailed (s : State) (why : Nat) : State :=
  modPlace (wr (wr (wr s F.devPlaceStat_STATE 0 4) F.devPlaceStat_REASON 0 why) F.devPlaceStat_ATTEMPTS 0
    (min 10 (rd s F.devPlaceStat_ATTEMPTS 0 + 1))) (fun x => { x with run := none, next := none })

theorem placeFailed_shows (s : State) (why : Nat) :
    (placeFailed s why).place = { s.place with run := none, next := none } ∧ rd (placeFailed s why) F.devPlaceStat_STATE 0 = 4 ∧
    rd (placeFailed s why) F.devPlaceStat_REASON 0 = why % 16 ∧
    rd (placeFailed s why) F.devPlaceStat_ATTEMPTS 0 = min 10 (rd s F.devPlaceStat_ATTEMPTS 0 + 1) ∧
    (placeFailed s why).ctl = s.ctl ∧ mode (placeFailed s why) = mode s := by
  rw [placeFailed]
  refine ⟨?_, ?_, ?_, ?_, ?_, ?_⟩
  · rw [modPlace, wr_place, wr_place, wr_place]
  · rw [rd_modPlace]
    simp (disch := decide) only [rd_wr_field, rd_wr_same] <;> decide
  · rw [rd_modPlace]
    simp (disch := decide) only [rd_wr_field, rd_wr_same] <;> rfl
  · rw [rd_modPlace, rd_wr_same]
    exact Nat.mod_eq_of_lt (show min 10 (rd s F.devPlaceStat_ATTEMPTS 0 + 1) < 16 by omega)
  · rw [modPlace, wr_ctl, wr_ctl, wr_ctl]
  · rw [mode, rd_modPlace]
    simp (disch := decide) only [rd_wr_obj]
    rfl

theorem placeFault_eq (s : State) (why : Nat) : placeFault s why =
    if mode (placeFailed s why) = mPlace ∧ 10 ≤ min 10 (rd s F.devPlaceStat_ATTEMPTS 0 + 1) then trigger (placeFailed s why) mLatch 8 none
    else placeFailed s why := by rw [placeFault, placeFailed]

/-- What a fault of an attempt shows. -/
theorem placeFault_shows (s : State) (why : Nat) :
    (placeFault s why).place = { s.place with run := none, next := none } ∧ rd (placeFault s why) F.devPlaceStat_STATE 0 = 4 ∧
    rd (placeFault s why) F.devPlaceStat_REASON 0 = why % 16 ∧
    rd (placeFault s why) F.devPlaceStat_ATTEMPTS 0 = min 10 (rd s F.devPlaceStat_ATTEMPTS 0 + 1) ∧
    (placeFault s why).ctl.trigs =
      s.ctl.trigs ++ if mode s = mPlace ∧ 9 ≤ rd s F.devPlaceStat_ATTEMPTS 0 then [⟨mLatch, 8, none⟩] else [] := by
  obtain ⟨h1, h2, h3, h4, h5, h6⟩ := placeFailed_shows s why
  rw [placeFault_eq, h6]
  by_cases h : mode s = mPlace ∧ 9 ≤ rd s F.devPlaceStat_ATTEMPTS 0
  · rw [if_pos h, if_pos ⟨h.1, by omega⟩, rd_trigger, rd_trigger, rd_trigger, trigger_ctl, trigger_place]
    exact ⟨h1, h2, h3, h4, by rw [h5]⟩
  · rw [if_neg h, if_neg (fun k => h ⟨k.1, by omega⟩), List.append_nil]
    exact ⟨h1, h2, h3, h4, by rw [h5]⟩

theorem placeFails_of_exec {s : State} {c : Instr} {why : Nat} (h : exec c s = done (placeFault s why)) : PlaceFails s c why := by
  refine ⟨ends_of_done h, completes_of_done h fun t q => ?_⟩
  obtain ⟨h1, h2, h3, h4, h5⟩ := placeFault_shows s why
  exact ⟨by rw [q.place, h1], by rw [q.place, h1], by rw [q.place, h1], by rw [q.rd_kind (by decide) (by decide), h2],
    by rw [q.rd_kind (by decide) (by decide), h3], by rw [q.rd_kind (by decide) (by decide), h4], by rw [q.trigs, h5]⟩

/-! ## Attempts -/

section
variable {s : State} (hr : coreRuns s = true)
include hr

theorem exec_placeAttemptStart : exec .placeAttemptStart s =
    if mode s = mPlace ∧ s.place.run = none ∧ rd s F.devPlaceStat_STATE 0 ≠ 4 then done (placeRun s 1) else done s :=
  exec_of_clocked hr (show execPlaceAttemptStart s = _ by rw [execPlaceAttemptStart])

theorem placeAttemptStart_runs (hm : mode s = mPlace) (hn : s.place.run = none) (h4 : rd s F.devPlaceStat_STATE 0 ≠ 4) :
    Ends s .placeAttemptStart (placeRun s 1) ∧ Completes s .placeAttemptStart (fun t => t.place.run.isSome = true ∧
      t.place.next = none ∧ t.place.plan = s.place.plan ∧ rd t F.devPlaceStat_STATE 0 = 1) := by
  have e := (exec_placeAttemptStart hr).trans (if_pos ⟨hm, hn, h4⟩)
  obtain ⟨⟨c, h1⟩, h2⟩ := placeRun_shows s 1
  refine ⟨ends_of_done e, completes_of_done e fun t q => ?_⟩
  exact ⟨by rw [q.place, h1]; rfl, by rw [q.place, h1], by rw [q.place, h1], by rw [q.rd_kind (by decide) (by decide), h2]⟩

theorem placeAttemptStart_not (h : mode s ≠ mPlace ∨ s.place.run ≠ none ∨ rd s F.devPlaceStat_STATE 0 = 4) :
    Ends s .placeAttemptStart s := by
  refine ends_of_done ((exec_placeAttemptStart hr).trans (if_neg fun k => ?_))
  rcases h with h | h | h
  · exact h k.1
  · exact h k.2.1
  · exact k.2.2 h

/-- A plan computed for a database that has changed. -/
theorem planComputed_abandons {k : Nat} {peers : List PeerInput} (hk : s.place.run = some k) (hc : k ≠ s.fab.changes) :
    Ends s (.planComputed peers) (placeAbandon s) ∧ Completes s (.planComputed peers) (fun t => t.place.run = none ∧
      t.place.plan = s.place.plan ∧ rd t F.devPlaceStat_ATTEMPTS 0 = rd s F.devPlaceStat_ATTEMPTS 0) := by
  have e : exec (.planComputed peers) s = done (placeAbandon s) := by
    change execPlanComputed peers s = _
    rw [execPlanComputed, clocked_run _ _ hr, hk]
    exact if_pos hc
  refine ⟨ends_of_done e, completes_of_done e fun t q => ⟨?_, ?_, ?_⟩⟩
  · rw [q.place, placeAbandon, modPlace]
  · rw [q.place, placeAbandon, modPlace, wr_place]
  · rw [q.rd_kind (by decide) (by decide), placeAbandon, rd_modPlace]
    simp (disch := decide) only [rd_wr_field]

theorem exec_planComputed {k : Nat} {peers : List PeerInput} (hk : s.place.run = some k) (hc : k = s.fab.changes) :
    exec (.planComputed peers) s = match allInputs s peers with
      | none => done (placeFault s 8)
      | some ps => match computePlan s.fab.lsdb ps (prevPlan s ps) ((((prevPlan s ps).map (·.no)).getD 0 + 1) % 65536) with
        | .inr reason => done (placeFault s reason)
        | .inl p =>
          let s1 := wr (modPlace s (fun x => { x with next := some p, db := s.fab.lsdb })) F.devPlanHash_HASH 0 (planHash p)
          let s2 := wr s1 F.devPlaceStat_LINK_MAX 0 (linkPercent s ps p)
          done (if s.place.since.isSome then holdMoved s2 (movedAxes s (prevPlan s ps) p) else s2) := by
  change execPlanComputed peers s = _
  rw [execPlanComputed, clocked_run _ _ hr, hk]
  exact if_neg (not_not_intro hc)

theorem planComputed_unread {k : Nat} {peers : List PeerInput} (hk : s.place.run = some k) (hc : k = s.fab.changes)
    (hi : allInputs s peers = none) : PlaceFails s (.planComputed peers) 8 := by
  refine placeFails_of_exec ((exec_planComputed hr hk hc).trans ?_)
  rw [hi]

theorem planComputed_infeasible {k : Nat} {peers ps : List PeerInput} {why : Nat} (hk : s.place.run = some k) (hc : k = s.fab.changes)
    (hi : allInputs s peers = some ps) (hp : computePlan s.fab.lsdb ps (prevPlan s ps)
      ((((prevPlan s ps).map (·.no)).getD 0 + 1) % 65536) = .inr why) : PlaceFails s (.planComputed peers) why := by
  refine placeFails_of_exec ((exec_planComputed hr hk hc).trans ?_)
  rw [hi]
  dsimp only
  rw [hp]

theorem planComputed_plans {k : Nat} {peers ps : List PeerInput} {pl : Plan} (hk : s.place.run = some k) (hc : k = s.fab.changes)
    (hn : s.place.since = none) (hi : allInputs s peers = some ps) (hp : computePlan s.fab.lsdb ps (prevPlan s ps)
      ((((prevPlan s ps).map (·.no)).getD 0 + 1) % 65536) = .inl pl) : Completes s (.planComputed peers) (fun t =>
      t.place.next = some pl ∧ rd t F.devPlanHash_HASH 0 = planHash pl % 2 ^ 256 ∧ t.place.plan = s.place.plan) := by
  have e := exec_planComputed hr hk hc (peers := peers)
  rw [hi] at e
  dsimp only at e
  rw [hp, hn] at e
  dsimp only at e
  rw [if_neg (by decide)] at e
  refine completes_of_done e fun t q => ⟨?_, ?_, ?_⟩
  · rw [q.place, wr_place, wr_place, modPlace]
  · rw [q.rd_kind (by decide) (by decide)]
    simp (disch := decide) only [rd_wr_obj, rd_wr_same]
  · rw [q.place, wr_place, wr_place, modPlace]

end

/-! ## Agreement -/

theorem place_foldl {α : Type} {f : State → α → State} (h : ∀ s a, (f s a).place = s.place) (l : List α) (s : State) :
    (l.foldl f s).place = s.place := by
  induction l generalizing s with
  | nil => rfl
  | cons a l ih => exact (ih _).trans (h s a)

theorem setQuota_place (s : State) (q k : Nat) : (setQuota s q k).place = s.place := by rw [setQuota, setQd_place]

theorem planQuotas_place (s : State) (p : Plan) : (planQuotas s p).place = s.place := by
  rw [planQuotas, place_foldl (fun t q => setQuota_place t q 1), place_foldl (fun t q => setQuota_place t q 0)]

theorem showLanes_place (s : State) (me : Nat) (xs : List Item) : (showLanes s me xs).place = s.place := by
  rw [showLanes, wr_place, place_foldl (fun t l => by rw [wr_place, wr_place])]

theorem partnerTemplates_place (s : State) (me : Nat) (p : Plan) : (partnerTemplates s me p).place = s.place := by
  rw [partnerTemplates, forAxes]
  refine place_foldl (fun t n => ?_) _ _
  split
  · exact wr_place _ _ _ _
  · rfl

/-- A plan that is accepted is the one in force; an attempt goes on as before. -/
theorem acceptPlan_place (s : State) (p : Plan) : (acceptPlan s p).place.plan = some p ∧ (acceptPlan s p).place.run = s.place.run := by
  rw [acceptPlan, wr_place, wr_place, takePlan, wr_place, partnerTemplates_place, wr_place, showLanes_place, modPlace, modFab_place,
    planQuotas_place]
  exact ⟨rfl, rfl⟩

/-- The device as the plan it has agreed on takes force. -/
def planForce (s : State) (p : Plan) : State :=
  let u := acceptPlan (modPlace (modPlace s (fun x => { x with run := none })) (fun x => { x with since := none })) p
  if s.load.standalone then u else planSync u

theorem agreed_inPlace {s : State} (p : Plan) (h : mode s = mPlace) :
    agreed s p = trigger (planForce s p) (if isFollower (planForce s p) then mFollow else mStandby) 7 none := by
  rw [agreed, if_pos (show mode (modPlace s (fun x => { x with run := none })) = mPlace from h), planForce]

theorem planForce_place (s : State) (p : Plan) : (planForce s p).place.run = none ∧ (planForce s p).place.plan = some p := by
  have h : (planForce s p).place = _ := (fabOnly_ite (FabOnly.refl (acceptPlan (modPlace (modPlace s (fun x => { x with run := none }))
    (fun x => { x with since := none })) p)) (fabOnly_planSync _)).place
  obtain ⟨h1, h2⟩ := acceptPlan_place (modPlace (modPlace s (fun x => { x with run := none })) (fun x => { x with since := none })) p
  rw [h, h1, h2]
  exact ⟨rfl, rfl⟩

theorem agreed_elsewhere {s : State} (p : Plan) (h : mode s ≠ mPlace) : (agreed s p).place.run = none ∧
    (agreed s p).place.plan = s.place.plan ∧ (agreed s p).place.moving = true := by
  rw [agreed, if_neg (show ¬ mode (modPlace s (fun x => { x with run := none })) = mPlace from h), (fabOnly_planSync _).place]
  exact ⟨rfl, rfl, rfl⟩

section
variable {s : State} (hr : coreRuns s = true)
include hr

/-- The hash this device sends. -/
def hashAgreed (s : State) (hashes : List PeerHash) : Bool :=
  (placingNodes s).all (fun i => hashes.any (fun x => x.node == i && x.hash == rd s F.devPlanHash_HASH 0) &&
    hashes.all (fun x => x.node != i || x.hash == rd s F.devPlanHash_HASH 0))

theorem exec_placeHashCompare {k : Nat} {hashes : List PeerHash} {p : Plan} (hk : s.place.run = some k) (hc : k = s.fab.changes)
    (hp : s.place.next = some p) : exec (.placeHashCompare hashes) s =
      if hashAgreed s hashes then done (agreed s p) else done (placeFault s 9) := by
  change execPlaceHashCompare hashes s = _
  rw [execPlaceHashCompare, clocked_run _ _ hr, hk, hp]
  exact if_neg (not_not_intro hc)

theorem placeHashCompare_agrees {k : Nat} {hashes : List PeerHash} {p : Plan} (hk : s.place.run = some k) (hc : k = s.fab.changes)
    (hp : s.place.next = some p) (ha : ∀ i ∈ placingNodes s, (∃ x ∈ hashes, x.node = i ∧ x.hash = rd s F.devPlanHash_HASH 0) ∧
      ∀ x ∈ hashes, x.node = i → x.hash = rd s F.devPlanHash_HASH 0) :
    Ends s (.placeHashCompare hashes) (agreed s p) ∧
    Completes s (.placeHashCompare hashes) (fun t => t.place.run = none ∧ (mode s = mPlace → t.place.plan = some p ∧
      ((⟨mStandby, 7, none⟩ : Trig) ∈ t.ctl.trigs ∨ (⟨mFollow, 7, none⟩ : Trig) ∈ t.ctl.trigs)) ∧
      (mode s ≠ mPlace → t.place.plan = s.place.plan ∧ t.place.moving = true)) := by
  have hb : hashAgreed s hashes = true := by
    rw [hashAgreed, List.all_eq_true]
    intro i hi
    obtain ⟨⟨x, hx, hn, hh⟩, hall⟩ := ha i hi
    rw [Bool.and_eq_true, List.any_eq_true, List.all_eq_true]
    refine ⟨⟨x, hx, by rw [hn, hh, beq_self_eq_true, beq_self_eq_true]; rfl⟩, fun y hy => ?_⟩
    by_cases e : y.node = i
    · rw [hall y hy e, beq_self_eq_true, Bool.or_true]
    · rw [bne_iff_ne.mpr e, Bool.true_or]
  have e := (exec_placeHashCompare hr hk hc hp).trans (if_pos hb)
  refine ⟨ends_of_done e, completes_of_done e fun t q => ?_⟩
  rw [q.place, q.trigs]
  by_cases hm : mode s = mPlace
  · obtain ⟨h1, h2⟩ := planForce_place s p
    rw [agreed_inPlace p hm, trigger_place, trigger_ctl]
    refine ⟨h1, fun _ => ⟨h2, ?_⟩, fun h => absurd hm h⟩
    split
    · exact .inr (List.mem_append_right _ List.mem_cons_self)
    · exact .inl (List.mem_append_right _ List.mem_cons_self)
  · obtain ⟨h1, h2, h3⟩ := agreed_elsewhere p hm
    exact ⟨h1, fun h => absurd h hm, fun _ => ⟨h2, h3⟩⟩

theorem placeHashCompare_differs {k : Nat} {hashes : List PeerHash} {p : Plan} (hk : s.place.run = some k) (hc : k = s.fab.changes)
    (hp : s.place.next = some p) (hd : ∃ i ∈ placingNodes s, ∃ x ∈ hashes, x.node = i ∧ x.hash ≠ rd s F.devPlanHash_HASH 0) :
    PlaceFails s (.placeHashCompare hashes) 9 := by
  refine placeFails_of_exec ((exec_placeHashCompare hr hk hc hp).trans (if_neg fun hb => ?_))
  obtain ⟨i, hi, x, hx, hn, hh⟩ := hd
  rw [hashAgreed, List.all_eq_true] at hb
  have h := hb i hi
  rw [Bool.and_eq_true, List.all_eq_true] at h
  have h := h.2 x hx
  rw [Bool.or_eq_true, bne_iff_ne, beq_iff_eq] at h
  exact h.elim (fun h => h hn) hh

/-! ## Timers -/

theorem placeInputTimeout_fails {k node : Nat} (hk : s.place.run = some k) (hc : k = s.fab.changes) (hn : s.place.next = none)
    (hm : node ∈ placingNodes s) : PlaceFails s (.placeInputTimeout node) 8 := by
  refine placeFails_of_exec ?_
  change execPlaceInputTimeout node s = _
  rw [execPlaceInputTimeout, clocked_run _ _ hr, hk]
  dsimp only
  rw [if_neg (not_not_intro hc), hn, if_pos ⟨rfl, List.contains_iff_mem.mpr hm⟩]

theorem placeInputTimeout_not {node : Nat} (hk : s.place.run = none) : Ends s (.placeInputTimeout node) s := by
  refine ends_of_done ?_
  change execPlaceInputTimeout node s = _
  rw [execPlaceInputTimeout, clocked_run _ _ hr, hk]

theorem exec_placeRetryTimer : exec .placeRetryTimer s = if rd s F.devPlaceStat_STATE 0 ≠ 4 then done s
    else if mode s = mPlace then done (placeRun s 1)
    else if s.place.plan.isSome then done (modPlace (placeRun s 3) (fun x => { x with since := some (x.since.getD (locNs s)) }))
    else done s := exec_of_clocked hr (show execPlaceRetryTimer s = _ by rw [execPlaceRetryTimer])

theorem placeRetryTimer_places (h4 : rd s F.devPlaceStat_STATE 0 = 4) (hm : mode s = mPlace) :
    Ends s .placeRetryTimer (placeRun s 1) ∧
    Completes s .placeRetryTimer (fun t => t.place.run.isSome = true ∧ rd t F.devPlaceStat_STATE 0 = 1) := by
  have e := (exec_placeRetryTimer hr).trans ((if_neg (not_not_intro h4)).trans (if_pos hm))
  obtain ⟨⟨c, h1⟩, h2⟩ := placeRun_shows s 1
  exact ⟨ends_of_done e, completes_of_done e fun t q => ⟨by rw [q.place, h1]; rfl, by rw [q.rd_kind (by decide) (by decide), h2]⟩⟩

theorem placeRetryTimer_replaces (h4 : rd s F.devPlaceStat_STATE 0 = 4) (hm : mode s ≠ mPlace) (hp : s.place.plan ≠ none) :
    Completes s .placeRetryTimer (fun t => t.place.run.isSome = true ∧ t.place.plan = s.place.plan ∧
      rd t F.devPlaceStat_STATE 0 = 3 ∧ t.place.since = some (s.place.since.getD (locNs s))) := by
  have e := (exec_placeRetryTimer hr).trans ((if_neg (not_not_intro h4)).trans ((if_neg hm).trans
    (if_pos (Option.isSome_iff_ne_none.mpr hp))))
  obtain ⟨⟨c, h1⟩, h2⟩ := placeRun_shows s 3
  refine completes_of_done e fun t q => ?_
  rw [q.place, q.rd_kind (by decide) (by decide), rd_modPlace, h2, modPlace, h1]
  exact ⟨rfl, rfl, rfl, rfl⟩

theorem placeRetryTimer_not (h4 : rd s F.devPlaceStat_STATE 0 ≠ 4) : Ends s .placeRetryTimer s :=
  ends_of_done ((exec_placeRetryTimer hr).trans (if_pos h4))

theorem exec_replacementStart : exec .replacementStart s =
    if s.place.plan.isSome ∧ mode s ≠ mPlace ∧ mode s ≠ mLatch ∧ s.fab.changeAt + 1000000 ≤ locNs s then
      done (modPlace (placeRun s 3) (fun x => { x with since := some (x.since.getD (locNs s)), moving := false }))
    else done s := exec_of_clocked hr (show execReplacementStart s = _ by rw [execReplacementStart])

theorem replacementStart_runs (hp : s.place.plan ≠ none) (hm : mode s ≠ mPlace) (hl : mode s ≠ mLatch)
    (hq : s.fab.changeAt + 1000000 ≤ locNs s) :
    Ends s .replacementStart (modPlace (placeRun s 3) (fun x => { x with since := some (x.since.getD (locNs s)), moving := false })) ∧
    Completes s .replacementStart (fun t => t.place.run.isSome = true ∧ t.place.plan = s.place.plan ∧
      t.place.since = some (s.place.since.getD (locNs s)) ∧ rd t F.devPlaceStat_STATE 0 = 3) := by
  have e := (exec_replacementStart hr).trans (if_pos ⟨Option.isSome_iff_ne_none.mpr hp, hm, hl, hq⟩)
  obtain ⟨⟨c, h1⟩, h2⟩ := placeRun_shows s 3
  refine ⟨ends_of_done e, completes_of_done e fun t q => ?_⟩
  rw [q.place, q.rd_kind (by decide) (by decide), rd_modPlace, h2, modPlace, h1]
  exact ⟨rfl, rfl, rfl, rfl⟩

theorem replacementStart_not (h : s.place.plan = none ∨ mode s = mPlace ∨ mode s = mLatch) : Ends s .replacementStart s := by
  refine ends_of_done ((exec_replacementStart hr).trans (if_neg fun k => ?_))
  rcases h with h | h | h
  · rw [h] at k
    exact absurd k.1 (by decide)
  · exact k.2.1 h
  · exact k.2.2.1 h

theorem replacementTimeout_fails {t : Nat} (hs : s.place.since = some t) (ht : t + 5000000 ≤ locNs s) :
    Completes s .replacementTimeout (fun u => u.place.since = none ∧ u.place.moving = false ∧ u.place.plan = s.place.plan ∧
      (⟨if rdB s F.devPlaceCfg_REPL_REACT 0 then mSafestop else mHold, 10, none⟩ : Trig) ∈ u.ctl.trigs) := by
  have e : exec .replacementTimeout s = done (trigger (modPlace (placeFault s 11) (fun x => { x with since := none, moving := false }))
      (if rdB s F.devPlaceCfg_REPL_REACT 0 then mSafestop else mHold) 10 none) := by
    change execReplacementTimeout s = _
    rw [execReplacementTimeout, clocked_run _ _ hr, hs]
    exact if_pos ht
  obtain ⟨h1, -⟩ := placeFault_shows s 11
  refine completes_of_done e fun u q => ?_
  rw [q.place, q.trigs, trigger_place, trigger_ctl, modPlace, h1]
  exact ⟨rfl, rfl, rfl, List.mem_append_right _ List.mem_cons_self⟩

theorem replacementTimeout_not (hs : s.place.since = none) : Ends s .replacementTimeout s := by
  refine ends_of_done ?_
  change execReplacementTimeout s = _
  rw [execReplacementTimeout, clocked_run _ _ hr, hs]

end

/-- Settles O47. -/
theorem placementRuns : Obligations.PlacementRuns := fun _ hr =>
  ⟨placeAttemptStart_runs hr, placeAttemptStart_not hr, fun _ _ hk hc => planComputed_abandons hr hk hc,
    fun _ _ hk hc hi => planComputed_unread hr hk hc hi, fun _ _ hk hc _ hi _ hp => planComputed_infeasible hr hk hc hi hp,
    fun _ _ hk hc hn _ hi _ hp => planComputed_plans hr hk hc hn hi hp,
    fun _ _ hk hc _ hp ha => placeHashCompare_agrees hr hk hc hp ha, fun _ _ hk hc _ hp hd => placeHashCompare_differs hr hk hc hp hd,
    fun _ _ hk hc hn hm => placeInputTimeout_fails hr hk hc hn hm, fun _ hk => placeInputTimeout_not hr hk,
    placeRetryTimer_places hr, placeRetryTimer_replaces hr, placeRetryTimer_not hr, replacementStart_runs hr, replacementStart_not hr,
    fun _ hs ht => replacementTimeout_fails hr hs ht, replacementTimeout_not hr⟩

end Sys2Proof.Machine
end

section
/-!
PROOFS. Fabric time (O46): the exchanges, SYNC, and the new grid at its time.
-/

namespace Sys2Proof.Machine
open Sys2Proof Sys2Proof.Machine

theorem fabEnds_of_exec {s u : State} {c : Instr} {P : State → Prop} (h : exec c s = fabDone s u) (hP : P u) : FabEnds s c P :=
  ⟨u, hP, ends_of_done h⟩

theorem lk_modLk_same (s : State) (p : Nat) (f : Link → Link) : lk (modLk s p f) p = f (lk s p) := mget_mset_same _ _ _ _

theorem lk_of_links {s u : State} (h : u.fab.links = s.fab.links) (p : Nat) : lk u p = lk s p := by rw [lk, h, lk]

/-! ## Requests and responses -/

section
variable {s : State} {p : Fin 8} {f : Frame} (hr : coreRuns s = true)
include hr

theorem exec_tsyncRequestSend : exec (.tsyncRequestSend p) s = if isUp s p && !isTwin s p && decide (mode s ≠ mLatch) then
      done (sendFctl (modLk s p (fun l => { l with xno := ((lk s p).xno + 1) % 65536, t1 := none })) p cCtl false true
        ([4, 1] ++ leBytes 2 (((lk s p).xno + 1) % 65536) ++ List.replicate 28 0))
    else done s := exec_of_clocked hr (show execTsyncRequestSend p s = _ by rw [execTsyncRequestSend])

theorem exec_tsyncRequestReceive : exec (.tsyncRequestReceive p f) s =
    if frameKind f ≠ 4 ∨ fieldB f.bytes 17 1 = 2 then done s
    else match (frameIn s p f).2 with
      | none => fabDone s (frameIn s p f).1
      | some x =>
        if mode s = mLatch ∨ fieldB x.payload 1 1 ≠ 1 then fabDone s (frameIn s p f).1
        else fabDone s (sendFctl (stampNs (frameIn s p f).1).1 p cCtl false true
          ([4, 2] ++ (x.payload.drop 2).take 14 ++ leBytes 8 (stampNs (frameIn s p f).1).2 ++ leBytes 8 0)) :=
  exec_of_clocked hr (show execTsyncRequestReceive p f s = _ by rw [execTsyncRequestReceive] <;> rfl)

theorem tsyncRequestReceive_answers {x : Taken} (h4 : frameKind f = 4) (h1 : fieldB f.bytes 17 1 = 1) (hx : (frameIn s p f).2 = some x)
    (hq : fieldB x.payload 1 1 = 1) (hm : mode s ≠ mLatch) : Ends s (.tsyncRequestReceive p f) (fabEnd s (sendFctl
      (stampNs (frameIn s p f).1).1 p cCtl false true
      ([4, 2] ++ (x.payload.drop 2).take 14 ++ leBytes 8 (stampNs (frameIn s p f).1).2 ++ leBytes 8 0))) := by
  refine ends_of_done ((exec_tsyncRequestReceive hr).trans ?_)
  rw [if_neg (by rw [h4, h1]; decide), hx]
  dsimp only
  rw [if_neg (by rw [hq]; simpa using hm)]
  rfl

/-- What an answered request leaves of the link: the delay it measured. -/
def exchanged (r : State) (p : Nat) (x : Taken) : State :=
  modLk (stampNs r).1 p (fun l => { l with t1 := none, delays := (((((stampNs r).2 : Int) - fieldB x.payload 8 8) -
    ((fieldB x.payload 0x18 8 : Nat) - (fieldB x.payload 0x10 8 : Int))) :: l.delays).take 16 })

theorem tsyncResponseReceive_takes {x : Taken} (h4 : frameKind f = 4) (h2 : fieldB f.bytes 17 1 = 2) (hx : (frameIn s p f).2 = some x)
    (ht : (lk (frameIn s p f).1 p).t1 = some (fieldB x.payload 8 8)) (hn : fieldB x.payload 2 2 = (lk (frameIn s p f).1 p).xno)
    (hp : rdB (frameIn s p f).1 F.lkStat_PARENT p = false) :
    exec (.tsyncResponseReceive p f) s = fabDone s (ownUpdate (wr (exchanged (frameIn s p f).1 p x) F.lkStat_LAT p
      (min 8191 (lkDelay (exchanged (frameIn s p f).1 p x) p)))) := by
  have hpar : ∀ y, rdB (wr (exchanged (frameIn s p f).1 p x) F.lkStat_LAT p y) F.lkStat_PARENT p = false := fun y => by
    rw [rdB, rd_wr_field _ F.lkStat_LAT F.lkStat_PARENT p y rfl (by decide)]
    exact hp
  refine exec_of_clocked hr (show execTsyncResponseReceive p f s = _ from ?_)
  rw [execTsyncResponseReceive, if_neg (by rw [h4, h2]; decide)]
  dsimp only
  rw [hx]
  dsimp only
  rw [if_neg (by rw [ht, hn]; simp)]
  change clocked s (fabDone s (ownUpdate (if rdB (wr (exchanged (frameIn s p f).1 p x) F.lkStat_LAT p _) F.lkStat_PARENT p && _ then _ else
    wr (exchanged (frameIn s p f).1 p x) F.lkStat_LAT p _))) = _
  rw [hpar, Bool.false_and, if_neg Bool.false_ne_true]
  rfl

theorem tsyncRequestReceive_response (h2 : fieldB f.bytes 17 1 = 2) : Ends s (.tsyncRequestReceive p f) s :=
  ends_of_done ((exec_tsyncRequestReceive hr).trans (if_pos (.inr h2)))

theorem tsyncResponseReceive_request (h2 : fieldB f.bytes 17 1 ≠ 2) : Ends s (.tsyncResponseReceive p f) s := by
  refine ends_of_done (exec_of_clocked hr (show execTsyncResponseReceive p f s = _ from ?_))
  rw [execTsyncResponseReceive, if_pos (.inr h2)]

end

/-- What the node keeps of an answered request, as the statement says it. -/
theorem exchanged_leaves (r : State) (p : Fin 8) (x : Taken) (y : Nat) :
    (lk (ownUpdate (wr (exchanged r p x) F.lkStat_LAT p y)) p).delays =
      (((((stampNs r).2 : Int) - fieldB x.payload 8 8) - ((fieldB x.payload 0x18 8 : Nat) - (fieldB x.payload 0x10 8 : Int))) ::
        (lk r p).delays).take 16 ∧
    (lk (ownUpdate (wr (exchanged r p x) F.lkStat_LAT p y)) p).t1 = none ∧
    (ownUpdate (wr (exchanged r p x) F.lkStat_LAT p y)).ctl.ofs = r.ctl.ofs := by
  have h := fabOnly_ownUpdate (wr (exchanged r p x) F.lkStat_LAT p y)
  have ho : (ownUpdate (wr (exchanged r p x) F.lkStat_LAT p y)).ctl.ofs = (wr (exchanged r p x) F.lkStat_LAT p y).ctl.ofs :=
    congrArg (·.ofs) h.ctl
  rw [lk_of_links (s := exchanged r p x) (h.links.trans (by rw [wr_fab])), ho, wr_ctl, exchanged, lk_modLk_same]
  exact ⟨rfl, rfl, rfl⟩

/-! ## SYNC -/

/-- The next time on the period's grid that lies at least 50 µs ahead. -/
theorem syncT_next {s : State} {step : Nat} (hs : 0 < step) (he : s.fab.epoch ≤ nowNs s) :
    nowNs s + 50000 ≤ syncT s step ∧ syncT s step < nowNs s + 50000 + step ∧ (syncT s step - s.fab.epoch) % step = 0 := by
  obtain ⟨k, hk⟩ : ∃ k : Nat, nowNs s + 50000 = s.fab.epoch + k := ⟨nowNs s + 50000 - s.fab.epoch, by omega⟩
  have hd : (nowNs s : Int) + 50000 - s.fab.epoch = (k : Int) := by omega
  have ht : syncT s step = s.fab.epoch + (k + step - 1) / step * step := by
    rw [syncT]
    rw [hd, show (k : Int) + step - 1 = ((k + step - 1 : Nat) : Int) by omega, ← Int.natCast_ediv, ← Int.natCast_mul, ← Int.natCast_add,
      Int.toNat_natCast]
  have hm : (k + step - 1) / step * step + (k + step - 1) % step = k + step - 1 := Nat.div_add_mod' _ _
  have hl : (k + step - 1) % step < step := Nat.mod_lt _ hs
  rw [ht, hk]
  refine ⟨by omega, by omega, ?_⟩
  rw [Nat.add_sub_cancel_left, Nat.mul_mod_left]

section
variable {s : State} (hr : coreRuns s = true)
include hr

theorem exec_syncPeriodExpiry : exec .syncPeriodExpiry s =
    if fabActive s && isGm s && decide (rd s F.devFabCfg_SYNC_PER 0 ≠ 0) && decide (mode s ≠ mLatch) then
      done (sendSync s (rd s F.devFabCfg_SYNC_PER 0 * 1000000))
    else done s := exec_of_clocked hr (show execSyncPeriodExpiry s = _ by rw [execSyncPeriodExpiry])

theorem syncPeriodExpiry_sends (ha : fabActive s = true) (hg : isGm s = true) (hp : rd s F.devFabCfg_SYNC_PER 0 ≠ 0)
    (hm : mode s ≠ mLatch) : Ends s .syncPeriodExpiry (sendSync s (rd s F.devFabCfg_SYNC_PER 0 * 1000000)) ∧
    Completes s .syncPeriodExpiry (fun t => t.fab.syncNo = (s.fab.syncNo + 1) % 65536 ∧
      ∃ at_, t.fab.syncPend = some ((s.fab.syncNo + 1) % 65536, at_) ∧ (s.fab.epoch ≤ nowNs s →
        nowNs s + 50000 ≤ at_ ∧ at_ < nowNs s + 50000 + rd s F.devFabCfg_SYNC_PER 0 * 1000000 ∧
        (at_ - s.fab.epoch) % (rd s F.devFabCfg_SYNC_PER 0 * 1000000) = 0)) := by
  have e := (exec_syncPeriodExpiry hr).trans (if_pos (by rw [ha, hg, decide_eq_true hp, decide_eq_true hm]; rfl))
  refine ⟨ends_of_done e, completes_of_done e fun t q => ?_⟩
  rw [q.fab]
  exact ⟨rfl, _, rfl, fun he => syncT_next (by omega) he⟩

theorem syncPeriodExpiry_not (h : isGm s = false ∨ rd s F.devFabCfg_SYNC_PER 0 = 0 ∨ mode s = mLatch) : Ends s .syncPeriodExpiry s := by
  refine ends_of_done ((exec_syncPeriodExpiry hr).trans (if_neg fun k => ?_))
  simp only [Bool.and_eq_true, decide_eq_true_iff] at k
  obtain ⟨⟨⟨-, hg⟩, hp⟩, hm⟩ := k
  rcases h with h | h | h
  · exact absurd (h.symm.trans hg) (by decide)
  · exact hp h
  · exact hm h

theorem exec_syncReceive (p : Fin 8) (f : Frame) : exec (.syncReceive p f) s = if frameKind f ≠ 5 then done s
    else match (frameIn s p f).2 with
      | none => fabDone s (frameIn s p f).1
      | some x => fabDone s (takeSync (frameIn s p f).1 (fieldB x.payload 2 2) (fieldB x.payload 8 8)) :=
  exec_of_clocked hr (show execSyncReceive p f s = _ by rw [execSyncReceive] <;> rfl)

theorem syncReceive_receives (p : Fin 8) (f : Frame) :
    Receives s p f 5 (.syncReceive p f) (fun s1 x => takeSync s1 (fieldB x.payload 2 2) (fieldB x.payload 8 8)) where
  other h := ends_of_done ((exec_syncReceive hr p f).trans (if_pos h))
  fails h hx := ends_of_done (by rw [exec_syncReceive hr p f, if_neg (not_not_intro h), hx, fabDone])
  passes x h hx := ends_of_done (by rw [exec_syncReceive hr p f, if_neg (not_not_intro h), hx]; rfl)

omit hr in
theorem takeSync_first {s : State} (no t : Nat) (hn : s.fab.syncPend = none) : (takeSync s no t).fab.syncPend = some (no, t) ∧
    (takeSync s no t).fab.syncNo = no ∧ (t < nowNs s → rd (takeSync s no t) F.devFabCnt_SYNC_LATE 0 =
      min (rd s F.devFabCnt_SYNC_LATE 0 + 1) (2 ^ F.devFabCnt_SYNC_LATE.w - 1)) := by
  rw [takeSync, hn]
  dsimp only
  rw [if_pos rfl]
  refine ⟨rfl, rfl, fun h => ?_⟩
  rw [if_pos h, rd_of_regs (modFab_regs _ _), rd_incSat]

theorem syncReceive_first {p : Fin 8} {f : Frame} {s1 : State} {x : Taken} (h5 : frameKind f = 5) (hx : frameIn s p f = (s1, some x))
    (hn : s1.fab.syncPend = none) : FabEnds s (.syncReceive p f) (fun u =>
      u = takeSync s1 (fieldB x.payload 2 2) (fieldB x.payload 8 8) ∧
      u.fab.syncPend = some (fieldB x.payload 2 2, fieldB x.payload 8 8) ∧ u.fab.syncNo = fieldB x.payload 2 2 ∧
      (fieldB x.payload 8 8 < nowNs s1 → rd u F.devFabCnt_SYNC_LATE 0 =
        min (rd s1 F.devFabCnt_SYNC_LATE 0 + 1) (2 ^ F.devFabCnt_SYNC_LATE.w - 1))) := by
  have e := (exec_syncReceive hr p f).trans (if_neg (not_not_intro h5))
  rw [hx] at e
  exact fabEnds_of_exec e ⟨rfl, takeSync_first _ _ hn⟩

/-! ## The grid anew -/

end

theorem holdGroups_place (s : State) (a b : Nat) : (holdGroups s a b).place = s.place := by
  refine place_foldl (fun t g => ?_) _ s
  dsimp only
  split
  · rw [holdGroup, setGrp_place]
  · rfl

theorem clearAll_place (s : State) (f1 : Nat) : (clearAll s f1).place = s.place := by
  unfold clearAll
  extract_lets s1 s2
  have h1 : s1.place = s.place := by
    refine place_foldl (fun t n => ?_) _ s
    rw [modExc, setAx_place, modFlt, setAx_place]
  have h2 : s2.place = s1.place := by
    refine place_foldl (fun t k => ?_) _ s1
    rw [setAux_place]
  clear_value s2 s1
  rw [stick, wr_place]
  exact h2.trans h1

theorem placeAt_still {s : State} (h : s.place.moving = false) : placeAt s = s := by
  rw [placeAt, h]

theorem frameRealign_realigns {s : State} (hr : coreRuns s = true) {no t : Nat} (hp : s.fab.syncPend = some (no, t)) (ht : t ≤ nowNs s)
    (hm : s.place.moving = false) : Completes s .frameRealign (fun u => u.ctl.epoch = epochCyc s t ∧ u.fab.syncPend = none ∧
      rd u F.devFabEpoch_SYNC_NO 0 = no % 65536 ∧ rd u F.devFabEpoch_EPOCH 0 = t % 2 ^ 48) := by
  have e : exec .frameRealign s = done (realign s no t) := by
    refine exec_of_clocked hr (show execFrameRealign s = _ from ?_)
    rw [execFrameRealign, hp]
    dsimp only
    rw [if_pos ht]
  have hpl : (holdGroups (if framesMove s (epochCyc s t) then clearAll s (firstFrame s (epochCyc s t)) else s) s.ctl.epoch
      (epochCyc s t)).place = s.place := by
    rw [holdGroups_place]
    split
    · exact clearAll_place _ _
    · rfl
  rw [realign] at e
  dsimp only at e
  generalize holdGroups _ s.ctl.epoch (epochCyc s t) = u at e hpl
  rw [placeAt_still (by rw [wr_place, wr_place, modFab_place]; exact (congrArg Place.moving hpl).trans hm)] at e
  refine completes_of_done e fun v q => ⟨?_, ?_, ?_, ?_⟩
  · rw [congrArg (·.epoch) q.ctl, wr_ctl, wr_ctl, modFab_ctl]
  · rw [q.fab, wr_fab, wr_fab, modFab]
  · rw [q.rd_kind (by decide) (by decide), rd_wr_same]
    rfl
  · rw [q.rd_kind (by decide) (by decide)]
    simp (disch := decide) only [rd_wr_field, rd_wr_same]
    exact Nat.mod_mod _ _

theorem frameRealign_early {s : State} (hr : coreRuns s = true) {no t : Nat} (hp : s.fab.syncPend = some (no, t)) (ht : nowNs s < t) :
    Ends s .frameRealign s := by
  refine ends_of_done (exec_of_clocked hr (show execFrameRealign s = _ from ?_))
  rw [execFrameRealign, hp]
  dsimp only
  rw [if_neg (Nat.not_le.mpr ht)]

/-- Settles O46. -/
theorem fabricTime : Obligations.FabricTime := by
  intro s p f hr
  refine ⟨fun hu ht hm => ends_of_done ((exec_tsyncRequestSend hr).trans (if_pos (by rw [hu, ht, decide_eq_true hm]; rfl))),
    fun h => ends_of_done ((exec_tsyncRequestSend hr).trans (if_neg fun k => ?_)),
    fun x h4 h1 hx hq hm => tsyncRequestReceive_answers hr h4 h1 hx hq hm, tsyncRequestReceive_response hr,
    tsyncResponseReceive_request hr, ?_, syncPeriodExpiry_sends hr, syncPeriodExpiry_not hr, syncReceive_receives hr p f,
    fun s1 x h5 hx hn => syncReceive_first hr h5 hx hn, fun no t hp ht hm => frameRealign_realigns hr hp ht hm,
    fun no t hp ht => frameRealign_early hr hp ht⟩
  · simp only [Bool.and_eq_true, Bool.not_eq_true', decide_eq_true_iff] at k
    obtain ⟨⟨hu, ht⟩, hm⟩ := k
    rcases h with h | h | h
    · exact absurd (h.symm.trans hu) (by decide)
    · exact absurd (h.symm.trans ht) (by decide)
    · exact hm h
  · intro x h4 h2 hx r st d2 s1 ht hn hp
    exact fabEnds_of_exec (tsyncResponseReceive_takes hr h4 h2 hx ht hn hp) ⟨rfl, exchanged_leaves r p x _⟩

end Sys2Proof.Machine
end

section
/-!
PROOFS. The link-state database (O45): entries keep their places as IDs are given out; taking links down touches the database only by
the own entry, which stands under the last sequence sent.
-/

namespace Sys2Proof.Machine
open Sys2Proof Sys2Proof.Machine

/-! ## Entries but for their IDs -/

/-- Two entries are of one node and say the same, their IDs aside. -/
def SameEntry (a b : Lsr) : Prop := ∃ i d, b = { a with id := i, dup := d }

theorem SameEntry.refl (a : Lsr) : SameEntry a a := ⟨a.id, a.dup, rfl⟩

theorem SameEntry.trans {a b c : Lsr} : SameEntry a b → SameEntry b c → SameEntry a c := by
  rintro ⟨i, d, rfl⟩ ⟨j, e, rfl⟩
  exact ⟨j, e, rfl⟩

theorem SameEntry.serial {a b : Lsr} : SameEntry a b → b.serial = a.serial := by
  rintro ⟨i, d, rfl⟩
  rfl

/-- Two databases whose entries agree place by place, their IDs aside. -/
inductive SameEntries : List Lsr → List Lsr → Prop
  | nil : SameEntries [] []
  | cons {a b : Lsr} {as bs : List Lsr} : SameEntry a b → SameEntries as bs → SameEntries (a :: as) (b :: bs)

theorem sameEntries_map (f : Lsr → Lsr) (hf : ∀ e, SameEntry e (f e)) : ∀ db : List Lsr, SameEntries db (db.map f)
  | [] => .nil
  | e :: es => .cons (hf e) (sameEntries_map f hf es)

theorem sameEntries_assignFixed (db : List Lsr) (used : List Nat) : SameEntries db (assignFixed db used) := by
  induction db generalizing used with
  | nil => exact .nil
  | cons e es ih =>
    rw [assignFixed]
    split
    · exact .cons (.refl e) (ih used)
    · split
      · exact .cons ⟨_, _, rfl⟩ (ih used)
      · exact .cons ⟨_, _, rfl⟩ (ih _)

theorem sameEntries_assignFree (db : List Lsr) (used : List Nat) : SameEntries db (assignFree db used) := by
  induction db generalizing used with
  | nil => exact .nil
  | cons e es ih =>
    rw [assignFree]
    split
    · exact .cons (.refl e) (ih used)
    · split
      · exact .cons ⟨_, _, rfl⟩ (ih _)
      · exact .cons ⟨_, _, rfl⟩ (ih used)

theorem SameEntries.refl : ∀ db : List Lsr, SameEntries db db
  | [] => .nil
  | e :: es => .cons (.refl e) (SameEntries.refl es)

theorem SameEntries.trans {a b c : List Lsr} (h : SameEntries a b) (k : SameEntries b c) :
    SameEntries a c := by
  induction h generalizing c with
  | nil => exact k
  | cons h _ ih =>
    cases k with
    | cons k ks => exact .cons (h.trans k) (ih ks)

theorem sameEntries_assignIds (held : Bool) (db : List Lsr) : SameEntries db (assignIds held db) := by
  have h0 : SameEntries db (if held then db else db.map (fun e => { e with id := none, dup := false })) := by
    split
    · exact SameEntries.refl db
    · exact sameEntries_map _ (fun e => ⟨_, _, rfl⟩) db
  exact SameEntries.trans h0 (SameEntries.trans (sameEntries_assignFixed _ _) (sameEntries_assignFree _ _))

theorem lsrOf_serial {db : List Lsr} {k : Nat} {e : Lsr} (h : lsrOf db k = some e) : e.serial = k := by
  have := List.find?_some h
  exact beq_iff_eq.mp this

/-- The entry of a node in a database that gave out IDs. -/
theorem lsrOf_sameEntries {a b : List Lsr} (h : SameEntries a b) (k : Nat) :
    (lsrOf a k = none ∧ lsrOf b k = none) ∨ ∃ e o, lsrOf a k = some e ∧ lsrOf b k = some o ∧ SameEntry e o := by
  induction h with
  | nil => exact .inl ⟨rfl, rfl⟩
  | @cons e o es os he hs ih =>
    rw [lsrOf, lsrOf, List.find?_cons, List.find?_cons, he.serial]
    by_cases hk : (e.serial == k) = true
    · rw [hk]
      exact .inr ⟨e, o, rfl, rfl, he⟩
    · rw [Bool.not_eq_true] at hk
      rw [hk]
      exact ih

/-- An entry that IDs are given out beside keeps its node. -/
theorem serial_assignNear (near : Lsr → Bool) (held : Bool) (db : List Lsr) (e : Lsr) :
    (if near e then (lsrOf (assignIds held (db.filter near)) e.serial).getD e else e).serial = e.serial := by
  split
  · cases h : lsrOf (assignIds held (db.filter near)) e.serial with
    | none => rfl
    | some o => exact lsrOf_serial h
  · rfl

theorem map_serial_assignNear (near : Lsr → Bool) (held : Bool) (db : List Lsr) :
    (assignNear near held db).map (·.serial) = db.map (·.serial) := by
  rw [assignNear, List.map_map]
  exact List.map_congr_left fun e _ => serial_assignNear near held db e

/-- The entry of a node in a database where IDs were given out to the nodes near: `near` speaks of serials. -/
theorem lsrOf_assignNear {near : Lsr → Bool} (hn : ∀ a b : Lsr, a.serial = b.serial → near a = near b) (held : Bool) (db : List Lsr)
    (k : Nat) : (lsrOf db k = none ∧ lsrOf (assignNear near held db) k = none) ∨
      ∃ e o, lsrOf db k = some e ∧ lsrOf (assignNear near held db) k = some o ∧ SameEntry e o := by
  have hm : lsrOf (assignNear near held db) k = (lsrOf db k).map
      (fun e => if near e then (lsrOf (assignIds held (db.filter near)) e.serial).getD e else e) := by
    rw [lsrOf, assignNear, List.find?_map, lsrOf]
    have hp : ((fun e : Lsr => e.serial == k) ∘ fun e => if near e then (lsrOf (assignIds held (db.filter near)) e.serial).getD e else e) =
        fun e => e.serial == k := funext fun e => by rw [Function.comp, serial_assignNear]
    rw [hp]
  cases h : lsrOf db k with
  | none => exact .inl ⟨rfl, by rw [hm, h]; rfl⟩
  | some e =>
    refine .inr ⟨e, _, rfl, by rw [hm, h]; rfl, ?_⟩
    dsimp only
    by_cases hne : near e = true
    · rw [if_pos hne]
      have hf : lsrOf (db.filter near) e.serial = some e := by
        rw [lsrOf, List.find?_filter, ← h, lsrOf, lsrOf_serial h]
        refine congrArg (List.find? · db) (funext fun a => ?_)
        by_cases ha : a.serial = k
        · simp [ha, hn a e (ha.trans (lsrOf_serial h).symm), hne]
        · simp [ha]
      rcases lsrOf_sameEntries (sameEntries_assignIds held (db.filter near)) e.serial with ⟨h1, -⟩ | ⟨x, o, h1, h2, hs⟩
      · rw [hf] at h1
        cases h1
      · rw [hf] at h1
        cases h1
        rw [h2]
        exact hs
    · rw [if_neg hne]
      exact .refl e

/-- A stored entry is the one its node has. -/
theorem lsrOf_lsrInsert (e : Lsr) (db : List Lsr) : lsrOf (lsrInsert e db) e.serial = some e := by
  induction db with
  | nil => simp [lsrInsert, lsrOf]
  | cons f fs ih =>
    rw [lsrInsert]
    split
    · simp [lsrOf]
    · split
      · simp [lsrOf]
      next hl he =>
        rw [lsrOf, List.find?_cons, show (f.serial == e.serial) = false by rw [beq_eq_false_iff_ne]; omega]
        exact ih

theorem lsrOf_lsrInsert_other {e : Lsr} {k : Nat} (h : k ≠ e.serial) (db : List Lsr) : lsrOf (lsrInsert e db) k = lsrOf db k := by
  have hb : (e.serial == k) = false := by rw [beq_eq_false_iff_ne]; exact Ne.symm h
  induction db with
  | nil => rw [lsrInsert, lsrOf, List.find?_cons, hb]; rfl
  | cons f fs ih =>
    rw [lsrInsert]
    split
    · rw [lsrOf, List.find?_cons, hb, lsrOf]
    · split
      next hl he => rw [lsrOf, List.find?_cons, hb, lsrOf, List.find?_cons, ← he, hb]
      · rw [lsrOf, List.find?_cons, lsrOf, List.find?_cons]
        split
        · rfl
        · exact ih

/-! ## Pops are quiet -/

theorem quiet_readable (s : State) (q : Nat) : Quiet s (readable s q).1 := by
  unfold readable
  split
  · exact quiet_startReset _ _ _
  · split
    · exact .refl s
    · split
      · exact quiet_startReset _ _ _
      · exact quiet_placeMark s q

theorem quiet_noteGone (s : State) (q : Nat) (x : QSlot) : Quiet s (noteGone s q x) := by
  unfold noteGone
  split
  · exact quiet_qm s _
  · exact .refl s

theorem quiet_cellsBack (m : Qm) (s : State) : Quiet s (cellsBack m s) := by
  unfold cellsBack
  split
  · exact quiet_freeListFault s
  · exact .refl s

theorem quiet_popPool (s : State) (q : Nat) : Quiet s (popPool s q).1 := by
  unfold popPool
  have h := quiet_readable s q
  generalize readable s q = g at h ⊢
  dsimp only
  split
  · exact h
  · split
    · exact h.trans (quiet_startReset _ _ _)
    · refine h.trans (Quiet.trans ?_ (quiet_placeMark _ _))
      refine Quiet.trans ?_ (quiet_watermark _ _ _ _)
      refine Quiet.trans ?_ (quiet_noteGone _ _ _)
      refine Quiet.trans ?_ (quiet_wr _ F.devQmCnt_PARITY _ key_qmCnt)
      exact ((quiet_qm g.1 _).trans (quiet_setQd _ _ _)).trans (quiet_cellsBack _ _)

theorem quiet_popSorted (s : State) (q : Nat) : Quiet s (popSorted s q).1 := by
  unfold popSorted
  dsimp only
  split
  · exact .refl s
  · split
    · split
      · exact (quiet_qm s _).trans (quiet_setQd _ _ _)
      · exact quiet_qm s _
    · refine Quiet.trans ?_ (quiet_watermark _ _ _ _)
      split
      · exact (quiet_qm s _).trans (quiet_wr _ F.devQmCnt_PARITY _ key_qmCnt)
      · exact quiet_qm s _

theorem quiet_qPop (s : State) (q : Nat) : Quiet s (qPop s q).1 := by
  unfold qPop
  split
  · exact .refl s
  · split
    · exact .refl s
    · split
      · exact quiet_popSorted s q
      · exact quiet_popPool s q

theorem quiet_drainQ (n : Nat) (s : State) (q : Nat) (acc : List Byte) : Quiet s (drainQ n s q acc).1 := by
  induction n generalizing s acc with
  | zero => exact .refl s
  | succ n ih =>
    rw [drainQ]
    split
    · exact .refl s
    · exact (quiet_qPop s q).trans (ih _ _)

/-! ## The database and what entries are made of -/

/-- The database, its changes, the sequence of the own entry, and the device's own load and memories. -/
def based (s : State) : List Lsr × Nat × Nat × Load × Nv := (s.fab.lsdb, s.fab.changes, s.fab.lsrSeq, s.load, s.nv)

@[simp] theorem based_mk (pe re pw nv ct lo qm ms ax gr au xo en co c1 pr mo pb rd pl le sv fa) :
    based ⟨pe, re, pw, nv, ct, lo, qm, ms, ax, gr, au, xo, en, co, c1, pr, mo, pb, rd, pl, le, sv, fa⟩ =
      (fa.lsdb, fa.changes, fa.lsrSeq, lo, nv) := by rw [based]

@[simp] theorem based_eta (s : State) : (s.fab.lsdb, s.fab.changes, s.fab.lsrSeq, s.load, s.nv) = based s := by rw [based]

@[simp] theorem based_ite (c : Prop) [Decidable c] (s t : State) :
    based (if c then s else t) = if c then based s else based t := by split <;> rfl

@[simp] theorem based_foldl {α : Type} (f : State → α → State) (l : List α) (s : State) (h : ∀ s a, based (f s a) = based s) :
    based (l.foldl f s) = based s := by
  induction l generalizing s with
  | nil => rfl
  | cons a l ih => rw [List.foldl_cons, ih, h]

theorem Quiet.based_eq {s t : State} (h : Quiet s t) : based t = based s := by
  rw [based, h.fab, h.load, h.nv, based]

@[simp] theorem based_setObj (s : State) (o : ObjId) (i v : Nat) : based (setObj s o i v) = based s := by simp [setObj]
@[simp] theorem based_wr (s : State) (f : Fld) (i x : Nat) : based (wr s f i x) = based s := by simp [wr]
@[simp] theorem based_wrB (s : State) (f : Fld) (i : Nat) (b : Bool) : based (wrB s f i b) = based s := by simp [wrB]
@[simp] theorem based_addSat (s : State) (f : Fld) (i k : Nat) : based (addSat s f i k) = based s := by simp [addSat]
@[simp] theorem based_incSat (s : State) (f : Fld) (i : Nat) : based (incSat s f i) = based s := by simp [incSat]
@[simp] theorem based_raiseD (s : State) (c g : Nat) : based (raiseD s c g) = based s := (quiet_raiseD s c g).based_eq
@[simp] theorem based_trigger (s : State) (m c : Nat) (w : Option Src) : based (trigger s m c w) = based s := by simp [trigger]
theorem based_modFab (s : State) (f : Fab → Fab) (h : ∀ x, (f x).lsdb = x.lsdb ∧ (f x).changes = x.changes ∧ (f x).lsrSeq = x.lsrSeq) :
    based (modFab s f) = based s := by
  obtain ⟨h1, h2, h3⟩ := h s.fab
  simp [modFab, h1, h2, h3]

@[simp] theorem based_modLk (s : State) (p : Nat) (f : Link → Link) : based (modLk s p f) = based s := by simp [modLk, modFab]
@[simp] theorem based_putWords (s : State) (p : Nat) (ws : List (BitVec 24)) : based (putWords s p ws) = based s := by simp [putWords]
@[simp] theorem based_giveBack (s : State) (p cls k : Nat) : based (giveBack s p cls k) = based s := by simp [giveBack]
@[simp] theorem based_queueFrame (s : State) (p : Nat) (h : Hdr) (pl : List Byte) : based (queueFrame s p h pl).1 = based s :=
  (quiet_queueFrame s p h pl).based_eq

@[simp] theorem based_floodOwn (s : State) (h : Hdr) (pl : List Byte) : based (floodOwn s h pl) = based s := by
  simp [floodOwn, markSeen, modFab]

@[simp] theorem based_heldFrames (s : State) (p c : Nat) : based (heldFrames s p c).1 = based s := (quiet_drainQ _ _ _ _).based_eq

@[simp] theorem based_freeTransit (s : State) (xs : List Transit) : based (freeTransit s xs) = based s := by
  simp [freeTransit, modFab]

@[simp] theorem based_reroute (s : State) (cls : Nat) (x : List Byte × Bool) : based (reroute s cls x) = based s := by
  unfold reroute
  dsimp only
  split
  · rfl
  · split
    · simp [modFab]
    · simp

@[simp] theorem based_dropHeld (s : State) (p : Nat) : based (dropHeld s p) = based s := by simp [dropHeld]

@[simp] theorem based_switchRoutes (s : State) (p : Nat) : based (switchRoutes s p) = based s := by simp [switchRoutes, modFab]

@[simp] theorem based_reportRoutes (s : State) (p : Nat) : based (reportRoutes s p) = based s := by
  refine based_foldl _ _ _ fun t r => ?_
  dsimp only
  split
  · simp
  · rfl

@[simp] theorem based_sayDown (s : State) (p why : Nat) : based (sayDown s p why) = based s := by simp [sayDown]

@[simp] theorem based_showFab (s : State) : based (showFab s) = based s := by
  unfold showFab
  extract_lets own s1 path par s2 s3
  have h1 : based s1 = based s := by
    unfold s1
    clear s3 s2 par path s1
    clear_value own
    split
    · dsimp only
      split <;> split <;> simp
    · rfl
  have h3 : based s3 = based s := by
    unfold s3
    clear s3
    clear_value s1
    split
    · simp [s2, h1]
    · simp [s2, h1]
  refine (based_foldl _ _ _ fun t p => ?_).trans h3
  dsimp only
  split
  · simp
  · simp

/-- The node's time is no longer locked. -/
def unlockTime (s : State) : State := modFab (wr s F.devFabStat_TIME_LOCK 0 0) (fun x => { x with stepped := false, lockRun := 0 })

theorem based_unlockTime (s : State) : based (unlockTime s) = based s := by
  rw [unlockTime, based_modFab _ (fun x => { x with stepped := false, lockRun := 0 }) fun _ => ⟨rfl, rfl, rfl⟩, based_wr]

@[simp] theorem based_gmChange (old s : State) : based (gmChange old s) = based s := by
  unfold gmChange
  extract_lets g0 g1 own c1 s1 lost s2
  have h1 : based s1 = based s := by
    unfold s1
    split
    · rfl
    · split
      · split
        · rfl
        · exact based_unlockTime s
      · rfl
  have h2 : based s2 = based s1 := by
    unfold s2
    split
    · rw [based_raiseD]
    · rfl
  rw [based_wrB, h2, h1]

@[simp] theorem based_showRed (s : State) : based (showRed s) = based s := by
  unfold showRed
  split
  · rfl
  · dsimp only
    split
    · simp
    · simp

/-- The database is settled, and its IDs stay. -/
def markSettled (s : State) : State := modFab (wr s F.devFabStat_SETTLED 0 1) (fun x => { x with held := true })

theorem settle_eq (s : State) (yes : Bool) : settle s yes = if yes && !rdB s F.devFabStat_SETTLED 0 then
    (if mode (markSettled s) = mDiscover then trigger (markSettled s) mPlace 5 none else markSettled s)
  else wrB s F.devFabStat_SETTLED 0 yes := by rw [settle, markSettled]

@[simp] theorem based_markSettled (s : State) : based (markSettled s) = based s := by
  rw [markSettled, based_modFab _ (fun x => { x with held := true }) fun _ => ⟨rfl, rfl, rfl⟩, based_wr]

@[simp] theorem based_settle (s : State) (yes : Bool) : based (settle s yes) = based s := by
  rw [settle_eq]
  split
  · split
    · rw [based_trigger, based_markSettled]
    · rw [based_markSettled]
  · rw [based_wrB]

/-! ## The database after a change -/

/-- The database once IDs are given out to the nodes near. -/
def assigned (s : State) : List Lsr :=
  assignNear (fun e => (reachOf s.fab.lsdb s.nv.serial).contains e.serial) s.fab.held s.fab.lsdb

theorem lsrOf_assigned (s : State) (k : Nat) : (lsrOf s.fab.lsdb k = none ∧ lsrOf (assigned s) k = none) ∨
    ∃ e o, lsrOf s.fab.lsdb k = some e ∧ lsrOf (assigned s) k = some o ∧ SameEntry e o :=
  lsrOf_assignNear (fun a b h => by rw [h]) _ _ k

/-- The database given out, its time of change noted. -/
def reassign (s : State) : State := modFab s (fun x => { x with
  lsdb := assignNear (fun e => (reachOf s.fab.lsdb s.nv.serial).contains e.serial) x.held x.lsdb, changeAt := locNs s,
  changes := x.changes + 1 })

theorem dbChanged_eq (s : State) : dbChanged s = wr (gmChange s (showFab (reassign s))) F.devFabStat_SETTLED 0 0 := by
  rw [dbChanged, reassign]

theorem based_reassign (s : State) : based (reassign s) = (assigned s, s.fab.changes + 1, s.fab.lsrSeq, s.load, s.nv) := by
  rw [reassign, modFab, based_mk, assigned]

theorem based_dbChanged (s : State) : based (dbChanged s) = (assigned s, s.fab.changes + 1, s.fab.lsrSeq, s.load, s.nv) := by
  rw [dbChanged_eq, based_wr, based_gmChange, based_showFab, based_reassign]

theorem lsdb_of_based {s u : State} (h : based u = based s) : u.fab.lsdb = s.fab.lsdb := congrArg (·.1) h
theorem lsrSeq_of_based {s u : State} (h : based u = based s) : u.fab.lsrSeq = s.fab.lsrSeq := congrArg (·.2.2.1) h
theorem load_of_based {s u : State} (h : based u = based s) : u.load = s.load := congrArg (·.2.2.2.1) h
theorem nv_of_based {s u : State} (h : based u = based s) : u.nv = s.nv := congrArg (·.2.2.2.2) h

theorem lsdb_dbChanged (s : State) : (dbChanged s).fab.lsdb = assigned s := congrArg (·.1) (based_dbChanged s)
theorem changes_dbChanged (s : State) : (dbChanged s).fab.changes = s.fab.changes + 1 := congrArg (·.2.1) (based_dbChanged s)
theorem lsrSeq_dbChanged (s : State) : (dbChanged s).fab.lsrSeq = s.fab.lsrSeq := congrArg (·.2.2.1) (based_dbChanged s)
theorem load_dbChanged (s : State) : (dbChanged s).load = s.load := congrArg (·.2.2.2.1) (based_dbChanged s)
theorem nv_dbChanged (s : State) : (dbChanged s).nv = s.nv := congrArg (·.2.2.2.2) (based_dbChanged s)

/-! ## The own entry -/

/-- `t` has the sequence, load and memories of `s`, and its own entry says so. -/
structure OwnShown (s t : State) : Prop where
  seq : t.fab.lsrSeq = s.fab.lsrSeq
  load : t.load = s.load
  nv : t.nv = s.nv
  entry : ∃ e, ownLsr t = some e ∧ e.seq = s.fab.lsrSeq ∧ e.claim = s.load.claim ∧ e.finger = s.load.fingerprint

theorem OwnShown.of_based {s t u : State} (h : OwnShown s t) (hb : based u = based t) : OwnShown s u := by
  obtain ⟨hq, hl, hn, e, he, hs⟩ := h
  refine ⟨(lsrSeq_of_based hb).trans hq, (load_of_based hb).trans hl, (nv_of_based hb).trans hn, e, ?_, hs⟩
  rw [ownLsr, lsdb_of_based hb, nv_of_based hb]
  exact he

theorem OwnShown.dbChanged {s t : State} (h : OwnShown s t) : OwnShown s (dbChanged t) := by
  obtain ⟨hq, hl, hn, e, he, hes, hec, hef⟩ := h
  refine ⟨(lsrSeq_dbChanged t).trans hq, (load_dbChanged t).trans hl, (nv_dbChanged t).trans hn, ?_⟩
  rw [ownLsr, lsdb_dbChanged, nv_dbChanged]
  rcases lsrOf_assigned t t.nv.serial with ⟨h1, -⟩ | ⟨a, o, h1, h2, i, d, rfl⟩
  · exact absurd (h1.symm.trans he) (by simp)
  · obtain rfl : a = e := Option.some.inj (h1.symm.trans he)
    exact ⟨_, h2, hes, hec, hef⟩

theorem ownShown_ownUpdate {s t : State} (hq : t.fab.lsrSeq = s.fab.lsrSeq) (hl : t.load = s.load) (hn : t.nv = s.nv) :
    OwnShown s (ownUpdate t) := by
  unfold ownUpdate
  extract_lets old e same s1
  have h1 : OwnShown s s1 := ⟨hq, hl, hn, e, lsrOf_lsrInsert e _, hq, congrArg (·.claim) hl, congrArg (·.fingerprint) hl⟩
  split
  · exact h1
  · exact h1.dbChanged

theorem OwnShown.leaveUp {s t : State} (h : OwnShown s t) (p why : Nat) : OwnShown s (leaveUp t p why) := by
  unfold Machine.leaveUp
  split
  · dsimp only
    split
    · exact h.of_based (by rw [based_wr, based_raiseD, based_incSat])
    · have h2 := h.of_based (u := reportRoutes (switchRoutes (wr (raiseD (incSat t F.lkCnt_DOWNS p) 0x71 (p + 256 * why)) F.lkStat_STATE p lDown) p) p)
        (by rw [based_reportRoutes, based_switchRoutes, based_wr, based_raiseD, based_incSat])
      exact (ownShown_ownUpdate h2.seq h2.load h2.nv).of_based (based_dropHeld _ _)
  · exact h

theorem OwnShown.linkQuar {s t : State} (h : OwnShown s t) (p why : Nat) : OwnShown s (linkQuar t p why) := by
  have h1 := (h.of_based (based_sayDown t p why)).leaveUp p why
  refine h1.of_based ?_
  rw [Machine.linkQuar, based_raiseD, setLink, based_wr, based_wr, based_wr, based_modLk, based_wr]

theorem OwnShown.quarDups {s t : State} (h : OwnShown s t) : OwnShown s (quarDups t) := by
  unfold Machine.quarDups
  generalize upPorts t = l
  induction l generalizing t with
  | nil => exact h
  | cons p l ih =>
    refine ih (t := _) ?_
    dsimp only
    split
    · split
      · exact h.linkQuar p 9
      · exact h
    · exact h

/-- Links that kept their states lose no twin. -/
theorem twinCheck_kept {s u : State} (h : ∀ p < 8, rd u F.lkStat_STATE p = rd s F.lkStat_STATE p) (hp : ∀ p ∈ twinPorts u, p < 8) :
    twinCheck s u = u := by
  rw [twinCheck]
  generalize twinPorts u = l at hp ⊢
  induction l with
  | nil => rfl
  | cons p l ih =>
    have hl : isUp u p = isUp s p := by rw [isUp, lkState, h p (hp p List.mem_cons_self), isUp, lkState]
    rw [List.foldl_cons, hl, Bool.and_not_self, if_neg Bool.false_ne_true]
    exact ih fun q hq => hp q (List.mem_cons_of_mem _ hq)

theorem twinPorts_lt (s : State) : ∀ p ∈ twinPorts s, p < 8 := by
  intro p hp
  have ha : rd s F.devRedCfg_PORT_A 0 < 2 ^ F.devRedCfg_PORT_A.w := bits_lt _ _ _
  have hb : rd s F.devRedCfg_PORT_B 0 < 2 ^ F.devRedCfg_PORT_B.w := bits_lt _ _ _
  rw [show F.devRedCfg_PORT_A.w = 3 from rfl] at ha
  rw [show F.devRedCfg_PORT_B.w = 3 from rfl] at hb
  rw [twinPorts] at hp
  split at hp <;> simp at hp <;> omega

theorem OwnShown.fabEnd {s u v : State} (h : OwnShown s u) (hs : ∀ p < 8, rd u F.lkStat_STATE p = rd v F.lkStat_STATE p) :
    OwnShown s (fabEnd v u) := by
  rw [Machine.fabEnd, twinCheck_kept hs (twinPorts_lt u)]
  refine h.quarDups.of_based ?_
  rw [based_showRed]
  split
  · rw [based_settle]
  · rfl

/-! ## Sending and taking link states -/

/-- The next sequence is the own one. -/
def nextLsr (s : State) : State := modFab s (fun x => { x with lsrSeq := (x.lsrSeq + 1) % 2 ^ 32 })

theorem ownShown_next (s : State) : OwnShown (nextLsr s) (ownUpdate (nextLsr s)) := ownShown_ownUpdate rfl rfl rfl

/-- The own link state goes out on every link. -/
def sendOwn (s : State) (e : Lsr) : State :=
  floodOwn (ownUpdate (nextLsr s)) (hdr0 (ownUpdate (nextLsr s)) true false (lsrBytes e).length) (lsrBytes e)

theorem states_sendOwn (s : State) (e : Lsr) (p : Nat) (hp : p < 8) : rd (sendOwn s e) F.lkStat_STATE p = rd s F.lkStat_STATE p :=
  ((fabOnly_ownUpdate (nextLsr s)).trans (fabOnly_floodOwn _ _ _)).states p hp

section
variable {s : State} (hr : coreRuns s = true)
include hr

theorem lsrSend_idle (h : fabActive s = false) : Ends s .lsrSend s := by
  refine ends_of_done (exec_of_clocked hr (show execLsrSend s = _ from ?_))
  rw [execLsrSend, if_neg (by rw [h]; exact Bool.false_ne_true)]

theorem exec_lsrSend {e : Lsr} (h : fabActive s = true) (he : ownLsr (ownUpdate (nextLsr s)) = some e) :
    exec .lsrSend s = fabDone s (sendOwn s e) := by
  refine exec_of_clocked hr (show execLsrSend s = _ from ?_)
  rw [execLsrSend, if_pos h]
  change clocked s (match ownLsr (ownUpdate (nextLsr s)) with
    | some e => fabDone s (sendOwn s e)
    | none => fabDone s (ownUpdate (nextLsr s))) = _
  rw [he]

theorem lsrSend_shows (h : fabActive s = true) : Completes s .lsrSend (fun t => t.fab.lsrSeq = (s.fab.lsrSeq + 1) % 2 ^ 32 ∧
    ∃ e, ownLsr t = some e ∧ e.seq = (s.fab.lsrSeq + 1) % 2 ^ 32 ∧ e.claim = s.load.claim ∧ e.finger = s.load.fingerprint) := by
  obtain ⟨e, he, -⟩ := (ownShown_next s).entry
  refine completes_of_done (exec_lsrSend hr h he) fun t q => ?_
  have h1 : OwnShown (nextLsr s) (fabEnd s (sendOwn s e)) :=
    ((ownShown_next s).of_based (u := sendOwn s e) (by rw [sendOwn, based_floodOwn])).fabEnd (states_sendOwn s e)
  obtain ⟨hq, -, -, ho⟩ := h1.of_based q.based_eq
  exact ⟨hq, ho⟩

theorem exec_lsrReceive (p : Fin 8) (f : Frame) : exec (.lsrReceive p f) s = if frameKind f ≠ 3 then done s
    else match (frameIn s p f).2 with
      | none => fabDone s (frameIn s p f).1
      | some x => fabDone s (takeLsr (frameIn s p f).1 (lsrOfBytes (frameIn s p f).1 x.payload)) :=
  exec_of_clocked hr (show execLsrReceive p f s = _ by rw [execLsrReceive] <;> rfl)

theorem lsrReceive_receives (p : Fin 8) (f : Frame) :
    Receives s p f 3 (.lsrReceive p f) (fun s1 x => takeLsr s1 (lsrOfBytes s1 x.payload)) where
  other h := ends_of_done ((exec_lsrReceive hr p f).trans (if_pos h))
  fails h hx := ends_of_done (by rw [exec_lsrReceive hr p f, if_neg (not_not_intro h), hx, fabDone])
  passes x h hx := ends_of_done (by rw [exec_lsrReceive hr p f, if_neg (not_not_intro h), hx]; rfl)

end

theorem takeLsr_old {s : State} {e : Lsr} (h : lsrNews s e = false) : takeLsr s e = s := by
  rw [takeLsr, h]
  rfl

theorem takeLsr_new {s : State} {e : Lsr} (h : lsrNews s e = true) : ∃ o, lsrOf (takeLsr s e).fab.lsdb e.serial = some o ∧ SameEntry e o := by
  have hins (i : Option Nat) (d : Bool) (db : List Lsr) : ∃ o, lsrOf (lsrInsert { e with id := i, dup := d } db) e.serial = some o ∧
      SameEntry e o := ⟨_, lsrOf_lsrInsert _ db, i, d, rfl⟩
  have hch (t : State) (ht : ∃ o, lsrOf t.fab.lsdb e.serial = some o ∧ SameEntry e o) :
      ∃ o, lsrOf (dbChanged t).fab.lsdb e.serial = some o ∧ SameEntry e o := by
    obtain ⟨o, ho, hs⟩ := ht
    rw [lsdb_dbChanged]
    rcases lsrOf_assigned t e.serial with ⟨h1, -⟩ | ⟨a, b, h1, h2, hab⟩
    · exact absurd (h1.symm.trans ho) (by simp)
    · obtain rfl : a = o := Option.some.inj (h1.symm.trans ho)
      exact ⟨b, h2, hs.trans hab⟩
  rw [takeLsr, if_neg (by rw [h]; decide)]
  split
  · exact hch _ (hins e.id e.dup _)
  · dsimp only
    split
    · exact hch _ (hins _ _ _)
    · exact hins _ _ _

section
variable {s : State} (hr : coreRuns s = true)
include hr

theorem lsrReceive_takes {p : Fin 8} {f : Frame} {s1 : State} {x : Taken} (h3 : frameKind f = 3) (hx : frameIn s p f = (s1, some x)) :
    exec (.lsrReceive p f) s = fabDone s (takeLsr s1 (lsrOfBytes s1 x.payload)) := by
  have e := (exec_lsrReceive hr p f).trans (if_neg (not_not_intro h3))
  rw [hx] at e
  exact e

/-! ## Expiry -/

/-- The database without a node. -/
def forget (s : State) (k : Nat) : State := modFab s (fun x => { x with lsdb := x.lsdb.filter (fun y => y.serial != k) })

omit hr in
theorem lsrOf_forget (s : State) (k : Nat) : lsrOf (forget s k).fab.lsdb k = none := by
  rw [lsrOf, List.find?_eq_none]
  intro e he hk
  have := (List.mem_filter.mp he).2
  simp_all

omit hr in
theorem map_serial_forget (s : State) (k : Nat) :
    (forget s k).fab.lsdb.map (·.serial) = (s.fab.lsdb.map (·.serial)).filter (· ≠ k) := by
  change (s.fab.lsdb.filter (fun y => y.serial != k)).map (·.serial) = _
  rw [List.filter_map]
  refine congrArg (List.map _) (List.filter_congr fun e _ => ?_)
  simp [bne, Bool.beq_eq_decide_eq]

theorem exec_lsrExpiry (n : BitVec 64) : exec (.lsrExpiry n) s = match lsrOf s.fab.lsdb n.toNat with
    | some e => if e.serial ≠ s.nv.serial ∧ e.at_ + 350000000 ≤ locNs s then fabDone s (dbChanged (forget s e.serial)) else done s
    | none => done s := exec_of_clocked hr (show execLsrExpiry n s = _ by rw [execLsrExpiry] <;> rfl)

theorem lsrExpiry_forgets {n : BitVec 64} {e : Lsr} (he : lsrOf s.fab.lsdb n.toNat = some e) (hs : e.serial ≠ s.nv.serial)
    (ht : e.at_ + 350000000 ≤ locNs s) : FabEnds s (.lsrExpiry n) (fun u => u = dbChanged (modFab s (fun x =>
        { x with lsdb := x.lsdb.filter (fun y => y.serial != e.serial) })) ∧ lsrOf u.fab.lsdb n.toNat = none ∧
        u.fab.changes = s.fab.changes + 1 ∧ u.fab.lsdb.map (·.serial) = (s.fab.lsdb.map (·.serial)).filter (· ≠ e.serial)) := by
  have hx := exec_lsrExpiry hr n
  rw [he] at hx
  refine fabEnds_of_exec (hx.trans (if_pos ⟨hs, ht⟩)) ⟨rfl, ?_, changes_dbChanged _, ?_⟩
  · have h0 : lsrOf (forget s e.serial).fab.lsdb n.toNat = none := lsrOf_serial he ▸ lsrOf_forget s e.serial
    rw [lsdb_dbChanged]
    rcases lsrOf_assigned (forget s e.serial) n.toNat with ⟨-, h⟩ | ⟨a, b, h1, -⟩
    · exact h
    · exact absurd (h1.symm.trans h0) (by simp)
  · rw [lsdb_dbChanged, assigned, map_serial_assignNear, map_serial_forget]

theorem lsrExpiry_keeps {n : BitVec 64} (h : lsrOf s.fab.lsdb n.toNat = none ∨ n.toNat = s.nv.serial ∨
      ∀ e, lsrOf s.fab.lsdb n.toNat = some e → locNs s < e.at_ + 350000000) : Ends s (.lsrExpiry n) s := by
  refine ends_of_done ((exec_lsrExpiry hr n).trans ?_)
  cases he : lsrOf s.fab.lsdb n.toNat with
  | none => rfl
  | some e =>
    refine if_neg fun ⟨hs, ht⟩ => ?_
    rcases h with h | h | h
    · exact absurd (h.symm.trans he) (by simp)
    · exact hs ((lsrOf_serial he).trans h)
    · have := h e he
      omega

/-! ## Settling -/

/-- What a quiet database leaves before it settles: the own entry of a node alone is brought up to date. -/
def quieted (s : State) : State := if aloneNow s then ownUpdate s else s

omit hr in
theorem aloneNow_ownUpdate (s : State) : aloneNow (ownUpdate s) = aloneNow s := by
  have h := fabOnly_ownUpdate s
  have ht : twinPorts (ownUpdate s) = twinPorts s := by
    rw [twinPorts, h.objs.rd (by decide) (by decide), h.objs.rd (by decide) (by decide), h.objs.rd (by decide) (by decide), twinPorts]
  rw [aloneNow, aloneNow]
  rw [Bool.eq_iff_iff, List.all_eq_true, List.all_eq_true]
  refine forall₂_congr fun p hp => ?_
  have hp : p < 8 := List.mem_range.mp hp
  rw [h.objs.rdB (f := F.lkCfg_EN) (i := p) (by decide) hp, isTwin, ht, lkState, h.states p hp, isTwin, lkState]

theorem exec_settleQuietTimeout : exec .settleQuietTimeout s = if fabActive s then
    done (if isSettled (quieted s) || aloneNow (quieted s) then settle (quieted s) true else quieted s)
    else done s := exec_of_clocked hr (show execSettleQuietTimeout s = _ by rw [execSettleQuietTimeout] <;> rfl)

theorem settleQuiet_idle (h : fabActive s = false) : Ends s .settleQuietTimeout s :=
  ends_of_done ((exec_settleQuietTimeout hr).trans (if_neg (by rw [h]; exact Bool.false_ne_true)))

theorem settleQuiet_alone (h : fabActive s = true) (ha : aloneNow s = true) :
    exec .settleQuietTimeout s = done (settle (ownUpdate s) true) := by
  rw [exec_settleQuietTimeout hr, if_pos h, quieted, if_pos ha, aloneNow_ownUpdate, ha, Bool.or_true, if_pos rfl]

theorem settleQuiet_near (h : fabActive s = true) (ha : aloneNow s = false) :
    exec .settleQuietTimeout s = done (if isSettled s then settle s true else s) := by
  have hq : quieted s = s := if_neg (by rw [ha]; exact Bool.false_ne_true)
  rw [exec_settleQuietTimeout hr, if_pos h, hq, ha, Bool.or_false]

omit hr in
theorem rd_settle (s : State) : rd (settle s true) F.devFabStat_SETTLED 0 = 1 := by
  have hm : rd (markSettled s) F.devFabStat_SETTLED 0 = 1 := by rw [markSettled, rd_of_regs (modFab_regs _ _), rd_wr_same]; rfl
  rw [settle_eq]
  split
  · split
    · rw [rd_trigger]
      exact hm
    · exact hm
  · rw [wrB, rd_wr_same]
    rfl

omit hr in
theorem trigs_settle {s : State} (h : rdB s F.devFabStat_SETTLED 0 = false) (hm : mode s = mDiscover) :
    (settle s true).ctl.trigs = s.ctl.trigs ++ [⟨mPlace, 5, none⟩] := by
  have hk : mode (markSettled s) = mode s := by
    rw [mode, markSettled, rd_of_regs (modFab_regs _ _), rd_wr_kind _ _ (by decide) (by decide) (by decide), mode]
  rw [settle_eq, if_pos (by rw [h]; rfl), if_pos (hk.trans hm), trigger, markSettled, modFab_ctl, wr_ctl]

theorem settleQuiet_settles (h : fabActive s = true) (hs : aloneNow s = true ∨ isSettled s = true) :
    Completes s .settleQuietTimeout (fun t => rd t F.devFabStat_SETTLED 0 = 1 ∧ (rdB s F.devFabStat_SETTLED 0 = false →
      aloneNow s = false → mode s = mDiscover → t.ctl.trigs = s.ctl.trigs ++ [⟨mPlace, 5, none⟩])) := by
  cases ha : aloneNow s with
  | true =>
    refine completes_of_done (settleQuiet_alone hr h ha) fun t q => ⟨?_, fun _ k => absurd k (by decide)⟩
    rw [q.rd_kind (by decide) (by decide), rd_settle]
  | false =>
    have hs : isSettled s = true := hs.resolve_left (by rw [ha]; decide)
    refine completes_of_done ((settleQuiet_near hr h ha).trans (by rw [hs, if_pos rfl])) fun t q => ⟨?_, fun hn _ hm => ?_⟩
    · rw [q.rd_kind (by decide) (by decide), rd_settle]
    · rw [q.trigs, trigs_settle hn hm]

/-! ## Failed routes -/

theorem routeFailReceive_receives (p : Fin 8) (f : Frame) : Receives s p f 6 (.routeFailReceive p f) (fun s1 x =>
      match s1.fab.routes.find? (fun y => y.id == fieldB x.payload 2 2 && y.src == rd s F.devFabStat_NODE_ID 0 && !y.onAlt) with
      | none => s1
      | some y =>
        let z := failOver s1 y
        let s2 := modFab s1 (fun g => { g with routes := g.routes.map (fun w => if w.id = fieldB x.payload 2 2 then z else w) })
        if z.dead then s2 else raiseD s2 0x76 (fieldB x.payload 2 2)) := by
  have e : exec (.routeFailReceive p f) s = execRouteFailReceive p f s := rfl
  rw [execRouteFailReceive, clocked_run _ _ hr] at e
  refine ⟨fun h => ends_of_done (e.trans (if_pos h)), fun h hx => ?_, fun x h hx => ?_⟩
  · rw [if_neg (not_not_intro h)] at e
    dsimp only at e
    rw [hx] at e
    exact ends_of_done e
  · rw [if_neg (not_not_intro h)] at e
    dsimp only at e
    rw [hx] at e
    dsimp only at e ⊢
    generalize List.find? _ (frameIn s p f).1.fab.routes = o at e ⊢
    cases o with
    | none => exact ends_of_done e
    | some y => exact ends_of_done e

end

/-- Settles O45: entries keep their places as IDs are given out, and the own entry stands under the last sequence sent, also where a
link is taken down on the way. -/
theorem discovery : Obligations.Discovery := by
  intro s p f hr
  refine ⟨fun h => ⟨lsrSend_idle hr h, settleQuiet_idle hr h⟩, fun e h he => ends_of_done (exec_lsrSend hr h he), lsrSend_shows hr,
    lsrReceive_receives hr p f, fun s1 x h3 hx _ => ⟨fun hn => ?_, fun hn => ?_⟩, fun n e he hs ht => lsrExpiry_forgets hr he hs ht,
    fun n h => lsrExpiry_keeps hr h, fun h ha hs => ?_, settleQuiet_settles hr, fun h ha hs => ?_,
    fun h ha => ends_of_done (settleQuiet_alone hr h ha), routeFailReceive_receives hr p f⟩
  · exact fabEnds_of_exec (lsrReceive_takes hr h3 hx) (takeLsr_old hn)
  · obtain ⟨o, ho, i, d, rfl⟩ := takeLsr_new hn
    exact fabEnds_of_exec (lsrReceive_takes hr h3 hx) ⟨rfl, _, ho, rfl, rfl, rfl, rfl, rfl⟩
  · exact ends_of_done ((settleQuiet_near hr h ha).trans (by rw [hs, if_pos rfl]))
  · exact ends_of_done ((settleQuiet_near hr h ha).trans (by rw [hs, if_neg Bool.false_ne_true]))

end Sys2Proof.Machine
end

section
/-!
SUPPORT. Trips: what a trip of an axis, of its group and of its pair mates touches, and what it leaves.
-/

namespace Sys2Proof.Machine
open Sys2Proof Sys2Proof.Machine

/-! ## Keys -/

theorem objKey_of_row {o : ObjId} {i b r : Nat} (hb : (objRow o).block = b) (hr : (objRow o).base = r) (hs : (objRow o).stride = 64)
    (h1 : (objRow o).sub = 1) : objKey o i = b * 262144 + r + 64 * i := by
  rw [objKey, objIndex, hb, hr, hs, h1, Nat.div_one, Nat.mod_one]
  omega

theorem objKey_axMode (i : Nat) : objKey .axMode i = 8 * 262144 + 0 + 64 * i := objKey_of_row rfl rfl rfl rfl
theorem objKey_axLoopStat (i : Nat) : objKey .axLoopStat i = 8 * 262144 + 48 + 64 * i := objKey_of_row rfl rfl rfl rfl
theorem objKey_axLedger (i : Nat) : objKey .axLedger i = 16 * 262144 + 8 + 64 * i := objKey_of_row rfl rfl rfl rfl
theorem objKey_axTripStat (i : Nat) : objKey .axTripStat i = 17 * 262144 + 1 + 64 * i := objKey_of_row rfl rfl rfl rfl

/-- The keys a trip may touch: those of AX.MODE, AX.LOOP_STAT, AX.LEDGER and AX.TRIP_STAT for whatever axis number an image names as a
mate, and that of DEV.DRV_STAT, which lies among the first. -/
def tripKey (k : Nat) : Bool :=
  ((k % 64 == 0 || k % 64 == 48) && decide (2097152 ≤ k)) || (k % 64 == 1 && decide (4456448 ≤ k)) || (k % 64 == 8 && decide (4194304 ≤ k))

theorem tripKey_axMode (i : Nat) : tripKey (objKey .axMode i) = true := by
  rw [objKey_axMode, tripKey]
  simp

theorem tripKey_axLoopStat (i : Nat) : tripKey (objKey .axLoopStat i) = true := by
  rw [objKey_axLoopStat, tripKey]
  simp
  omega

theorem tripKey_axLedger (i : Nat) : tripKey (objKey .axLedger i) = true := by
  rw [objKey_axLedger, tripKey]
  simp
  omega

theorem tripKey_axTripStat (i : Nat) : tripKey (objKey .axTripStat i) = true := by
  rw [objKey_axTripStat, tripKey]
  simp
  omega

theorem tripKey_devDrvStat : tripKey (objKey .devDrvStat 0) = true := by decide +kernel

/-! ## Axes under a trip -/

/-- `b` is the axis `a` after any number of trips: evaluations dropped, gates low, all else kept. -/
structure AxisTrips (a b : Axis) : Prop where
  rest : b = { a with loop := b.loop, pwm := b.pwm }
  pwm : b.pwm = { a.pwm with safe := b.pwm.safe, lowOn := b.pwm.lowOn, brake := b.pwm.brake, fed := b.pwm.fed, box := b.pwm.box }
  loop : b.loop = { a.loop with
    st := b.loop.st, spec := b.loop.spec, compl := b.loop.compl, slow := b.loop.slow, req := b.loop.req, du := b.loop.du, dv := b.loop.dv,
    dw := b.loop.dw, gearHeld := b.loop.gearHeld, back := b.loop.back, presets := b.loop.presets, tel := b.loop.tel,
    retry := b.loop.retry, wasLate := b.loop.wasLate, last := b.loop.last }
  safe : a.pwm.safe = true → b.pwm.safe = true
  low : a.pwm.lowOn = false → b.pwm.lowOn = false
  box : b.pwm.box = a.pwm.box ∨ b.pwm.box = []
  slow : b.loop.slow = a.loop.slow ∨ b.loop.slow = none
  compl : b.loop.compl = a.loop.compl ∨ b.loop.compl = none
  retry : b.loop.retry = a.loop.retry ∨ b.loop.retry = none
  back : a.loop.back = none → b.loop.back = none ∧ b.loop.st = a.loop.st

theorem AxisTrips.refl (a : Axis) : AxisTrips a a :=
  ⟨rfl, rfl, rfl, id, id, .inl rfl, .inl rfl, .inl rfl, .inl rfl, fun h => ⟨h, rfl⟩⟩

theorem same_or_trans {α : Type} {a b c d : α} (h : b = a ∨ b = d) (k : c = b ∨ c = d) : c = a ∨ c = d := by
  rcases k with rfl | rfl
  · exact h
  · exact .inr rfl

theorem AxisTrips.trans {a b c : Axis} (h : AxisTrips a b) (k : AxisTrips b c) : AxisTrips a c := by
  refine ⟨?_, ?_, ?_, fun x => k.safe (h.safe x), fun x => k.low (h.low x), same_or_trans h.box k.box, same_or_trans h.slow k.slow,
    same_or_trans h.compl k.compl, same_or_trans h.retry k.retry, fun x => ?_⟩
  · have := k.rest
    rw [h.rest] at this
    exact this
  · have := k.pwm
    rw [h.pwm] at this
    exact this
  · have := k.loop
    rw [h.loop] at this
    exact this
  · obtain ⟨h1, h2⟩ := h.back x
    obtain ⟨k1, k2⟩ := k.back h1
    exact ⟨k1, k2.trans h2⟩

/-! ## States under a trip -/

/-- `u` is `s` after any number of trips. -/
structure Trips (s u : State) : Prop where
  regs : ∀ k d, tripKey k = false → k ∉ recordKeys → mget d u.regs k = mget d s.regs k
  axes : ∀ m, AxisTrips (ax s m) (ax u m)
  mode : ∀ m < 48, axMode u m = aTripped ∨ (axMode u m = axMode s m ∧ (ax u m).pwm.box = (ax s m).pwm.box)
  latch : ∀ m < 48, rdB s F.axTripStat_LATCH m = true → rdB u F.axTripStat_LATCH m = true
  live : ∀ m < 48, rd u F.axTripStat_CW_LIVE m = rd s F.axTripStat_CW_LIVE m
  rest : u = { s with regs := u.regs, qm := u.qm, probes := u.probes, ctl := u.ctl, msg := u.msg, axes := u.axes }
  ctl : { u.ctl with evNew := s.ctl.evNew, evPre := s.ctl.evPre, evLog := s.ctl.evLog } = s.ctl

theorem Trips.refl (s : State) : Trips s s :=
  ⟨fun _ _ _ _ => rfl, fun _ => .refl _, fun _ _ => .inr ⟨rfl, rfl⟩, fun _ _ => id, fun _ _ => rfl, rfl, rfl⟩

theorem Trips.trans {s t u : State} (h : Trips s t) (k : Trips t u) : Trips s u := by
  refine ⟨fun x d hx hr => (k.regs x d hx hr).trans (h.regs x d hx hr), fun m => (h.axes m).trans (k.axes m), fun m hm => ?_,
    fun m hm hl => k.latch m hm (h.latch m hm hl), fun m hm => (k.live m hm).trans (h.live m hm), ?_, ?_⟩
  · rcases k.mode m hm with k1 | ⟨k1, k2⟩
    · exact .inl k1
    · rcases h.mode m hm with h1 | ⟨h1, h2⟩
      · exact .inl (k1.trans h1)
      · exact .inr ⟨k1.trans h1, k2.trans h2⟩
  · have a := h.rest
    have b := k.rest
    rw [a] at b
    exact b
  · exact (congrArg (fun c : Ctl => { c with evNew := s.ctl.evNew, evPre := s.ctl.evPre, evLog := s.ctl.evLog }) k.ctl).trans h.ctl

theorem Trips.foldl {α : Type} {f : State → α → State} (h : ∀ t a, Trips t (f t a)) (l : List α) (s : State) : Trips s (l.foldl f s) := by
  induction l generalizing s with
  | nil => exact .refl s
  | cons a l ih => exact (h s a).trans (ih _)

theorem Trips.rd {s u : State} (h : Trips s u) {f : Fld} {i : Nat} (ht : tripKey (objKey f.obj i) = false) (hr : objKey f.obj i ∉ recordKeys) :
    rd u f i = rd s f i := by
  rw [Machine.rd, Machine.getObj, h.regs _ _ ht hr, ← Machine.getObj, ← Machine.rd]

theorem Trips.trigs {s u : State} (h : Trips s u) : u.ctl.trigs = s.ctl.trigs := congrArg (·.trigs) h.ctl
theorem Trips.nv {s u : State} (h : Trips s u) : u.nv = s.nv := by rw [h.rest]
theorem Trips.pwr {s u : State} (h : Trips s u) : u.pwr = s.pwr := by rw [h.rest]
theorem Trips.prot {s u : State} (h : Trips s u) : u.prot = s.prot := by rw [h.rest]

/-- A change of the registers of `o` that leaves the modes, latches and live bits. -/
theorem trips_setObj (s : State) (o : ObjId) (i v : Nat) (hk : tripKey (objKey o i) = true)
    (hm : ∀ m < 48, rd (setObj s o i v) F.axMode_MODE m = rd s F.axMode_MODE m)
    (hl : ∀ m < 48, rd (setObj s o i v) F.axTripStat_LATCH m = rd s F.axTripStat_LATCH m)
    (hc : ∀ m < 48, rd (setObj s o i v) F.axTripStat_CW_LIVE m = rd s F.axTripStat_CW_LIVE m) : Trips s (setObj s o i v) := by
  refine ⟨fun k d h _ => ?_, fun _ => .refl _, fun m h => .inr ⟨hm m h, rfl⟩, fun m h => ?_, hc, rfl, rfl⟩
  · refine regs_setObj_other s o i v k d fun e => ?_
    rw [e, hk] at h
    exact Bool.noConfusion h
  · rw [rdB, rdB, hl m h]
    exact id

/-- An object at a key of its own residue. -/
theorem rd_setObj_apart {s : State} {o : ObjId} {i v : Nat} {f : Fld} {m : Nat} (h : objKey f.obj m ≠ objKey o i) :
    rd (setObj s o i v) f m = rd s f m := by
  rw [rd, getObj, regs_setObj_other s o i v _ _ h, ← getObj, ← rd]

theorem trips_axLoopStat (s : State) (i v : Nat) : Trips s (setObj s .axLoopStat i v) :=
  trips_setObj s .axLoopStat i v (tripKey_axLoopStat i)
    (fun m _ => rd_setObj_apart (by rw [objKey_axMode, objKey_axLoopStat]; omega))
    (fun m _ => rd_setObj_apart (by rw [objKey_axTripStat, objKey_axLoopStat]; omega))
    (fun m _ => rd_setObj_apart (by rw [objKey_axTripStat, objKey_axLoopStat]; omega))

theorem trips_axLedger (s : State) (i v : Nat) : Trips s (setObj s .axLedger i v) :=
  trips_setObj s .axLedger i v (tripKey_axLedger i)
    (fun m _ => rd_setObj_apart (by rw [objKey_axMode, objKey_axLedger]; omega))
    (fun m _ => rd_setObj_apart (by rw [objKey_axTripStat, objKey_axLedger]; omega))
    (fun m _ => rd_setObj_apart (by rw [objKey_axTripStat, objKey_axLedger]; omega))

theorem trips_devDrvStat (s : State) (v : Nat) : Trips s (setObj s .devDrvStat 0 v) :=
  trips_setObj s .devDrvStat 0 v tripKey_devDrvStat
    (fun m h => rd_setObj_apart (objKey_ne_obj (o := .axMode) (p := .devDrvStat) (by decide) h (by decide)))
    (fun m h => rd_setObj_apart (objKey_ne_obj (o := .axTripStat) (p := .devDrvStat) (by decide) h (by decide)))
    (fun m h => rd_setObj_apart (objKey_ne_obj (o := .axTripStat) (p := .devDrvStat) (by decide) h (by decide)))

/-- A change of an axis object beside the fields of `keep`. -/
theorem rd_setObj_keep {s : State} {o : ObjId} {i v m : Nat} {f : Fld} (ho : f.obj = o) (hi : ∀ j k, objKey o j = objKey o k → j = k)
    (h : fget v f = rd s f i) : rd (setObj s o i v) f m = rd s f m := by
  subst ho
  by_cases hm : m = i
  · rw [hm, rd, getObj_setObj_same, h]
  · exact rd_setObj_apart fun e => hm (hi _ _ e)

theorem axTripStat_inj (j k : Nat) (h : objKey .axTripStat j = objKey .axTripStat k) : j = k := by
  rw [objKey_axTripStat, objKey_axTripStat] at h
  omega

theorem axMode_inj (j k : Nat) (h : objKey .axMode j = objKey .axMode k) : j = k := by
  rw [objKey_axMode, objKey_axMode] at h
  omega

theorem trips_axTripStat (s : State) (i v : Nat) (hl : fget v F.axTripStat_LATCH = rd s F.axTripStat_LATCH i)
    (hc : fget v F.axTripStat_CW_LIVE = rd s F.axTripStat_CW_LIVE i) : Trips s (setObj s .axTripStat i v) :=
  trips_setObj s .axTripStat i v (tripKey_axTripStat i)
    (fun m _ => rd_setObj_apart (by rw [objKey_axTripStat, objKey_axMode]; omega))
    (fun m _ => rd_setObj_keep rfl axTripStat_inj hl) (fun m _ => rd_setObj_keep rfl axTripStat_inj hc)

/-- A write of AX.TRIP_STAT above CW_LIVE. -/
theorem trips_setBits (s : State) (i : Nat) {lo : Nat} (w x : Nat) (h : 7 ≤ lo) :
    Trips s (setObj s .axTripStat i (setBits (getObj s .axTripStat i) lo w x)) :=
  trips_axTripStat s i _ (bits_setBits_below _ _ _ _ _ _ (Nat.le_trans (by decide) h)) (bits_setBits_below _ _ _ _ _ _ (Nat.le_trans (by decide) h))

theorem trips_latch (s : State) (i : Nat) : Trips s (wr s F.axTripStat_LATCH i 1) := by
  have hl (m : Nat) : rd (wr s F.axTripStat_LATCH i 1) F.axTripStat_LATCH m = 1 ∨
      rd (wr s F.axTripStat_LATCH i 1) F.axTripStat_LATCH m = rd s F.axTripStat_LATCH m := by
    by_cases h : m = i
    · subst h
      exact .inl (rd_wr_same s F.axTripStat_LATCH m 1)
    · exact .inr (rd_setObj_apart fun e => h (axTripStat_inj _ _ e))
  refine ⟨fun k d h _ => ?_, fun _ => .refl _, fun m _ => .inr ⟨?_, rfl⟩, fun m _ => ?_, fun m _ => ?_, rfl, rfl⟩
  · refine regs_setObj_other s _ i _ k d fun e => ?_
    rw [e, tripKey_axTripStat] at h
    exact Bool.noConfusion h
  · exact rd_setObj_apart (by rw [objKey_axMode, objKey_axTripStat]; omega)
  · rw [rdB, rdB]
    rcases hl m with h | h
    · rw [h]
      exact fun _ => rfl
    · rw [h]
      exact id
  · exact rd_setObj_keep rfl axTripStat_inj (bits_setBits_above _ _ _ _ _ _ (by decide))

/-- A write of AX.MODE above MODE. -/
theorem trips_modeField (s : State) (f : Fld) (i x : Nat) (ho : f.obj = .axMode) (h : 3 ≤ f.lo) : Trips s (wr s f i x) := by
  have hm (m : Nat) : rd (wr s f i x) F.axMode_MODE m = rd s F.axMode_MODE m := by
    rw [wr, ho]
    exact rd_setObj_keep rfl axMode_inj (bits_setBits_below _ _ _ _ _ _ h)
  rw [wr, ho] at hm ⊢
  exact trips_setObj s .axMode i _ (tripKey_axMode i) (fun m _ => hm m)
    (fun m _ => rd_setObj_apart (by rw [objKey_axTripStat, objKey_axMode]; omega))
    (fun m _ => rd_setObj_apart (by rw [objKey_axTripStat, objKey_axMode]; omega))

theorem axMode_wr_mode (s : State) (i x m : Nat) : axMode (wr s F.axMode_MODE i x) m = if m = i then x % 8 else axMode s m := by
  by_cases h : m = i
  · subst h
    rw [if_pos rfl, axMode, rd_wr_same]
    rfl
  · rw [if_neg h]
    exact rd_setObj_apart fun e => h (axMode_inj _ _ e)

theorem trips_tripped (s : State) (i : Nat) : Trips s (wr s F.axMode_MODE i aTripped) := by
  refine ⟨fun k d h _ => ?_, fun _ => .refl _, fun m _ => ?_, fun m _ => ?_, fun m _ => ?_, rfl, rfl⟩
  · refine regs_setObj_other s _ i _ k d fun e => ?_
    rw [e, tripKey_axMode] at h
    exact Bool.noConfusion h
  · rw [axMode_wr_mode]
    split
    · exact .inl rfl
    · exact .inr ⟨rfl, rfl⟩
  · have h : rd (wr s F.axMode_MODE i aTripped) F.axTripStat_LATCH m = rd s F.axTripStat_LATCH m :=
      rd_setObj_apart (by rw [objKey_axTripStat, objKey_axMode]; omega)
    rw [rdB, rdB, h]
    exact id
  · exact rd_setObj_apart (by rw [objKey_axTripStat, objKey_axMode]; omega)

theorem trips_quiet {s u : State} (q : Quiet s u) : Trips s u := by
  refine ⟨fun k d _ h => q.regs k d h, fun m => ?_, fun m hm => .inr ⟨q.rd_kind (by decide) hm, ?_⟩, fun m hm => ?_,
    fun m hm => q.rd_kind (by decide) hm, ?_, q.ctl⟩
  · rw [ax, ax, q.axes]
    exact .refl _
  · rw [ax, ax, q.axes]
  · rw [q.rdB_kind (by decide) hm]
    exact id
  · have h := congrArg (fun x : State => { x with regs := u.regs, qm := u.qm, probes := u.probes, ctl := u.ctl, msg := u.msg }) q.rest
    rw [q.axes]
    exact h

theorem trips_msg (s : State) (m : Msg) : Trips s { s with msg := m } :=
  ⟨fun _ _ _ _ => rfl, fun _ => .refl _, fun _ _ => .inr ⟨rfl, rfl⟩, fun _ _ => id, fun _ _ => rfl, rfl, rfl⟩

theorem trips_answered {s u : State} (h : Answered s u) : Trips s u := by
  obtain ⟨m, q⟩ := h
  exact (trips_msg s m).trans (trips_quiet q)

theorem trips_ite {s t u : State} {c : Prop} [Decidable c] (h : Trips s t) (k : Trips s u) : Trips s (if c then t else u) := by
  split
  · exact h
  · exact k

/-- An axis put into a state that trips can bring about; its mailbox changes in TRIPPED only. -/
theorem trips_setAx (s : State) (n : Nat) (a : Axis) (h : AxisTrips (ax s n) a)
    (hm : n < 48 → axMode s n = aTripped ∨ a.pwm.box = (ax s n).pwm.box) : Trips s (setAx s n a) := by
  refine ⟨fun _ _ _ _ => rfl, fun m => ?_, fun m hl => ?_, fun _ _ => id, fun _ _ => rfl, rfl, rfl⟩
  · by_cases hmn : m = n
    · rw [hmn, ax_setAx_same]
      exact h
    · rw [ax_setAx_ne _ _ hmn]
      exact .refl _
  · by_cases hmn : m = n
    · subst hmn
      rw [ax_setAx_same]
      exact (hm hl).imp id fun h => ⟨rfl, h⟩
    · rw [ax_setAx_ne _ _ hmn]
      exact .inr ⟨rfl, rfl⟩

/-- A change of an axis's loop that leaves its evaluations. -/
theorem trips_modLoop (s : State) (n : Nat) (f : AxLoop → AxLoop) (h : AxisTrips (ax s n) { ax s n with loop := f (ax s n).loop }) :
    Trips s (modLoop s n f) := trips_setAx s n _ h fun _ => .inr rfl

/-! ## A trip, step by step -/

theorem trips_recordSources (s : State) (n extra : Nat) : Trips s (recordSources s n extra) := by
  have h : Trips s (setObj s .axTripStat n (setBits (getObj s .axTripStat n) 8 9
      (bits (getObj s .axTripStat n) 8 9 ||| sourceBits s n ||| extra))) := trips_setBits s n 9 _ (by decide)
  unfold recordSources
  dsimp only
  split
  · exact h.trans (trips_setBits _ n 3 _ (by decide))
  · exact h

theorem trips_undoCommit (s : State) (n : Nat) : Trips s (undoCommit s n) := by
  unfold undoCommit
  split
  · exact .refl s
  · refine (trips_modLoop s n _ ?_).trans (trips_axLoopStat _ n _)
    exact ⟨rfl, rfl, rfl, id, id, .inl rfl, .inl rfl, .inl rfl, .inl rfl, fun h => ⟨rfl, by simp_all⟩⟩

theorem trips_dropEvals (s : State) (n : Nat) (h : n < 48 → axMode s n = aTripped) : Trips s (dropEvals s n) := by
  have h1 := trips_undoCommit s n
  unfold dropEvals
  refine (h1.trans (trips_modLoop _ n _ ?_)).trans (trips_setAx _ n _ ?_ fun hn => .inl ?_)
  · exact ⟨rfl, rfl, rfl, id, id, .inl rfl, .inr rfl, .inr rfl, .inr rfl, fun h => ⟨h, rfl⟩⟩
  · exact ⟨rfl, rfl, rfl, id, id, .inr rfl, .inl rfl, .inl rfl, .inl rfl, fun h => ⟨h, rfl⟩⟩
  · exact (h1.mode n hn).elim id fun e => e.1.trans (h hn)

theorem trips_ledgAxis (s : State) (f : Fld) (n b k : Nat) (h : f.obj = .axLedger) : Trips s (ledgAxis s f n b k) := by
  have hw (t : State) (x : Nat) : Trips t (wr t f n x) := by
    rw [wr, h]
    exact trips_axLedger t n _
  unfold ledgAxis
  dsimp only
  refine trips_ite (hw s _) (trips_ite (hw s _) ?_)
  exact ((hw s _).trans (trips_axLedger _ n _)).trans (trips_quiet (quiet_raise _ _ _ _))

theorem trips_refuseReq (s : State) (n : Nat) : Trips s (refuseReq s n) := by
  unfold refuseReq
  split
  · exact .refl s
  · rw [answer, replyWrite]
    refine Trips.trans (t := modLoop s n fun l => { l with req := none }) (trips_modLoop s n _ ?_)
      (trips_answered ((answered_reply _ _ _ _ _ _).trans (answered_release _ _)))
    exact ⟨rfl, rfl, rfl, id, id, .inl rfl, .inl rfl, .inl rfl, .inl rfl, fun h => ⟨h, rfl⟩⟩

theorem trips_gearFree (s : State) (n : Nat) : Trips s (modLoop s n (fun l => { l with gearHeld := false })) :=
  trips_modLoop s n _ ⟨rfl, rfl, rfl, id, id, .inl rfl, .inl rfl, .inl rfl, .inl rfl, fun h => ⟨h, rfl⟩⟩

theorem trips_lowGates (s : State) (n : Nat) :
    Trips s (modPwm s n (fun p => { p with safe := true, lowOn := false, brake := false, fed := false })) :=
  trips_setAx s n _ ⟨rfl, rfl, rfl, fun _ => rfl, fun _ => rfl, .inl rfl, .inl rfl, .inl rfl, .inl rfl, fun h => ⟨h, rfl⟩⟩
    fun _ => .inr rfl

theorem axMode_setMode (s : State) (n m cause : Nat) : axMode (setMode s n m cause) n = m % 8 := by
  rw [setMode, axMode, rd_wr_field _ F.axMode_CAUSE F.axMode_MODE n _ rfl (by decide), ← axMode, axMode_wr_mode, if_pos rfl]

theorem trips_setTripped (s : State) (n cause : Nat) : Trips s (setMode s n aTripped cause) :=
  ((trips_modeField s F.axMode_PREV n _ rfl (by decide)).trans (trips_tripped _ n)).trans
    (trips_modeField _ F.axMode_CAUSE n _ rfl (by decide))

theorem trips_enterTripped (s : State) (n cause : Nat) : Trips s (enterTripped s n cause) := by
  unfold enterTripped
  extract_lets s1 s2 s3 s4
  have h1 : Trips s s1 := (trips_setTripped s n cause).trans (trips_dropEvals _ n fun _ => axMode_setMode s n aTripped cause)
  have h2 : Trips s1 s2 := ((trips_modeField s1 F.axMode_HELD n 0 rfl (by decide)).trans
    (trips_modeField _ F.axMode_STOPPING n 0 rfl (by decide))).trans (trips_gearFree _ n)
  have h3 : Trips s2 s3 := trips_lowGates s2 n
  have h4 : Trips s3 s4 := trips_ledgAxis s3 _ n 3 1 rfl
  clear_value s1 s2 s3 s4
  exact ((((h1.trans h2).trans h3).trans h4).trans (trips_quiet (quiet_raise _ _ _ _))).trans (trips_refuseReq _ n)

theorem trips_safe (s : State) (n : Nat) : Trips s (modPwm s n (fun p => { p with safe := true, lowOn := false })) :=
  trips_setAx s n _ ⟨rfl, rfl, rfl, fun _ => rfl, fun _ => rfl, .inl rfl, .inl rfl, .inl rfl, .inl rfl, fun h => ⟨h, rfl⟩⟩
    fun _ => .inr rfl

/-- The latch of an axis sets and counts. -/
def latched (s : State) (n extra : Nat) : State := incSat (wr (recordSources s n extra) F.axTripStat_LATCH n 1) F.axTripStat_TRIPS n

theorem latchOne_eq (s : State) (n cause extra : Nat) : latchOne s n cause extra =
    if rdB s F.axTripStat_LATCH n then recordSources s n extra
    else if axMode s n = aDisabled ∨ axMode s n = aTripped then modPwm (latched s n extra) n (fun p => { p with safe := true, lowOn := false })
    else enterTripped (latched s n extra) n cause := by
  unfold latchOne latched
  dsimp only
  split
  · rfl
  · by_cases h : axMode s n = aDisabled
    · rw [if_pos h, if_pos (.inl h)]
    · rw [if_neg h]
      by_cases k : axMode s n = aTripped
      · rw [if_pos k, if_pos (.inr k)]
      · rw [if_neg k, if_neg (not_or.mpr ⟨h, k⟩)]

theorem trips_latched (s : State) (n extra : Nat) : Trips s (latched s n extra) :=
  ((trips_recordSources s n extra).trans (trips_latch _ n)).trans (trips_setBits _ n 8 _ (by decide))

theorem trips_latchOne (s : State) (n cause extra : Nat) : Trips s (latchOne s n cause extra) := by
  rw [latchOne_eq]
  refine trips_ite (trips_recordSources s n extra) (trips_ite ?_ ?_)
  · exact (trips_latched s n extra).trans (trips_safe _ n)
  · exact (trips_latched s n extra).trans (trips_enterTripped _ n cause)

theorem trips_groupDisable (s : State) (n : Nat) : Trips s (groupDisable s n) := by
  unfold groupDisable
  refine trips_ite (Trips.foldl (fun t i => ?_) _ s) (.refl s)
  exact trips_ite (trips_latchOne _ _ _ _) (.refl t)

theorem trips_tripMate (s : State) (n cause extra : Nat) : Trips s (tripMate s n cause extra) := by
  unfold tripMate
  split
  · exact trips_ite (.refl s) ((trips_latchOne _ _ _ _).trans (trips_groupDisable _ _))
  · exact .refl s

theorem trips_tripMates (s : State) (extra : Nat) (old : State) : Trips s (tripMates s extra old) :=
  Trips.foldl (fun t _ => trips_ite (trips_tripMate t _ _ _) (.refl t)) _ s

theorem trips_updDrv (s : State) : Trips s (updDrv s) := (trips_devDrvStat s _).trans (trips_devDrvStat _ _)

theorem trips_trip (s : State) (n cause extra : Nat) : Trips s (trip s n cause extra) :=
  (((trips_latchOne s n cause extra).trans (trips_groupDisable _ n)).trans (trips_tripMates _ _ _)).trans (trips_updDrv _)

theorem trips_tripCheck (s : State) (n : Nat) : Trips s (tripCheck s n) :=
  trips_ite (trips_ite (trips_recordSources s n 0) (trips_trip s n 3 0)) (.refl s)

/-! ## The latch -/

theorem latch_latched (s : State) (n extra : Nat) (hn : n < 48) : rdB (latched s n extra) F.axTripStat_LATCH n = true := by
  have h : Trips (wr (recordSources s n extra) F.axTripStat_LATCH n 1) (latched s n extra) := trips_setBits _ n 8 _ (by decide)
  refine h.latch n hn ?_
  rw [rdB, rd_wr_same]
  rfl

theorem latch_latchOne (s : State) (n cause extra : Nat) (hn : n < 48) : rdB (latchOne s n cause extra) F.axTripStat_LATCH n = true := by
  rw [latchOne_eq]
  split
  next h => exact (trips_recordSources s n extra).latch n hn h
  · split
    · exact (trips_safe _ n).latch n hn (latch_latched s n extra hn)
    · exact (trips_enterTripped _ n cause).latch n hn (latch_latched s n extra hn)

theorem latch_trip (s : State) (n cause extra : Nat) (hn : n < 48) : rdB (trip s n cause extra) F.axTripStat_LATCH n = true :=
  (((trips_groupDisable _ n).trans (trips_tripMates _ srcLane s)).trans (trips_updDrv _)).latch n hn (latch_latchOne s n cause extra hn)

theorem latch_tripCheck {s : State} {n : Nat} (hn : n < 48) (h : tripActive s n = true) :
    rdB (tripCheck s n) F.axTripStat_LATCH n = true := by
  rw [tripCheck, if_pos h]
  split
  next hl => exact (trips_recordSources s n 0).latch n hn hl
  · exact latch_trip s n 3 0 hn

end Sys2Proof.Machine
end

section
/-!
PROOFS. Faults of the front end (O18) and the sources of the trip logic (O26).
-/

namespace Sys2Proof.Machine
open Sys2Proof Sys2Proof.Machine

/-! ## Bits of small words -/

theorem bit_or (a b k : Nat) : bit (a ||| b) k = (bit a k || bit b k) := by
  rw [bit_eq_testBit, bit_eq_testBit, bit_eq_testBit, Nat.testBit_or]

theorem bit_two_pow (q k : Nat) : bit (2 ^ q) k = decide (q = k) := by rw [bit_eq_testBit, Nat.testBit_two_pow]

/-- Setting a bit of a four-bit word. -/
theorem set_bit_lt {m q : Nat} (hm : m < 16) (hq : q < 4) : m ||| 2 ^ q < 16 :=
  Nat.or_lt_two_pow (n := 4) hm (Nat.pow_lt_pow_right (by decide) hq)

theorem four_le_of_bit {q : Nat} (m : Nat) (h : 2 ≤ q) : 4 ≤ m ||| 2 ^ q := by
  have : 2 ^ q ≤ m ||| 2 ^ q := Nat.right_le_or
  have : 2 ^ 2 ≤ 2 ^ q := Nat.pow_le_pow_right (by decide) h
  omega

/-- Clearing a set bit of a four-bit word. -/
theorem bit_clear : ∀ m < 16, ∀ q < 4, ∀ k < 4, bit m q = true → bit (m - 2 ^ q) k = (bit m k && decide (k ≠ q)) := by decide

theorem rd_lt (s : State) (f : Fld) (i : Nat) : rd s f i < 2 ^ f.w := bits_lt _ _ _

/-! ## Common mode and clamps -/

theorem objKey_axFeStat (i : Nat) : objKey .axFeStat i = 5 * 262144 + 2 + 64 * i := objKey_of_row rfl rfl rfl rfl

theorem tripKey_axFeStat (i : Nat) : tripKey (objKey .axFeStat i) = false := by
  rw [objKey_axFeStat, tripKey]
  simp

theorem Trips.rd_axFeStat {s u : State} (h : Trips s u) {f : Fld} {n : Nat} (hf : f.obj = .axFeStat) (hn : n < 48) : Machine.rd u f n = Machine.rd s f n :=
  h.rd (hf ▸ tripKey_axFeStat n) (key_of_kind (hf ▸ (by decide : ObjId.axFeStat ∉ recordObjs)) (hf ▸ hn))

/-- The common-mode bits of an axis are `m`. -/
def setCm (s : State) (n m : Nat) : State := wr s F.axFeStat_CM n m

theorem rd_setCm (s : State) (n : Nat) {m : Nat} (h : m < 16) : rd (setCm s n m) F.axFeStat_CM n = m := by
  rw [setCm, rd_wr_same]
  exact Nat.mod_eq_of_lt h

/-- The state in which a common-mode fault is weighed. -/
def cmNoted (s : State) (n q : Nat) : State :=
  raise (setCm s n (rd s F.axFeStat_CM n ||| 2 ^ q)) 0x21 n (rd s F.axFeStat_CM n ||| 2 ^ q)

section
variable {s : State} {n q : Nat} (hn : n < 48) (hq : q < 4)
include hn hq

theorem rd_cmNoted : rd (cmNoted s n q) F.axFeStat_CM n = rd s F.axFeStat_CM n ||| 2 ^ q := by
  rw [cmNoted, (quiet_raise _ _ _ _).rd_kind (by decide) hn, rd_setCm _ _ (set_bit_lt (rd_lt s F.axFeStat_CM n) hq)]

theorem bit_cmNoted : bit (rd (cmNoted s n q) F.axFeStat_CM n) q = true := by
  rw [rd_cmNoted hn hq, bit_or, bit_two_pow, decide_eq_true rfl, Bool.or_true]

theorem tripActive_cmNoted (h : 2 ≤ q) (hd : driving s n = true) : tripActive (cmNoted s n q) n = true := by
  have hm : driving (cmNoted s n q) n = driving s n := by
    rw [driving, axMode, cmNoted, (quiet_raise _ _ _ _).rd_kind (by decide) hn]
    exact congrArg isDriving (rd_setObj_apart (by rw [objKey_axMode, objKey_axFeStat]; omega))
  have hc : cmActive (cmNoted s n q) n = true := by
    rw [cmActive, hm, hd, rd_cmNoted hn hq]
    exact decide_eq_true (four_le_of_bit _ h)
  rw [tripActive, hc, Bool.or_true, Bool.true_or]

omit hn hq in
theorem regsBut_setCm (s : State) (n m : Nat) : RegsBut [objKey .axFeStat n] s (setCm s n m) := regsBut_wr s _ n _ List.mem_cons_self

end

section
variable {s : State} (hr : coreRuns s = true)
include hr

theorem exec_cmFaultOnset (slot : Fin 192) : exec (.cmFaultOnset slot) s = done (if 2 ≤ slot.val % 4 then
    tripCheck (cmNoted s (slot.val / 4) (slot.val % 4)) (slot.val / 4) else cmNoted s (slot.val / 4) (slot.val % 4)) :=
  exec_of_clocked hr (show execCmFaultOnset slot s = _ by rw [execCmFaultOnset] <;> rfl)

theorem cmFaultOnset_shows (slot : Fin 192) : Completes s (.cmFaultOnset slot) (fun t =>
      bit (rd t F.axFeStat_CM (slot.val / 4)) (slot.val % 4) = true ∧ (slot.val % 4 < 2 → Only [objKey .axFeStat (slot.val / 4)] s t) ∧
      (2 ≤ slot.val % 4 → driving s (slot.val / 4) = true → rdB t F.axTripStat_LATCH (slot.val / 4) = true) ∧ t.nv = s.nv) := by
  have hn : slot.val / 4 < 48 := by omega
  have hq : slot.val % 4 < 4 := by omega
  have e := exec_cmFaultOnset hr slot
  generalize slot.val / 4 = n at *
  generalize slot.val % 4 = q at *
  by_cases h : 2 ≤ q
  · rw [if_pos h] at e
    have ht := trips_tripCheck (cmNoted s n q) n
    refine completes_of_done e fun t k => ⟨?_, fun hl => absurd hl (by omega), fun _ hd => ?_, k.nv.trans ht.nv⟩
    · rw [k.rd_kind (by decide) hn, ht.rd_axFeStat rfl hn, bit_cmNoted hn hq]
    · rw [k.rdB_kind (by decide) hn, latch_tripCheck hn (tripActive_cmNoted hn hq h hd)]
  · rw [if_neg h] at e
    refine completes_of_done e fun t k => ⟨?_, fun _ => ?_, fun hl => absurd hl h, k.nv⟩
    · rw [k.rd_kind (by decide) hn, bit_cmNoted hn hq]
    · exact (regsBut_setCm s n _).only rfl ((quiet_raise _ _ _ _).trans k)

theorem exec_cmFaultEnd (slot : Fin 192) : exec (.cmFaultEnd slot) s = done (if bit (rd s F.axFeStat_CM (slot.val / 4)) (slot.val % 4) then
    setCm s (slot.val / 4) (rd s F.axFeStat_CM (slot.val / 4) - 2 ^ (slot.val % 4)) else s) :=
  exec_of_clocked hr (show execCmFaultEnd slot s = _ by rw [execCmFaultEnd] <;> rfl)

theorem cmFaultEnd_shows (slot : Fin 192) : Completes s (.cmFaultEnd slot) (fun t =>
      (∀ q < 4, bit (rd t F.axFeStat_CM (slot.val / 4)) q = (bit (rd s F.axFeStat_CM (slot.val / 4)) q && decide (q ≠ slot.val % 4))) ∧
      Only [objKey .axFeStat (slot.val / 4)] s t) := by
  have hn : slot.val / 4 < 48 := by omega
  have hq : slot.val % 4 < 4 := by omega
  have e := exec_cmFaultEnd hr slot
  generalize slot.val / 4 = n at *
  generalize slot.val % 4 = q at *
  have hm : rd s F.axFeStat_CM n < 16 := rd_lt s F.axFeStat_CM n
  by_cases h : bit (rd s F.axFeStat_CM n) q = true
  · rw [if_pos h] at e
    refine completes_of_done e fun t k => ⟨fun j hj => ?_, (regsBut_setCm s n _).only rfl k⟩
    rw [k.rd_kind (by decide) hn, rd_setCm _ _ (Nat.lt_of_le_of_lt (Nat.sub_le _ _) hm), bit_clear _ hm q hq j hj h]
  · rw [if_neg h] at e
    refine completes_of_done e fun t k => ⟨fun j hj => ?_, (RegsBut.refl _ s).only rfl k⟩
    rw [k.rd_kind (by decide) hn]
    by_cases hj : j = q
    · rw [hj, Bool.eq_false_iff.mpr h, Bool.false_and]
    · rw [decide_eq_true hj, Bool.and_true]

/-- A clamp of a pair has conducted; its sticky bit is the sum's. -/
def clampSeen (s : State) (n q : Nat) : State := modFe s n (fun f => { f with clamp := f.clamp ||| 2 ^ q })

theorem exec_clampConduction (slot : Fin 200) (h : slot.val < 192) : exec (.clampConduction slot) s =
    done (if bit (rd s F.axFeStat_CLAMP (slot.val / 4)) (slot.val % 4) then clampSeen s (slot.val / 4) (slot.val % 4) else
      raise (wr (clampSeen s (slot.val / 4) (slot.val % 4)) F.axFeStat_CLAMP (slot.val / 4)
        (rd s F.axFeStat_CLAMP (slot.val / 4) ||| 2 ^ (slot.val % 4))) 0x22 (slot.val / 4)
        (rd s F.axFeStat_CLAMP (slot.val / 4) ||| 2 ^ (slot.val % 4))) :=
  exec_of_clocked hr (show execClampConduction slot s = _ by rw [execClampConduction, if_pos h] <;> rfl)

theorem clampConduction_pair (slot : Fin 200) (h : slot.val < 192) : Completes s (.clampConduction slot) (fun t =>
      bit (rd t F.axFeStat_CLAMP (slot.val / 4)) (slot.val % 4) = true ∧ bit (ax t (slot.val / 4)).fe.clamp (slot.val % 4) = true ∧
      Only [objKey .axFeStat (slot.val / 4)] { s with axes := t.axes } t ∧ ∀ m, m ≠ slot.val / 4 → ax t m = ax s m) := by
  have hn : slot.val / 4 < 48 := by omega
  have hq : slot.val % 4 < 4 := by omega
  have e := exec_clampConduction hr slot h
  generalize slot.val / 4 = n at *
  generalize slot.val % 4 = q at *
  have hm : rd s F.axFeStat_CLAMP n < 16 := rd_lt s F.axFeStat_CLAMP n
  have hb : bit ((ax s n).fe.clamp ||| 2 ^ q) q = true := by rw [bit_or, bit_two_pow, decide_eq_true rfl, Bool.or_true]
  have ho : AxisOnly [objKey .axFeStat n] n s (clampSeen s n q) := (AxisOnly.refl _ n s).modFe _
  by_cases h : bit (rd s F.axFeStat_CLAMP n) q = true
  · rw [if_pos h] at e
    refine completes_of_done e fun t k => ⟨?_, ?_, ho.only k⟩
    · rw [k.rd_kind (by decide) hn]
      exact h
    · rw [k.ax, clampSeen, ax_modFe]
      exact hb
  · rw [if_neg h] at e
    refine completes_of_done e fun t k => ⟨?_, ?_, (ho.wr F.axFeStat_CLAMP n _ List.mem_cons_self).only ((quiet_raise _ _ _ _).trans k)⟩
    · rw [k.rd_kind (by decide) hn, (quiet_raise _ _ _ _).rd_kind (by decide) hn, rd_wr_same,
        Nat.mod_eq_of_lt (b := 2 ^ F.axFeStat_CLAMP.w) (set_bit_lt hm hq), bit_or, bit_two_pow, decide_eq_true rfl, Bool.or_true]
    · rw [k.ax, (quiet_raise _ _ _ _).ax, ax_of_axes (wr_axes _ _ _ _), clampSeen, ax_modFe]
      exact hb

/-- The clamp of an auxiliary channel has conducted. -/
def clampAux (s : State) (k : Nat) : State := setAux s k { auxCh s k with clamp := true }

theorem clampConduction_aux (slot : Fin 200) (h : 192 ≤ slot.val) : Completes s (.clampConduction slot) (fun t =>
      rd t F.devAuxCtl_CLAMP (slot.val - 192) = 1 ∧ (auxCh t (slot.val - 192)).clamp = true ∧
      Only [objKey .devAuxCtl (slot.val - 192)] { s with auxs := t.auxs } t) := by
  have hk : slot.val - 192 < 8 := by omega
  have e : exec (.clampConduction slot) s = done (wr (clampAux s (slot.val - 192)) F.devAuxCtl_CLAMP (slot.val - 192) 1) :=
    exec_of_clocked hr (show execClampConduction slot s = _ by rw [execClampConduction, if_neg (by omega)] <;> rfl)
  refine completes_of_done e fun t q => ⟨?_, ?_, ?_⟩
  · rw [q.rd_kind (by decide) hk, rd_wr_same]
    rfl
  · rw [auxCh, q.auxs, wr_auxs, clampAux, setAux, mget_mset_same (α := Aux)]
  · rw [q.auxs]
    exact ⟨_, regsBut_wr (clampAux s (slot.val - 192)) F.devAuxCtl_CLAMP _ 1 List.mem_cons_self, q⟩

end

/-- Settles O18: a trip touches neither the status of the front ends nor the memories, and the fault of a driving axis is one of the
sources its latch weighs. -/
theorem frontEndFaults : Obligations.FrontEndFaults := fun _ hr =>
  ⟨cmFaultOnset_shows hr, cmFaultEnd_shows hr, clampConduction_pair hr, clampConduction_aux hr⟩

/-! ## Comparators and inputs -/

theorem unclocked_run {s : State} {c : Instr} {o : Out} (hr : coreRuns s = true) (h : exec c s = unclocked s o) : exec c s = o := by
  have : s.pwr.rst = false := by
    rw [coreRuns, Bool.and_eq_true, Bool.not_eq_true'] at hr
    exact hr.1
  rw [h, unclocked, this, if_neg Bool.false_ne_true]

/-- The live bits of the comparators of an axis. -/
def setLive (s : State) (n v : Nat) : State := wr s F.axTripStat_CW_LIVE n v

theorem rd_setLive (s : State) (n : Nat) {v : Nat} (h : v < 16) : rd (setLive s n v) F.axTripStat_CW_LIVE n = v := by
  rw [setLive, rd_wr_same]
  exact Nat.mod_eq_of_lt h

theorem latch_setLive (s : State) (n v : Nat) : rdB (setLive s n v) F.axTripStat_LATCH n = rdB s F.axTripStat_LATCH n := by
  rw [rdB, setLive, rd_wr_field s F.axTripStat_CW_LIVE F.axTripStat_LATCH n v rfl (by decide), rdB]

theorem regsBut_setLive (s : State) (n v : Nat) : RegsBut [objKey .axTripStat n] s (setLive s n v) :=
  regsBut_wr s _ n _ List.mem_cons_self

theorem rd_setLive_kind (s : State) (n v : Nat) {f : Fld} {i : Nat} (ho : f.obj ≠ .axTripStat) (hn : n < 48) (hi : i < objCount f.obj) :
    rd (setLive s n v) f i = rd s f i := rd_wr_kind s v ho hi hn

theorem cwBit_lt (k : TripSrc) : cwBit k < 16 := by
  cases k with
  | ext => exact Nat.zero_lt_succ 15
  | _ => decide

theorem or_ne_zero_of_pos {a b : Nat} (h : 1 ≤ b) : a ||| b ≠ 0 := by
  have : b ≤ a ||| b := Nat.right_le_or
  omega

section
variable {s : State} {n : Fin 48}

theorem tripActive_setLive {v : Nat} (hv : v < 16) (h : v ≠ 0) (hc : rdB s F.axTripCfg_CW_EN n = true) :
    tripActive (setLive s n v) n = true := by
  have he : rdB (setLive s n v) F.axTripCfg_CW_EN n = true := by
    rw [rdB, rd_setLive_kind s n v (by decide) n.isLt n.isLt, ← rdB, hc]
  have ha : cwActive (setLive s n v) n ≠ 0 := by
    rw [cwActive, he, if_pos rfl, rd_setLive s n hv]
    exact h
  rw [tripActive, decide_eq_true ha, Bool.true_or, Bool.true_or, Bool.true_or]

/-- Without CW_EN the live bits are no source. -/
theorem tripActive_setLive_off (v : Nat) (hc : rdB s F.axTripCfg_CW_EN n = false) :
    tripActive (setLive s n v) n = tripActive s n := by
  have hk (f : Fld) (ho : f.obj ≠ .axTripStat) (i : Nat) (hi : i < objCount f.obj) : rdB (setLive s n v) f i = rdB s f i := by
    rw [rdB, rd_setLive_kind s n v ho n.isLt hi, rdB]
  have h1 : cwActive (setLive s n v) n = cwActive s n := by
    rw [cwActive, hk _ (by decide) _ n.isLt, hc, cwActive, hc, if_neg Bool.false_ne_true, if_neg Bool.false_ne_true]
  have h2 : extActive (setLive s n v) n = extActive s n := by
    rw [extActive, extActive]
    refine List.filter_congr fun k hl => ?_
    have hl : k < 8 := List.mem_range.mp hl
    rw [hk F.devTripIn_EN (by decide) k hl, hk F.devTripIn_LEVEL (by decide) k hl,
      rd_setLive_kind s n v (f := F.devTripIn_AXES) (by decide) n.isLt hl]
  have hm : axMode (setLive s n v) n = axMode s n := rd_setLive_kind s n v (f := F.axMode_MODE) (by decide) n.isLt n.isLt
  have h3 : cmActive (setLive s n v) n = cmActive s n := by
    rw [cmActive, driving, hm, rd_setLive_kind s n v (f := F.axFeStat_CM) (by decide) n.isLt n.isLt, cmActive, driving]
  have h4 : clkActive (setLive s n v) n = clkActive s n := by
    have hb : bit (getObj (setLive s n v) .axTripStat n) 16 = bit (getObj s .axTripStat n) 16 := by
      rw [setLive, wr, getObj_setObj_same]
      exact bit_setBits_outside _ _ _ _ _ (by decide)
    rw [clkActive, hm, hb, clkActive]
    rfl
  rw [tripActive, h1, h2, h3, h4, tripActive]

variable (hr : coreRuns s = true)
include hr

theorem exec_tripSourceOnset {k : TripSrc} (hk : 1 ≤ cwBit k) : exec (.tripSourceOnset n k) s =
    done (tripCheck (setLive s n (rd s F.axTripStat_CW_LIVE n ||| cwBit k)) n) := by
  refine unclocked_run hr (show execTripSourceOnset n k s = _ from ?_)
  cases k with
  | ext => exact absurd hk (Nat.not_succ_le_zero 0)
  | _ => rfl

theorem tripSourceOnset_comparator {k : TripSrc} (hk : 1 ≤ cwBit k) : Completes s (.tripSourceOnset n k) (fun t =>
      rd t F.axTripStat_CW_LIVE n = rd s F.axTripStat_CW_LIVE n ||| cwBit k ∧
      (rdB s F.axTripCfg_CW_EN n = true → rdB t F.axTripStat_LATCH n = true) ∧
      (tripActive s n = false → rdB s F.axTripCfg_CW_EN n = false → Only [objKey .axTripStat n] s t)) := by
  have hv : rd s F.axTripStat_CW_LIVE n ||| cwBit k < 16 := Nat.or_lt_two_pow (n := 4) (rd_lt s F.axTripStat_CW_LIVE n) (cwBit_lt k)
  have e := exec_tripSourceOnset hr hk (n := n)
  have ht := trips_tripCheck (setLive s n (rd s F.axTripStat_CW_LIVE n ||| cwBit k)) n
  refine completes_of_done e fun t q => ⟨?_, fun hc => ?_, fun ha hc => ?_⟩
  · rw [q.rd_kind (by decide) n.isLt, ht.live n n.isLt, rd_setLive s n hv]
  · rw [q.rdB_kind (by decide) n.isLt]
    exact latch_tripCheck n.isLt (tripActive_setLive hv (or_ne_zero_of_pos hk) hc)
  · rw [tripCheck, if_neg (by rw [tripActive_setLive_off _ hc, ha]; exact Bool.false_ne_true)] at q
    exact (regsBut_setLive s n _).only rfl q

theorem exec_tripSourceEnd {k : TripSrc} (hk : 1 ≤ cwBit k) : exec (.tripSourceEnd n k) s =
    done (setLive s n (rd s F.axTripStat_CW_LIVE n &&& (15 - cwBit k))) := by
  refine unclocked_run hr (show execTripSourceEnd n k s = _ from ?_)
  cases k with
  | ext => exact absurd hk (Nat.not_succ_le_zero 0)
  | _ => rfl

theorem tripSourceEnd_comparator {k : TripSrc} (hk : 1 ≤ cwBit k) : Completes s (.tripSourceEnd n k) (fun t =>
      rd t F.axTripStat_CW_LIVE n = rd s F.axTripStat_CW_LIVE n &&& (15 - cwBit k) ∧
      rdB t F.axTripStat_LATCH n = rdB s F.axTripStat_LATCH n ∧ Only [objKey .axTripStat n] s t) := by
  have hv : rd s F.axTripStat_CW_LIVE n &&& (15 - cwBit k) < 16 := Nat.lt_of_le_of_lt Nat.and_le_left (rd_lt s F.axTripStat_CW_LIVE n)
  refine completes_of_done (exec_tripSourceEnd hr hk) fun t q => ⟨?_, ?_, (regsBut_setLive s n _).only rfl q⟩
  · rw [q.rd_kind (by decide) n.isLt, rd_setLive s n hv]
  · rw [q.rdB_kind (by decide) n.isLt, latch_setLive]

end

theorem objKey_devTripIn (i : Nat) : objKey .devTripIn i = 17 * 262144 + 4112 + 2 * i := by
  rw [objKey, objIndex, show (objRow .devTripIn).block = 17 from rfl, show (objRow .devTripIn).base = 4112 from rfl,
    show (objRow .devTripIn).sub = 1 from rfl, show (objRow .devTripIn).stride = 2 from rfl, Nat.div_one, Nat.mod_one]
  omega

theorem tripKey_devTripIn : ∀ k < 8, tripKey (objKey .devTripIn k) = false := by decide +kernel

theorem Trips.rd_devTripIn {s u : State} (h : Trips s u) {f : Fld} {k : Nat} (hf : f.obj = .devTripIn) (hk : k < 8) :
    Machine.rd u f k = Machine.rd s f k :=
  h.rd (hf ▸ tripKey_devTripIn k hk) (key_of_kind (hf ▸ (by decide : ObjId.devTripIn ∉ recordObjs)) (hf ▸ hk))

/-- Input `k` is active on axis `m`. -/
def inputActs (s : State) (k m : Nat) : Bool := rdB s F.devTripIn_EN k && bit (rd s F.devTripIn_AXES k) m && rdB s F.devTripIn_LEVEL k

theorem Trips.inputActs {s u : State} (h : Trips s u) {k : Nat} (hk : k < 8) (m : Nat) : inputActs u k m = inputActs s k m := by
  rw [Machine.inputActs, rdB, h.rd_devTripIn rfl hk, h.rd_devTripIn rfl hk, rdB, h.rd_devTripIn rfl hk, Machine.inputActs, rdB, rdB]

theorem tripActive_of_input {s : State} {k m : Nat} (hk : k < 8) (h : inputActs s k m = true) : tripActive s m = true := by
  have hm : k ∈ extActive s m := List.mem_filter.mpr ⟨List.mem_range.mpr hk, h⟩
  have he : (extActive s m).isEmpty = false := by
    rw [List.isEmpty_eq_false_iff]
    exact List.ne_nil_of_mem hm
  rw [tripActive, he, Bool.not_false, Bool.or_true, Bool.true_or, Bool.true_or]

/-- An input acts on an axis of its mask. -/
def weighInput (k : Nat) (t : State) (m : Nat) : State := if bit (rd t F.devTripIn_AXES k) m then tripCheck t m else t

theorem trips_weighInput (k : Nat) (s : State) (m : Nat) : Trips s (weighInput k s m) := trips_ite (trips_tripCheck s m) (.refl s)

theorem latch_foldl_weighInput {k : Nat} (hk : k < 8) (l : List Nat) (s : State) (hl : ∀ m ∈ l, m < 48) {m : Nat} (hm : m ∈ l)
    (h : inputActs s k m = true) : rdB (l.foldl (weighInput k) s) F.axTripStat_LATCH m = true := by
  induction l generalizing s with
  | nil => exact absurd hm List.not_mem_nil
  | cons a l ih =>
    rcases List.mem_cons.mp hm with rfl | hm
    · have hb : bit (rd s F.devTripIn_AXES k) m = true := by
        rw [inputActs, Bool.and_eq_true, Bool.and_eq_true] at h
        exact h.1.2
      refine (Trips.foldl (fun t b => trips_weighInput k t b) l _).latch m (hl m List.mem_cons_self) ?_
      rw [weighInput, if_pos hb]
      exact latch_tripCheck (hl m List.mem_cons_self) (tripActive_of_input hk h)
    · exact ih _ (fun b hb => hl b (List.mem_cons_of_mem _ hb)) hm (((trips_weighInput k s a).inputActs hk m).trans h)

section
variable {s : State} {n : Fin 48} (hr : coreRuns s = true)
include hr

theorem tripSourceOnset_input (k : Fin 8) : Completes s (.tripSourceOnset n (.ext k)) (fun t =>
      rd t F.devTripIn_LEVEL k = 1 ∧ ∀ m < 48, bit (rd s F.devTripIn_AXES k) m = true → rdB s F.devTripIn_EN k = true →
        rdB t F.axTripStat_LATCH m = true) := by
  have e : exec (.tripSourceOnset n (.ext k)) s = done (forAxes (weighInput k) (wr s F.devTripIn_LEVEL k 1)) :=
    unclocked_run hr (show execTripSourceOnset n (.ext k) s = _ from rfl)
  have hl : rd (wr s F.devTripIn_LEVEL k 1) F.devTripIn_LEVEL k = 1 := by
    rw [rd_wr_same]
    rfl
  refine completes_of_done e fun t q => ⟨?_, fun m hm ha hen => ?_⟩
  · rw [q.rd_kind (by decide) k.isLt, forAxes, (Trips.foldl (fun t b => trips_weighInput k t b) _ _).rd_devTripIn rfl k.isLt, hl]
  · rw [q.rdB_kind (by decide) hm, forAxes]
    refine latch_foldl_weighInput k.isLt _ _ (fun b hb => List.mem_range.mp hb) (List.mem_range.mpr hm) ?_
    rw [inputActs, rdB, rd_wr_field s F.devTripIn_LEVEL F.devTripIn_EN k 1 rfl (by decide), ← rdB, hen,
      rd_wr_field s F.devTripIn_LEVEL F.devTripIn_AXES k 1 rfl (by decide), ha, rdB, hl]
    rfl

theorem tripSourceEnd_input (k : Fin 8) : Completes s (.tripSourceEnd n (.ext k)) (fun t =>
      rd t F.devTripIn_LEVEL k = 0 ∧ Only [objKey .devTripIn k] s t) := by
  have e : exec (.tripSourceEnd n (.ext k)) s = done (wr s F.devTripIn_LEVEL k 0) :=
    unclocked_run hr (show execTripSourceEnd n (.ext k) s = _ from rfl)
  refine completes_of_done e fun t q => ⟨?_, (regsBut_wr s F.devTripIn_LEVEL k 0 List.mem_cons_self).only rfl q⟩
  rw [q.rd_kind (by decide) k.isLt, rd_wr_same]
  rfl

end

/-! ## The driver monitor -/

/-- `u` is `s` but for DEV.DRV_STAT beside EN and MON, the count of differing samples, and records. -/
structure Monitored (s u : State) : Prop where
  regs : RegsBut [objKey .devDrvStat 0] s u
  en : rd u F.devDrvStat_EN 0 = rd s F.devDrvStat_EN 0
  mon : rd u F.devDrvStat_MON 0 = rd s F.devDrvStat_MON 0
  rest : ∃ e, u = { s with regs := u.regs, prot := u.prot, ctl := { s.ctl with evNew := e } }

theorem Monitored.refl (s : State) : Monitored s s := ⟨.refl _ s, rfl, rfl, s.ctl.evNew, rfl⟩

theorem Monitored.trans {s t u : State} (h : Monitored s t) (k : Monitored t u) : Monitored s u := by
  obtain ⟨h1, h2, h3, e, h4⟩ := h
  obtain ⟨k1, k2, k3, e', k4⟩ := k
  refine ⟨h1.trans k1, k2.trans h2, k3.trans h3, e', ?_⟩
  rw [h4] at k4
  exact k4

/-- The count of differing samples of a group after one that agrees or differs. -/
def nextDiffer (s : State) (pins g : Nat) : Nat :=
  if bit pins g = bit (rd s F.devDrvStat_EN 0) g then 0 else min 13 (mget 0 s.prot.differ g + 1)

/-- The count of group `g` is `c`. -/
def setDiffer (s : State) (g c : Nat) : State := { s with prot := { s.prot with differ := mset 0 s.prot.differ g c } }

/-- The error of group `g` is noted. -/
def noteDiffer (s : State) (g : Nat) : State := raiseD (stickMask s F.devDrvStat_MON_ERR 0 (2 ^ g)) 0x48 g

theorem monGroup_eq (pins : Nat) (s : State) (g : Nat) : monGroup pins s g =
    if nextDiffer s pins g = 12 then noteDiffer (setDiffer s g 12) g else setDiffer s g (nextDiffer s pins g) := by
  rw [monGroup, nextDiffer]
  by_cases h : bit pins g = bit (rd s F.devDrvStat_EN 0) g
  · rw [if_pos h, if_pos h, if_neg (by decide), setDiffer]
  · rw [if_neg h, if_neg h]
    by_cases k : min 13 (mget 0 s.prot.differ g + 1) = 12
    · simp only [k, noteDiffer, setDiffer]
    · simp only [if_neg k, setDiffer]

theorem monitored_setDiffer (s : State) (g c : Nat) : Monitored s (setDiffer s g c) := ⟨.of_eq rfl, rfl, rfl, s.ctl.evNew, rfl⟩

theorem monitored_noteDiffer (s : State) (g : Nat) : Monitored s (noteDiffer s g) := by
  refine ⟨regsBut_wr s F.devDrvStat_MON_ERR 0 _ List.mem_cons_self, ?_, ?_, _, rfl⟩
  · exact rd_wr_field s F.devDrvStat_MON_ERR F.devDrvStat_EN 0 _ rfl (by decide)
  · exact rd_wr_field s F.devDrvStat_MON_ERR F.devDrvStat_MON 0 _ rfl (by decide)

theorem monitored_monGroup (pins : Nat) (s : State) (g : Nat) : Monitored s (monGroup pins s g) := by
  rw [monGroup_eq]
  split
  · exact (monitored_setDiffer s g 12).trans (monitored_noteDiffer _ g)
  · exact monitored_setDiffer s g _

theorem differ_monGroup (pins : Nat) (s : State) (g k : Nat) :
    mget 0 (monGroup pins s g).prot.differ k = if k = g then nextDiffer s pins g else mget 0 s.prot.differ k := by
  have hs (c : Nat) : mget 0 (mset 0 s.prot.differ g c) k = if k = g then c else mget 0 s.prot.differ k := by
    split
    next h => rw [h, mget_mset_same]
    next h => rw [mget_mset_ne _ _ _ _ _ _ h]
  rw [monGroup_eq]
  split
  next h => exact (hs 12).trans (by rw [h])
  · exact hs _

theorem monErr_monGroup (pins : Nat) (s : State) {g : Nat} (k : Nat) (hg : g < 4) : bit (rd (monGroup pins s g) F.devDrvStat_MON_ERR 0) k =
    (bit (rd s F.devDrvStat_MON_ERR 0) k || (decide (g = k) && decide (nextDiffer s pins g = 12))) := by
  rw [monGroup_eq]
  split
  next h =>
    have e : rd (noteDiffer (setDiffer s g 12) g) F.devDrvStat_MON_ERR 0 = rd s F.devDrvStat_MON_ERR 0 ||| 2 ^ g := by
      rw [noteDiffer, (quiet_raiseD _ _ _).rd_kind (by decide) (by decide), stickMask, rd_wr_same]
      exact Nat.mod_eq_of_lt (set_bit_lt (rd_lt s F.devDrvStat_MON_ERR 0) hg)
    rw [e, bit_or, bit_two_pow, decide_eq_true h, Bool.and_true]
  next h =>
    rw [decide_eq_false h, Bool.and_false, Bool.or_false]
    rfl

theorem nextDiffer_monGroup (pins : Nat) (s : State) {g k : Nat} (h : k ≠ g) :
    nextDiffer (monGroup pins s g) pins k = nextDiffer s pins k := by
  rw [nextDiffer, (monitored_monGroup pins s g).en, differ_monGroup, if_neg h, nextDiffer]

theorem foldl_monGroup (pins : Nat) (l : List Nat) (hl : l.Nodup) (h4 : ∀ g ∈ l, g < 4) (s : State) :
    Monitored s (l.foldl (monGroup pins) s) ∧
    (∀ k, mget 0 (l.foldl (monGroup pins) s).prot.differ k = if k ∈ l then nextDiffer s pins k else mget 0 s.prot.differ k) ∧
    ∀ k < 4, bit (rd (l.foldl (monGroup pins) s) F.devDrvStat_MON_ERR 0) k =
      (bit (rd s F.devDrvStat_MON_ERR 0) k || (decide (k ∈ l) && decide (nextDiffer s pins k = 12))) := by
  induction l generalizing s with
  | nil => exact ⟨.refl s, fun k => by simp, fun k _ => by simp⟩
  | cons g l ih =>
    obtain ⟨hg, hn⟩ := List.nodup_cons.mp hl
    obtain ⟨i1, i2, i3⟩ := ih hn (fun b hb => h4 b (List.mem_cons_of_mem _ hb)) (monGroup pins s g)
    refine ⟨(monitored_monGroup pins s g).trans i1, fun k => ?_, fun k hk => ?_⟩
    · rw [List.foldl_cons, i2, differ_monGroup]
      by_cases h : k = g
      · subst h
        simp [hg]
      · rw [nextDiffer_monGroup pins s h]
        simp [h]
    · rw [List.foldl_cons, i3 k hk, monErr_monGroup pins s k (h4 g List.mem_cons_self)]
      by_cases h : k = g
      · subst h
        simp [hg]
      · rw [nextDiffer_monGroup pins s h]
        simp [h, Ne.symm h]

theorem bit_lt_pins (pins : BitVec 4) : pins.toNat < 16 := pins.isLt

theorem drvMonSample_shows {s : State} (pins : BitVec 4) (hr : coreRuns s = true) (hh : s.red.hand = none) :
    Completes s (.drvMonSample pins) (fun t =>
    rd t F.devDrvStat_MON 0 = pins.toNat ∧ rd t F.devDrvStat_EN 0 = rd s F.devDrvStat_EN 0 ∧
    (∀ g < 4, mget 0 t.prot.differ g =
      if bit pins.toNat g = bit (rd s F.devDrvStat_EN 0) g then 0 else min 13 (mget 0 s.prot.differ g + 1)) ∧
    (∀ g < 4, bit (rd t F.devDrvStat_MON_ERR 0) g = (bit (rd s F.devDrvStat_MON_ERR 0) g ||
      (decide (bit pins.toNat g ≠ bit (rd s F.devDrvStat_EN 0) g) && decide (min 13 (mget 0 s.prot.differ g + 1) = 12)))) ∧
    Only [objKey .devDrvStat 0] { s with prot := t.prot } t) := by
  have hen : rd (wr s F.devDrvStat_MON 0 pins.toNat) F.devDrvStat_EN 0 = rd s F.devDrvStat_EN 0 :=
    rd_wr_field s F.devDrvStat_MON F.devDrvStat_EN 0 _ rfl (by decide)
  have herr : rd (wr s F.devDrvStat_MON 0 pins.toNat) F.devDrvStat_MON_ERR 0 = rd s F.devDrvStat_MON_ERR 0 :=
    rd_wr_field s F.devDrvStat_MON F.devDrvStat_MON_ERR 0 _ rfl (by decide)
  have hmon : rd (wr s F.devDrvStat_MON 0 pins.toNat) F.devDrvStat_MON 0 = pins.toNat := by
    rw [rd_wr_same]
    exact Nat.mod_eq_of_lt pins.isLt
  have hregs : RegsBut [objKey .devDrvStat 0] s (wr s F.devDrvStat_MON 0 pins.toNat) := regsBut_wr s _ 0 _ List.mem_cons_self
  have hprot : (wr s F.devDrvStat_MON 0 pins.toNat).prot = s.prot := wr_prot _ _ _ _
  have hrest : wr s F.devDrvStat_MON 0 pins.toNat = { s with regs := (wr s F.devDrvStat_MON 0 pins.toNat).regs } := rfl
  have e : exec (.drvMonSample pins) s = done (handSample ((List.range 4).foldl (monGroup pins.toNat)
      (wr s F.devDrvStat_MON 0 pins.toNat)) pins.toNat) :=
    exec_of_clocked hr (show execDrvMonSample pins s = _ by rw [execDrvMonSample])
  obtain ⟨⟨h1, h2, h3, ev, h4⟩, hd, hm⟩ := foldl_monGroup pins.toNat (List.range 4) List.nodup_range
    (fun g hg => List.mem_range.mp hg) (wr s F.devDrvStat_MON 0 pins.toNat)
  generalize (List.range 4).foldl (monGroup pins.toNat) (wr s F.devDrvStat_MON 0 pins.toNat) = u at *
  generalize wr s F.devDrvStat_MON 0 pins.toNat = w at *
  have hu : handSample u pins.toNat = u := by
    have : u.red.hand = none := by rw [h4, hrest]; exact hh
    rw [handSample, this]
  rw [hu] at e
  refine completes_of_done e fun t q => ⟨?_, ?_, fun g hg => ?_, fun g hg => ?_, ?_⟩
  · rw [q.rd_kind (by decide) (by decide), h3, hmon]
  · rw [q.rd_kind (by decide) (by decide), h2, hen]
  · rw [q.prot, hd, if_pos (List.mem_range.mpr hg), nextDiffer, hen, hprot]
  · rw [q.rd_kind (by decide) (by decide), hm g hg, herr, nextDiffer, hen, hprot]
    by_cases hb : bit pins.toNat g = bit (rd s F.devDrvStat_EN 0) g
    · simp [hb]
    · simp [hb, hg]
  · refine ⟨u.regs, hregs.trans h1, ?_⟩
    have q0 : Quiet { s with prot := u.prot, regs := u.regs } { s with prot := u.prot, regs := u.regs, ctl := { s.ctl with evNew := ev } } :=
      ⟨fun _ _ _ => rfl, rfl, rfl, rfl⟩
    rw [q.prot]
    refine q0.trans ?_
    rw [hrest] at h4
    rw [h4] at q
    exact q

/-- Settles O26: a trip leaves the live bits, the inputs and every latch that is set, and each group's count is its own. -/
theorem tripSources : Obligations.TripSources :=
  ⟨fun _ hr => ⟨fun _ _ hk => tripSourceOnset_comparator hr hk, fun _ k => tripSourceOnset_input hr k,
    fun _ _ hk => tripSourceEnd_comparator hr hk, fun _ k => tripSourceEnd_input hr k⟩, fun _ pins hr hh => drvMonSample_shows pins hr hh⟩

end Sys2Proof.Machine
end

section
/-!
SUPPORT. The device's mode (DEV.MODE): what nothing but a change of it touches (`modeWord`), one lemma for each operation of a change of
mode.
-/

namespace Sys2Proof.Machine
open Sys2Proof Sys2Proof.Machine

/-- The word of DEV.MODE. -/
def modeWord (s : State) : Nat := getObj s .devMode 0

theorem modeWord_of_regs {s u : State} (h : u.regs = s.regs) : modeWord u = modeWord s := by rw [modeWord, modeWord, getObj, getObj, h]

@[simp] theorem modeWord_ite (c : Prop) [Decidable c] (s t : State) :
    modeWord (if c then s else t) = if c then modeWord s else modeWord t := by split <;> rfl

@[simp] theorem modeWord_foldl {α : Type} (f : State → α → State) (l : List α) (s : State) (h : ∀ s a, modeWord (f s a) = modeWord s) :
    modeWord (l.foldl f s) = modeWord s := by
  induction l generalizing s with
  | nil => rfl
  | cons a l ih => rw [List.foldl_cons, ih, h]

theorem row_behind : ∀ o : ObjId, o ≠ .devMode → o ≠ .axStatus → o ≠ .devId → (objRow o).block ≠ 0 ∨ 4100 < (objRow o).base := by
  intro o
  cases o <;> decide

/-- Every object but the first two of block 0 lies behind DEV.MODE. -/
theorem objKey_ne_devMode {o : ObjId} (h1 : o ≠ .devMode) (h2 : o ≠ .axStatus) (h3 : o ≠ .devId) (i : Nat) :
    objKey .devMode 0 ≠ objKey o i := by
  have hk : objKey .devMode 0 = 4100 := by decide
  rw [hk, objKey, objIndex]
  rcases row_behind o h1 h2 h3 with hb | hb
  · have : 1 ≤ (objRow o).block := Nat.one_le_iff_ne_zero.mpr hb
    omega
  · omega

@[simp] theorem modeWord_setObj (s : State) (o : ObjId) (i v : Nat) (h1 : o ≠ .devMode) (h2 : o ≠ .axStatus) (h3 : o ≠ .devId) :
    modeWord (setObj s o i v) = modeWord s := getObj_setObj_ne s o .devMode i 0 v (objKey_ne_devMode h1 h2 h3 i)

@[simp] theorem modeWord_wr (s : State) (f : Fld) (i x : Nat) (h1 : f.obj ≠ .devMode) (h2 : f.obj ≠ .axStatus) (h3 : f.obj ≠ .devId) :
    modeWord (wr s f i x) = modeWord s := modeWord_setObj s f.obj i _ h1 h2 h3

@[simp] theorem modeWord_wrB (s : State) (f : Fld) (i : Nat) (b : Bool) (h1 : f.obj ≠ .devMode) (h2 : f.obj ≠ .axStatus)
    (h3 : f.obj ≠ .devId) : modeWord (wrB s f i b) = modeWord s := modeWord_wr s f i _ h1 h2 h3

@[simp] theorem modeWord_addSat (s : State) (f : Fld) (i k : Nat) (h1 : f.obj ≠ .devMode) (h2 : f.obj ≠ .axStatus)
    (h3 : f.obj ≠ .devId) : modeWord (addSat s f i k) = modeWord s := modeWord_wr s f i _ h1 h2 h3

@[simp] theorem modeWord_incSat (s : State) (f : Fld) (i : Nat) (h1 : f.obj ≠ .devMode) (h2 : f.obj ≠ .axStatus)
    (h3 : f.obj ≠ .devId) : modeWord (incSat s f i) = modeWord s := modeWord_wr s f i _ h1 h2 h3

@[simp] theorem modeWord_forAxes (f : State → Nat → State) (s : State) (h : ∀ s n, modeWord (f s n) = modeWord s) :
    modeWord (forAxes f s) = modeWord s := modeWord_foldl f _ s h

theorem Quiet.modeWord_eq {s u : State} (q : Quiet s u) : modeWord u = modeWord s := q.getObj_kind (by decide) (by decide)

theorem Trips.modeWord_eq {s u : State} (h : Trips s u) : modeWord u = modeWord s :=
  h.regs _ _ (by decide +kernel) (key_of_kind (o := .devMode) (by decide) (by decide))

theorem FabOnly.modeWord_eq {s u : State} (h : FabOnly s u) : modeWord u = modeWord s := h.objs _ _ (by decide) (by decide)

@[simp] theorem modeWord_of_mk (s : State) (pe pw nv ct lo qm ms ax gr au xo en co c1 pr mo pb rd pl le sv fa) :
    modeWord ⟨pe, s.regs, pw, nv, ct, lo, qm, ms, ax, gr, au, xo, en, co, c1, pr, mo, pb, rd, pl, le, sv, fa⟩ = modeWord s := by
  rw [modeWord, getObj, modeWord, getObj]

@[simp] theorem modeWord_raise (s : State) (code axis arg : Nat) : modeWord (raise s code axis arg) = modeWord s :=
  (quiet_raise _ _ _ _).modeWord_eq
@[simp] theorem modeWord_raiseD (s : State) (code arg : Nat) : modeWord (raiseD s code arg) = modeWord s :=
  (quiet_raiseD _ _ _).modeWord_eq
@[simp] theorem modeWord_ledgAxis (s : State) (f : Fld) (n b k : Nat) (h : f.obj = .axLedger) :
    modeWord (ledgAxis s f n b k) = modeWord s := (trips_ledgAxis s f n b k h).modeWord_eq
@[simp] theorem modeWord_dropEvals (s : State) (n : Nat) : modeWord (dropEvals s n) = modeWord s := by
  simp [dropEvals, (trips_undoCommit s n).modeWord_eq, modLoop, modPwm, setAx]
@[simp] theorem modeWord_gmChange (old s : State) : modeWord (gmChange old s) = modeWord s := (fabOnly_gmChange old s).modeWord_eq
@[simp] theorem modeWord_showFab (s : State) : modeWord (showFab s) = modeWord s := (fabOnly_showFab s).modeWord_eq
@[simp] theorem modeWord_freeListFault (s : State) :
    modeWord (freeListFault s) = modeWord s :=
  (quiet_freeListFault _).modeWord_eq
@[simp] theorem modeWord_cellsBack (old : Qm) (s : State) : modeWord (cellsBack old s) = modeWord s :=
  (quiet_cellsBack _ _).modeWord_eq
@[simp] theorem modeWord_pushEvent (s : State) (e : Ev) :
    modeWord (pushEvent s e) = modeWord s :=
  (quiet_pushEvent _ _).modeWord_eq
@[simp] theorem modeWord_openEvents (s : State) : modeWord (openEvents s) = modeWord s := by simp [openEvents]
@[simp] theorem modeWord_hold (s : State) (src : Src) : modeWord (hold s src) = modeWord s := by unfold hold; split <;> simp
@[simp] theorem modeWord_setAx (s : State) (n : Nat) (a : Axis) : modeWord (setAx s n a) = modeWord s := by simp [setAx]
@[simp] theorem modeWord_modExc (s : State) (n : Nat) (f : AxExc → AxExc) : modeWord (modExc s n f) = modeWord s := by simp [modExc]
@[simp] theorem modeWord_modFe (s : State) (n : Nat) (f : AxFe → AxFe) : modeWord (modFe s n f) = modeWord s := by simp [modFe]
@[simp] theorem modeWord_modFlt (s : State) (n : Nat) (f : AxFlt → AxFlt) : modeWord (modFlt s n f) = modeWord s := by simp [modFlt]
@[simp] theorem modeWord_modTrk (s : State) (n : Nat) (f : AxTrk → AxTrk) : modeWord (modTrk s n f) = modeWord s := by simp [modTrk]
@[simp] theorem modeWord_setGrp (s : State) (g : Nat) (x : Grp) : modeWord (setGrp s g x) = modeWord s := by simp [setGrp]
@[simp] theorem modeWord_setAux (s : State) (k : Nat) (x : Aux) : modeWord (setAux s k x) = modeWord s := by simp [setAux]
@[simp] theorem modeWord_setAuxo (s : State) (k : Nat) (x : Auxo) : modeWord (setAuxo s k x) = modeWord s := by simp [setAuxo]
@[simp] theorem modeWord_auxoLow (s : State) (k : Nat) : modeWord (auxoLow s k) = modeWord s := by simp [auxoLow]
@[simp] theorem modeWord_stopDriver (s : State) (n : Nat) : modeWord (stopDriver s n) = modeWord s := by simp [stopDriver]
@[simp] theorem modeWord_stopGroup (s : State) (g : Nat) : modeWord (stopGroup s g) = modeWord s := by simp [stopGroup]
@[simp] theorem modeWord_setRange (s : State) (n : Nat) (cur : Bool) (r : Nat) : modeWord (setRange s n cur r) = modeWord s := by
  simp [setRange]
@[simp] theorem modeWord_startRange (s : State) (n : Nat) (cur : Bool) : modeWord (startRange s n cur) = modeWord s := by
  simp [startRange]
@[simp] theorem modeWord_clearRanging (s : State) (n : Nat) (cur : Bool) : modeWord (clearRanging s n cur) = modeWord s := by
  simp [clearRanging]
@[simp] theorem modeWord_setSource (s : State) (n : Nat) (cur : Bool) (src : Nat) : modeWord (setSource s n cur src) = modeWord s := by
  simp [setSource]
@[simp] theorem modeWord_switchMux (s : State) (n : Nat) (cur : Bool) : modeWord (switchMux s n cur) = modeWord s := by simp [switchMux]

@[simp] theorem modeWord_modPwm (s : State) (n : Nat) (f : AxPwm → AxPwm) : modeWord (modPwm s n f) = modeWord s := by simp [modPwm]
@[simp] theorem modeWord_modLoop (s : State) (n : Nat) (f : AxLoop → AxLoop) : modeWord (modLoop s n f) = modeWord s := by simp [modLoop]
@[simp] theorem modeWord_setMode (s : State) (n m cause : Nat) : modeWord (setMode s n m cause) = modeWord s := by simp [setMode]
@[simp] theorem modeWord_refuseReq (s : State) (n : Nat) : modeWord (refuseReq s n) = modeWord s :=
  (trips_refuseReq _ _).modeWord_eq
@[simp] theorem modeWord_recordSources (s : State) (n extra : Nat) : modeWord (recordSources s n extra) = modeWord s :=
  (trips_recordSources _ _ _).modeWord_eq
@[simp] theorem modeWord_updDrv (s : State) : modeWord (updDrv s) = modeWord s :=
  (trips_updDrv _).modeWord_eq
@[simp] theorem modeWord_wantDrv (s : State) (m : Nat) : modeWord (wantDrv s m) = modeWord s := by simp [wantDrv]
@[simp] theorem modeWord_undoCommit (s : State) (n : Nat) : modeWord (undoCommit s n) = modeWord s :=
  (trips_undoCommit _ _).modeWord_eq
@[simp] theorem modeWord_enterTripped (s : State) (n cause : Nat) : modeWord (enterTripped s n cause) = modeWord s :=
  (trips_enterTripped _ _ _).modeWord_eq
@[simp] theorem modeWord_latchOne (s : State) (n cause extra : Nat) : modeWord (latchOne s n cause extra) = modeWord s :=
  (trips_latchOne _ _ _ _).modeWord_eq
@[simp] theorem modeWord_groupDisable (s : State) (n : Nat) : modeWord (groupDisable s n) = modeWord s :=
  (trips_groupDisable _ _).modeWord_eq
@[simp] theorem modeWord_tripMate (s : State) (n cause extra : Nat) : modeWord (tripMate s n cause extra) = modeWord s :=
  (trips_tripMate _ _ _ _).modeWord_eq
@[simp] theorem modeWord_tripMates (s : State) (extra : Nat) (old : State) : modeWord (tripMates s extra old) = modeWord s :=
  (trips_tripMates _ _ _).modeWord_eq
@[simp] theorem modeWord_trip (s : State) (n cause extra : Nat) : modeWord (trip s n cause extra) = modeWord s :=
  (trips_trip _ _ _ _).modeWord_eq
@[simp] theorem modeWord_tripCheck (s : State) (n : Nat) : modeWord (tripCheck s n) = modeWord s :=
  (trips_tripCheck _ _).modeWord_eq
@[simp] theorem modeWord_safeGates (s : State) (n : Nat) : modeWord (safeGates s n) = modeWord s := by simp [safeGates]
@[simp] theorem modeWord_lowGates (s : State) (n : Nat) : modeWord (lowGates s n) = modeWord s := by simp [lowGates]
@[simp] theorem modeWord_modRed (s : State) (f : Red → Red) : modeWord (modRed s f) = modeWord s := by simp [modRed]
@[simp] theorem modeWord_obsClear (s : State) (n : Nat) : modeWord (obsClear s n) = modeWord s := by simp [obsClear]
@[simp] theorem modeWord_obsStop (s : State) (n : Nat) : modeWord (obsStop s n) = modeWord s := by simp [obsStop]
@[simp] theorem modeWord_setEnc (s : State) (k : Nat) (x : Enc) : modeWord (setEnc s k x) = modeWord s := by simp [setEnc]
@[simp] theorem modeWord_encFlags (s : State) (k : Nat) (live wait hold ovr : Bool) :
    modeWord (encFlags s k live wait hold ovr) = modeWord s := by
  simp [encFlags]
@[simp] theorem modeWord_encShow (s : State) (k : Nat) (e : Enc) : modeWord (encShow s k e) = modeWord s := by simp [encShow]
@[simp] theorem modeWord_encStop (s : State) (k : Nat) : modeWord (encStop s k) = modeWord s := by simp [encStop]
@[simp] theorem modeWord_settlePresets (s : State) (n : Nat) : modeWord (settlePresets s n) = modeWord s := by simp [settlePresets]
@[simp] theorem modeWord_applyPreset (s : State) (n old m : Nat) (brake all : Bool) :
    modeWord (applyPreset s n old m brake all) = modeWord s := by
  simp [applyPreset]
@[simp] theorem modeWord_modeGates (s : State) (n m : Nat) (wasDriving : Bool) : modeWord (modeGates s n m wasDriving) = modeWord s := by
  simp [modeGates]
@[simp] theorem modeWord_modeTrack (s : State) (n old m : Nat) : modeWord (modeTrack s n old m) = modeWord s := by simp [modeTrack]
@[simp] theorem modeWord_takeMode (s : State) (n m cause : Nat) : modeWord (takeMode s n m cause) = modeWord s := by simp [takeMode]
@[simp] theorem modeWord_stopDrv (s : State) : modeWord (stopDrv s) = modeWord s := by simp [stopDrv]
@[simp] theorem modeWord_stopAxis (s : State) (n cause : Nat) : modeWord (stopAxis s n cause) = modeWord s := by simp [stopAxis]
@[simp] theorem modeWord_resumeAxis (s : State) (n : Nat) : modeWord (resumeAxis s n) = modeWord s := by simp [resumeAxis]
@[simp] theorem modeWord_holdAxes (s : State) : modeWord (holdAxes s) = modeWord s := by simp [holdAxes]
@[simp] theorem modeWord_resumeAxes (s : State) : modeWord (resumeAxes s) = modeWord s := by simp [resumeAxes]
@[simp] theorem modeWord_stopStart (s : State) (n : Nat) : modeWord (stopStart s n) = modeWord s := by simp [stopStart]
@[simp] theorem modeWord_stopAxes (s : State) : modeWord (stopAxes s) = modeWord s := by simp [stopAxes]
@[simp] theorem modeWord_latchAxes (s : State) : modeWord (latchAxes s) = modeWord s := by simp [latchAxes]
@[simp] theorem modeWord_modFab (s : State) (f : Fab → Fab) : modeWord (modFab s f) = modeWord s := by simp [modFab]
@[simp] theorem modeWord_modLk (s : State) (p : Nat) (f : Link → Link) : modeWord (modLk s p f) = modeWord s := by simp [modLk]
@[simp] theorem modeWord_putWords (s : State) (p : Nat) (ws : List (BitVec 24)) : modeWord (putWords s p ws) = modeWord s := by
  simp [putWords]
@[simp] theorem modeWord_giveBack (s : State) (p cls k : Nat) : modeWord (giveBack s p cls k) = modeWord s := by simp [giveBack]
@[simp] theorem modeWord_queueFrame (s : State) (p : Nat) (h : Hdr) (payload : List Byte) :
    modeWord (queueFrame s p h payload).1 = modeWord s :=
  (quiet_queueFrame _ _ _ _).modeWord_eq
@[simp] theorem modeWord_dbChanged (s : State) : modeWord (dbChanged s) = modeWord s := by simp [dbChanged]
@[simp] theorem modeWord_switchRoutes (s : State) (p : Nat) : modeWord (switchRoutes s p) = modeWord s := by simp [switchRoutes]
@[simp] theorem modeWord_reportRoutes (s : State) (p : Nat) :
    modeWord (reportRoutes s p) = modeWord s := by
  refine modeWord_foldl _ _ _ fun t r => ?_
  dsimp only
  split <;> simp
@[simp] theorem modeWord_drainQ (n : Nat) (s : State) (q : Nat) (acc : List Byte) : modeWord (drainQ n s q acc).1 = modeWord s :=
  (quiet_drainQ _ _ _ _).modeWord_eq
@[simp] theorem modeWord_reroute (s : State) (cls : Nat) (x : List Byte × Bool) : modeWord (reroute s cls x) = modeWord s := by
  unfold reroute; dsimp only; repeat' split
  all_goals simp
@[simp] theorem modeWord_heldFrames (s : State) (p : Nat) (c : Nat) :
    modeWord (heldFrames s p c).1 = modeWord s := modeWord_drainQ _ _ _ _
@[simp] theorem modeWord_freeTransit (s : State) (xs : List Transit) : modeWord (freeTransit s xs) = modeWord s := by simp [freeTransit]
@[simp] theorem modeWord_dropHeld (s : State) (p : Nat) : modeWord (dropHeld s p) = modeWord s := by simp [dropHeld]
@[simp] theorem modeWord_ownUpdate (s : State) : modeWord (ownUpdate s) = modeWord s := by simp [ownUpdate]
@[simp] theorem modeWord_leaveUp (s : State) (p why : Nat) : modeWord (leaveUp s p why) = modeWord s := by simp [leaveUp]
@[simp] theorem modeWord_setLink (s : State) (p st why : Nat) : modeWord (setLink s p st why) = modeWord s := by simp [setLink]
@[simp] theorem modeWord_sayDown (s : State) (p why : Nat) : modeWord (sayDown s p why) = modeWord s := by simp [sayDown]
@[simp] theorem modeWord_linkOff (s : State) (p why : Nat) : modeWord (linkOff s p why) = modeWord s := by simp [linkOff]
@[simp] theorem modeWord_setRole (s : State) (role : Nat) : modeWord (setRole s role) = modeWord s := by simp [setRole]
@[simp] theorem modeWord_showRed (s : State) : modeWord (showRed s) = modeWord s := by
  unfold showRed; dsimp only; repeat' split
  all_goals simp
@[simp] theorem modeWord_startTimer (s : State) (n : Nat) : modeWord (startTimer s n) = modeWord s := by simp [startTimer]
@[simp] theorem modeWord_stopTimer (s : State) (n : Nat) : modeWord (stopTimer s n) = modeWord s := by simp [stopTimer]
@[simp] theorem modeWord_updTimers (s : State) : modeWord (updTimers s) = modeWord s := by simp [updTimers]
@[simp] theorem modeWord_detClear (s : State) (n : Nat) : modeWord (detClear s n) = modeWord s := by simp [detClear]
@[simp] theorem modeWord_setMon (s : State) (c : Nat) (x : Mon) : modeWord (setMon s c x) = modeWord s := by simp [setMon]
@[simp] theorem modeWord_monShow (s : State) (c state v : Nat) : modeWord (monShow s c state v) = modeWord s := by simp [monShow]
@[simp] theorem modeWord_monGo (s : State) (c st : Nat) : modeWord (monGo s c st) = modeWord s := by simp [monGo]
@[simp] theorem modeWord_monPowerUp (s : State) : modeWord (monPowerUp s) = modeWord s := by simp [monPowerUp]

@[simp] theorem modeWord_modPlace (s : State) (f : Place → Place) : modeWord (modPlace s f) = modeWord s := by simp [modPlace]
@[simp] theorem modeWord_modSv (s : State) (f : Sv → Sv) : modeWord (modSv s f) = modeWord s := by simp [modSv]
@[simp] theorem modeWord_svSetCsr (s : State) (n v : Nat) : modeWord (svSetCsr s n v) = modeWord s := by simp [svSetCsr]
@[simp] theorem modeWord_svPendEdge (s : State) (n : Nat) : modeWord (svPendEdge s n) = modeWord s := by simp [svPendEdge]
@[simp] theorem modeWord_svStart (s : State) (hd : List Nat) : modeWord (svStart s hd) = modeWord s := by simp [svStart]
@[simp] theorem modeWord_svLoadEnd (s : State) : modeWord (svLoadEnd s) = modeWord s := by unfold svLoadEnd; split <;> simp

@[simp] theorem modeWord_startRole (s : State) : modeWord (startRole s) = modeWord s := by simp [startRole]
@[simp] theorem modeWord_leaveLoad (s : State) : modeWord (leaveLoad s) = modeWord s := by simp [leaveLoad]
@[simp] theorem modeWord_leaveMaint (s : State) : modeWord (leaveMaint s) = modeWord s := by simp [leaveMaint]
@[simp] theorem modeWord_restartAxis (s : State) (n : Nat) : modeWord (restartAxis s n) = modeWord s := by simp [restartAxis]
@[simp] theorem modeWord_everyChain (s : State) (f : Chain → Chain) : modeWord (everyChain s f) = modeWord s := by simp [everyChain]
@[simp] theorem modeWord_leaveDisabled (s : State) : modeWord (leaveDisabled s) = modeWord s := by simp [leaveDisabled]
@[simp] theorem modeWord_startTracking (s : State) : modeWord (startTracking s) = modeWord s := by simp [startTracking]
@[simp] theorem modeWord_dropSafe (s : State) : modeWord (dropSafe s) = modeWord s := by simp [dropSafe]
@[simp] theorem modeWord_stopExc (s : State) : modeWord (stopExc s) = modeWord s := by simp [stopExc]
@[simp] theorem modeWord_outputsLow (s : State) : modeWord (outputsLow s) = modeWord s := by simp [outputsLow]
@[simp] theorem modeWord_testSources (s : State) : modeWord (testSources s) = modeWord s := by simp [testSources]
@[simp] theorem modeWord_ownSources (s : State) : modeWord (ownSources s) = modeWord s := by simp [ownSources]
@[simp] theorem modeWord_enterTest (s : State) (old : Nat) : modeWord (enterTest s old) = modeWord s := by simp [enterTest]
@[simp] theorem modeWord_enterPlace (s : State) : modeWord (enterPlace s) = modeWord s := by simp [enterPlace]
@[simp] theorem modeWord_enterStandby (s : State) (old : Nat) :
    modeWord (enterStandby s old) = modeWord s := by
  unfold enterStandby
  dsimp only
  rw [modeWord_modRed, modeWord_wantDrv, modeWord_dropSafe]
  split
  · split <;> simp
  · split <;> simp
@[simp] theorem modeWord_takeDrive (s : State) (h : Handover) : modeWord (takeDrive s h) = modeWord s := by simp [takeDrive]
@[simp] theorem modeWord_enterRun (s : State) (old : Nat) : modeWord (enterRun s old) = modeWord s := by
  unfold enterRun; repeat' split
  all_goals simp
@[simp] theorem modeWord_latchDrv (s : State) : modeWord (latchDrv s) = modeWord s := by simp [latchDrv]
@[simp] theorem modeWord_enterEffects (s : State) (old : Nat) (m : Nat) :
    modeWord (enterEffects s old m) = modeWord s := by
  unfold enterEffects
  simp only [modeWord_updTimers]
  have h1 : modeWord (if excTiming m then s else outputsLow (stopExc s)) = modeWord s := by split <;> simp
  generalize (if excTiming m then s else outputsLow (stopExc s)) = s1 at h1
  repeat' split
  all_goals simp [h1]

end Sys2Proof.Machine
end

section
/-!
PROOFS. Changes of the device's mode (O9).
-/

namespace Sys2Proof.Machine
open Sys2Proof Sys2Proof.Machine

/-- The fields of DEV.MODE that a change of mode writes. -/
structure ModeTaken (old m cause : Nat) (u : State) : Prop where
  mode : mode u = m
  prev : rd u F.devMode_PREV 0 = old
  cause : rd u F.devMode_CAUSE 0 = cause % 2 ^ F.devMode_CAUSE.w

theorem rd_of_modeWord {s u : State} (h : modeWord u = modeWord s) {f : Fld} (hf : f.obj = .devMode) : rd u f 0 = rd s f 0 := by
  rw [rd, hf]
  exact (congrArg (fget · f) h).trans (by rw [rd, hf, modeWord])

theorem mode_of_modeWord {s u : State} (h : modeWord u = modeWord s) : mode u = mode s := rd_of_modeWord h rfl

theorem ModeTaken.of_word {old m cause : Nat} {s u : State} (h : ModeTaken old m cause s) (hw : modeWord u = modeWord s) :
    ModeTaken old m cause u :=
  ⟨(mode_of_modeWord hw).trans h.mode, (rd_of_modeWord hw rfl).trans h.prev, (rd_of_modeWord hw rfl).trans h.cause⟩

/-! ## The write of DEV.MODE -/

/-- DEV.MODE takes a mode. -/
def writeMode (s : State) (m cause : Nat) : State :=
  wr (wr (wr s F.devMode_PREV 0 (mode s)) F.devMode_MODE 0 m) F.devMode_CAUSE 0 cause

theorem writeMode_takes (s : State) {m : Nat} (cause : Nat) (h : m < 16) : ModeTaken (mode s) m cause (writeMode s m cause) := by
  have hp : mode s < 16 := bits_lt _ _ _
  refine ⟨?_, ?_, ?_⟩
  · rw [mode, writeMode, rd_wr_field _ F.devMode_CAUSE F.devMode_MODE 0 _ rfl (by decide), rd_wr_same]
    exact Nat.mod_eq_of_lt h
  · rw [writeMode, rd_wr_field _ F.devMode_CAUSE F.devMode_PREV 0 _ rfl (by decide),
      rd_wr_field _ F.devMode_MODE F.devMode_PREV 0 _ rfl (by decide), rd_wr_same]
    exact Nat.mod_eq_of_lt hp
  · rw [writeMode, rd_wr_same]

theorem regsBut_writeMode (s : State) (m cause : Nat) : RegsBut [objKey .devMode 0] s (writeMode s m cause) :=
  ((regsBut_wr s F.devMode_PREV 0 _ List.mem_cons_self).wr F.devMode_MODE 0 _ List.mem_cons_self).wr F.devMode_CAUSE 0 _
    List.mem_cons_self

theorem setDevMode_eq (s : State) (m cause : Nat) : setDevMode s m cause =
    svPendEdge (raiseD (writeMode s m cause) 0x10 (m + 256 * cause)) 5 := by rw [setDevMode, writeMode]

theorem setDevMode_takes (s : State) {m : Nat} (cause : Nat) (h : m < 16) : ModeTaken (mode s) m cause (setDevMode s m cause) :=
  (writeMode_takes s cause h).of_word (by rw [setDevMode_eq, modeWord_svPendEdge, modeWord_raiseD])

theorem svRunning_of {s u : State} (h : rdB u F.devSvStat_RUNNING 0 = rdB s F.devSvStat_RUNNING 0) (hp : u.pwr = s.pwr) :
    svRunning u = svRunning s := by
  rw [svRunning, h, hp, svRunning]

theorem svRunning_writeMode (s : State) (m cause : Nat) : svRunning (writeMode s m cause) = svRunning s :=
  svRunning_of (by rw [rdB, (regsBut_writeMode s m cause).rd (f := F.devSvStat_RUNNING) (i := 0) (by decide), rdB]) rfl

theorem svPending_svPendEdge {s : State} {n : Nat} (h : svRunning s = true) (hn : svEdge n = true) :
    svPending (svPendEdge s n) n = true := by
  rw [svPending, if_pos hn, svPendEdge, if_pos h, svCsr_svSetCsr_same, bit_or, bit_two_pow, decide_eq_true rfl, Bool.or_true]

theorem setDevMode_pends {s : State} (m cause : Nat) (h : svRunning s = true) : svPending (setDevMode s m cause) 5 = true := by
  rw [setDevMode_eq]
  refine svPending_svPendEdge ?_ (by decide)
  rw [svRunning_of ((quiet_raiseD _ _ _).rdB_kind (by decide) (by decide)) (quiet_raiseD _ _ _).pwr, svRunning_writeMode, h]

theorem svPendEdge_frame (s : State) (n : Nat) : svPendEdge s n = { s with sv := (svPendEdge s n).sv } := by
  rw [svPendEdge]
  split <;> rfl

theorem setDevMode_only (s : State) (m cause : Nat) :
    Only [objKey .devMode 0] { s with sv := (setDevMode s m cause).sv } (setDevMode s m cause) := by
  refine ⟨(writeMode s m cause).regs, regsBut_writeMode s m cause, ?_⟩
  have h := svPendEdge_frame (raiseD (writeMode s m cause) 0x10 (m + 256 * cause)) 5
  rw [← setDevMode_eq] at h
  generalize (setDevMode s m cause).sv = v at h ⊢
  rw [h]
  exact ⟨fun _ _ _ => rfl, rfl, rfl, rfl⟩

/-! ## What follows -/

/-- What leaving a mode does, before DEV.MODE changes. -/
def leaveMode (s : State) : State :=
  let s0 := if mode s = mLoad then leaveLoad s else if mode s = mMaint then leaveMaint s else s
  if mode s = mTest then ownSources s0 else s0

theorem modeWord_leaveMode (s : State) : modeWord (leaveMode s) = modeWord s := by
  have h : modeWord (if mode s = mLoad then leaveLoad s else if mode s = mMaint then leaveMaint s else s) = modeWord s := by
    split
    · exact modeWord_leaveLoad s
    · split
      · exact modeWord_leaveMaint s
      · rfl
  rw [leaveMode]
  split
  · rw [modeWord_ownSources, h]
  · exact h

theorem takeDevMode_eq (s : State) (m cause : Nat) : takeDevMode s m cause = showRed (enterEffects
    (if m = mMaint ∧ mode s = mLatch then wr (setDevMode (leaveMode s) m cause) F.devMode_FROM_LATCH 0 1
      else setDevMode (leaveMode s) m cause) (mode s) m) := by rw [takeDevMode, leaveMode]

theorem takeDevMode_takes (s : State) {m : Nat} (cause : Nat) (h : m < 16) : ModeTaken (mode s) m cause (takeDevMode s m cause) := by
  have h1 : ModeTaken (mode s) m cause (setDevMode (leaveMode s) m cause) :=
    mode_of_modeWord (modeWord_leaveMode s) ▸ setDevMode_takes (leaveMode s) cause h
  have h2 : ModeTaken (mode s) m cause (if m = mMaint ∧ mode s = mLatch then
      wr (setDevMode (leaveMode s) m cause) F.devMode_FROM_LATCH 0 1 else setDevMode (leaveMode s) m cause) := by
    split
    · obtain ⟨a, b, c⟩ := h1
      refine ⟨?_, ?_, ?_⟩
      · rw [mode, rd_wr_field _ F.devMode_FROM_LATCH F.devMode_MODE 0 _ rfl (by decide), ← mode, a]
      · rw [rd_wr_field _ F.devMode_FROM_LATCH F.devMode_PREV 0 _ rfl (by decide), b]
      · rw [rd_wr_field _ F.devMode_FROM_LATCH F.devMode_CAUSE 0 _ rfl (by decide), c]
    · exact h1
  refine h2.of_word ?_
  rw [takeDevMode_eq, modeWord_showRed, modeWord_enterEffects]

/-! ## The triggers -/

theorem answered_replyMode (s : State) (t : Trig) (k : Nat) : Answered s (replyMode s t k) := by
  unfold replyMode
  split
  · rw [answer, replyWrite]
    exact (answered_reply _ _ _ _ _ _).trans (answered_release _ _)
  · exact (Quiet.refl s).answered

theorem answered_foldl {α : Type} {f : State → α → State} (h : ∀ t a, Answered t (f t a)) (l : List α) (s : State) :
    Answered s (l.foldl f s) := by
  induction l generalizing s with
  | nil => exact (Quiet.refl s).answered
  | cons a l ih => exact (h s a).trans (ih _)

/-- The triggers that wait are `ts`. -/
def setTrigs (s : State) (ts : List Trig) : State := { s with ctl := { s.ctl with trigs := ts } }

theorem Answered.setTrigs {s u : State} (h : Answered s u) (ts : List Trig) : Answered (setTrigs s ts) (setTrigs u ts) := by
  obtain ⟨m, ⟨h1, h2, h3, h4⟩⟩ := h
  refine ⟨m, ⟨h1, ?_, ?_, h4⟩⟩
  · exact congrArg (fun x : State => { x with ctl := { s.ctl with trigs := ts } }) h2
  · exact congrArg (fun c : Ctl => { c with trigs := ts }) h3

theorem Answered.trigs {s u : State} (h : Answered s u) : u.ctl.trigs = s.ctl.trigs := by
  obtain ⟨m, q⟩ := h
  exact q.trigs

/-- The triggers that lost and are weighed again. -/
def keptTrigs (s : State) (w : Trig) (ts : List Trig) : List Trig :=
  (ts.erase w).filter (fun t => t.src.isNone && decide (t.target ≠ w.target) && modeAllows s t.target t.cause)

theorem answered_settleTrigs (old s : State) (w : Trig) : Answered (setTrigs s (keptTrigs old w s.ctl.trigs)) (settleTrigs old s w) := by
  rw [settleTrigs]
  refine answered_foldl (fun t a => ?_) _ _
  split
  · exact answered_replyMode t a _
  · exact (Quiet.refl t).answered

theorem Answered.modeWord_eq {s u : State} (h : Answered s u) : modeWord u = modeWord s := by
  obtain ⟨m, q⟩ := h
  exact q.modeWord_eq

section
variable {s : State} (hr : coreRuns s = true)
include hr

theorem exec_modeTransition : exec .modeTransition s = match bestTrig s s.ctl.trigs with
    | none => done (lapseTrigs s)
    | some t => done (settleTrigs s (replyMode (takeDevMode s t.target t.cause) t 0) t) :=
  exec_of_clocked hr (show execModeTransition s = _ by rw [execModeTransition] <;> rfl)

theorem modeTransition_lapses (h : bestTrig s s.ctl.trigs = none) : EndsAnswered s .modeTransition (setTrigs s []) := by
  have e := exec_modeTransition hr
  rw [h] at e
  have ha : Answered (setTrigs s []) (lapseTrigs s) := answered_foldl (fun t a => answered_replyMode t a 2) _ _
  exact completes_of_done e fun t q => ha.trans q.answered

theorem modeTransition_takes {w : Trig} (h : bestTrig s s.ctl.trigs = some w) :
    EndsAnswered s .modeTransition (setTrigs (takeDevMode s w.target w.cause)
      (keptTrigs s w (takeDevMode s w.target w.cause).ctl.trigs)) ∧
    (w.target < 16 → Completes s .modeTransition (fun t => mode t = w.target ∧ rd t F.devMode_PREV 0 = mode s ∧
      rd t F.devMode_CAUSE 0 = w.cause % 2 ^ F.devMode_CAUSE.w)) := by
  have e := exec_modeTransition hr
  rw [h] at e
  have h1 := answered_replyMode (takeDevMode s w.target w.cause) w 0
  have h2 := answered_settleTrigs s (replyMode (takeDevMode s w.target w.cause) w 0) w
  rw [h1.trigs] at h2
  have h3 := (h1.setTrigs (keptTrigs s w (takeDevMode s w.target w.cause).ctl.trigs)).trans h2
  refine ⟨completes_of_done e fun t q => h3.trans q.answered, fun ht => completes_of_done e fun t q => ?_⟩
  obtain ⟨a, b, c⟩ := (takeDevMode_takes s w.cause ht).of_word (u := t) (by
    rw [q.modeWord_eq, h3.modeWord_eq, setTrigs, modeWord_of_mk])
  exact ⟨a, b, c⟩

end

/-- Settles O9: what a change of mode sets off leaves DEV.MODE as the change wrote it. -/
theorem modeTransition : Obligations.ModeTransition := by
  refine ⟨fun s hr => ⟨modeTransition_lapses hr, fun w h => modeTransition_takes hr h⟩, fun s m cause hm hc => ?_⟩
  obtain ⟨a, b, c⟩ := setDevMode_takes s cause hm
  exact ⟨a, b, c, setDevMode_pends m cause, setDevMode_only s m cause⟩

end Sys2Proof.Machine
end

section
/-!
PROOFS. Supply warnings (O6): what a warning notes, and what a brown-out sets off.
-/

namespace Sys2Proof.Machine
open Sys2Proof Sys2Proof.Machine

/-! ## The mark of the excitation supply -/

theorem exc_foldl (b : Bool) (l : List Nat) (hl : ∀ n ∈ l, n < 48) (s : State) :
    RegsBut (axKeys .axFeStat) s (l.foldl (fun t n => wrB t F.axFeStat_EXC_LOW n b) s) ∧
    l.foldl (fun t n => wrB t F.axFeStat_EXC_LOW n b) s = { s with regs := (l.foldl (fun t n => wrB t F.axFeStat_EXC_LOW n b) s).regs } ∧
    ∀ n ∈ l, rdB (l.foldl (fun t n => wrB t F.axFeStat_EXC_LOW n b) s) F.axFeStat_EXC_LOW n = b := by
  have hsame (t : State) (n : Nat) : rdB (wrB t F.axFeStat_EXC_LOW n b) F.axFeStat_EXC_LOW n = b := by
    rw [rdB, wrB, rd_wr_same]
    cases b <;> rfl
  have hkeep (t : State) (n m : Nat) (h : rdB t F.axFeStat_EXC_LOW m = b) : rdB (wrB t F.axFeStat_EXC_LOW n b) F.axFeStat_EXC_LOW m = b := by
    by_cases hm : m = n
    · subst hm
      exact hsame t m
    · have : rd (wrB t F.axFeStat_EXC_LOW n b) F.axFeStat_EXC_LOW m = rd t F.axFeStat_EXC_LOW m :=
        rd_setObj_apart (o := .axFeStat) (by rw [objKey_axFeStat, objKey_axFeStat]; omega)
      rw [rdB, this, ← rdB, h]
  have hall (k : List Nat) (t : State) (m : Nat) (h : rdB t F.axFeStat_EXC_LOW m = b) :
      rdB (k.foldl (fun t n => wrB t F.axFeStat_EXC_LOW n b) t) F.axFeStat_EXC_LOW m = b := by
    induction k generalizing t with
    | nil => exact h
    | cons a k ih => exact ih _ (hkeep t a m h)
  induction l generalizing s with
  | nil => exact ⟨.refl _ s, rfl, fun _ h => absurd h List.not_mem_nil⟩
  | cons a l ih =>
    obtain ⟨i1, i2, i3⟩ := ih (fun n hn => hl n (List.mem_cons_of_mem _ hn)) (wrB s F.axFeStat_EXC_LOW a b)
    rw [List.foldl_cons]
    refine ⟨(regsBut_wr s F.axFeStat_EXC_LOW a _ ?_).trans i1, i2.trans ?_, fun n hn => ?_⟩
    · exact List.mem_map.mpr ⟨a, List.mem_range.mpr (hl a List.mem_cons_self), rfl⟩
    · obtain ⟨r, hr⟩ := wrB_withRegs s F.axFeStat_EXC_LOW a b
      rw [hr]
    · rcases List.mem_cons.mp hn with rfl | hn
      · exact hall l _ _ (hsame s n)
      · exact i3 n hn

theorem showExcLow_shows (s : State) : RegsBut (axKeys .axFeStat) s (showExcLow s) ∧
    showExcLow s = { s with regs := (showExcLow s).regs } ∧
    ∀ n < 48, rdB (showExcLow s) F.axFeStat_EXC_LOW n = bit s.pwr.below 4 := by
  obtain ⟨h1, h2, h3⟩ := exc_foldl (bit s.pwr.below 4) (List.range 48) (fun n h => List.mem_range.mp h) s
  exact ⟨h1, h2, fun n hn => h3 n (List.mem_range.mpr hn)⟩

theorem not_mem_axKeys {o : ObjId} {i : Nat} (h : o ≠ .axFeStat) (hi : i < objCount o) : objKey o i ∉ axKeys .axFeStat := by
  intro hm
  obtain ⟨n, hn, he⟩ := List.mem_map.mp hm
  exact objKey_ne_obj h hi (List.mem_range.mp hn) he.symm

/-- The supplies below their warnings. -/
def setBelow (s : State) (v : Nat) : State := { s with pwr := { s.pwr with below := v } }

/-- What a warning sets off while CORE runs: source 14, a write of the ledger, and the marks of the excitation supply. -/
def weighWarning (s : State) : State := showExcLow (brownOut (svPendEdge s 14))

/-! ## A brown-out -/

/-- The write a brown-out begins touches only the ledger, its status and SNAP_BUSY. -/
structure Browned (s u : State) : Prop where
  regs : RegsBut [objKey .devLedgStat 0, objKey .devSupply 0] s u
  supply : ∀ f : Fld, f.obj = .devSupply → f.lo + f.w ≤ 17 ∨ 18 ≤ f.lo → rd u f 0 = rd s f 0
  rest : u = { s with regs := u.regs, ledg := u.ledg }

theorem browned_ledg (s : State) (l : Ledg) : Browned s { s with ledg := l } := ⟨.of_eq rfl, fun _ _ _ => rfl, rfl⟩

theorem Browned.trans {s t u : State} (h : Browned s t) (k : Browned t u) : Browned s u := by
  refine ⟨h.regs.trans k.regs, fun f ho hf => (k.supply f ho hf).trans (h.supply f ho hf), ?_⟩
  have a := h.rest
  have b := k.rest
  rw [a] at b
  exact b

theorem browned_ledgBusy (s : State) (b : Bool) : Browned s (ledgBusy s b) := by
  refine ⟨?_, fun f ho hf => ?_, ?_⟩
  · rw [ledgBusy, wrB, wrB]
    exact (regsBut_wr s F.devLedgStat_BUSY 0 _ List.mem_cons_self).wr F.devSupply_SNAP_BUSY 0 _ (List.mem_cons_of_mem _ List.mem_cons_self)
  · rw [ledgBusy, wrB, wrB, rd_wr_field _ F.devSupply_SNAP_BUSY f 0 _ ho (by omega)]
    exact rd_wr_kind s _ (by rw [ho]; decide) (by rw [ho]; decide) (by decide)
  · obtain ⟨r, hr⟩ := ledgBusy_withRegs s b
    rw [hr]

theorem browned_ledgTrigger (s : State) (c : Nat) : Browned s (ledgTrigger s c false) := by
  rw [ledgTrigger]
  split
  · exact browned_ledg s s.ledg
  · split
    · exact browned_ledg s _
    · rw [ledgStart]
      exact (browned_ledg s _).trans (browned_ledgBusy _ true)

theorem browned_ledgBrown (s : State) : Browned s (ledgBrown s) := by
  unfold ledgBrown
  extract_lets recent running
  split
  · exact browned_ledg s s.ledg
  · exact browned_ledgTrigger s 2

/-- The triggers a brown-out of the loaded ledger adds. -/
def brownTrigs (s : State) : List Trig :=
  if rdB s F.devLedgStat_LOADED 0 = true ∧ mode s = mRun ∧ rdB s F.devModeCfg_BO_HOLD 0 = true then [⟨mHold, 12, none⟩] else []

/-- `u` is `s` with a brown-out taken, and `ts` among the triggers. -/
structure BrownedOut (s u : State) (ts : List Trig) : Prop where
  regs : RegsBut [objKey .devLedgStat 0, objKey .devSupply 0] s u
  supply : ∀ f : Fld, f.obj = .devSupply → f.lo + f.w ≤ 17 ∨ 18 ≤ f.lo → rd u f 0 = rd s f 0
  rest : u = { s with regs := u.regs, ledg := u.ledg, ctl := { s.ctl with trigs := s.ctl.trigs ++ ts } }

theorem brownOut_browned (s : State) : BrownedOut s (brownOut s) (brownTrigs s) := by
  have hb := browned_ledgBrown s
  have hm : mode (ledgBrown s) = mode s := hb.regs.rd (f := F.devMode_MODE) (i := 0) (by decide)
  have hc : rdB (ledgBrown s) F.devModeCfg_BO_HOLD 0 = rdB s F.devModeCfg_BO_HOLD 0 := by
    rw [rdB, hb.regs.rd (f := F.devModeCfg_BO_HOLD) (i := 0) (by decide), rdB]
  rw [brownOut, brownTrigs]
  by_cases hl : rdB s F.devLedgStat_LOADED 0 = true
  · rw [if_pos hl]
    dsimp only
    rw [hm, hc]
    by_cases hh : mode s = mRun ∧ rdB s F.devModeCfg_BO_HOLD 0 = true
    · rw [if_pos hh, if_pos ⟨hl, hh⟩]
      obtain ⟨h1, h2, h3⟩ := hb
      generalize ledgBrown s = u at *
      refine ⟨h1, h2, ?_⟩
      rw [h3]
      rfl
    · rw [if_neg hh, if_neg fun h => hh h.2]
      obtain ⟨h1, h2, h3⟩ := hb
      generalize ledgBrown s = u at *
      refine ⟨h1, h2, ?_⟩
      rw [List.append_nil]
      exact h3
  · rw [if_neg hl, if_neg fun h => hl h.1]
    refine ⟨.refl _ s, fun _ _ _ => rfl, ?_⟩
    rw [List.append_nil]

/-! ## The warning -/

theorem railBit_lt (r : Rail) : railBit r < 32 := by cases r <;> decide

/-- `u` is `s` but for registers and raised events. -/
def Noted (s u : State) : Prop := ∃ e, u = { s with regs := u.regs, ctl := { s.ctl with evNew := e } }

theorem Noted.trans {s t u : State} (h : Noted s t) (k : Noted t u) : Noted s u := by
  obtain ⟨e, h⟩ := h
  obtain ⟨e', k⟩ := k
  rw [h] at k
  exact ⟨e', k⟩

theorem noted_wr (s : State) (f : Fld) (i x : Nat) : Noted s (wr s f i x) := ⟨s.ctl.evNew, by rw [wr, setObj]⟩

theorem noted_raiseD (s : State) (c g : Nat) : Noted s (raiseD s c g) :=
  ⟨s.ctl.evNew ++ [⟨c, evNode s, devAxis, g % 2 ^ 32, nowNs s⟩], by rw [raiseD, raise]⟩

theorem regs_raiseD (s : State) (c g : Nat) : (raiseD s c g).regs = s.regs := raise_regs _ _ _ _

/-- What a warning notes, told from the state before. -/
structure Warned (s u : State) (b : Nat) : Prop where
  seen : rd u F.devSupply_WARN_SEEN 0 = rd s F.devSupply_WARN_SEEN 0 ||| b
  count : rd u F.devSupply_WARN_COUNT 0 = if mTest ≤ mode s then min (rd s F.devSupply_WARN_COUNT 0 + 1) (2 ^ F.devSupply_WARN_COUNT.w - 1)
    else rd s F.devSupply_WARN_COUNT 0
  browns : rd u F.devLedger_BROWNOUTS 0 = min (rd s F.devLedger_BROWNOUTS 0 + 1) (2 ^ F.devLedger_BROWNOUTS.w - 1)
  regs : RegsBut [objKey .devSupply 0, objKey .devLedger 0] s u
  rest : Noted s u

theorem regsBut_ledgDev {ks : List Nat} (s : State) (f : Fld) (b k : Nat) (hf : f.obj = .devLedger) (hk : objKey .devLedger 0 ∈ ks) :
    RegsBut ks s (ledgDev s f 0 b k) := by
  have hw (t : State) (x : Nat) : RegsBut ks t (wr t f 0 x) := regsBut_wr t f 0 x (hf ▸ hk)
  rw [ledgDev]
  dsimp only
  refine regsBut_ite (hw s _) (regsBut_ite (hw s _) ?_)
  exact ((hw s _).wr F.devLedger_SAT 0 _ hk).trans (.of_eq (regs_raiseD _ _ _))

theorem noted_ledgDev (s : State) (f : Fld) (b k : Nat) : Noted s (ledgDev s f 0 b k) := by
  rw [ledgDev]
  dsimp only
  split
  · exact noted_wr s f 0 _
  · split
    · exact noted_wr s f 0 _
    · exact ((noted_wr s f 0 _).trans (noted_wr _ F.devLedger_SAT 0 _)).trans (noted_raiseD _ _ _)

/-- The supply's warning is seen. -/
def warnSeen (s : State) (b : Nat) : State := raiseD (stickMask s F.devSupply_WARN_SEEN 0 b) 0x11 b

theorem noted_warnSeen (s : State) (b : Nat) : Noted s (warnSeen s b) := by
  rw [warnSeen, stickMask]
  exact (noted_wr s F.devSupply_WARN_SEEN 0 _).trans (noted_raiseD _ _ _)

theorem regsBut_warnSeen (s : State) (b : Nat) : RegsBut [objKey .devSupply 0, objKey .devLedger 0] s (warnSeen s b) := by
  rw [warnSeen, stickMask]
  exact (regsBut_wr s F.devSupply_WARN_SEEN 0 _ List.mem_cons_self).trans (.of_eq (regs_raiseD _ _ _))

theorem rd_warnSeen (s : State) {b : Nat} (hb : b < 32) :
    rd (warnSeen s b) F.devSupply_WARN_SEEN 0 = rd s F.devSupply_WARN_SEEN 0 ||| b ∧
    rd (warnSeen s b) F.devSupply_WARN_COUNT 0 = rd s F.devSupply_WARN_COUNT 0 := by
  rw [warnSeen, stickMask]
  refine ⟨?_, ?_⟩
  · rw [rd_of_regs (regs_raiseD _ _ _), rd_wr_same]
    exact Nat.mod_eq_of_lt (Nat.or_lt_two_pow (n := 5) (rd_lt s F.devSupply_WARN_SEEN 0) hb)
  · rw [rd_of_regs (regs_raiseD _ _ _), rd_wr_field s F.devSupply_WARN_SEEN F.devSupply_WARN_COUNT 0 _ rfl (by decide)]

theorem warnNote_warned (s : State) {b : Nat} (hb : b < 32) : Warned s (warnNote s b) b := by
  have e : warnNote s b = if mTest ≤ mode s then incSat (ledgDev (warnSeen s b) F.devLedger_BROWNOUTS 0 2 1) F.devSupply_WARN_COUNT 0
      else ledgDev (warnSeen s b) F.devLedger_BROWNOUTS 0 2 1 := by rw [warnNote, warnSeen]
  obtain ⟨hs, hc⟩ := rd_warnSeen s hb
  have hr := regsBut_warnSeen s b
  have h1 := noted_warnSeen s b
  have hbr : rd (warnSeen s b) F.devLedger_BROWNOUTS 0 = rd s F.devLedger_BROWNOUTS 0 := by
    rw [warnSeen, stickMask, rd_of_regs (regs_raiseD _ _ _), rd_wr_kind s _ (by decide) (by decide) (by decide)]
  generalize warnSeen s b = v at *
  have kr := regsBut_ledgDev (ks := [objKey .devSupply 0, objKey .devLedger 0]) v F.devLedger_BROWNOUTS 2 1 rfl
    (List.mem_cons_of_mem _ List.mem_cons_self)
  have kb : rd (ledgDev v F.devLedger_BROWNOUTS 0 2 1) F.devLedger_BROWNOUTS 0 =
      min (rd v F.devLedger_BROWNOUTS 0 + 1) (2 ^ F.devLedger_BROWNOUTS.w - 1) :=
    rd_ledgDev_same (fun t x => rd_wr_field t F.devLedger_SAT F.devLedger_BROWNOUTS 0 x rfl (by decide)) v 2 1
  have ks : rd (ledgDev v F.devLedger_BROWNOUTS 0 2 1) F.devSupply_WARN_SEEN 0 = rd v F.devSupply_WARN_SEEN 0 :=
    rd_ledgDev_other (fun t x => rd_wr_kind t x (by decide) (by decide) (by decide))
      (fun t x => rd_wr_kind t x (by decide) (by decide) (by decide)) v 2 1
  have kc : rd (ledgDev v F.devLedger_BROWNOUTS 0 2 1) F.devSupply_WARN_COUNT 0 = rd v F.devSupply_WARN_COUNT 0 :=
    rd_ledgDev_other (fun t x => rd_wr_kind t x (by decide) (by decide) (by decide))
      (fun t x => rd_wr_kind t x (by decide) (by decide) (by decide)) v 2 1
  have h2 := h1.trans (noted_ledgDev v F.devLedger_BROWNOUTS 2 1)
  generalize ledgDev v F.devLedger_BROWNOUTS 0 2 1 = w at *
  rw [e]
  by_cases hm : mTest ≤ mode s
  · rw [if_pos hm]
    refine ⟨?_, ?_, ?_, ?_, ?_⟩
    · rw [incSat, addSat, rd_wr_field w F.devSupply_WARN_COUNT F.devSupply_WARN_SEEN 0 _ rfl (by decide), ks, hs]
    · rw [if_pos hm, rd_incSat, kc, hc]
    · rw [incSat, addSat, rd_wr_kind w _ (by decide) (by decide) (by decide), kb, hbr]
    · rw [incSat, addSat]
      exact (hr.trans kr).wr F.devSupply_WARN_COUNT 0 _ List.mem_cons_self
    · rw [incSat, addSat]
      exact h2.trans (noted_wr w F.devSupply_WARN_COUNT 0 _)
  · rw [if_neg hm]
    exact ⟨ks.trans hs, by rw [if_neg hm, kc, hc], kb.trans (by rw [hbr]), hr.trans kr, h2⟩

/-! ## The commands -/

/-- What a rail's warning leaves, from what it noted. -/
theorem weighWarning_shows (v : State) : ∃ u, weighWarning v = u ∧ u.pwr = v.pwr ∧
    (∀ f : Fld, f.obj = .devSupply → f.lo + f.w ≤ 17 ∨ 18 ≤ f.lo → rd u f 0 = rd v f 0) ∧
    RegsBut ([objKey .devLedgStat 0, objKey .devSupply 0] ++ axKeys .axFeStat) v u ∧
    (∀ n < 48, rdB u F.axFeStat_EXC_LOW n = bit v.pwr.below 4) ∧ u.sv = (svPendEdge v 14).sv ∧
    u = { v with regs := u.regs, ledg := u.ledg, sv := u.sv, ctl := { v.ctl with trigs := v.ctl.trigs ++ brownTrigs v } } := by
  have h0 := svPendEdge_frame v 14
  have hb := brownOut_browned (svPendEdge v 14)
  have ht : brownTrigs (svPendEdge v 14) = brownTrigs v := by
    rw [h0]
    rfl
  rw [ht] at hb
  obtain ⟨b1, b2, b3⟩ := hb
  obtain ⟨e1, e2, e3⟩ := showExcLow_shows (brownOut (svPendEdge v 14))
  refine ⟨_, rfl, ?_⟩
  rw [weighWarning]
  generalize hg : svPendEdge v 14 = g at *
  generalize hw : brownOut g = w at *
  generalize hu : showExcLow w = u at *
  have hp : w.pwr = v.pwr := by rw [b3, h0]
  refine ⟨by rw [e2]; exact hp, fun f ho hf => ?_, ?_, fun n hn => (e3 n hn).trans (by rw [hp]), by rw [e2, b3], ?_⟩
  · rw [e1.rd (f := f) (i := 0) (by rw [ho]; exact not_mem_axKeys (by decide) (by decide)), b2 f ho hf, h0]
    rfl
  · have g0 : RegsBut ([objKey .devLedgStat 0, objKey .devSupply 0] ++ axKeys .axFeStat) v g := .of_eq (by rw [h0])
    have g1 : RegsBut ([objKey .devLedgStat 0, objKey .devSupply 0] ++ axKeys .axFeStat) g w :=
      fun k d hk => b1 k d fun hm => hk (List.mem_append_left _ hm)
    have g2 : RegsBut ([objKey .devLedgStat 0, objKey .devSupply 0] ++ axKeys .axFeStat) w u :=
      fun k d hk => e1 k d fun hm => hk (List.mem_append_right _ hm)
    exact (g0.trans g1).trans g2
  · have hl : u.ledg = w.ledg := by rw [e2]
    have hs : u.sv = g.sv := by rw [e2, b3]
    rw [hl, hs]
    rw [h0] at b3
    rw [b3] at e2
    exact e2

section
variable {s : State} (rail : Rail)

theorem railWarning_lost (h : s.pwr.coreLost = true) : Ends s (.railWarningCrossing rail) (setBelow s (s.pwr.below ||| railBit rail)) :=
  ends_of_done (show execRailWarningCrossing rail s = _ by
    rw [execRailWarningCrossing]
    exact if_pos h)

theorem exec_railWarning (h : s.pwr.coreLost = false) : exec (.railWarningCrossing rail) s = done (if coreRuns s then
    weighWarning (warnNote (setBelow s (s.pwr.below ||| railBit rail)) (railBit rail)) else
    warnNote (setBelow s (s.pwr.below ||| railBit rail)) (railBit rail)) :=
  show execRailWarningCrossing rail s = _ by
    rw [execRailWarningCrossing]
    exact if_neg (by rw [h]; exact Bool.false_ne_true)

variable (h : s.pwr.coreLost = false)
include h

theorem railWarning_shows : Completes s (.railWarningCrossing rail) (fun t =>
      t.pwr = { s.pwr with below := s.pwr.below ||| railBit rail } ∧ t.nv = s.nv ∧ mode t = mode s ∧
      rd t F.devSupply_WARN_SEEN 0 = rd s F.devSupply_WARN_SEEN 0 ||| railBit rail ∧
      rd t F.devSupply_WARN_COUNT 0 = (if mTest ≤ mode s then
        min (rd s F.devSupply_WARN_COUNT 0 + 1) (2 ^ F.devSupply_WARN_COUNT.w - 1) else rd s F.devSupply_WARN_COUNT 0) ∧
      rd t F.devLedger_BROWNOUTS 0 = min (rd s F.devLedger_BROWNOUTS 0 + 1) (2 ^ F.devLedger_BROWNOUTS.w - 1) ∧
      (coreRuns s = true → (∀ n < 48, rdB t F.axFeStat_EXC_LOW n = bit t.pwr.below 4) ∧
        (svRunning s = true → svPending t 14 = true)) ∧
      t.ctl.trigs = s.ctl.trigs ++ (if coreRuns s ∧ rdB s F.devLedgStat_LOADED 0 = true ∧ mode s = mRun ∧
        rdB s F.devModeCfg_BO_HOLD 0 = true then [⟨mHold, 12, none⟩] else [])) := by
  have e := exec_railWarning rail h
  have hw := warnNote_warned (setBelow s (s.pwr.below ||| railBit rail)) (railBit_lt rail)
  have hp : (setBelow s (s.pwr.below ||| railBit rail)).pwr = { s.pwr with below := s.pwr.below ||| railBit rail } := rfl
  have hn : (setBelow s (s.pwr.below ||| railBit rail)).nv = s.nv := rfl
  have hg : (setBelow s (s.pwr.below ||| railBit rail)).ctl.trigs = s.ctl.trigs := rfl
  have hr (f : Fld) (i : Nat) : rd (setBelow s (s.pwr.below ||| railBit rail)) f i = rd s f i := rfl
  have hm : mode (setBelow s (s.pwr.below ||| railBit rail)) = mode s := rfl
  have hsv : svRunning (setBelow s (s.pwr.below ||| railBit rail)) = svRunning s := rfl
  generalize setBelow s (s.pwr.below ||| railBit rail) = s0 at *
  obtain ⟨w1, w2, w3, w4, ev, w5⟩ := hw
  generalize warnNote s0 (railBit rail) = v at *
  have vp : v.pwr = { s.pwr with below := s.pwr.below ||| railBit rail } := by rw [w5]; exact hp
  have vn : v.nv = s.nv := by rw [w5]; exact hn
  have vt : v.ctl.trigs = s.ctl.trigs := by rw [w5]; exact hg
  have vm : mode v = mode s := (w4.rd (f := F.devMode_MODE) (i := 0) (by decide)).trans hm
  have vr : svRunning v = svRunning s := (svRunning_of (by
    rw [rdB, w4.rd (f := F.devSvStat_RUNNING) (i := 0) (by decide), rdB]) (vp.trans hp.symm)).trans hsv
  have vl : rdB v F.devLedgStat_LOADED 0 = rdB s F.devLedgStat_LOADED 0 := by
    rw [rdB, w4.rd (f := F.devLedgStat_LOADED) (i := 0) (by decide), hr, rdB]
  have vb : rdB v F.devModeCfg_BO_HOLD 0 = rdB s F.devModeCfg_BO_HOLD 0 := by
    rw [rdB, w4.rd (f := F.devModeCfg_BO_HOLD) (i := 0) (by decide), hr, rdB]
  rw [hr] at w1 w2 w3
  rw [hm] at w2
  by_cases hc : coreRuns s = true
  · rw [if_pos hc] at e
    obtain ⟨u, hu, u1, u2, u3, u4, u5, u6⟩ := weighWarning_shows v
    rw [hu] at e
    have ur (f : Fld) (hi : 0 < objCount f.obj) (h1 : f.obj ≠ .devLedgStat) (h2 : f.obj ≠ .devSupply) (h3 : f.obj ≠ .axFeStat) :
        rd u f 0 = rd v f 0 := by
      refine u3.rd fun hk => ?_
      rcases List.mem_append.mp hk with hk | hk
      · rcases List.mem_cons.mp hk with hk | hk
        · exact objKey_ne_obj h1 hi (by decide) hk
        · exact objKey_ne_obj h2 hi (by decide) (List.mem_singleton.mp hk)
      · exact not_mem_axKeys h3 hi hk
    refine completes_of_done e fun t q => ⟨?_, ?_, ?_, ?_, ?_, ?_, fun _ => ⟨fun n hn => ?_, fun hs => ?_⟩, ?_⟩
    · rw [q.pwr, u1, vp]
    · rw [q.nv, u6, ← vn]
    · rw [q.mode, mode, ur F.devMode_MODE (by decide) (by decide) (by decide) (by decide), ← mode, vm]
    · rw [q.rd_kind (by decide) (by decide), u2 F.devSupply_WARN_SEEN rfl (by decide), w1]
    · rw [q.rd_kind (by decide) (by decide), u2 F.devSupply_WARN_COUNT rfl (by decide), w2]
    · rw [q.rd_kind (by decide) (by decide), ur F.devLedger_BROWNOUTS (by decide) (by decide) (by decide) (by decide), w3]
    · rw [q.rdB_kind (by decide) hn, u4 n hn, q.pwr, u1]
    · have hsv : svPending (svPendEdge v 14) 14 = true := svPending_svPendEdge (vr.trans hs) (by decide)
      rw [svPending, if_pos (by decide)] at hsv ⊢
      rw [svCsr, q.sv, u5]
      exact hsv
    · rw [q.trigs, u6]
      dsimp only
      rw [vt, brownTrigs, vl, vm, vb]
      simp only [hc, true_and]
  · rw [if_neg hc] at e
    refine completes_of_done e fun t q => ⟨?_, ?_, ?_, ?_, ?_, ?_, fun k => absurd k hc, ?_⟩
    · rw [q.pwr, vp]
    · rw [q.nv, vn]
    · rw [q.mode, vm]
    · rw [q.rd_kind (by decide) (by decide), w1]
    · rw [q.rd_kind (by decide) (by decide), w2]
    · rw [q.rd_kind (by decide) (by decide), w3]
    · rw [q.trigs, vt, if_neg fun k => hc k.1, List.append_nil]

theorem railWarning_unloaded (hl : rdB s F.devLedgStat_LOADED 0 = false) : Completes s (.railWarningCrossing rail) (fun t =>
      Only (objKey .devSupply 0 :: objKey .devLedger 0 :: axKeys .axFeStat) { s with pwr := t.pwr, sv := t.sv } t) := by
  have e := exec_railWarning rail h
  obtain ⟨-, -, -, w4, ev, w5⟩ := warnNote_warned (setBelow s (s.pwr.below ||| railBit rail)) (railBit_lt rail)
  have hl0 : rdB (setBelow s (s.pwr.below ||| railBit rail)) F.devLedgStat_LOADED 0 = false := hl
  have hr0 : RegsBut (objKey .devSupply 0 :: objKey .devLedger 0 :: axKeys .axFeStat) s (setBelow s (s.pwr.below ||| railBit rail)) :=
    .of_eq rfl
  have hs : ∃ p, setBelow s (s.pwr.below ||| railBit rail) = { s with pwr := p } := ⟨_, rfl⟩
  generalize setBelow s (s.pwr.below ||| railBit rail) = s0 at *
  generalize warnNote s0 (railBit rail) = v at *
  have vl : rdB (svPendEdge v 14) F.devLedgStat_LOADED 0 = false := by
    rw [rdB_of_regs (s := v) (by rw [svPendEdge_frame]), rdB, w4.rd (f := F.devLedgStat_LOADED) (i := 0) (by decide), ← rdB, hl0]
  have hv : RegsBut (objKey .devSupply 0 :: objKey .devLedger 0 :: axKeys .axFeStat) s v :=
    hr0.trans fun k d hk => w4 k d fun hm => by
      rcases List.mem_cons.mp hm with hm | hm
      · exact hk (hm ▸ List.mem_cons_self)
      · exact hk (List.mem_singleton.mp hm ▸ List.mem_cons_of_mem _ List.mem_cons_self)
  obtain ⟨p, hp⟩ := hs
  rw [hp] at w5
  have key (u : State) (hu : RegsBut (objKey .devSupply 0 :: objKey .devLedger 0 :: axKeys .axFeStat) s u)
      (hf : u = { v with regs := u.regs, sv := u.sv }) {t : State} (q : Quiet u t) :
      Only (objKey .devSupply 0 :: objKey .devLedger 0 :: axKeys .axFeStat) { s with pwr := t.pwr, sv := t.sv } t := by
    refine ⟨u.regs, hu, ?_⟩
    have q0 : Quiet { s with pwr := u.pwr, sv := u.sv, regs := u.regs }
        { s with pwr := u.pwr, sv := u.sv, regs := u.regs, ctl := { s.ctl with evNew := ev } } := ⟨fun _ _ _ => rfl, rfl, rfl, rfl⟩
    rw [q.pwr, q.sv]
    refine q0.trans ?_
    have hup : u.pwr = p := by rw [hf, w5]
    rw [w5] at hf
    rw [hup]
    rw [hf] at q
    exact q
  by_cases hc : coreRuns s = true
  · rw [if_pos hc, weighWarning, brownOut, if_neg (by rw [vl]; exact Bool.false_ne_true)] at e
    obtain ⟨e1, e2, -⟩ := showExcLow_shows (svPendEdge v 14)
    have hsv := svPendEdge_frame v 14
    generalize svPendEdge v 14 = g at *
    generalize showExcLow g = u at *
    refine completes_of_done e fun t q => key u ?_ ?_ q
    · refine (hv.trans (.of_eq (by rw [hsv]))).trans fun k d hk => e1 k d fun hm => hk ?_
      exact List.mem_cons_of_mem _ (List.mem_cons_of_mem _ hm)
    · have hus : u.sv = g.sv := by rw [e2]
      rw [hus]
      rw [hsv] at e2
      exact e2
  · rw [if_neg hc] at e
    exact completes_of_done e fun t q => key v hv rfl q

end

section
variable {s : State} (rail : Rail)

theorem warningRelease_runs (hr : coreRuns s = true) : Completes s (.warningRelease rail) (fun t =>
      t.pwr = { s.pwr with below := s.pwr.below &&& (31 - railBit rail) } ∧
      (∀ n < 48, rdB t F.axFeStat_EXC_LOW n = bit t.pwr.below 4) ∧ Only (axKeys .axFeStat) { s with pwr := t.pwr } t) := by
  have e : exec (.warningRelease rail) s = done (showExcLow (setBelow s (s.pwr.below &&& (31 - railBit rail)))) :=
    show execWarningRelease rail s = _ by
      rw [execWarningRelease, if_pos hr, setBelow]
  obtain ⟨e1, e2, e3⟩ := showExcLow_shows (setBelow s (s.pwr.below &&& (31 - railBit rail)))
  have hp : (setBelow s (s.pwr.below &&& (31 - railBit rail))).pwr = { s.pwr with below := s.pwr.below &&& (31 - railBit rail) } := rfl
  have hs : ∃ p, setBelow s (s.pwr.below &&& (31 - railBit rail)) = { s with pwr := p } := ⟨_, rfl⟩
  generalize setBelow s (s.pwr.below &&& (31 - railBit rail)) = v at *
  generalize showExcLow v = u at *
  have hup : u.pwr = v.pwr := by rw [e2]
  refine completes_of_done e fun t q => ⟨by rw [q.pwr, hup, hp], fun n hn => ?_, ?_⟩
  · rw [q.rdB_kind (by decide) hn, e3 n hn, q.pwr, hup]
  · obtain ⟨p, hs⟩ := hs
    have hvp : v.pwr = p := by rw [hs]
    rw [q.pwr, hup, hvp]
    rw [hs] at e1 e2
    exact e1.only e2 q

theorem warningRelease_stopped (hr : coreRuns s = false) :
    Ends s (.warningRelease rail) { s with pwr := { s.pwr with below := s.pwr.below &&& (31 - railBit rail) } } :=
  ends_of_done (show execWarningRelease rail s = _ by
    rw [execWarningRelease, hr]
    rfl)

end

end Sys2Proof.Machine
end

section
/-!
PROOFS. The loss of a clock (O6): every latch of the device sets, for the source CLOCK, and every driver goes off.
-/

namespace Sys2Proof.Machine
open Sys2Proof Sys2Proof.Machine

/-! ## What the latch of one axis touches -/

/-- The objects of axis `n` that entering TRIPPED touches. -/
def trippedKeys (n : Nat) : List Nat := [objKey .axMode n, objKey .axLoopStat n, objKey .axLedger n] ++ recordKeys

/-- The objects of axis `n` that its latch touches. -/
def latchKeys (n : Nat) : List Nat := objKey .axTripStat n :: trippedKeys n

theorem axMode_mem_trippedKeys (n : Nat) : objKey .axMode n ∈ trippedKeys n := List.mem_cons_self
theorem axLoopStat_mem_trippedKeys (n : Nat) : objKey .axLoopStat n ∈ trippedKeys n := List.mem_cons_of_mem _ List.mem_cons_self
theorem axLedger_mem_trippedKeys (n : Nat) : objKey .axLedger n ∈ trippedKeys n :=
  List.mem_cons_of_mem _ (List.mem_cons_of_mem _ List.mem_cons_self)

theorem RegsBut.mono {ks ls : List Nat} {s u : State} (h : RegsBut ks s u) (k : ∀ x ∈ ks, x ∈ ls) : RegsBut ls s u :=
  fun x d hx => h x d fun hm => hx (k x hm)

theorem regsBut_of_answered {n : Nat} {s u : State} (h : Answered s u) : RegsBut (trippedKeys n) s u := by
  obtain ⟨m, q⟩ := h
  exact fun k d hk => q.regs k d fun hm => hk (List.mem_append_right _ hm)

theorem regsBut_modLoop (ks : List Nat) (s : State) (n : Nat) (f : AxLoop → AxLoop) : RegsBut ks s (modLoop s n f) := .of_eq rfl

theorem regsBut_modPwm (ks : List Nat) (s : State) (n : Nat) (f : AxPwm → AxPwm) : RegsBut ks s (modPwm s n f) := .of_eq rfl

theorem regsBut_undoCommit (s : State) (n : Nat) : RegsBut (trippedKeys n) s (undoCommit s n) := by
  unfold undoCommit
  split
  · exact .refl _ s
  · exact (regsBut_modLoop _ s n _).trans (regsBut_setObj _ .axLoopStat n _ (axLoopStat_mem_trippedKeys n))

theorem regsBut_dropEvals (s : State) (n : Nat) : RegsBut (trippedKeys n) s (dropEvals s n) := by
  unfold dropEvals
  exact ((regsBut_undoCommit s n).trans (regsBut_modLoop _ _ n _)).trans (regsBut_modPwm _ _ n _)

theorem regsBut_ledgAxis (s : State) (f : Fld) (n b k : Nat) (h : f.obj = .axLedger) :
    RegsBut (trippedKeys n) s (ledgAxis s f n b k) := by
  have hw (t : State) (x : Nat) : RegsBut (trippedKeys n) t (wr t f n x) := regsBut_wr t f n x (h ▸ axLedger_mem_trippedKeys n)
  unfold ledgAxis
  dsimp only
  refine regsBut_ite (hw s _) (regsBut_ite (hw s _) ?_)
  exact ((hw s _).wr F.axLedger_SAT n _ (axLedger_mem_trippedKeys n)).trans (.of_eq (raise_regs _ _ _ _))

theorem regsBut_refuseReq (s : State) (n : Nat) : RegsBut (trippedKeys n) s (refuseReq s n) := by
  unfold refuseReq
  split
  · exact .refl _ s
  · rw [answer, replyWrite]
    exact RegsBut.trans (t := modLoop s n fun l => { l with req := none }) (regsBut_modLoop _ s n _)
      (regsBut_of_answered ((answered_reply _ _ _ _ _ _).trans (answered_release _ _)))

theorem regsBut_setMode (s : State) (n m cause : Nat) : RegsBut (trippedKeys n) s (setMode s n m cause) := by
  have hm := axMode_mem_trippedKeys n
  rw [setMode]
  exact ((regsBut_wr s F.axMode_PREV n _ hm).wr F.axMode_MODE n _ hm).wr F.axMode_CAUSE n _ hm

theorem regsBut_enterTripped (s : State) (n cause : Nat) : RegsBut (trippedKeys n) s (enterTripped s n cause) := by
  have hm := axMode_mem_trippedKeys n
  unfold enterTripped
  extract_lets s1 s2 s3 s4
  have h1 : RegsBut (trippedKeys n) s s1 := (regsBut_setMode s n _ _).trans (regsBut_dropEvals _ n)
  have h2 : RegsBut (trippedKeys n) s1 s2 :=
    ((regsBut_wr s1 F.axMode_HELD n 0 hm).wr F.axMode_STOPPING n 0 hm).trans (regsBut_modLoop _ _ n _)
  have h3 : RegsBut (trippedKeys n) s2 s3 := regsBut_modPwm _ s2 n _
  have h4 : RegsBut (trippedKeys n) s3 s4 := regsBut_ledgAxis s3 _ n 3 1 rfl
  clear_value s1 s2 s3 s4
  exact ((((h1.trans h2).trans h3).trans h4).trans (.of_eq (raise_regs _ _ _ _))).trans (regsBut_refuseReq _ n)

theorem regsBut_recordSources (s : State) (n extra : Nat) : RegsBut (latchKeys n) s (recordSources s n extra) := by
  have h := regsBut_setObj (ks := latchKeys n) s .axTripStat n
  unfold recordSources
  dsimp only
  split
  · exact (h _ List.mem_cons_self).wr F.axTripStat_TRIP_IN n _ List.mem_cons_self
  · exact h _ List.mem_cons_self

theorem regsBut_latched (s : State) (n extra : Nat) : RegsBut (latchKeys n) s (latched s n extra) := by
  rw [latched, incSat, addSat]
  exact ((regsBut_recordSources s n extra).wr F.axTripStat_LATCH n _ List.mem_cons_self).wr F.axTripStat_TRIPS n _ List.mem_cons_self

theorem regsBut_latchOne (s : State) (n cause extra : Nat) : RegsBut (latchKeys n) s (latchOne s n cause extra) := by
  rw [latchOne_eq]
  refine regsBut_ite (regsBut_recordSources s n extra) (regsBut_ite ?_ ?_)
  · exact (regsBut_latched s n extra).trans (regsBut_modPwm _ _ n _)
  · exact (regsBut_latched s n extra).trans ((regsBut_enterTripped _ n cause).mono fun x hx => List.mem_cons_of_mem _ hx)

/-- The latch of an axis leaves the mode and the trip status of every other. -/
theorem not_mem_latchKeys {o : ObjId} {m n : Nat} (ho : o = .axMode ∨ o = .axTripStat) (hm : m < 48) (h : m ≠ n) :
    objKey o m ∉ latchKeys n := by
  have hr : objKey o m ∉ recordKeys := by
    rcases ho with rfl | rfl
    · exact key_of_kind (by decide) hm
    · exact key_of_kind (by decide) hm
  rw [latchKeys, List.mem_cons, trippedKeys, List.mem_append, objKey_axMode n, objKey_axTripStat n, objKey_axLoopStat n, objKey_axLedger n]
  intro hk
  rcases hk with hk | hk | hk
  · rcases ho with rfl | rfl
    · rw [objKey_axMode] at hk
      omega
    · rw [objKey_axTripStat] at hk
      omega
  · simp only [List.mem_cons, List.not_mem_nil, or_false] at hk
    rcases ho with rfl | rfl
    · rw [objKey_axMode] at hk
      omega
    · rw [objKey_axTripStat] at hk
      omega
  · exact hr hk

/-! ## The source CLOCK -/

theorem sourceBits_clock {s : State} {n : Nat} (h : clkActive s n = true) : bit (sourceBits s n) 8 = true := by
  have hc : cwActive s n < 16 := by
    rw [cwActive]
    split
    · exact rd_lt s F.axTripStat_CW_LIVE n
    · decide
  have h1 : b2n (!(extActive s n).isEmpty) ≤ 1 := by cases (!(extActive s n).isEmpty) <;> decide
  have h2 : b2n (cmActive s n) ≤ 1 := by cases cmActive s n <;> decide
  rw [bit, sourceBits, h]
  generalize cwActive s n = a at *
  generalize b2n (!(extActive s n).isEmpty) = b at *
  generalize b2n (cmActive s n) = c at *
  have : (a + b * 16 + c * 32 + b2n true * 256) / 2 ^ 8 = 1 := by
    rw [show b2n true = 1 from rfl]
    omega
  rw [this]
  rfl

/-- The source CLOCK of an axis has been noted. -/
def clockNoted (s : State) (n : Nat) : Bool := bit (getObj s .axTripStat n) 16

theorem clockNoted_wr (s : State) (f : Fld) (n x : Nat) (ho : f.obj = .axTripStat) (h : 16 < f.lo ∨ f.lo + f.w ≤ 16) :
    clockNoted (wr s f n x) n = clockNoted s n := by
  rw [clockNoted, wr, ho, getObj_setObj_same, clockNoted]
  exact bit_setBits_outside _ _ _ _ _ h

theorem clockNoted_recordSources {s : State} {n : Nat} (extra : Nat) (h : clkActive s n = true) :
    clockNoted (recordSources s n extra) n = true := by
  have hb : clockNoted (setObj s .axTripStat n (setBits (getObj s .axTripStat n) 8 9
      (bits (getObj s .axTripStat n) 8 9 ||| sourceBits s n ||| extra))) n = true := by
    rw [clockNoted, getObj_setObj_same, bit_of_bits _ 8 9 8 (by decide), bits_setBits_same, bit_eq_testBit, Nat.testBit_mod_two_pow,
      ← bit_eq_testBit, bit_or, bit_or, sourceBits_clock h]
    simp
  unfold recordSources
  dsimp only
  split
  · exact (clockNoted_wr _ F.axTripStat_TRIP_IN n _ rfl (by decide)).trans hb
  · exact hb

theorem clockNoted_latched {s : State} {n : Nat} (extra : Nat) (h : clkActive s n = true) : clockNoted (latched s n extra) n = true := by
  rw [latched, incSat, addSat, clockNoted_wr _ F.axTripStat_TRIPS n _ rfl (by decide),
    clockNoted_wr _ F.axTripStat_LATCH n _ rfl (by decide), clockNoted_recordSources extra h]

/-- Entering TRIPPED touches no trip status. -/
theorem getObj_enterTripped (s : State) {n : Nat} (cause : Nat) (hn : n < 48) :
    getObj (enterTripped s n cause) .axTripStat n = getObj s .axTripStat n := by
  refine (regsBut_enterTripped s n cause).getObj fun hk => ?_
  rw [trippedKeys, List.mem_append, objKey_axMode, objKey_axLoopStat, objKey_axLedger, objKey_axTripStat] at hk
  rcases hk with hk | hk
  · simp only [List.mem_cons, List.not_mem_nil, or_false] at hk
    omega
  · rw [← objKey_axTripStat] at hk
    exact key_of_kind (o := .axTripStat) (by decide) hn hk

/-! ## The mode of a latched axis -/

/-- An axis whose latch sets goes to TRIPPED, unless it is DISABLED. -/
def trippedFrom (m : Nat) : Nat := if m = aDisabled then aDisabled else aTripped

theorem axMode_enterTripped (s : State) {n : Nat} (cause : Nat) (hn : n < 48) : axMode (enterTripped s n cause) n = aTripped := by
  unfold enterTripped
  extract_lets s1 s2 s3 s4
  have h0 : axMode (setMode s n aTripped cause) n = aTripped := axMode_setMode s n aTripped cause
  have h1 : Trips (setMode s n aTripped cause) s1 := trips_dropEvals _ n fun _ => h0
  have h2 : Trips s1 s2 := ((trips_modeField s1 F.axMode_HELD n 0 rfl (by decide)).trans
    (trips_modeField _ F.axMode_STOPPING n 0 rfl (by decide))).trans (trips_gearFree _ n)
  have h3 : Trips s2 s3 := trips_lowGates s2 n
  have h4 : Trips s3 s4 := trips_ledgAxis s3 _ n 3 1 rfl
  clear_value s1 s2 s3 s4
  have h5 : Trips s4 (refuseReq (raise s4 0x40 n cause) n) := (trips_quiet (quiet_raise s4 0x40 n cause)).trans (trips_refuseReq _ n)
  exact (((((h1.trans h2).trans h3).trans h4).trans h5).mode n hn).elim id fun k => k.1.trans h0

theorem axMode_recordSources (s : State) (n extra m : Nat) : axMode (recordSources s n extra) m = axMode s m := by
  have h (t : State) (v : Nat) : axMode (setObj t .axTripStat n v) m = axMode t m :=
    rd_setObj_apart (by rw [objKey_axMode, objKey_axTripStat]; omega)
  unfold recordSources
  dsimp only
  split
  · exact (h _ _).trans (h _ _)
  · exact h _ _

theorem axMode_latched (s : State) (n extra m : Nat) : axMode (latched s n extra) m = axMode s m := by
  have h (t : State) (v : Nat) : axMode (setObj t .axTripStat n v) m = axMode t m :=
    rd_setObj_apart (by rw [objKey_axMode, objKey_axTripStat]; omega)
  rw [latched]
  exact (h _ _).trans ((h _ _).trans (axMode_recordSources s n extra m))

theorem axMode_modPwm (s : State) (n : Nat) (f : AxPwm → AxPwm) (m : Nat) : axMode (modPwm s n f) m = axMode s m := by
  rw [axMode, rd_of_regs (modPwm_regs _ _ _), axMode]

theorem clockNoted_modPwm (s : State) (n : Nat) (f : AxPwm → AxPwm) (m : Nat) : clockNoted (modPwm s n f) m = clockNoted s m := by
  rw [clockNoted, getObj, modPwm_regs, clockNoted, getObj]

theorem axMode_latchOne (s : State) {n : Nat} (cause extra : Nat) (hn : n < 48) (hl : rdB s F.axTripStat_LATCH n = false) :
    axMode (latchOne s n cause extra) n = trippedFrom (axMode s n) := by
  rw [latchOne_eq, if_neg (by rw [hl]; exact Bool.false_ne_true), trippedFrom]
  split
  next h =>
    rw [axMode_modPwm, axMode_latched]
    rcases h with h | h
    · rw [if_pos h, h]
    · rw [if_neg (by rw [h]; decide), h]
  next h => rw [axMode_enterTripped _ cause hn, if_neg fun k => h (.inl k)]

theorem clockNoted_latchOne {s : State} {n : Nat} (cause extra : Nat) (hn : n < 48) (h : clkActive s n = true) :
    clockNoted (latchOne s n cause extra) n = true := by
  rw [latchOne_eq]
  split
  · exact clockNoted_recordSources extra h
  · split
    · rw [clockNoted_modPwm, clockNoted_latched extra h]
    · rw [clockNoted, getObj_enterTripped _ cause hn]
      rw [← clockNoted, clockNoted_latched extra h]

/-! ## Every axis -/

/-- The lost clock of CORE or the PWM generators. -/
def stopped (s : State) : Bool := s.pwr.coreLost || s.pwr.pwmLost

theorem clkActive_of_stopped {s : State} (h : stopped s = true) (n : Nat) : clkActive s n = true := by
  rw [clkActive, ← stopped, h, Bool.true_or]

/-- What the loss of a clock leaves of axis `n`, told from the state before. -/
structure ClockTripped (s u : State) (n : Nat) : Prop where
  latch : rdB u F.axTripStat_LATCH n = true
  noted : clockNoted u n = true
  mode : rdB s F.axTripStat_LATCH n = false → axMode u n = trippedFrom (axMode s n)

theorem latch_of_getObj {s u : State} {n : Nat} (h : getObj u .axTripStat n = getObj s .axTripStat n) :
    rdB u F.axTripStat_LATCH n = rdB s F.axTripStat_LATCH n := by
  rw [rdB, rd, h, rdB, rd]

theorem clockTripped_foldl {f : State → Nat → State} (hf : ∀ t n, ∃ x, f t n = latchOne t n 3 x) (l : List Nat) (hn : l.Nodup)
    (hl : ∀ n ∈ l, n < 48) {s : State} (hs : stopped s = true) :
    Trips s (l.foldl f s) ∧ (∀ n ∈ l, ClockTripped s (l.foldl f s) n) ∧
    ∀ n < 48, n ∉ l → getObj (l.foldl f s) .axTripStat n = getObj s .axTripStat n ∧ axMode (l.foldl f s) n = axMode s n := by
  induction l generalizing s with
  | nil => exact ⟨.refl s, fun n h => absurd h List.not_mem_nil, fun n _ _ => ⟨rfl, rfl⟩⟩
  | cons a l ih =>
    obtain ⟨ha, hn⟩ := List.nodup_cons.mp hn
    have ha48 := hl a List.mem_cons_self
    obtain ⟨x, hx⟩ := hf s a
    have ht : Trips s (f s a) := hx ▸ trips_latchOne s a 3 x
    have hk (m : Nat) (hm : m < 48) (hne : m ≠ a) : getObj (f s a) .axTripStat m = getObj s .axTripStat m ∧ axMode (f s a) m = axMode s m := by
      rw [hx]
      exact ⟨(regsBut_latchOne s a 3 x).getObj (not_mem_latchKeys (.inr rfl) hm hne),
        (regsBut_latchOne s a 3 x).rd (f := F.axMode_MODE) (not_mem_latchKeys (.inl rfl) hm hne)⟩
    obtain ⟨i1, i2, i3⟩ := ih hn (fun n h => hl n (List.mem_cons_of_mem _ h)) (s := f s a) (by rw [stopped, ht.pwr]; exact hs)
    rw [List.foldl_cons]
    refine ⟨ht.trans i1, fun n hm => ?_, fun n h48 hm => ?_⟩
    · rcases List.mem_cons.mp hm with rfl | hm
      · obtain ⟨k1, k2⟩ := i3 n ha48 ha
        refine ⟨i1.latch n ha48 ?_, ?_, fun h0 => ?_⟩
        · rw [hx]
          exact latch_latchOne s n 3 x ha48
        · rw [clockNoted, k1, ← clockNoted, hx]
          exact clockNoted_latchOne 3 x ha48 (clkActive_of_stopped hs n)
        · rw [k2, hx]
          exact axMode_latchOne s 3 x ha48 h0
      · have h48 := hl n (List.mem_cons_of_mem _ hm)
        obtain ⟨k1, k2⟩ := hk n h48 fun e => ha (e ▸ hm)
        obtain ⟨c1, c2, c3⟩ := i2 n hm
        refine ⟨c1, c2, fun h0 => ?_⟩
        rw [← k2]
        exact c3 ((latch_of_getObj k1).trans h0)
    · obtain ⟨hne, hm⟩ := not_or.mp fun k => hm (List.mem_cons.mpr k)
      obtain ⟨k1, k2⟩ := hk n h48 hne
      obtain ⟨j1, j2⟩ := i3 n h48 hm
      exact ⟨j1.trans k1, j2.trans k2⟩

/-! ## The drivers and the monitor outputs -/

theorem updDrv_eq (s : State) : ∃ d, updDrv s = wr (wr s F.devDrvStat_DIS 0 d) F.devDrvStat_EN 0
    (if s.pwr.coreLost || s.pwr.pwmLost then 0 else s.prot.want &&& (15 - d)) := ⟨disGroups s, by rw [updDrv]⟩

theorem en_updDrv {s : State} (h : stopped s = true) : rd (updDrv s) F.devDrvStat_EN 0 = 0 := by
  obtain ⟨d, hd⟩ := updDrv_eq s
  rw [hd, ← stopped, h, if_pos rfl, rd_wr_same]
  rfl

theorem regsBut_updDrv (s : State) : RegsBut [objKey .devDrvStat 0] s (updDrv s) := by
  obtain ⟨d, hd⟩ := updDrv_eq s
  rw [hd]
  exact (regsBut_wr s F.devDrvStat_DIS 0 _ List.mem_cons_self).wr F.devDrvStat_EN 0 _ List.mem_cons_self

/-- A driver update leaves what the loss of a clock left of an axis. -/
theorem ClockTripped.of_regsBut {s u v : State} {n : Nat} {ks : List Nat} (h : ClockTripped s u n) (r : RegsBut ks u v)
    (ht : objKey .axTripStat n ∉ ks) (hm : objKey .axMode n ∉ ks) : ClockTripped s v n := by
  obtain ⟨h1, h2, h3⟩ := h
  have hg := r.getObj ht
  have hmode : axMode v n = axMode u n := r.rd (f := F.axMode_MODE) hm
  exact ⟨(latch_of_getObj hg).trans h1, by rw [clockNoted, hg, ← clockNoted, h2], fun h0 => hmode.trans (h3 h0)⟩

theorem ClockTripped.of_regs {s s' u u' : State} {n : Nat} (h : ClockTripped s u n) (hs : s'.regs = s.regs) (hu : u'.regs = u.regs) :
    ClockTripped s' u' n := by
  obtain ⟨h1, h2, h3⟩ := h
  refine ⟨(rdB_of_regs hu _ _).trans h1, ?_, fun h0 => ?_⟩
  · rw [clockNoted, getObj, hu, ← getObj, ← clockNoted, h2]
  · rw [axMode, rd_of_regs hu, ← axMode, h3 ((rdB_of_regs hs _ _).symm.trans h0), axMode, axMode, rd_of_regs hs]

/-- The monitor outputs' status objects. -/
def monKeys : List Nat := (List.range 16).map (objKey .monStat)

theorem not_mem_monKeys {o : ObjId} {i : Nat} (h : o ≠ .monStat) (hi : i < objCount o) : objKey o i ∉ monKeys := by
  intro hm
  obtain ⟨n, hn, he⟩ := List.mem_map.mp hm
  exact objKey_ne_obj h hi (List.mem_range.mp hn) he.symm

/-- A monitor output goes to its safe state. -/
def monLeave (s : State) (c : Nat) : State := monShow (setMon s c { mon s c with took := false, armed := false }) c monSafe 0

theorem monAllSafe_eq (s : State) : monAllSafe s = (List.range 16).foldl monLeave s := by rw [monAllSafe]; rfl

/-- `u` is `s` but for the monitor outputs. -/
structure MonsOnly (s u : State) : Prop where
  regs : RegsBut monKeys s u
  rest : u = { s with regs := u.regs, mons := u.mons }

theorem MonsOnly.trans {s t u : State} (h : MonsOnly s t) (k : MonsOnly t u) : MonsOnly s u := by
  refine ⟨h.regs.trans k.regs, ?_⟩
  have a := h.rest
  have b := k.rest
  rw [a] at b
  exact b

theorem monsOnly_wr (s : State) (f : Fld) (c x : Nat) (ho : f.obj = .monStat) (hc : c < 16) : MonsOnly s (wr s f c x) :=
  ⟨regsBut_wr s f c x (ho ▸ List.mem_map.mpr ⟨c, List.mem_range.mpr hc, rfl⟩), by rw [wr, setObj]⟩

theorem monsOnly_monShow (s : State) (c st v : Nat) (hc : c < 16) : MonsOnly s (monShow s c st v) := by
  rw [monShow, wrB]
  exact ((monsOnly_wr s F.monStat_STATE c _ rfl hc).trans (monsOnly_wr _ F.monStat_LAST c _ rfl hc)).trans
    (monsOnly_wr _ F.monStat_SAFE c _ rfl hc)

theorem monsOnly_monLeave (s : State) (c : Nat) (hc : c < 16) : MonsOnly s (monLeave s c) := by
  rw [monLeave]
  exact MonsOnly.trans (t := setMon s c { mon s c with took := false, armed := false }) ⟨.of_eq rfl, rfl⟩
    (monsOnly_monShow _ c _ _ hc)

theorem safe_monLeave (s : State) (c : Nat) : rdB (monLeave s c) F.monStat_SAFE c = true := by
  rw [monLeave, monShow, rdB, wrB, rd_wr_same]
  rfl

theorem safe_monLeave_other {s : State} {a c : Nat} (ha : a < 16) (hc : c < 16) (h : rdB s F.monStat_SAFE c = true) :
    rdB (monLeave s a) F.monStat_SAFE c = true := by
  by_cases he : c = a
  · subst he
    exact safe_monLeave s c
  · have hw (t : State) (f : Fld) (x : Nat) (ho : f.obj = .monStat) : rd (wr t f a x) F.monStat_SAFE c = rd t F.monStat_SAFE c :=
      rd_wr_inst t (f := f) (g := F.monStat_SAFE) x hc (by rw [ho]; exact ha) ho.symm he
    rw [monLeave, monShow, rdB, wrB, hw _ _ _ rfl, hw _ _ _ rfl, hw _ _ _ rfl, rd_of_regs (setMon_regs _ _ _), ← rdB, h]

theorem monAllSafe_shows (s : State) : MonsOnly s (monAllSafe s) ∧ ∀ c < 16, rdB (monAllSafe s) F.monStat_SAFE c = true := by
  have key (l : List Nat) (hl : ∀ c ∈ l, c < 16) (t : State) : MonsOnly t (l.foldl monLeave t) ∧
      (∀ c < 16, rdB t F.monStat_SAFE c = true → rdB (l.foldl monLeave t) F.monStat_SAFE c = true) ∧
      ∀ c ∈ l, rdB (l.foldl monLeave t) F.monStat_SAFE c = true := by
    induction l generalizing t with
    | nil => exact ⟨⟨.refl _ t, rfl⟩, fun _ _ => id, fun c h => absurd h List.not_mem_nil⟩
    | cons a l ih =>
      have ha := hl a List.mem_cons_self
      obtain ⟨i1, i2, i3⟩ := ih (fun c h => hl c (List.mem_cons_of_mem _ h)) (monLeave t a)
      refine ⟨(monsOnly_monLeave t a ha).trans i1, fun c hc h => i2 c hc (safe_monLeave_other ha hc h), fun c hm => ?_⟩
      rcases List.mem_cons.mp hm with rfl | hm
      · exact i2 c ha (safe_monLeave t c)
      · exact i3 c hm
  obtain ⟨k1, -, k3⟩ := key (List.range 16) (fun c h => List.mem_range.mp h) s
  rw [monAllSafe_eq]
  exact ⟨k1, fun c hc => k3 c (List.mem_range.mpr hc)⟩

/-! ## The loss of the clock of CORE or of the PWM generators -/

/-- What a lost clock leaves of the device. -/
structure ClockLost (s u : State) : Prop where
  pwr : u.pwr = s.pwr
  en : rd u F.devDrvStat_EN 0 = 0
  axis : ∀ n < 48, ClockTripped s u n
  mons : ∀ c < 16, rdB u F.monStat_SAFE c = true
  trigs : u.ctl.trigs = s.ctl.trigs
  nv : u.nv = s.nv

theorem clockTrip_leaves {s : State} (h : stopped s = true) : ClockLost s (monAllSafe (clockTrip s)) := by
  rw [clockTrip, forAxes]
  obtain ⟨h1, h2, -⟩ := clockTripped_foldl (s := s) (fun t n => ⟨_, rfl⟩) (List.range 48) List.nodup_range
    (fun n hn => List.mem_range.mp hn) h
  generalize (List.range 48).foldl _ s = t at h1 h2
  have ht : stopped t = true := by rw [stopped, h1.pwr, ← stopped, h]
  have hu := regsBut_updDrv t
  have h3 := h1.trans (trips_updDrv t)
  have he := en_updDrv ht
  generalize updDrv t = v at hu h3 he
  obtain ⟨⟨m1, m2⟩, m3⟩ := monAllSafe_shows v
  generalize monAllSafe v = w at m1 m2 m3
  refine ⟨by rw [m2]; exact h3.pwr, ?_, fun n hn => ?_, m3, by rw [m2]; exact h3.trigs, by rw [m2]; exact h3.nv⟩
  · rw [m1.rd (f := F.devDrvStat_EN) (i := 0) (not_mem_monKeys (by decide) (by decide)), he]
  · have hk (o : ObjId) (ho : o ≠ .devDrvStat) (hi : n < objCount o) : objKey o n ∉ [objKey .devDrvStat 0] := fun hm =>
      objKey_ne_obj ho hi (by decide) (List.mem_singleton.mp hm)
    refine ((h2 n (List.mem_range.mpr hn)).of_regsBut hu (hk .axTripStat (by decide) hn) (hk .axMode (by decide) hn)).of_regsBut m1
      (not_mem_monKeys (by decide) hn) (not_mem_monKeys (by decide) hn)

theorem gatesLow_of_stopped {s : State} (h : stopped s = true) (n : Nat) : gatesLow s n := by
  rw [stopped] at h
  refine ⟨?_, fun leg => ?_⟩
  · rw [switching]
    cases hc : s.pwr.coreLost <;> cases hp : s.pwr.pwmLost <;> simp_all
  · rw [lowSideOn]
    cases hc : s.pwr.coreLost <;> cases hp : s.pwr.pwmLost <;> simp_all

/-- The trigger of a lost clock. -/
def clockTrig : Trig := ⟨mLatch, 11, none⟩

/-- CORE has lost its clock, or the PWM generators theirs. -/
def loseCore (s : State) : State := { s with pwr := { s.pwr with coreLost := true } }
def losePwm (s : State) : State := { s with pwr := { s.pwr with pwmLost := true } }

/-- What the statements say of a lost clock. -/
theorem ClockLost.shows {s v u t : State} (h : ClockLost v u) (q : Quiet u t) (hr : v.regs = s.regs) (hv : stopped v = true) :
    t.pwr = v.pwr ∧ rd t F.devDrvStat_EN 0 = 0 ∧ (∀ n, gatesLow t n) ∧
      (∀ n < 48, rdB t F.axTripStat_LATCH n = true ∧ bit (getObj t .axTripStat n) 16 = true ∧
        (rdB s F.axTripStat_LATCH n = false → axMode t n = if axMode s n = aDisabled then aDisabled else aTripped)) ∧
      (∀ c < 16, rdB t F.monStat_SAFE c = true) ∧ t.ctl.trigs = v.ctl.trigs ∧ t.nv = v.nv := by
  refine ⟨q.pwr.trans h.pwr, ?_, gatesLow_of_stopped ?_, fun n hn => ?_, fun c hc => ?_, q.trigs.trans h.trigs, q.nv.trans h.nv⟩
  · rw [q.rd_kind (by decide) (by decide), h.en]
  · rw [stopped, q.pwr, h.pwr, ← stopped, hv]
  · obtain ⟨h1, h2, h3⟩ := h.axis n hn
    refine ⟨?_, ?_, fun h0 => ?_⟩
    · rw [q.rdB_kind (by decide) hn, h1]
    · rw [q.getObj_kind (by decide) hn]
      exact h2
    · have hm : axMode v n = axMode s n := rd_of_regs hr _ _
      rw [axMode, q.rd_kind (by decide) hn, ← axMode, h3 (by rw [rdB_of_regs hr, h0]), hm, trippedFrom]
  · rw [q.rdB_kind (by decide) hc, h.mons c hc]

theorem quiet_trigged (u : State) :
    Quiet (setTrigs u (u.ctl.trigs ++ [clockTrig])) (trigger (raiseD u 0x12 1) mLatch 11 none) :=
  ⟨fun _ _ _ => rfl, rfl, rfl, rfl⟩

theorem ClockLost.trigged {v u : State} (h : ClockLost v u) :
    ClockLost (setTrigs v (v.ctl.trigs ++ [clockTrig])) (setTrigs u (u.ctl.trigs ++ [clockTrig])) := by
  refine ⟨h.pwr, ?_, fun n hn => (h.axis n hn).of_regs rfl rfl, fun c hc => ?_, congrArg (· ++ [clockTrig]) h.trigs, h.nv⟩
  · exact (rd_of_regs (s := u) rfl _ _).trans h.en
  · exact (rdB_of_regs (s := u) rfl _ _).trans (h.mons c hc)

section
variable {s : State} (hl : s.pwr.locked = true) (hr : s.pwr.rst = false) (hc : s.pwr.coreLost = false)
include hl hr hc

theorem armed_running : armed s = true := by rw [armed, hl, hr, hc]; rfl

theorem coreLoss_shows {c : Instr} (h : c ∈ [Instr.coreClockLoss, Instr.referenceClockLoss]) : Completes s c (fun t =>
      t.pwr = { s.pwr with coreLost := true } ∧ rd t F.devDrvStat_EN 0 = 0 ∧ (∀ n, gatesLow t n) ∧
      (∀ n < 48, rdB t F.axTripStat_LATCH n = true ∧ bit (getObj t .axTripStat n) 16 = true ∧
        (rdB s F.axTripStat_LATCH n = false → axMode t n = if axMode s n = aDisabled then aDisabled else aTripped)) ∧
      (∀ c < 16, rdB t F.monStat_SAFE c = true) ∧ t.ctl.trigs = s.ctl.trigs ∧ t.nv = s.nv) := by
  have e : exec c s = done (monAllSafe (clockTrip (loseCore s))) := by
    have h1 : (if armed s then coreLoss s else s) = monAllSafe (clockTrip (loseCore s)) := by
      rw [armed_running hl hr hc, if_pos rfl, coreLoss, loseCore]
    rcases List.mem_cons.mp h with rfl | h
    · exact (show execCoreClockLoss s = _ by rw [execCoreClockLoss, h1])
    · obtain rfl := List.mem_singleton.mp h
      exact (show execReferenceClockLoss s = _ by rw [execReferenceClockLoss, h1])
  have hs : stopped (loseCore s) = true := rfl
  exact completes_of_done e fun t q => (clockTrip_leaves hs).shows q rfl hs

theorem pwmLoss_shows (hp : s.pwr.pwmLost = false) : Completes s .pwmClockLoss (fun t =>
      t.pwr = { s.pwr with pwmLost := true } ∧ rd t F.devDrvStat_EN 0 = 0 ∧ (∀ n, gatesLow t n) ∧
      (∀ n < 48, rdB t F.axTripStat_LATCH n = true ∧ bit (getObj t .axTripStat n) 16 = true ∧
        (rdB s F.axTripStat_LATCH n = false → axMode t n = if axMode s n = aDisabled then aDisabled else aTripped)) ∧
      (∀ c < 16, rdB t F.monStat_SAFE c = true) ∧ t.ctl.trigs = s.ctl.trigs ++ [⟨mLatch, 11, none⟩] ∧ t.nv = s.nv) := by
  have e : exec .pwmClockLoss s = done (trigger (raiseD (monAllSafe (clockTrip (losePwm s))) 0x12 1) mLatch 11 none) :=
    show execPwmClockLoss s = _ by
      rw [execPwmClockLoss, if_pos (by rw [armed_running hl hr hc, hp]; rfl), losePwm]
  have hs : stopped (losePwm s) = true := by
    rw [stopped, losePwm, Bool.or_true]
  have h := clockTrip_leaves hs
  generalize monAllSafe (clockTrip (losePwm s)) = u at e h
  exact completes_of_done e fun t q => h.trigged.shows ((quiet_trigged u).trans q) rfl hs

end

/-! ## The loss of the clock of the converters -/

/-- Trips that put an axis into TRIPPED with its latch, and no latch without. -/
structure SoundTrips (s u : State) : Prop where
  trips : Trips s u
  tripped : ∀ m < 48, axMode u m = aTripped → axMode s m = aTripped ∨ rdB u F.axTripStat_LATCH m = true
  latched : ∀ m < 48, rdB u F.axTripStat_LATCH m = true → rdB s F.axTripStat_LATCH m = true ∨ axMode u m = aTripped ∨ axMode u m = aDisabled

theorem SoundTrips.refl (s : State) : SoundTrips s s := ⟨.refl s, fun _ _ => .inl, fun _ _ => .inl⟩

theorem SoundTrips.trans {s t u : State} (h : SoundTrips s t) (k : SoundTrips t u) : SoundTrips s u := by
  refine ⟨h.trips.trans k.trips, fun m hm hu => ?_, fun m hm hu => ?_⟩
  · rcases k.tripped m hm hu with ht | hl
    · exact (h.tripped m hm ht).imp id (k.trips.latch m hm)
    · exact .inr hl
  · rcases k.latched m hm hu with ht | hl
    · refine (h.latched m hm ht).imp id fun hx => ?_
      rcases k.trips.mode m hm with hk | ⟨hk, -⟩
      · exact .inl hk
      · exact hx.imp hk.trans hk.trans
    · exact .inr hl

theorem SoundTrips.foldl {α : Type} {f : State → α → State} (h : ∀ t a, SoundTrips t (f t a)) (l : List α) (s : State) :
    SoundTrips s (l.foldl f s) := by
  induction l generalizing s with
  | nil => exact .refl s
  | cons a l ih => exact (h s a).trans (ih _)

theorem soundTrips_ite {s t u : State} {c : Prop} [Decidable c] (h : SoundTrips s t) (k : SoundTrips s u) :
    SoundTrips s (if c then t else u) := by
  split
  · exact h
  · exact k

theorem soundTrips_latchOne (s : State) (n cause extra : Nat) : SoundTrips s (latchOne s n cause extra) := by
  have hk (m : Nat) (hm : m < 48) (hne : m ≠ n) :
      rdB (latchOne s n cause extra) F.axTripStat_LATCH m = rdB s F.axTripStat_LATCH m ∧ axMode (latchOne s n cause extra) m = axMode s m :=
    ⟨latch_of_getObj ((regsBut_latchOne s n cause extra).getObj (not_mem_latchKeys (.inr rfl) hm hne)),
      (regsBut_latchOne s n cause extra).rd (f := F.axMode_MODE) (not_mem_latchKeys (.inl rfl) hm hne)⟩
  refine ⟨trips_latchOne s n cause extra, fun m hm hu => ?_, fun m hm hu => ?_⟩
  · by_cases hne : m = n
    · subst hne
      exact .inr (latch_latchOne s m cause extra hm)
    · exact .inl ((hk m hm hne).2.symm.trans hu)
  · by_cases hne : m = n
    · subst hne
      cases hl : rdB s F.axTripStat_LATCH m with
      | true => exact .inl rfl
      | false =>
        refine .inr ?_
        rw [axMode_latchOne s cause extra hm hl, trippedFrom]
        split
        · exact .inr rfl
        · exact .inl rfl
    · exact .inl ((hk m hm hne).1.symm.trans hu)

theorem soundTrips_groupDisable (s : State) (n : Nat) : SoundTrips s (groupDisable s n) := by
  unfold groupDisable
  exact soundTrips_ite (SoundTrips.foldl (fun t i => soundTrips_ite (soundTrips_latchOne _ _ _ _) (.refl t)) _ s) (.refl s)

theorem soundTrips_tripMate (s : State) (n cause extra : Nat) : SoundTrips s (tripMate s n cause extra) := by
  unfold tripMate
  split
  · exact soundTrips_ite (.refl s) ((soundTrips_latchOne _ _ _ _).trans (soundTrips_groupDisable _ _))
  · exact .refl s

theorem soundTrips_tripMates (s : State) (extra : Nat) (old : State) : SoundTrips s (tripMates s extra old) :=
  SoundTrips.foldl (fun t _ => soundTrips_ite (soundTrips_tripMate t _ _ _) (.refl t)) _ s

theorem soundTrips_updDrv (s : State) : SoundTrips s (updDrv s) := by
  have hk (o : ObjId) (m : Nat) (ho : o ≠ .devDrvStat) (hi : m < objCount o) : getObj (updDrv s) o m = getObj s o m :=
    (regsBut_updDrv s).getObj fun hm => objKey_ne_obj ho hi (by decide) (List.mem_singleton.mp hm)
  have hmode (m : Nat) (hm : m < 48) : axMode (updDrv s) m = axMode s m := by
    rw [axMode, rd, hk .axMode m (by decide) hm, axMode, rd]
  refine ⟨trips_updDrv s, fun m hm hu => .inl ((hmode m hm).symm.trans hu), fun m hm hu => .inl ?_⟩
  exact (latch_of_getObj (hk .axTripStat m (by decide) hm)).symm.trans hu

theorem soundTrips_trip (s : State) (n cause extra : Nat) : SoundTrips s (trip s n cause extra) :=
  (((soundTrips_latchOne s n cause extra).trans (soundTrips_groupDisable _ n)).trans (soundTrips_tripMates _ _ _)).trans
    (soundTrips_updDrv _)

/-- An axis of the current modes trips. -/
def convTrip (t : State) (n : Nat) : State := if decide (3 ≤ axMode t n ∧ axMode t n ≤ 6) then trip t n 3 0 else t

theorem soundTrips_convTrip (t : State) (n : Nat) : SoundTrips t (convTrip t n) := soundTrips_ite (soundTrips_trip t n 3 0) (.refl t)

/-- An axis whose latch is set, in TRIPPED, stays so. -/
theorem SoundTrips.keeps {s u : State} (h : SoundTrips s u) {n : Nat} (hn : n < 48)
    (k : axMode s n = aTripped ∧ rdB s F.axTripStat_LATCH n = true) : axMode u n = aTripped ∧ rdB u F.axTripStat_LATCH n = true :=
  ⟨(h.trips.mode n hn).elim id fun e => e.1.trans k.1, h.trips.latch n hn k.2⟩

/-- An axis of the current modes whose latch is clear trips at its turn, or before. -/
theorem convTrip_trips {s t : State} (h : SoundTrips s t) {n : Nat} (hn : n < 48) (hl : rdB s F.axTripStat_LATCH n = false)
    (h3 : 3 ≤ axMode s n) (h6 : axMode s n ≤ 6) : axMode (convTrip t n) n = aTripped ∧ rdB (convTrip t n) F.axTripStat_LATCH n = true := by
  have hs : axMode s n ≠ aTripped := by
    intro e
    rw [e] at h6
    exact absurd h6 (by decide)
  rcases h.trips.mode n hn with ht | ⟨ht, -⟩
  · exact (soundTrips_convTrip t n).keeps hn ⟨ht, (h.tripped n hn ht).resolve_left hs⟩
  · have htl : rdB t F.axTripStat_LATCH n = false := by
      rw [← Bool.not_eq_true]
      intro e
      rcases h.latched n hn e with e | e | e
      · exact absurd (e.symm.trans hl) (by decide)
      · exact hs (ht.symm.trans e)
      · rw [← ht, e] at h3
        exact absurd h3 (by decide)
    rw [convTrip, if_pos (decide_eq_true (ht ▸ ⟨h3, h6⟩)), trip]
    refine (((soundTrips_groupDisable _ n).trans (soundTrips_tripMates _ _ _)).trans (soundTrips_updDrv _)).keeps hn ⟨?_, latch_latchOne t n 3 0 hn⟩
    rw [axMode_latchOne t 3 0 hn htl, trippedFrom, if_neg]
    intro e
    rw [← ht, e] at h3
    exact absurd h3 (by decide)

theorem foldl_convTrip (s : State) (l : List Nat) (t : State) (h : SoundTrips s t) : SoundTrips s (l.foldl convTrip t) ∧
    ∀ n < 48, n ∈ l → rdB s F.axTripStat_LATCH n = false → 3 ≤ axMode s n → axMode s n ≤ 6 →
      axMode (l.foldl convTrip t) n = aTripped ∧ rdB (l.foldl convTrip t) F.axTripStat_LATCH n = true := by
  induction l generalizing t with
  | nil => exact ⟨h, fun n _ hn => absurd hn List.not_mem_nil⟩
  | cons a l ih =>
    obtain ⟨i1, i2⟩ := ih _ (h.trans (soundTrips_convTrip t a))
    refine ⟨i1, fun n hn hm hl h3 h6 => ?_⟩
    rcases List.mem_cons.mp hm with rfl | hm
    · exact (SoundTrips.foldl soundTrips_convTrip l _).keeps hn (convTrip_trips h hn hl h3 h6)
    · exact i2 n hn hm hl h3 h6

/-- The converters have lost their clock. -/
def loseConv (s : State) : State := { s with pwr := { s.pwr with convLost := true } }

theorem convLoss_shows {s : State} (ha : armed s = true) (hc : s.pwr.convLost = false) : Completes s .convClockLoss (fun t =>
      t.pwr = { s.pwr with convLost := true } ∧ t.ctl.trigs = s.ctl.trigs ++ [⟨mLatch, 11, none⟩] ∧
      (∀ n < 48, rdB s F.axTripStat_LATCH n = false → 3 ≤ axMode s n → axMode s n ≤ 6 → axMode t n = aTripped ∧ rdB t F.axTripStat_LATCH n = true) ∧
      t.nv = s.nv) := by
  have e : exec .convClockLoss s = done (trigger (raiseD ((List.range 48).foldl convTrip (loseConv s)) 0x12 2) mLatch 11 none) :=
    show execConvClockLoss s = _ by
      rw [execConvClockLoss, if_pos (by rw [ha, hc]; rfl), loseConv]
      rfl
  obtain ⟨h1, h2⟩ := foldl_convTrip (loseConv s) (List.range 48) _ (.refl _)
  generalize (List.range 48).foldl convTrip (loseConv s) = u at *
  have hq : Quiet u (raiseD u 0x12 2) := quiet_raiseD u 0x12 2
  generalize raiseD u 0x12 2 = v at *
  refine completes_of_done e fun t q => ⟨?_, ?_, fun n hn hl h3 h6 => ?_, ?_⟩
  · rw [q.pwr, trigger_pwr, hq.pwr, h1.trips.pwr, loseConv]
  · rw [q.trigs, trigger, hq.trigs, h1.trips.trigs, loseConv]
  · have hr (f : Fld) (i : Nat) : rd (loseConv s) f i = rd s f i := rfl
    obtain ⟨a, b⟩ := h2 n hn (List.mem_range.mpr hn) (by rw [rdB, hr, ← rdB, hl]) (by rw [axMode, hr]; exact h3) (by rw [axMode, hr]; exact h6)
    refine ⟨?_, ?_⟩
    · rw [axMode, q.rd_kind (by decide) hn, rd_trigger, hq.rd_kind (by decide) hn]
      exact a
    · rw [q.rdB_kind (by decide) hn, rdB, rd_trigger, ← rdB, hq.rdB_kind (by decide) hn, b]
  · rw [q.nv, trigger_nv, hq.nv, h1.trips.nv, loseConv]

/-- Settles O6: a latch touches the objects of its own axis alone, so that each of the 48 is found as it was; the trips of the lost
converters set a latch with every mode they change. -/
theorem supplyAndClocks : Obligations.SupplyAndClocks :=
  ⟨fun _ rail => ⟨railWarning_lost rail, railWarning_shows rail, railWarning_unloaded rail, warningRelease_runs rail,
    warningRelease_stopped rail⟩, fun _ hl hr hc => ⟨fun _ h => coreLoss_shows hl hr hc h, pwmLoss_shows hl hr hc,
    convLoss_shows (armed_running hl hr hc)⟩⟩

end Sys2Proof.Machine
end

section
/-!
PROOFS. The start of RUN (O10) fails as stated: the axes start one after another, and an axis that goes to DISABLED takes its angle
away from the follower of GEAR that starts after it.
-/

namespace Sys2Proof.Machine
open Sys2Proof Sys2Proof.Machine

/-- Two axes of the plan wait for the drivers in RUN, both in TRACK: axis 0, whose start mode is DISABLED, and axis 1, which is to follow
axis 0 in GEAR. -/
def gearPair : State :=
  let s0 := wr (wr (wr awake F.devMode_MODE 0 mRun) F.axMode_MODE 0 aTrack) F.axMode_MODE 1 aTrack
  let s1 := wr (wr s0 F.axTrkStat_VALID 0 1) F.axLoopCfg_START 0 aDisabled
  let s2 := wr (wr (wr s1 F.axTrkStat_VALID 1 1) F.axTrkStat_REF 1 1) F.axLoopCfg_START 1 aGear
  let s3 := wr s2 F.axGear_M_AXIS 1 0
  { s3 with prot := { s3.prot with settling := true }, place := { s3.place with parts := [0, 1] } }

/-- Refutes O10: as axis 1 gets its turn, axis 0 is DISABLED and has no valid angle, so that axis 1 stays in TRACK. -/
theorem not_testAndTimers : ¬ Obligations.TestAndTimers := by
  intro h
  obtain ⟨-, -, -, hstart, -⟩ := h.2 gearPair (by decide)
  obtain ⟨t, ht, -, -, -, hn⟩ := hstart (by decide) (by decide) (by decide)
  have hm := hn 1 (by decide) (by decide +kernel) (by decide +kernel) (by decide +kernel)
  have h1 : rdAfter (exec .drvSettleExpiry gearPair) F.axMode_MODE 1 = aTrack := by decide +kernel
  rw [rdAfter_next ht] at h1
  have hs : rd gearPair F.axLoopCfg_START 1 = aGear := by decide +kernel
  rw [axMode, h1, hs] at hm
  exact absurd hm (by decide)

end Sys2Proof.Machine
end

section
/-!
PROOFS. The supervisor's system instructions and events (O54): reads and writes of control registers, QPUSH, TRAP, WFI, RETI and
words that are no instruction; interrupt entry, the timers, the compare, the watchdog and the reload.
-/

namespace Sys2Proof.Machine
open Sys2Proof Sys2Proof.Machine

/-! ## Control registers (R360) -/

/-- What a control register shows does not depend on what an instruction waits for. -/
theorem csrGet_svIssued (s : State) (n : Nat) : csrGet (svIssued s) n = csrGet s n := by
  unfold csrGet
  split <;> rfl

/-- The control registers without an effect of their own. -/
def plainCsrs : List Nat := [2, 5, 6, 0x2A, 0x30, 0x31, 0x32, 0x33, 0x34, 0x35, 0x36]

theorem mem_plainCsrs {n : Nat} (ht : csrThere n = true) (h : n = 2 ∨ n = 5 ∨ n = 6 ∨ n = 0x2A ∨ 0x30 ≤ n) : n ∈ plainCsrs := by
  simp only [csrThere, decide_eq_true_eq] at ht
  simp only [plainCsrs, List.mem_cons, List.not_mem_nil, or_false]
  omega

theorem csrGet_plain {s : State} : ∀ n ∈ plainCsrs, csrGet s n = svCsr s n := by
  simp only [plainCsrs, List.forall_mem_cons]
  exact ⟨rfl, rfl, rfl, rfl, rfl, rfl, rfl, rfl, rfl, rfl, rfl, fun _ h => absurd h List.not_mem_nil⟩

/-- A control register without an effect of its own takes the word written, set or cleared. -/
theorem csrPut_plain (s : State) (k : CsrOp) (v : Nat) : ∀ n ∈ plainCsrs, csrPut s k n v = svSetCsr s n (csrNew k (csrGet s n) v) := by
  simp only [plainCsrs, List.forall_mem_cons]
  exact ⟨rfl, rfl, rfl, rfl, rfl, rfl, rfl, rfl, rfl, rfl, rfl, fun _ h => absurd h List.not_mem_nil⟩

theorem csrCost_plain : ∀ n ∈ plainCsrs, csrCost n = 0 := by decide

/-- A write of SR sets the enable and the mask. -/
theorem csrPut_sr (s : State) (v : Nat) :
    csrPut s .write 0 v = modSv s (fun c => { c with ie := bit v 4, mask := min (bits v 8 4) 8 }) := rfl

theorem csrPut_tcmpHi (s : State) (v : Nat) :
    csrPut s .write 0x2B v = modSv (svSetCsr s 0x2B v) (fun c => { c with armed := true }) := rfl

theorem csrPut_wdt (s : State) (v : Nat) : csrPut s .write 8 v = wdtWrite s v := rfl

/-- The core with its compare armed. -/
def armTcmp (v : Nat) (x : Sv) : Sv := { x with csr := mset (Sv.csr0 0x2B) x.csr 0x2B v, armed := true, pc := x.pc + 4 }

theorem armed_runs (s : State) (v : Nat) : (Sum.inr (modSv (svSetCsr (svCost (svNext (svIssued s)) (csrCost 0x2B)) 0x2B v)
    (fun c => { c with armed := true })) : SvRes) =
    .inr (modSv (svIssued s) (fun c => armTcmp v { c with clocks := c.clocks + 0 })) := by
  have hc : csrCost 0x2B = 0 := rfl
  simp only [hc, svSetCsr, armTcmp, svCost, svNext, modSv]

section
variable {s : State} (h : SvGoes s)
include h

/-- A number that names no control register makes an illegal instruction. -/
theorem svCsrRead_absent {n : Nat} (hn : csrThere n = false) (rd : Reg) :
    svCsrRead s rd n = done (svFault (svIssued s) 1 s.sv.pc.toNat s.sv.pc) :=
  svIssue_faults h (by rw [hn]; rfl) (by decide)

theorem svCsrWrite_absent {n : Nat} (hn : csrThere n = false) (k : CsrOp) (rs : Reg) :
    svCsrWrite s k n rs = done (svFault (svIssued s) 1 s.sv.pc.toNat s.sv.pc) :=
  svIssue_faults h (by rw [hn]; rfl) (by decide)

/-- A read of a control register but TIME_LO. -/
theorem svCsrRead_gives {n : Nat} (hn : csrThere n = true) (ht : n ≠ 0x28) (rd : Reg) :
    svCsrRead s rd n = .next (svAfter s [] 1 (svPut rd (BitVec.ofNat 32 (csrGet s n)))) :=
  svIssue_gives h 0 rd _ (by rw [if_pos hn, csrLatch, if_neg ht, csrGet_svIssued]; rfl)

/-- A read of TIME_LO latches TIME_HI. -/
theorem svCsrRead_time (rd : Reg) : svCsrRead s rd 0x28 = .next (svAfter s [] 1 (fun x =>
    { svPut rd (BitVec.ofNat 32 (nowNs s)) x with csr := mset (Sv.csr0 0x29) x.csr 0x29 (nowNs s / 2 ^ 32 % 2 ^ 32) })) := by
  have hv : BitVec.ofNat 32 (nowNs s % 2 ^ 32) = BitVec.ofNat 32 (nowNs s) := BitVec.eq_of_toNat_eq (by simp)
  refine svIssue_core h 0 _ ?_ (fun _ _ => rfl)
  rw [if_pos (by decide), ← hv]
  rfl

/-- A write of a control register without an effect of its own. -/
theorem svCsrWrite_plain {n : Nat} (hn : csrThere n = true) (hp : n ∈ plainCsrs) (k : CsrOp) (rs : Reg) : svCsrWrite s k n rs = .next (svAfter s [rs] 1 (fun x =>
      { x with csr := mset (Sv.csr0 n) x.csr n (csrNew k (svCsr s n) (svW s rs).toNat), pc := x.pc + 4 })) :=
  svIssue_core h 0 _ (by rw [if_pos hn, csrPut_plain _ _ _ _ hp, csrGet_plain _ hp, csrCost_plain _ hp]; rfl) (fun _ _ => rfl)

/-- A write of SR sets the enable and the mask, and takes a clock more. -/
theorem svCsrWrite_sr (rs : Reg) : svCsrWrite s .write 0 rs = .next (svAfter s [rs] 2 (fun x =>
    { x with ie := bit (svW s rs).toNat 4, mask := min (bits (svW s rs).toNat 8 4) 8, pc := x.pc + 4 })) :=
  svIssue_core h 1 _ (by rw [if_pos (by decide), csrPut_sr]; rfl) (fun _ _ => rfl)

/-- A write of TCMP_HI arms the compare. -/
theorem svCsrWrite_arm (rs : Reg) : svCsrWrite s .write 0x2B rs = .next (svAfter s [rs] 1 (fun x =>
    { x with csr := mset (Sv.csr0 0x2B) x.csr 0x2B (svW s rs).toNat, armed := true, pc := x.pc + 4 })) :=
  svIssue_core h 0 (armTcmp (svW s rs).toNat) (by rw [if_pos (by decide), csrPut_tcmpHi]; exact armed_runs s _) (fun _ _ => rfl)

/-- A write of WDT is one for the watchdog. -/
theorem svCsrWrite_wdt (rs : Reg) : svCsrWrite s .write 8 rs =
    done (svCost (wdtWrite (svCost (svNext (svIssued s)) 0) (svW s rs).toNat) (1 + svWait s [rs])) :=
  svIssue_runs h (by rw [if_pos (by decide), csrPut_wdt]; rfl)

end

/-! ## The watchdog (R378) -/

/-- A reset leaves the core stopped, whether it comes at once or first writes the ledger. -/
theorem grantReset_running {s : State} (h : rdB s F.devSvStat_RUNNING 0 = false) (b c : Nat) :
    rdB (grantReset s b c) F.devSvStat_RUNNING 0 = false := by
  have hbusy (t : State) (ht : t.regs = s.regs) : rdB (ledgBusy t true) F.devSvStat_RUNNING 0 = false := by
    rw [rdB, ledgBusy, wrB, wrB, rd_wr_obj _ _ _ _ _ _ (by decide), rd_wr_obj _ _ _ _ _ _ (by decide), rd_of_regs ht]
    exact h
  rw [grantReset]
  split
  · rw [ledgTrigger]
    split
    · exact h
    · split
      · exact h
      · rw [ledgStart_eq]
        exact hbusy _ rfl
  · rw [rdB, rd, getObj_assertReset _ _ _ _ (by decide)]
    decide

/-- However the device reacts to the end of the core, the core stays stopped. -/
theorem svReact_running {s : State} (h : rdB s F.devSvStat_RUNNING 0 = false) : rdB (svReact s) F.devSvStat_RUNNING 0 = false := by
  by_cases h3 : rd s F.devSvCtl_REACT 0 = 3
  · rw [svReact, h3]
    exact grantReset_running h _ _
  · rw [rdB_of_regs (svReact_regs s h3)]
    exact h

theorem svHalt_running (s : State) (c : Nat) : rdB (svHalt s c) F.devSvStat_RUNNING 0 = false := by
  have h : rdB (modSv (raiseD (svStop s c) 0x91 c) (fun c => { c with wfi := false, late := none })) F.devSvStat_RUNNING 0 = false :=
    (rdB_of_regs (by simp only [modSv_regs, raiseD, raise_regs]) _ _).trans (svStop_running s c)
  rw [svHalt]
  split
  · exact svReact_running h
  · exact h

theorem svRunning_of_watching {s : State} (h : svWatching s = true) : svRunning s = true := by
  rw [svWatching, Bool.and_eq_true] at h
  exact h.1

/-- A pending edge of a running core shows in the pending word. -/
theorem svPendEdge_pends {s : State} (h : svRunning s = true) (n : Nat) : bit (svCsr (svPendEdge s n) 0x12) n = true := by
  rw [svPendEdge, if_pos h, svCsr_svSetCsr_same, bit_or, bit_two_pow, decide_eq_true rfl, Bool.or_true]

theorem svPendEdge_pc (s : State) (n : Nat) : (svPendEdge s n).sv.pc = s.sv.pc := by
  rw [svPendEdge]
  split <;> rfl

/-- An expiry warns first. -/
def svWarned (s : State) : State := incSat (wr s F.devSvStat_WARN 0 1) F.devSvStat_WARNS 0

theorem svExpire_warns {s : State} (hn : rdB s F.devSvStat_WARN 0 = false) :
    svExpire s = raiseD (modSv (svPendEdge (svWarned s) 0) (fun c => { c with wdAt := nowNs s })) 0x90 0 := by
  rw [svExpire, if_neg (by rw [hn]; decide)]
  rfl

theorem svExpire_halts {s : State} (hw : rdB s F.devSvStat_WARN 0 = true) : svExpire s = svHalt s 3 := by
  rw [svExpire, if_pos hw]

theorem svWarned_shows (s : State) : rdB (svWarned s) F.devSvStat_WARN 0 = true ∧
    rdB (svWarned s) F.devSvStat_RUNNING 0 = rdB s F.devSvStat_RUNNING 0 := by
  constructor
  · rw [rdB, svWarned, incSat, addSat, rd_wr_field _ F.devSvStat_WARNS F.devSvStat_WARN _ _ rfl (by decide), rd_wr_same]
    rfl
  · rw [rdB, svWarned, incSat, addSat, rd_wr_field _ F.devSvStat_WARNS F.devSvStat_RUNNING _ _ rfl (by decide),
      rd_wr_field _ F.devSvStat_WARN F.devSvStat_RUNNING _ _ rfl (by decide), rdB]

theorem svWarned_frame (s : State) : (svWarned s).pwr = s.pwr ∧ (svWarned s).sv = s.sv :=
  ⟨pwr_of_held (by simp [svWarned]), by rw [svWarned, incSat_sv, wr_sv]⟩

/-- A warning shows in the registers, and its interrupt and its time in the core. -/
theorem svExpire_frame {s : State} (hn : rdB s F.devSvStat_WARN 0 = false) : (svExpire s).regs = (svWarned s).regs ∧
    (svExpire s).sv = { (svPendEdge (svWarned s) 0).sv with wdAt := nowNs s } := by
  rw [svExpire_warns hn]
  generalize svWarned s = u
  constructor
  · rw [raiseD, raise_regs, modSv_regs, svPendEdge_frame]
  · rw [raiseD, raise_sv, modSv_sv]

theorem svRunning_svWarned (s : State) : svRunning (svWarned s) = svRunning s := by
  rw [svRunning, (svWarned_shows s).2, (svWarned_frame s).1, svRunning]

/-- What a warning leaves in the core, `u` being the state with its interrupt pending. -/
theorem svExpire_core {s u : State} (hsv : (svExpire s).sv = { u.sv with wdAt := nowNs s })
    (hp : bit (svCsr u 0x12) 0 = true) (hpc : u.sv.pc = s.sv.pc) :
    bit (svCsr (svExpire s) 0x12) 0 = true ∧ (svExpire s).sv.wdAt = nowNs s ∧ (svExpire s).sv.pc = s.sv.pc := by
  refine ⟨?_, by rw [hsv], by rw [hsv, hpc]⟩
  rw [svCsr_of_csrs (s := u) (by rw [hsv]), hp]

theorem svPendEdge_svWarned {s : State} (hw : svRunning s = true) : bit (svCsr (svPendEdge (svWarned s) 0) 0x12) 0 = true :=
  svPendEdge_pends ((svRunning_svWarned s).trans hw) 0

theorem svWarned_pc (s : State) : (svPendEdge (svWarned s) 0).sv.pc = s.sv.pc := by rw [svPendEdge_pc, (svWarned_frame s).2]

theorem running_of_svRunning {s : State} (h : svRunning s = true) : rdB s F.devSvStat_RUNNING 0 = true := by
  rw [svRunning, Bool.and_eq_true] at h
  exact h.1

/-- What a warning shows in the registers. -/
theorem svExpire_regs {s : State} (hw : svRunning s = true) (hn : rdB s F.devSvStat_WARN 0 = false) :
    rdB (svExpire s) F.devSvStat_WARN 0 = true ∧ rdB (svExpire s) F.devSvStat_RUNNING 0 = true := by
  have hregs := (svExpire_frame hn).1
  exact ⟨(rdB_of_regs hregs _ _).trans (svWarned_shows s).1,
    (rdB_of_regs hregs _ _).trans ((svWarned_shows s).2.trans (running_of_svRunning hw))⟩

/-- What a warning shows: the bit, the pending interrupt, the new period, and the core as it was. -/
theorem svExpire_warning {s : State} (hw : svRunning s = true) (hn : rdB s F.devSvStat_WARN 0 = false) :
    (rdB (svExpire s) F.devSvStat_WARN 0 = true ∧ rdB (svExpire s) F.devSvStat_RUNNING 0 = true) ∧
      bit (svCsr (svExpire s) 0x12) 0 = true ∧ (svExpire s).sv.wdAt = nowNs s ∧ (svExpire s).sv.pc = s.sv.pc :=
  ⟨svExpire_regs hw hn, svExpire_core (svExpire_frame hn).2 (svPendEdge_svWarned hw) (svWarned_pc s)⟩

/-- The watchdog is fed with the one word. -/
theorem wdtWrite_feeds {s : State} (hw : svWatching s = true) :
    wdtWrite s 0x5AFE = modSv (wr s F.devSvStat_WARN 0 0) (fun c => { c with wdAt := nowNs s }) := by
  rw [wdtWrite, hw]
  rfl

/-- Any other word is an expiry. -/
theorem wdtWrite_expires {s : State} (hw : svWatching s = true) {v : Nat} (hv : v ≠ 0x5AFE) : wdtWrite s v = svExpire s := by
  rw [wdtWrite, hw, if_neg (by decide), if_neg hv]

section
variable {s : State} (h : SvGoes s) {rs : Reg}
include h

/-- The state in which a write of WDT takes effect. -/
theorem wdtFeed_runs : exec (.wdtFeed rs) s =
    done (svCost (wdtWrite (svCost (svNext (svIssued s)) 0) (svW s rs).toNat) (1 + svWait s [rs])) :=
  exec_of_issue h.core rfl (svCsrWrite_wdt h rs)

theorem wdtFeed_feeds (hw : svWatching s = true) (hv : svW s rs = 0x5AFE) : Completes s (.wdtFeed rs) (fun t =>
    rdB t F.devSvStat_WARN 0 = false ∧ t.sv.wdAt = nowNs s ∧ t.sv.pc = s.sv.pc + 4) := by
  have hf : wdtWrite (svCost (svNext (svIssued s)) 0) (svW s rs).toNat = _ :=
    (congrArg (fun w : Word => wdtWrite (svCost (svNext (svIssued s)) 0) w.toNat) hv).trans (wdtWrite_feeds hw)
  obtain ⟨t, ht, q⟩ := done_quiet (svCost (wdtWrite (svCost (svNext (svIssued s)) 0) (svW s rs).toNat) (1 + svWait s [rs]))
  rw [hf] at q
  refine ⟨t, (wdtFeed_runs h).trans ht, ?_, by rw [q.sv]; rfl, by rw [q.sv]; rfl⟩
  rw [q.rdB_kind (by decide) (by decide), svCost, rdB_of_regs (modSv_regs _ _), rdB_of_regs (modSv_regs _ _), rdB, rd_wr_same]
  rfl

theorem wdtFeed_expires (hw : svWatching s = true) (hv : svW s rs ≠ 0x5AFE) : ∃ t, exec (.wdtFeed rs) s = .next t ∧
    Quiet (svCost (svExpire (svCost (svNext (svIssued s)) 0)) (1 + svWait s [rs])) t := by
  obtain ⟨t, ht, q⟩ := done_quiet (svCost (svExpire (svCost (svNext (svIssued s)) 0)) (1 + svWait s [rs]))
  refine ⟨t, ?_, q⟩
  rw [wdtFeed_runs h, wdtWrite_expires (s := svCost (svNext (svIssued s)) 0) hw (fun e => hv (BitVec.eq_of_toNat_eq e)), ht]

theorem wdtFeed_warns (hw : svWatching s = true) (hv : svW s rs ≠ 0x5AFE) (hn : rdB s F.devSvStat_WARN 0 = false) :
    Completes s (.wdtFeed rs) (fun t =>
      rdB t F.devSvStat_WARN 0 = true ∧ bit (svCsr t 0x12) 0 = true ∧ t.sv.pc = s.sv.pc + 4) := by
  obtain ⟨t, ht, q⟩ := wdtFeed_expires h hw hv
  obtain ⟨⟨hwarn, -⟩, hpend, -, hpc⟩ := svExpire_warning (s := svCost (svNext (svIssued s)) 0) (svRunning_of_watching hw) hn
  generalize svExpire (svCost (svNext (svIssued s)) 0) = u at q hwarn hpend hpc
  refine ⟨t, ht, ?_, ?_, ?_⟩
  · rw [q.rdB_kind (by decide) (by decide), svCost, rdB_of_regs (modSv_regs _ _), hwarn]
  · rw [svCsr_of_csrs (s := u) (by rw [q.sv, svCost, modSv_sv]), hpend]
  · rw [q.sv, svCost, modSv_sv]
    exact hpc

theorem wdtFeed_halts (hw : svWatching s = true) (hv : svW s rs ≠ 0x5AFE) (hn : rdB s F.devSvStat_WARN 0 = true) :
    Completes s (.wdtFeed rs) (fun t => rdB t F.devSvStat_RUNNING 0 = false) := by
  obtain ⟨t, ht, q⟩ := wdtFeed_expires h hw hv
  rw [svExpire_halts (s := svCost (svNext (svIssued s)) 0) hn] at q
  refine ⟨t, ht, ?_⟩
  show rdB t F.devSvStat_RUNNING 0 = false
  rw [q.rdB_kind (by decide) (by decide), svCost, rdB_of_regs (modSv_regs _ _), svHalt_running]

end

section
variable {s : State} (core : coreRuns s = true)
include core

theorem watchdogExpiry_ends (hw : svWatching s = true) : Ends s .watchdogExpiry (svExpire s) := by
  obtain ⟨t, ht, q⟩ := done_quiet (svExpire s)
  exact ⟨t, exec_of_issue core rfl (by rw [hw, if_pos rfl, ht]), q⟩

theorem watchdogExpiry_warns (hw : svWatching s = true) (hn : rdB s F.devSvStat_WARN 0 = false) :
    Completes s .watchdogExpiry (fun t => rdB t F.devSvStat_WARN 0 = true ∧ bit (svCsr t 0x12) 0 = true ∧
      t.sv.wdAt = nowNs s ∧ rdB t F.devSvStat_RUNNING 0 = true) := by
  obtain ⟨t, ht, q⟩ := watchdogExpiry_ends core hw
  obtain ⟨⟨hwarn, hrun⟩, hpend, hat, -⟩ := svExpire_warning (svRunning_of_watching hw) hn
  exact ⟨t, ht, (q.rdB_kind (by decide) (by decide)).trans hwarn,
    (congrArg (bit · 0) (svCsr_of_csrs (congrArg (·.csr) q.sv) _)).trans hpend,
    (congrArg (·.wdAt) q.sv).trans hat, (q.rdB_kind (by decide) (by decide)).trans hrun⟩

theorem watchdogExpiry_halts (hw : svWatching s = true) (hn : rdB s F.devSvStat_WARN 0 = true)
    (hr : rd s F.devSvCtl_REACT 0 ≠ 3) : Completes s .watchdogExpiry (fun t =>
      rdB t F.devSvStat_RUNNING 0 = false ∧ rd t F.devSvStat_HALT_CAUSE 0 = 3) := by
  obtain ⟨t, ht, q⟩ := watchdogExpiry_ends core hw
  rw [svExpire_halts hn] at q
  exact ⟨t, ht, (q.rdB_kind (by decide) (by decide)).trans (svHalt_running s 3),
    (q.rd_kind (by decide) (by decide)).trans ((rd_of_regs (svHalt_regs s 3 hr) _ _).trans (svStop_cause s 3))⟩

theorem watchdogExpiry_idle (hw : svWatching s = false) : Ends s .watchdogExpiry s :=
  ends_of_idle core rfl (by rw [hw]; rfl)

end

end Sys2Proof.Machine
end

section
/-!
PROOFS. QPUSH, RETI, the words that are no instruction, and the supervisor's events, on to O54.
-/

namespace Sys2Proof.Machine
open Sys2Proof Sys2Proof.Machine

/-! ## QPUSH (R364) -/

theorem twinPut_sv (s : State) (k : Nat) (r : List Byte) : (twinPut s k r).sv = s.sv := by
  rw [twinPut]
  split <;> rfl

theorem forwardSet_sv (s : State) (q : Nat) (r : List QWord) : (forwardSet s q r).sv = s.sv := by
  rw [forwardSet]
  split <;> rfl

/-- A record on its way to a queue leaves the core. -/
theorem pushFor_sv (s : State) (port q prio : Nat) (r : List QWord) : (pushFor s port q prio r).1.sv = s.sv := by
  rw [pushFor]
  split
  · split
    · exact twinPut_sv s _ _
    · rfl
  · have h := (quiet_qPush s port q prio r).sv
    dsimp only
    split
    · exact (forwardSet_sv _ _ _).trans h
    · exact h

theorem qpushRec_svIssued (s : State) (a k : Nat) : qpushRec (svIssued s) a k = qpushRec s a k := rfl

/-- The push that a word of QPUSH names. -/
def qpushTo (s : State) (a b k : Nat) : State × Bool := pushFor (svIssued s) 5 (b % 2 ^ 16) (bits b 16 3) (qpushRec s a k)

theorem qpushRun_noQueue {s : State} {a b k : Nat} (hb : b < 2 ^ 19) (hq : isQueue (b % 2 ^ 16) = false) :
    qpushRun s a b k = (s, 3) := by
  simp only [qpushRun]
  rw [if_pos (Nat.div_eq_of_lt hb), hq]
  rfl

theorem qpushRun_pushes {s : State} {a b k : Nat} (hb : b < 2 ^ 19) (hq : isQueue (b % 2 ^ 16) = true) :
    qpushRun (svIssued s) a b k = ((qpushTo s a b k).1, if (qpushTo s a b k).2 then 0 else 1) := by
  simp only [qpushRun]
  rw [if_pos (Nat.div_eq_of_lt hb), hq, qpushRec_svIssued, qpushTo]
  rfl

/-- The body of QPUSH for a record within the SRAM. -/
def qpushBody (s : State) (rd : Reg) (a b k : Nat) : SvRes :=
  .inr (svCost (svNext (svSet (qpushRun s a b k).1 rd (BitVec.ofNat 32 (qpushRun s a b k).2))) ((k + 4) / 2 - 1))

section
variable {s : State} (h : SvGoes s) {rd ra rb : Reg} {k : BitVec 7}
include h

/-- A count that is none gives status 2. -/
theorem qpush_badCount (hk : k.toNat = 0 ∨ 120 < k.toNat) : SvGives s (.qpush rd ra rb k) [ra, rb] 1 rd 2 :=
  exec_of_issue h.core rfl (svIssue_gives h 0 rd 2 (if_pos hk))

/-- A record that is not in the SRAM faults. -/
theorem qpush_outside (h1 : 1 ≤ k.toNat) (h2 : k.toNat ≤ 120)
    (ha : (svW s ra).toNat % 2 ≠ 0 ∨ svSize < (svW s ra).toNat + 2 * k.toNat) :
    exec (.qpush rd ra rb k) s = done (svFault (svIssued s) 4 (svW s ra).toNat s.sv.pc) := by
  refine exec_of_issue h.core rfl (svIssue_faults h ?_ (by decide))
  dsimp only
  rw [if_neg (by omega)]
  exact if_pos ha

theorem qpush_body (h1 : 1 ≤ k.toNat) (h2 : k.toNat ≤ 120) (ha : (svW s ra).toNat % 2 = 0)
    (hs : (svW s ra).toNat + 2 * k.toNat ≤ svSize) {t : State}
    (ht : qpushBody (svIssued s) rd (svW s ra).toNat (svW s rb).toNat k.toNat = .inr t) :
    exec (.qpush rd ra rb k) s = done (svCost t (1 + svWait s [ra, rb])) := by
  refine exec_of_issue h.core rfl (svIssue_runs h ?_)
  dsimp only
  rw [if_neg (by omega), if_neg ?_, ← ht]
  · rfl
  · exact not_or.mpr ⟨not_not_intro ha, Nat.not_lt.mpr hs⟩

/-- A word that names no queue gives status 3. -/
theorem qpush_noQueue (h1 : 1 ≤ k.toNat) (h2 : k.toNat ≤ 120) (ha : (svW s ra).toNat % 2 = 0)
    (hs : (svW s ra).toNat + 2 * k.toNat ≤ svSize) (hb : (svW s rb).toNat < 2 ^ 19)
    (hq : isQueue ((svW s rb).toNat % 2 ^ 16) = false) :
    SvGives s (.qpush rd ra rb k) [ra, rb] ((k.toNat + 4) / 2) rd 3 := by
  have hk : (k.toNat + 4) / 2 = ((k.toNat + 4) / 2 - 1) + 1 := by omega
  rw [hk]
  refine exec_of_issue h.core rfl (svIssue_gives h _ rd 3 ?_)
  dsimp only
  rw [if_neg (by omega)]
  refine (if_neg (not_or.mpr ⟨not_not_intro ha, Nat.not_lt.mpr hs⟩)).trans ?_
  exact congrArg (fun r : State × Nat => Sum.inr (svCost (svNext (svSet r.1 rd (BitVec.ofNat 32 r.2))) _)) (qpushRun_noQueue hb hq)

end

/-- What a record pushed leaves in the core: the status in the register, the next instruction, the clocks. -/
theorem pushed_core {s u : State} (hu : u.sv = (svIssued s).sv) (rd : Reg) (b : Bool) (m w : Nat) :
    let t := svCost (svCost (svNext (svSet u rd (BitVec.ofNat 32 (if b then 0 else 1)))) m) (1 + w)
    svW t rd = (if b then 0 else 1) ∧ t.sv.pc = s.sv.pc + 4 ∧ t.sv.clocks = s.sv.clocks + (m + 1) + w ∧ t.sv.mem = s.sv.mem := by
  intro t
  have hsv : t.sv = (svCost (svCost (svNext (svSet (svIssued s) rd (BitVec.ofNat 32 (if b then 0 else 1)))) m) (1 + w)).sv := by
    simp only [t, svCost, svNext, svSet, modSv_sv, hu]
  refine ⟨?_, by rw [hsv]; rfl, ?_, by rw [hsv]; rfl⟩
  · have hw : svW t rd = svW (svSet (svIssued s) rd (BitVec.ofNat 32 (if b then 0 else 1))) rd := by rw [svW, hsv]; rfl
    rw [hw, svW_svSet_same]
    cases b <;> rfl
  · rw [hsv]
    show s.sv.clocks + m + (1 + w) = _
    omega

/-- A record pushed: accepted or not, the core goes on. -/
theorem qpush_pushes {s : State} (h : SvGoes s) {rd ra rb : Reg} {k : BitVec 7} (h1 : 1 ≤ k.toNat) (h2 : k.toNat ≤ 120)
    (ha : (svW s ra).toNat % 2 = 0) (hs : (svW s ra).toNat + 2 * k.toNat ≤ svSize) (hb : (svW s rb).toNat < 2 ^ 19)
    (hq : isQueue ((svW s rb).toNat % 2 ^ 16) = true) : Completes s (.qpush rd ra rb k) (fun t =>
      svW t rd = (if (qpushTo s (svW s ra).toNat (svW s rb).toNat k.toNat).2 then 0 else 1) ∧ t.sv.pc = s.sv.pc + 4 ∧
      t.sv.clocks = s.sv.clocks + (k.toNat + 4) / 2 + svWait s [ra, rb] ∧ t.sv.mem = s.sv.mem) := by
  have hk : (k.toNat + 4) / 2 = ((k.toNat + 4) / 2 - 1) + 1 := by omega
  have hu : (qpushTo s (svW s ra).toNat (svW s rb).toNat k.toNat).1.sv = (svIssued s).sv := pushFor_sv _ _ _ _ _
  have hrun := qpushRun_pushes (s := s) (a := (svW s ra).toNat) (k := k.toNat) hb hq
  have hx := fun t ht => qpush_body h (rd := rd) (ra := ra) (rb := rb) (t := t) h1 h2 ha hs ht
  simp only [qpushBody, hrun] at hx
  generalize qpushTo s (svW s ra).toNat (svW s rb).toNat k.toNat = p at hu hx
  obtain ⟨t, ht, q⟩ := done_quiet (svCost (svCost (svNext (svSet p.1 rd (BitVec.ofNat 32 (if p.2 then 0 else 1))))
    ((k.toNat + 4) / 2 - 1)) (1 + svWait s [ra, rb]))
  obtain ⟨hw, hpc, hc, hm⟩ := pushed_core hu rd p.2 ((k.toNat + 4) / 2 - 1) (svWait s [ra, rb])
  refine ⟨t, (hx _ rfl).trans ht, ?_, by rw [q.sv, hpc], ?_, by rw [q.sv, hm]⟩
  · rw [← hw, svW, svW, q.sv]
  · rw [q.sv, hc, ← hk]

/-! ## TRAP, WFI, RETI and the words that are no instruction (R362, R366, R371) -/

section
variable {s : State} (h : SvGoes s)
include h

theorem trap_faults (code : BitVec 16) :
    exec (.trap code) s = done (svFault (svIssued s) (7 + code.toNat * 2 ^ 16) s.sv.pc.toNat (s.sv.pc + 4)) := by
  refine exec_of_issue h.core rfl ((svIssue_faultsTo h rfl).trans ?_)
  rw [svRet, if_pos (by omega)]
  rfl

theorem wfi_waits : exec .wfi s = .next (svAfter s [] 1 (fun x => { x with wfi := true, pc := x.pc + 4 })) :=
  exec_of_issue h.core rfl (svIssue_core h 0 _ rfl (fun _ _ => rfl))

theorem illegalInstruction_faults {w : Word} (hw : svDecode w.toNat = none) :
    exec (.illegalInstruction w) s = done (svFault (svIssued s) 1 s.sv.pc.toNat s.sv.pc) :=
  exec_of_issue h.core rfl (by
    rw [hw]
    exact svIssue_faults h rfl (by decide))

end

theorem illegalInstruction_legal {s : State} (core : coreRuns s = true) {w : Word} (hw : svDecode w.toNat ≠ none) :
    Ends s (.illegalInstruction w) s :=
  ends_of_idle core rfl (by
    obtain ⟨c, hc⟩ := Option.ne_none_iff_exists'.mp hw
    rw [hc])

theorem leVal_lt (bs : List Byte) : leVal bs < 256 ^ bs.length := by
  induction bs with
  | nil => decide
  | cons b bs ih =>
    have hb := b.isLt
    rw [leVal, List.length_cons, Nat.pow_succ]
    omega

theorem svRead_lt (s : State) (a : Nat) : svRead s a 4 < 2 ^ 32 := by
  have h := leVal_lt (memBytes 0 s.sv.mem a 4)
  rwa [memBytes_length] at h

theorem toNat_svRead (s : State) (a : Nat) : (BitVec.ofNat 32 (svRead s a 4)).toNat = svRead s a 4 := by
  rw [BitVec.toNat_ofNat, Nat.mod_eq_of_lt (svRead_lt s a)]

/-- Registers set one after the other hold their words. -/
theorem svW_foldl_svSet (x : Nat → Word) (s : State) {n : Nat} (hn : n ≤ 16) : ∀ i < n,
    svW ((List.range n).foldl (fun t i => svSet t (Fin.ofNat 16 i) (x i)) s) (Fin.ofNat 16 i) = x i := by
  induction n with
  | zero => intro i hi; omega
  | succ n ih =>
    intro i hi
    rw [List.range_succ, List.foldl_append, List.foldl_cons, List.foldl_nil]
    by_cases he : i = n
    · rw [he, svW_svSet_same]
    · rw [svW_svSet_ne _ _ _ _ (fun e => he ?_)]
      · exact ih (by omega) i (by omega)
      · have := congrArg Fin.val e
        simp only [Fin.ofNat] at this
        omega

/-- The words of the frame that w0 to w4 take. -/
def unstacked (s : State) (a : Nat) : State :=
  (List.range 5).foldl (fun t i => svSet t (Fin.ofNat 16 i) (BitVec.ofNat 32 (svRead s (a + 4 * i) 4))) s

theorem unstacked_mem (s : State) (a : Nat) : (unstacked s a).sv.mem = s.sv.mem := by
  rw [unstacked]
  generalize List.range 5 = l
  suffices ∀ t : State, (l.foldl (fun t i => svSet t (Fin.ofNat 16 i) (BitVec.ofNat 32 (svRead s (a + 4 * i) 4))) t).sv.mem = t.sv.mem
    from this s
  induction l with
  | nil => exact fun _ => rfl
  | cons i l ih => exact fun t => (ih _).trans rfl

/-- What RETI reads back from the frame at `a`. -/
structure Unstacks (s t : State) (a : Nat) : Prop where
  pc : t.sv.pc.toNat = svRead s (a + 24) 4
  sr : svNow t = srOf (svRead s (a + 28) 4)
  low : ∀ i : Fin 5, (svW t (Fin.ofNat 16 i)).toNat = svRead s (a + 4 * i) 4
  link : (svW t 15).toNat = svRead s (a + 20) 4
  sp : svW t 14 = svW s 14 + 32
  mem : t.sv.mem = s.sv.mem

theorem svUnstack_eq (s : State) : svUnstack s = modSv (svSetSr (svSet (svSet (unstacked s (svW s 14).toNat) 15
    (BitVec.ofNat 32 (svRead s ((svW s 14).toNat + 20) 4))) 14 (svW s 14 + 32)) (srOf (svRead s ((svW s 14).toNat + 28) 4)))
    (fun c => { c with pc := BitVec.ofNat 32 (svRead s ((svW s 14).toNat + 24) 4), late := none, clocks := c.clocks + 10 }) := rfl

theorem svUnstack_unstacks (s : State) : Unstacks s (svUnstack s) (svW s 14).toNat := by
  have hw (r : Reg) : svW (svUnstack s) r = svW (svSet (svSet (unstacked s (svW s 14).toNat) 15
    (BitVec.ofNat 32 (svRead s ((svW s 14).toNat + 20) 4))) 14 (svW s 14 + 32)) r := by
    rw [svUnstack_eq]
    generalize svSet (svSet (unstacked s (svW s 14).toNat) 15 _) 14 _ = u
    rfl
  have hm : (svUnstack s).sv.mem = (unstacked s (svW s 14).toNat).sv.mem := by
    rw [svUnstack_eq, modSv_sv, svSetSr, modSv_sv, svSet, modSv_sv, svSet, modSv_sv]
  have hp : (svUnstack s).sv.pc = BitVec.ofNat 32 (svRead s ((svW s 14).toNat + 24) 4) := by rw [svUnstack_eq, modSv_sv]
  have hr : svNow (svUnstack s) = srOf (svRead s ((svW s 14).toNat + 28) 4) := by
    rw [svUnstack_eq, svNow, modSv_sv, svSetSr, modSv_sv]
  refine ⟨by rw [hp, toNat_svRead], hr, fun i => ?_, ?_, ?_, hm.trans (unstacked_mem _ _)⟩
  · have hi : (Fin.ofNat 16 i : Reg).val < 5 := by
      have := i.isLt
      simp only [Fin.ofNat]
      omega
    rw [hw, svW_svSet_ne _ _ _ _ (fun e => absurd (e ▸ hi) (by decide)), svW_svSet_ne _ _ _ _ (fun e => absurd (e ▸ hi) (by decide)),
      unstacked, svW_foldl_svSet _ _ (by decide) _ i.isLt, toNat_svRead]
  · rw [hw, svW_svSet_ne _ _ _ _ (by decide), svW_svSet_same, toNat_svRead]
  · rw [hw, svW_svSet_same]

theorem Unstacks.of_sv {s t u : State} {a : Nat} (h : Unstacks s t a) (hu : u.sv = t.sv) : Unstacks s u a where
  pc := by rw [hu, h.pc]
  sr := by rw [← h.sr, svNow, svNow, hu]
  low := fun i => by rw [← h.low i, svW, svW, hu]
  link := by rw [← h.link, svW, svW, hu]
  sp := by rw [← h.sp, svW, svW, hu]
  mem := by rw [hu, h.mem]

section
variable {s : State} (h : SvGoes s)
include h

theorem reti_faults {x : Nat × Nat} (hx : retiFault s = some x) :
    exec .reti s = done (svFault (svIssued s) x.1 x.2 s.sv.pc) := by
  refine exec_of_issue h.core rfl ?_
  have hf : svFetchFault (svIssued s) = none := h.fetch
  have hr : retiFault (svIssued s) = some x := hx
  rw [h.ready, show modSv s (fun c => { c with wfi := false, late := none }) = svIssued s from rfl]
  dsimp only
  rw [hf, hr]
  rfl

/-- A RETI whose frame is good reads it back where no interrupt is eligible after it. -/
theorem reti_unstacks (hx : retiFault s = none)
    (he : svEligible s (srOf (svRead s ((svW s 14).toNat + 28) 4)) = none) :
    Completes s .reti (fun t => Unstacks s t (svW s 14).toNat) := by
  have hf : svFetchFault (svIssued s) = none := h.fetch
  have hr : retiFault (svIssued s) = none := hx
  have hq : svEligible (svIssued s) (svNow (svIssued s)) = none := (svEligible_svIssued s _).trans h.quiet
  have hu : svReti (svIssued s) = svUnstack (svIssued s) := by
    have he' : svEligible (svIssued s) (srOf (svRead (svIssued s) ((svReg (svIssued s) 14).toNat + 28) 4)) = none :=
      (svEligible_svIssued s _).trans he
    rw [svReti, he']
  obtain ⟨t, ht, q⟩ := done_quiet (svUnstack (svIssued s))
  refine ⟨t, ?_, ?_⟩
  · refine exec_of_issue h.core rfl ?_
    rw [h.ready, show modSv s (fun c => { c with wfi := false, late := none }) = svIssued s from rfl]
    dsimp only
    rw [hf, hr, hq, hu]
    exact ht
  · have hun := (svUnstack_unstacks (svIssued s)).of_sv q.sv
    exact ⟨hun.pc, hun.sr, hun.low, hun.link, hun.sp, hun.mem⟩

end

/-! ## Interrupt entry, timers, compare, reload (R371, R375, R379) -/

/-- A pending edge leaves everything but the core. -/
theorem svPendEdge_quiet {s t u : State} {n : Nat} (hs : ∃ c, t = { s with sv := c }) (q : Quiet (svPendEdge t n) u) :
    Quiet { s with sv := u.sv } u := by
  obtain ⟨c, rfl⟩ := hs
  have h := svPendEdge_frame { s with sv := c } n
  have hsv := q.sv
  rw [hsv]
  rw [h] at q
  exact q

theorem svPendEdge_tmrAt (s : State) (n : Nat) : (svPendEdge s n).sv.tmrAt = s.sv.tmrAt := by
  rw [svPendEdge]
  split <;> rfl

theorem svPendEdge_armed (s : State) (n : Nat) : (svPendEdge s n).sv.armed = s.sv.armed := by
  rw [svPendEdge]
  split <;> rfl

section
variable {s : State} (core : coreRuns s = true)
include core

theorem interruptEntry_enters (hr : svReady s = true) (hi : s.sv.inf = false) :
    exec .interruptEntry s = done (svEnter (svIssued s)) :=
  exec_of_issue core rfl (by
    rw [hr, hi]
    rfl)

theorem interruptEntry_idle (h : svReady s = false ∨ s.sv.inf = true) : Ends s .interruptEntry s :=
  ends_of_idle core rfl (if_pos (by rcases h with h | h <;> simp [h]))

theorem tmrExpiry_fires (t : Fin 2) (at_ : Nat) (hr : svRunning s = true)
    (ha : s.sv.tmrAt.find? (fun x => x.1 == t.val) = some (t.val, at_)) : Completes s (.tmrExpiry t) (fun u =>
      bit (svCsr u 0x12) (1 + t.val) = true ∧ mget 0 u.sv.tmrAt t = at_ + 1000 * svCsr s (0x2C + t) ∧
      Quiet { s with sv := u.sv } u) := by
  have hs : ∃ c, modSv s (fun c => { c with tmrAt := mins c.tmrAt t (at_ + 1000 * svCsr s (0x2C + t)) }) = { s with sv := c } :=
    ⟨_, rfl⟩
  have hat : mget 0 (modSv s (fun c => { c with tmrAt := mins c.tmrAt t (at_ + 1000 * svCsr s (0x2C + t)) })).sv.tmrAt t =
      at_ + 1000 * svCsr s (0x2C + t) := by rw [modSv_sv, mget_mins_same]
  have hx : exec (.tmrExpiry t) s = done (svPendEdge
      (modSv s (fun c => { c with tmrAt := mins c.tmrAt t (at_ + 1000 * svCsr s (0x2C + t)) })) (1 + t)) :=
    exec_of_issue core rfl (by rw [ha]; exact congrArg done (if_pos hr))
  generalize modSv s (fun c => { c with tmrAt := mins c.tmrAt t (at_ + 1000 * svCsr s (0x2C + t)) }) = u at hs hat hx
  have hu : svRunning u = true := by
    obtain ⟨c, rfl⟩ := hs
    exact hr
  obtain ⟨v, hv, q⟩ := done_quiet (svPendEdge u (1 + t))
  refine ⟨v, hx.trans hv, ?_, by rw [q.sv, svPendEdge_tmrAt, hat], svPendEdge_quiet hs q⟩
  rw [svCsr_of_csrs (congrArg (·.csr) q.sv), svPendEdge_pends hu]

theorem tmrExpiry_idle (t : Fin 2) (ha : s.sv.tmrAt.find? (fun x => x.1 == t.val) = none) : Ends s (.tmrExpiry t) s :=
  ends_of_idle core rfl (by rw [ha])

theorem tcmpMatch_fires (hr : svRunning s = true) (ha : s.sv.armed = true)
    (ht : svCsr s 0x2B * 2 ^ 32 + svCsr s 0x2A ≤ nowNs s) : Completes s .tcmpMatch (fun u =>
      bit (svCsr u 0x12) 3 = true ∧ u.sv.armed = false ∧ Quiet { s with sv := u.sv } u) := by
  obtain ⟨v, hv, q⟩ := done_quiet (svPendEdge (modSv s (fun c => { c with armed := false })) 3)
  refine ⟨v, exec_of_issue core rfl (by rw [hr, ha, decide_eq_true ht]; exact hv), ?_, by rw [q.sv, svPendEdge_armed]; rfl,
    svPendEdge_quiet ⟨_, rfl⟩ q⟩
  rw [svCsr_of_csrs (congrArg (·.csr) q.sv), svPendEdge_pends (s := modSv s (fun c => { c with armed := false })) hr]

theorem tcmpMatch_idle (h : svRunning s = false ∨ s.sv.armed = false) : Ends s .tcmpMatch s :=
  ends_of_idle core rfl (if_neg (by rcases h with h | h <;> simp [h]))

theorem svReloadDone_ends (hr : rdB s F.devSvStat_RELOADING 0 = true) (hw : s.ledg.write = none) :
    Ends s .svReloadDone (svReload s) := by
  obtain ⟨t, ht, q⟩ := done_quiet (svReload s)
  exact ⟨t, exec_of_issue core rfl (by rw [hr, hw, if_pos (by decide), ht]), q⟩

theorem svReloadDone_idle (h : rdB s F.devSvStat_RELOADING 0 = false ∨ s.ledg.write ≠ none) : Ends s .svReloadDone s := by
  refine ends_of_idle core rfl ?_
  refine congrArg done (if_neg ?_)
  rcases h with h | h
  · simp [h]
  · simp [Option.isNone_iff_eq_none, h]

end

/-! ## The statement -/

/-- What a ready core does with the control registers. -/
theorem absent_faults {s : State} (h : SvGoes s) {n : BitVec 18} (hn : csrThere n.toNat = false) (rd rs : Reg) :
    ∀ c ∈ [Instr.csrr rd n, .csrw n rs, .csrs n rs, .csrc n rs],
      exec c s = done (svFault (svIssued s) 1 s.sv.pc.toNat s.sv.pc) := by
  simp only [List.forall_mem_cons]
  exact ⟨exec_of_issue h.core rfl (svCsrRead_absent h hn rd), exec_of_issue h.core rfl (svCsrWrite_absent h hn .write rs),
    exec_of_issue h.core rfl (svCsrWrite_absent h hn .set rs), exec_of_issue h.core rfl (svCsrWrite_absent h hn .clear rs),
    fun _ hc => absurd hc List.not_mem_nil⟩

theorem time_latches {s : State} (h : SvGoes s) (rd : Reg) :
    ∀ c ∈ [Instr.timeLoRead rd, .csrr rd 0x28], exec c s = .next (svAfter s [] 1 (fun x =>
      { svPut rd (BitVec.ofNat 32 (nowNs s)) x with csr := mset (Sv.csr0 0x29) x.csr 0x29 (nowNs s / 2 ^ 32 % 2 ^ 32) })) := by
  simp only [List.forall_mem_cons]
  exact ⟨exec_of_issue h.core rfl (svCsrRead_time h rd), exec_of_issue h.core rfl (svCsrRead_time h rd),
    fun _ hc => absurd hc List.not_mem_nil⟩

/-- Settles O54: a control register is read and written as its number says, a QPUSH as its operands; the watchdog warns and then
halts; the events of the timers only set a pending bit. -/
theorem svSystem : Obligations.SvSystem := by
  intro s rd ra rb rs n k core
  refine ⟨fun h => ?_, fun w hw => illegalInstruction_legal core hw, interruptEntry_enters core, interruptEntry_idle core,
    tmrExpiry_fires core, tmrExpiry_idle core, tcmpMatch_fires core, tcmpMatch_idle core, watchdogExpiry_warns core,
    watchdogExpiry_halts core, watchdogExpiry_idle core, svReloadDone_ends core, svReloadDone_idle core⟩
  refine ⟨fun hn ht => exec_of_issue core rfl (svCsrRead_gives h hn ht rd), fun hn => absent_faults h hn rd rs, time_latches h rd,
    fun hn hp => ?_, exec_of_issue core rfl (svCsrWrite_sr h rs), exec_of_issue core rfl (svCsrWrite_arm h rs), wdtFeed_feeds h,
    wdtFeed_warns h, wdtFeed_halts h, qpush_badCount h, qpush_outside h, fun h1 h2 ha hs hb => ⟨qpush_noQueue h h1 h2 ha hs hb,
    qpush_pushes h h1 h2 ha hs hb⟩, trap_faults h, wfi_waits h, fun x => reti_faults h, fun hx he => ?_,
    fun w => illegalInstruction_faults h⟩
  · have hm := mem_plainCsrs hn hp
    exact ⟨exec_of_issue core rfl (svCsrWrite_plain h hn hm .write rs), exec_of_issue core rfl (svCsrWrite_plain h hn hm .set rs),
      exec_of_issue core rfl (svCsrWrite_plain h hn hm .clear rs)⟩
  · obtain ⟨t, ht, hu⟩ := reti_unstacks h hx he
    exact ⟨t, ht, hu.pc, hu.sr, hu.low, hu.link, hu.sp, hu.mem⟩

end Sys2Proof.Machine
end

section
/-!
SUPPORT. The run-ahead lane: what only the commit unit, a miss and a change of mode touch (`Lane`), namely the lane's settings, its
counts and what its gates are timed by. Everything a load point and a completion do beside their own work leaves it: trips, the
frames to a twin, telemetry, the pair.
-/

namespace Sys2Proof.Machine
open Sys2Proof Sys2Proof.Machine

/-! ## The relation -/

/-- The fields of the run-ahead lane. -/
def laneFlds : List Fld :=
  [F.axSpecCtl_EXACT, F.axSpecCtl_MISS_LIMIT, F.axSpecStat_EXACT_ACT, F.axSpecStat_LAST_MISS, F.axSpecStat_MS_CAUSE,
    F.axSpecStat_MISS_RUN, F.axSpecCnt_MISSES, F.axSpecCnt_LATE, F.axSpecCnt_EQV_ERR]

/-- `b` is the axis `a` with its gates perhaps forced and its evaluations perhaps dropped. -/
structure AxisLane (a b : Axis) : Prop where
  pwm : b.pwm = { a.pwm with safe := b.pwm.safe, lowOn := b.pwm.lowOn, brake := b.pwm.brake, fed := b.pwm.fed, box := b.pwm.box }
  box : b.pwm.box = a.pwm.box ∨ b.pwm.box = []
  slow : b.loop.slow = a.loop.slow ∨ b.loop.slow = none
  compl : b.loop.compl = a.loop.compl ∨ b.loop.compl = none
  retry : b.loop.retry = a.loop.retry ∨ b.loop.retry = none

theorem AxisLane.refl (a : Axis) : AxisLane a a := ⟨rfl, .inl rfl, .inl rfl, .inl rfl, .inl rfl⟩

theorem AxisLane.trans {a b c : Axis} (h : AxisLane a b) (k : AxisLane b c) : AxisLane a c := by
  refine ⟨?_, same_or_trans h.box k.box, same_or_trans h.slow k.slow, same_or_trans h.compl k.compl, same_or_trans h.retry k.retry⟩
  have := k.pwm
  rw [h.pwm] at this
  exact this

/-- `u` is `s` after operations that leave the run-ahead lane's fields and what the gates are timed by. -/
structure Lane (s u : State) : Prop where
  flds : ∀ f ∈ laneFlds, ∀ m < 48, rd u f m = rd s f m
  axes : ∀ m, AxisLane (ax s m) (ax u m)

theorem Lane.refl (s : State) : Lane s s := ⟨fun _ _ _ _ => rfl, fun _ => .refl _⟩

theorem Lane.trans {s t u : State} (h : Lane s t) (k : Lane t u) : Lane s u :=
  ⟨fun f hf m hm => (k.flds f hf m hm).trans (h.flds f hf m hm), fun m => (h.axes m).trans (k.axes m)⟩

theorem Lane.foldl {α : Type} {f : State → α → State} (h : ∀ t a, Lane t (f t a)) (l : List α) (s : State) : Lane s (l.foldl f s) := by
  induction l generalizing s with
  | nil => exact .refl s
  | cons a l ih => exact (h s a).trans (ih _)

theorem lane_ite {s t u : State} {c : Prop} [Decidable c] (h : Lane s t) (k : Lane s u) : Lane s (if c then t else u) := by
  split
  · exact h
  · exact k

/-- A change of neither registers nor axes. -/
theorem lane_same {s u : State} (hr : u.regs = s.regs) (ha : u.axes = s.axes) : Lane s u :=
  ⟨fun f _ m _ => rd_of_regs hr f m, fun m => by rw [ax, ax, ha]; exact .refl _⟩

/-! ## Registers -/

def laneObjs : List ObjId := [.axSpecCtl, .axSpecStat, .axSpecCnt]

theorem laneFlds_obj : ∀ f ∈ laneFlds, f.obj ∈ laneObjs := by decide

/-- An object whose keys are never those of the run-ahead lane, whatever its index. -/
def laneApart (o : ObjId) : Bool :=
  decide (9 ≤ (objRow o).block) ||
    (decide ((objRow o).stride = 64) && decide ((objRow o).sub = 1) && decide ((objRow o).base % 64 ∉ [49, 53, 54]))

theorem objKey_axSpecCtl (i : Nat) : objKey .axSpecCtl i = 8 * 262144 + 49 + 64 * i := objKey_of_row rfl rfl rfl rfl
theorem objKey_axSpecStat (i : Nat) : objKey .axSpecStat i = 8 * 262144 + 53 + 64 * i := objKey_of_row rfl rfl rfl rfl
theorem objKey_axSpecCnt (i : Nat) : objKey .axSpecCnt i = 8 * 262144 + 54 + 64 * i := objKey_of_row rfl rfl rfl rfl

/-- Where the keys of the run-ahead lane lie. -/
theorem laneKey {o : ObjId} {m : Nat} (ho : o ∈ laneObjs) (hm : m < 48) :
    objKey o m < 9 * 262144 ∧ objKey o m % 64 ∈ [49, 53, 54] := by
  simp only [laneObjs, List.mem_cons, List.not_mem_nil, or_false] at ho
  rcases ho with rfl | rfl | rfl
  · rw [objKey_axSpecCtl]
    exact ⟨by omega, by rw [show (8 * 262144 + 49 + 64 * m) % 64 = 49 by omega]; decide⟩
  · rw [objKey_axSpecStat]
    exact ⟨by omega, by rw [show (8 * 262144 + 53 + 64 * m) % 64 = 53 by omega]; decide⟩
  · rw [objKey_axSpecCnt]
    exact ⟨by omega, by rw [show (8 * 262144 + 54 + 64 * m) % 64 = 54 by omega]; decide⟩

theorem apart_key {o p : ObjId} {i m : Nat} (h : laneApart p = true) (ho : o ∈ laneObjs) (hm : m < 48) : objKey o m ≠ objKey p i := by
  obtain ⟨hlt, hres⟩ := laneKey ho hm
  intro e
  rw [e] at hlt hres
  rw [laneApart, Bool.or_eq_true, Bool.and_eq_true, Bool.and_eq_true, decide_eq_true_eq, decide_eq_true_eq, decide_eq_true_eq,
    decide_eq_true_eq] at h
  rcases h with hb | ⟨⟨hs, h1⟩, hr⟩
  · rw [objKey] at hlt
    omega
  · rw [objKey_of_row rfl rfl hs h1, show ((objRow p).block * 262144 + (objRow p).base + 64 * i) % 64 = (objRow p).base % 64 by omega]
      at hres
    exact hr hres

theorem lane_setObj (s : State) (o : ObjId) (i v : Nat) (h : laneApart o = true) : Lane s (setObj s o i v) :=
  ⟨fun f hf _ hm => rd_setObj_apart (apart_key h (laneFlds_obj f hf) hm), fun _ => .refl _⟩

theorem lane_wr (s : State) (f : Fld) (i x : Nat) (h : laneApart f.obj = true) : Lane s (wr s f i x) := lane_setObj s f.obj i _ h
theorem lane_wrB (s : State) (f : Fld) (i : Nat) (b : Bool) (h : laneApart f.obj = true) : Lane s (wrB s f i b) := lane_wr s f i _ h
theorem lane_addSat (s : State) (f : Fld) (i k : Nat) (h : laneApart f.obj = true) : Lane s (addSat s f i k) := lane_wr s f i _ h
theorem lane_incSat (s : State) (f : Fld) (i : Nat) (h : laneApart f.obj = true) : Lane s (incSat s f i) := lane_wr s f i _ h

/-! ## Trips and records -/

theorem AxisTrips.lane {a b : Axis} (h : AxisTrips a b) : AxisLane a b := ⟨h.pwm, h.box, h.slow, h.compl, h.retry⟩

theorem laneKey_free {o : ObjId} {m : Nat} (ho : o ∈ laneObjs) (hm : m < 48) :
    tripKey (objKey o m) = false ∧ objKey o m ∉ recordKeys := by
  simp only [laneObjs, List.mem_cons, List.not_mem_nil, or_false] at ho
  rcases ho with rfl | rfl | rfl
  · refine ⟨?_, key_of_kind (by decide) hm⟩
    rw [objKey_axSpecCtl, tripKey]
    simp
  · refine ⟨?_, key_of_kind (by decide) hm⟩
    rw [objKey_axSpecStat, tripKey]
    simp
  · refine ⟨?_, key_of_kind (by decide) hm⟩
    rw [objKey_axSpecCnt, tripKey]
    simp

theorem Trips.lane {s u : State} (h : Trips s u) : Lane s u :=
  ⟨fun f hf _ hm => h.rd (laneKey_free (laneFlds_obj f hf) hm).1 (laneKey_free (laneFlds_obj f hf) hm).2, fun m => (h.axes m).lane⟩

theorem Quiet.lane {s u : State} (q : Quiet s u) : Lane s u := (trips_quiet q).lane

theorem lane_raise (s : State) (c a g : Nat) : Lane s (raise s c a g) := (quiet_raise s c a g).lane
theorem lane_raiseD (s : State) (c g : Nat) : Lane s (raiseD s c g) := (quiet_raiseD s c g).lane
theorem lane_laneTrip (s : State) (n c : Nat) : Lane s (laneTrip s n c) := (trips_trip s n c srcLane).lane
theorem lane_trigger (s : State) (m c : Nat) (src : Option Src) : Lane s (trigger s m c src) := lane_same rfl rfl

/-! ## Axes -/

theorem lane_setAx (s : State) (n : Nat) (a : Axis) (h : AxisLane (ax s n) a) : Lane s (setAx s n a) := by
  refine ⟨fun _ _ _ _ => rfl, fun m => ?_⟩
  by_cases hm : m = n
  · rw [hm, ax_setAx_same]
    exact h
  · rw [ax_setAx_ne _ _ hm]
    exact .refl _

/-- A change of an axis's loop that leaves its evaluations, or drops them. -/
theorem lane_modLoop (s : State) (n : Nat) (f : AxLoop → AxLoop)
    (hs : (f (ax s n).loop).slow = (ax s n).loop.slow ∨ (f (ax s n).loop).slow = none)
    (hc : (f (ax s n).loop).compl = (ax s n).loop.compl ∨ (f (ax s n).loop).compl = none)
    (hr : (f (ax s n).loop).retry = (ax s n).loop.retry ∨ (f (ax s n).loop).retry = none) : Lane s (modLoop s n f) :=
  lane_setAx s n _ ⟨rfl, .inl rfl, hs, hc, hr⟩

theorem lane_loop (s : State) (n : Nat) (f : AxLoop → AxLoop) (h : ∀ l : AxLoop, (f l).slow = l.slow ∧ (f l).compl = l.compl ∧
    (f l).retry = l.retry) : Lane s (modLoop s n f) :=
  lane_modLoop s n f (.inl (h _).1) (.inl (h _).2.1) (.inl (h _).2.2)

theorem lane_modTrk (s : State) (n : Nat) (f : AxTrk → AxTrk) : Lane s (modTrk s n f) :=
  lane_setAx s n _ ⟨rfl, .inl rfl, .inl rfl, .inl rfl, .inl rfl⟩

theorem lane_modFe (s : State) (n : Nat) (f : AxFe → AxFe) : Lane s (modFe s n f) :=
  lane_setAx s n _ ⟨rfl, .inl rfl, .inl rfl, .inl rfl, .inl rfl⟩

theorem lane_lowGates (s : State) (n : Nat) : Lane s (lowGates s n) :=
  lane_setAx s n _ ⟨rfl, .inl rfl, .inl rfl, .inl rfl, .inl rfl⟩

theorem lane_undoCommit (s : State) (n : Nat) : Lane s (undoCommit s n) := (trips_undoCommit s n).lane

theorem lane_dropEvals (s : State) (n : Nat) : Lane s (dropEvals s n) := by
  unfold dropEvals
  exact ((lane_undoCommit s n).trans (lane_modLoop _ n _ (.inr rfl) (.inr rfl) (.inr rfl))).trans
    (lane_setAx _ n _ ⟨rfl, .inr rfl, .inl rfl, .inl rfl, .inl rfl⟩)

theorem lane_settlePresets (s : State) (n : Nat) : Lane s (settlePresets s n) := by
  unfold settlePresets
  dsimp only
  refine lane_ite (.refl s) (Lane.trans ?_ (Lane.foldl (fun t p => ?_) _ _))
  · exact lane_loop s n _ fun _ => ⟨rfl, rfl, rfl⟩
  · exact lane_loop t n _ fun _ => ⟨rfl, rfl, rfl⟩

/-! ## Set-points and telemetry -/

theorem quiet_qDiscard (s : State) (q n : Nat) : Quiet s (qDiscard s q n).1 := by
  unfold qDiscard
  have h := quiet_readable s q
  generalize readable s q = g at h ⊢
  dsimp only
  split
  · exact .refl s
  · split
    · exact h
    · split
      · exact h.trans (quiet_startReset _ _ _)
      · refine h.trans (Quiet.trans ?_ (quiet_placeMark _ _))
        refine Quiet.trans ?_ (quiet_watermark _ _ _ _)
        refine Quiet.trans ?_ (quiet_foldl _ (fun t x => quiet_noteGone t q x) _ _)
        exact ((quiet_qm g.1 _).trans (quiet_setQd _ _ _)).trans (quiet_cellsBack _ _)

theorem lane_spTake (s : State) (n : Nat) (t : SpTake) : Lane s (spTake s n t) := by
  unfold spTake
  extract_lets q o c r x s1 s2
  have h0 : Lane s r.1 := by
    unfold r
    split
    · exact .refl s
    · exact (quiet_qDiscard s q c.1).lane
  have h1 : Lane r.1 s1 := lane_ite (.refl _) (lane_same rfl rfl)
  have h2 : Lane s1 s2 := lane_addSat s1 _ n _ rfl
  clear_value s1 s2 r
  exact ((h0.trans h1).trans h2).trans (Lane.foldl (fun t k => lane_raise t _ _ _) _ _)

theorem lane_taken (s : State) (n : Nat) (c : Option Commit) : Lane s (taken s n c) := by
  unfold taken
  split
  · exact lane_loop s n _ fun _ => ⟨rfl, rfl, rfl⟩
  · refine Lane.trans ?_ (lane_spTake _ n _)
    exact lane_loop s n _ fun _ => ⟨rfl, rfl, rfl⟩

theorem lane_pushTel (s : State) (n j ns : Nat) : Lane s (pushTel s n j ns) := (quiet_qPushBytes s _ _ _).lane

theorem lane_telFlush (s : State) (n : Nat) : Lane s (telFlush s n) := by
  unfold telFlush
  split
  · refine Lane.trans ?_ (lane_pushTel _ n _ _)
    exact lane_loop s n _ fun _ => ⟨rfl, rfl, rfl⟩
  · exact .refl s

theorem lane_telCount (s : State) (n j ns : Nat) : Lane s (telCount s n j ns) := by
  unfold telCount
  dsimp only
  have h : Lane s (modLoop s n fun l => { l with telCnt := 0 }) := lane_loop s n _ fun _ => ⟨rfl, rfl, rfl⟩
  refine lane_ite (lane_ite (lane_ite (h.trans ?_) (h.trans (lane_pushTel _ n _ _))) ?_) (.refl s)
  · exact lane_loop _ n _ fun _ => ⟨rfl, rfl, rfl⟩
  · exact lane_loop s n _ fun _ => ⟨rfl, rfl, rfl⟩

theorem lane_zeroUnused (s : State) (n : Nat) : Lane s (zeroUnused s n) := by
  unfold zeroUnused
  exact lane_ite (.refl s) (lane_loop s n _ fun _ => ⟨rfl, rfl, rfl⟩)

/-! ## Frames to a twin -/

theorem lane_modRed (s : State) (f : Red → Red) : Lane s (modRed s f) := lane_same rfl rfl

theorem lane_modMem (s : State) (k : Nat) (f : Member → Member) : Lane s (modMem s k f) := lane_modRed s _

theorem lane_noteDue (s : State) (n : Nat) (d : TwinDue) : Lane s (noteDue s n d) := lane_ite (lane_modRed s _) (.refl s)

theorem lane_twinPut (s : State) (k : Nat) (r : List Byte) : Lane s (twinPut s k r) := lane_ite (lane_modMem s k _) (.refl s)

theorem lane_twinAll (s : State) (r : List Byte) : Lane s (twinAll s r) := Lane.foldl (fun t k => lane_twinPut t k r) _ s

theorem lane_twinTell (s : State) (r : List Byte) : Lane s (twinTell s r) := lane_ite (lane_twinAll s r) (.refl s)

theorem lane_tellObj (s : State) (n j : Nat) (o : ObjId) (i : Nat) : Lane s (tellObj s n j o i) :=
  Lane.foldl (fun t _ => lane_twinTell t _) _ s

theorem lane_agreeRun (s : State) (n : Nat) : Lane s (agreeRun s n) := lane_incSat s _ n rfl

theorem lane_disagree (s : State) (n : Nat) : Lane s (disagree s n) := (lane_wr s _ n _ rfl).trans (lane_wr _ _ n _ rfl)

theorem lane_redStop (s : State) : Lane s (redStop s) := lane_trigger s _ _ _

theorem lane_twinMismatch (s : State) (n : Nat) : Lane s (twinMismatch s n) := by
  unfold twinMismatch
  exact ((((lane_modRed s _).trans (lane_twinAll _ _)).trans (lane_incSat _ _ 0 rfl)).trans (lane_raiseD _ _ _)).trans (lane_redStop _)

theorem lane_noMajority (s : State) : Lane s (noMajority s) := (lane_modRed s _).trans (lane_redStop _)

theorem lane_resyncDone (s : State) : Lane s (resyncDone s) := by
  unfold resyncDone
  refine lane_ite ?_ (.refl s)
  exact ((((lane_wr s F.devRedStat_ODD 0 0 rfl).trans (lane_wr _ F.devRedStat_RESYNC 0 0 rfl)).trans (lane_modRed _ _)).trans
    (lane_incSat _ F.devRedCnt_RESYNCS 0 rfl)).trans (lane_raiseD _ _ _)

theorem lane_sendSnap (s : State) (k : Nat) : Lane s (sendSnap s k) :=
  Lane.foldl (fun t _ => (Lane.foldl (fun u _ => lane_twinPut u k _) _ t).trans (lane_twinPut _ k _)) _ s

theorem lane_startHandover (s : State) (h : Bool) : Lane s (startHandover s h) := lane_same rfl rfl

theorem lane_otherOdd (s : State) (k : Nat) : Lane s (otherOdd s k) := by
  unfold otherOdd
  extract_lets wasDriver agreeing first s1 s2
  have h1 : Lane s s1 := lane_ite (lane_twinPut s k _) (.refl s)
  have h2 : Lane s1 s2 := lane_ite (lane_startHandover s1 _) (.refl s1)
  clear_value s1 s2
  exact (h1.trans h2).trans (lane_ite (lane_sendSnap s2 k) (.refl s2))

theorem lane_wantDrv (s : State) (m : Nat) : Lane s (wantDrv s m) :=
  Lane.trans (t := { s with prot := { s.prot with want := m } }) (lane_same rfl rfl) (trips_updDrv _).lane

theorem lane_setRole (s : State) (r : Nat) : Lane s (setRole s r) := by
  unfold setRole
  extract_lets s1
  have h1 : Lane s s1 := (lane_wr s F.devRedStat_EROLE 0 r rfl).trans (lane_modRed _ _)
  clear_value s1
  exact lane_ite (h1.trans (lane_wr s1 F.devRedStat_DRIVER 0 _ rfl)) h1

theorem lane_releaseSelf (s : State) : Lane s (releaseSelf s) := by
  unfold releaseSelf
  extract_lets s1
  have h1 : Lane s s1 := Lane.foldl (fun t n =>
    lane_ite (.refl t) ((trips_enterTripped t n 5).lane.trans (lane_lowGates _ n))) _ s
  clear_value s1
  exact lane_ite (((h1.trans (lane_wantDrv s1 0)).trans (lane_setRole _ _)).trans (lane_wr _ F.devRedStat_RELEASED 0 1 rfl)) (.refl s)

theorem lane_selfOdd (s : State) : Lane s (selfOdd s) := by
  unfold selfOdd
  extract_lets s1 s2 s3 s4
  have h1 : Lane s s1 := (lane_wr s F.devRedStat_ODD 0 1 rfl).trans (lane_raiseD _ _ _)
  have h2 : Lane s1 s2 := Lane.foldl (fun t n => lane_wr t F.axCkStat_AGREE_RUN n 0 rfl) _ s1
  have h3 : Lane s2 s3 := lane_ite (lane_raiseD s2 _ _) (.refl s2)
  have h4 : Lane s3 s4 := (lane_wr s3 F.devRedStat_RESYNC 0 1 rfl).trans (lane_modRed _ _)
  clear_value s1 s2 s3 s4
  exact (((h1.trans h2).trans h3).trans h4).trans (lane_ite (lane_releaseSelf s4) (.refl s4))

theorem lane_setOdd (s : State) (k : Nat) : Lane s (setOdd s k) := by
  unfold setOdd
  extract_lets s1
  have h1 : Lane s s1 := (lane_incSat s F.devRedCnt_DEV_MM 0 rfl).trans (lane_modRed _ _)
  clear_value s1
  exact lane_ite ((lane_modRed s _).trans (lane_redStop _)) (lane_ite (h1.trans (lane_selfOdd s1)) (h1.trans (lane_otherOdd s1 k)))

theorem lane_vote (s : State) (n : Nat) (votes : List (Nat × Nat)) : Lane s (vote s n votes) := by
  have hd (k : Nat) : Lane s (setOdd (disagree s n) k) := (lane_disagree s n).trans (lane_setOdd _ k)
  have hn : Lane s (noMajority (disagree s n)) := (lane_disagree s n).trans (lane_noMajority _)
  unfold vote
  dsimp only
  split
  · exact lane_ite (lane_agreeRun s n) (lane_ite (hd _) (lane_ite (hd _) (lane_ite (hd _) hn)))
  · refine lane_ite (lane_ite (lane_ite ?_ (lane_disagree s n)) (lane_agreeRun s n)) (lane_ite (.refl s) hn)
    exact (lane_agreeRun s n).trans (lane_resyncDone _)
  · exact .refl s

theorem lane_showRed (s : State) : Lane s (showRed s) := by
  unfold showRed
  extract_lets s1 s2 s3
  have h1 : Lane s s1 := lane_wrB s F.devRedStat_OK_OUT 0 _ rfl
  have h2 : Lane s1 s2 := by
    unfold s2
    split
    · exact lane_wrB s1 F.devRedStat_OK_IN 0 _ rfl
    · exact .refl s1
  have h3 : Lane s2 s3 := lane_wrB s2 F.devRedStat_LINK_A 0 _ rfl
  clear_value s1 s2 s3
  exact lane_ite (.refl s) (((h1.trans h2).trans h3).trans (lane_wrB s3 F.devRedStat_LINK_B 0 _ rfl))

/-- The outcome of a comparison of checkpoints. -/
theorem lane_compared (s : State) (n : Nat) (same : Prop) [Decidable same] (votes : List (Nat × Nat)) :
    Lane s (showRed (if redKind s = 1 then (if same then agreeRun s n else twinMismatch (disagree s n) n) else vote s n votes)) := by
  refine Lane.trans ?_ (lane_showRed _)
  exact lane_ite (lane_ite (lane_agreeRun s n) ((lane_disagree s n).trans (lane_twinMismatch _ n))) (lane_vote s n votes)

theorem lane_compareCk (s : State) (n j : Nat) : Lane s (compareCk s n j) := by
  unfold compareCk
  dsimp only
  split
  · exact .refl s
  · split
    · exact .refl s
    · refine Lane.trans ?_ (lane_compared _ n _ _)
      exact (lane_modRed s _).trans (Lane.foldl (fun t k => lane_modMem t k _) _ _)

theorem lane_formCkpt (s : State) (n j : Nat) : Lane s (formCkpt s n j) := by
  unfold formCkpt
  refine lane_ite (.refl s) ?_
  exact ((lane_modRed s _).trans (lane_twinAll _ _)).trans (lane_compareCk _ n _)

theorem lane_twinSend (s : State) (n : Nat) (d : TwinDue) : Lane s (twinSend s n d) := by
  unfold twinSend
  extract_lets v s1 s2 s3
  have h1 : Lane s s1 := lane_ite (.refl s) ((lane_tellObj s n _ _ n).trans (lane_modRed _ _))
  have h2 : Lane s1 s2 := by
    unfold s2
    split
    · exact lane_twinTell s1 _
    · exact .refl s1
  have h3 : Lane s2 s3 := (lane_modRed s2 _).trans (lane_twinTell _ _)
  clear_value s1 s2 s3
  exact ((h1.trans h2).trans h3).trans (lane_formCkpt s3 n _)

theorem lane_twinPass (s : State) (n : Nat) : Lane s (twinPass s n) := by
  unfold twinPass
  exact lane_ite (lane_ite (lane_twinSend s n _) (lane_noteDue s n _)) (.refl s)

theorem lane_twinLate (s : State) (n : Nat) : Lane s (twinLate s n) := by
  unfold twinLate
  split
  · exact lane_ite (lane_twinSend s n _) (.refl s)
  · exact .refl s

/-! ## A pair -/

theorem lane_pairApply (s : State) (n : Nat) : Lane s (pairApply s n) := by
  unfold pairApply
  split
  next => exact .refl s
  next a b _ =>
    extract_lets at_ set told s1
    have hset (t : State) (k p : Nat) : Lane t (set t k p) := (lane_modTrk t k _).trans (lane_wr _ F.axTrkStat_REF k 1 rfl)
    have ht : Lane s told := (lane_twinTell s _).trans (lane_twinTell _ _)
    have h1 : Lane told s1 := by
      refine Lane.trans (hset told n a) ?_
      exact lane_loop _ n _ fun _ => ⟨rfl, rfl, rfl⟩
    clear_value s1 told set
    refine lane_ite ?_ (.refl s)
    split
    · exact (ht.trans h1).trans (hset s1 _ _)
    · refine (ht.trans h1).trans ?_
      exact lane_loop s1 n _ fun _ => ⟨rfl, rfl, rfl⟩

end Sys2Proof.Machine
end

section
/-!
PROOFS. Load points of the PWM timers, the spread, and the low sides of a safe axis (O24). A load point writes the timing once, in
`timerLoad`; what follows it, a miss, the braking, the telemetry and the frame to a twin, leaves the timing.
-/

namespace Sys2Proof.Machine
open Sys2Proof Sys2Proof.Machine

/-! ## Misses -/

/-- What a miss shows, before it settles what waited and perhaps trips. -/
def missed (s : State) (n cause load : Nat) : State :=
  wr (incSat (countMiss (modLoop s n (fun l => { l with spec := none, slow := none, decided := load, wasLate := false })) n cause)
    F.axSpecStat_MISS_RUN n) F.axSpecStat_LAST_MISS n 1

theorem lane_missEval (s : State) (n cause load : Nat) : Lane (missed s n cause load) (missEval s n cause load) := by
  unfold missEval missed
  dsimp only
  generalize wr (incSat (countMiss (modLoop s n _) n cause) F.axSpecStat_MISS_RUN n) F.axSpecStat_LAST_MISS n 1 = u
  have h := (lane_noteDue u n ⟨0, cause + 1, 0, 0, 0, none, false⟩).trans (lane_settlePresets _ n)
  generalize settlePresets (noteDue u n ⟨0, cause + 1, 0, 0, 0, none, false⟩) n = v at h ⊢
  exact lane_ite (h.trans (lane_laneTrip v n 4)) h

/-! ## The timing of an axis -/

/-- `u` has the timing of axis `n` in `s`, its gates perhaps forced, and the lane's setting. -/
structure Timed (n : Nat) (s u : State) : Prop where
  exact_ : rd u F.axSpecCtl_EXACT n = rd s F.axSpecCtl_EXACT n
  pwm : (ax u n).pwm = { (ax s n).pwm with
    safe := (ax u n).pwm.safe, lowOn := (ax u n).pwm.lowOn, brake := (ax u n).pwm.brake, fed := (ax u n).pwm.fed,
    box := (ax u n).pwm.box }

theorem Lane.timed {s u : State} {n : Nat} (h : Lane s u) (hn : n < 48) : Timed n s u :=
  ⟨h.flds _ (by decide) n hn, (h.axes n).pwm⟩

theorem Timed.trans {n : Nat} {s t u : State} (h : Timed n s t) (k : Timed n t u) : Timed n s u := by
  refine ⟨k.exact_.trans h.exact_, ?_⟩
  have := k.pwm
  rw [h.pwm] at this
  exact this

theorem timed_wr (s : State) (n : Nat) (f : Fld) (i x : Nat) (h : objKey .axSpecCtl n ≠ objKey f.obj i) : Timed n s (wr s f i x) :=
  ⟨rd_wr_obj s f F.axSpecCtl_EXACT i n x h, rfl⟩

theorem timed_countMiss (s : State) (n cause : Nat) (hn : n < 48) : Timed n s (countMiss s n cause) := by
  have hcnt := objKey_ne_obj (o := .axSpecCtl) (p := .axSpecCnt) (by decide) hn hn
  have htot := objKey_ne_obj (o := .axSpecCtl) (p := .devSpecTot) (j := 0) (by decide) hn (by decide)
  have hstat := objKey_ne_obj (o := .axSpecCtl) (p := .axSpecStat) (by decide) hn hn
  unfold countMiss
  exact (((timed_wr s n F.axSpecCnt_MISSES n _ hcnt).trans (timed_wr _ n F.devSpecTot_MISS_TOT 0 _ htot)).trans
    (timed_wr _ n F.axSpecStat_MS_CAUSE n cause hstat)).trans ((lane_raise _ _ _ _).timed hn)

theorem timed_missed (s : State) (n cause load : Nat) (hn : n < 48) : Timed n s (missed s n cause load) := by
  have hstat := objKey_ne_obj (o := .axSpecCtl) (p := .axSpecStat) (by decide) hn hn
  unfold missed
  refine Timed.trans (Lane.timed ?_ hn) (((timed_countMiss _ n cause hn).trans (timed_wr _ n F.axSpecStat_MISS_RUN n _ hstat)).trans
    (timed_wr _ n F.axSpecStat_LAST_MISS n 1 hstat))
  exact lane_modLoop s n _ (.inr rfl) (.inl rfl) (.inl rfl)

theorem timed_missEval (s : State) (n cause load : Nat) (hn : n < 48) : Timed n s (missEval s n cause load) :=
  (timed_missed s n cause load hn).trans ((lane_missEval s n cause load).timed hn)

theorem lane_brakeAt (s : State) (n now : Nat) : Lane s (brakeAt s n now) := by
  unfold brakeAt
  refine lane_ite (Lane.trans ?_ (lane_dropEvals _ n)) (.refl s)
  exact lane_setAx s n _ ⟨rfl, .inl rfl, .inl rfl, .inl rfl, .inl rfl⟩

theorem lane_brakeEnds (s : State) (n : Nat) (took : Bool) : Lane s (brakeEnds s n took) :=
  lane_ite (lane_setAx s n _ ⟨rfl, .inl rfl, .inl rfl, .inl rfl, .inl rfl⟩) (.refl s)

theorem lane_curPeriod (s : State) (n : Nat) : Lane s (curPeriod s n) := by
  unfold curPeriod downRange
  exact lane_modFe s n _

/-! ## A load point -/

/-- The timer of axis `n` does not load. -/
def noLoad (s : State) (n : Nat) (peak : Bool) : Bool :=
  !(ax s n).pwm.active || (peak && !(ax s n).pwm.dual) || s.prot.sscWait || s.pwr.pwmLost || s.pwr.coreLost

/-- A load point once the timer has loaded: what is taken, a miss or the braking, and the period's current. -/
def loadBody (s : State) (n : Nat) (peak : Bool) : State :=
  let now := nowTick s
  let was := evaluates s n
  let r := timerLoad s n peak
  let s1 := if was || r.2.isSome then taken r.1 n r.2 else r.1
  let s2 := if was && overdue s1 n now then missEval s1 n 2 now else brakeEnds (brakeAt s1 n now) n r.2.isSome
  if peak then s2 else curPeriod s2 n

/-- What a load point leaves to its end. -/
def loadEnd (s : State) (n now : Nat) : State :=
  let ex := rdB s F.axSpecCtl_EXACT n
  let par := loopPar s n
  let s4 := wrB (modLoop s n (fun l => { l with exact := ex, par := par })) F.axSpecStat_EXACT_ACT n ex
  let s5 := telCount s4 n (ax s4 n).pwm.j (tickNs s4 now)
  twinPass (pairApply (zeroUnused s5 n) n) n

theorem shadowLoad_loads {s : State} {n : Fin 48} {peak : Bool} (core : coreRuns s = true) (h : noLoad s n peak = false) :
    exec (.shadowLoad n peak) s = done (loadEnd (loadBody s n peak) n (nowTick s)) :=
  exec_of_issue core rfl (by
    unfold noLoad at h
    rw [if_neg (by rw [h]; exact Bool.false_ne_true)]
    rfl)

theorem timed_loadBody (s : State) (n : Nat) (peak : Bool) (hn : n < 48) : Timed n (timerLoad s n peak).1 (loadBody s n peak) := by
  unfold loadBody
  extract_lets now was r s1 s2
  have h1 : Timed n r.1 s1 := (lane_ite (lane_taken r.1 n r.2) (.refl r.1)).timed hn
  have h2 : Timed n s1 s2 := by
    unfold s2
    split
    · exact timed_missEval s1 n 2 now hn
    · exact ((lane_brakeAt s1 n now).trans (lane_brakeEnds _ n _)).timed hn
  clear_value s1 s2
  exact (h1.trans h2).trans ((lane_ite (.refl s2) (lane_curPeriod s2 n)).timed hn)

/-- The end of a load point leaves the timing and shows the setting. -/
theorem timed_loadEnd (s : State) (n now : Nat) (hn : n < 48) : Timed n s (loadEnd s n now) ∧
    rd (loadEnd s n now) F.axSpecStat_EXACT_ACT n = rd s F.axSpecCtl_EXACT n := by
  unfold loadEnd
  extract_lets ex par s4 s5
  have hstat := objKey_ne_obj (o := .axSpecCtl) (p := .axSpecStat) (by decide) hn hn
  have h4 : Timed n s s4 := by
    refine Timed.trans (Lane.timed ?_ hn) (timed_wr _ n F.axSpecStat_EXACT_ACT n _ hstat)
    exact lane_loop s n _ fun _ => ⟨rfl, rfl, rfl⟩
  have he : rd s4 F.axSpecStat_EXACT_ACT n = rd s F.axSpecCtl_EXACT n := by
    have hb := rd_lt s F.axSpecCtl_EXACT n
    unfold s4
    rw [wrB, rd_wr_same]
    unfold ex
    rw [rdB]
    generalize rd s F.axSpecCtl_EXACT n = x at hb ⊢
    have hx : x = 0 ∨ x = 1 := by
      have : x < 2 := hb
      omega
    rcases hx with rfl | rfl <;> rfl
  have h5 : Lane s4 s5 := lane_telCount s4 n _ _
  clear_value s4 s5
  have hl : Lane s4 (twinPass (pairApply (zeroUnused s5 n) n) n) :=
    ((h5.trans (lane_zeroUnused s5 n)).trans (lane_pairApply _ n)).trans (lane_twinPass _ n)
  exact ⟨h4.trans (hl.timed hn), (hl.flds _ (by decide) n hn).trans he⟩

theorem pwm_modPwm (s : State) (n : Nat) (f : AxPwm → AxPwm) : (ax (modPwm s n f) n).pwm = f (ax s n).pwm := by
  rw [modPwm, ax_setAx_same]

/-- Without a compare value, a phase rises at a valley where it fell last. -/
theorem phaseLoad_valley (p : AxPwm) (x : Phase) : (phaseLoad p false none x).rise = x.fall := by
  unfold phaseLoad
  dsimp only
  split <;> rfl

/-- Without a compare value, a phase falls at a peak where it rose. -/
theorem phaseLoad_peak {p : AxPwm} (h : p.dual = true) (x : Phase) : (phaseLoad p true none x).fall = x.rise := by
  unfold phaseLoad
  dsimp only
  rw [if_neg (by rw [h]; decide)]
  rfl

theorem takeBox_empty {p : AxPwm} (h : p.box = []) (now : Nat) : takeBox p now = (none, []) := by
  rw [takeBox, h]

/-- What the timer loads. -/
theorem timerLoad_pwm (s : State) (n : Nat) (peak : Bool) (hd : peak = true → (ax s n).pwm.dual = true) :
    let p := (ax (timerLoad s n peak).1 n).pwm
    p.loadAt = nowTick s ∧ p.valley = (if peak then (ax s n).pwm.valley else nowTick s) ∧
      p.j = (if (ax s n).pwm.loadAt = 0 then 0 else (ax s n).pwm.j + 1) ∧
      p.half = (if peak then (ax s n).pwm.half else rd s F.axPwmTim_HALF n) ∧
      ((ax s n).pwm.box = [] → peak = false → p.u.rise = (ax s n).pwm.u.fall) ∧
      ((ax s n).pwm.box = [] → peak = true → p.u.fall = (ax s n).pwm.u.rise) := by
  unfold timerLoad
  dsimp only
  rw [pwm_modPwm]
  cases peak with
  | true =>
    refine ⟨rfl, rfl, rfl, rfl, fun _ h => absurd h (by decide), fun hb _ => ?_⟩
    simp only [if_true, takeBox_empty hb, Option.map_none]
    exact phaseLoad_peak (hd rfl) _
  | false =>
    refine ⟨rfl, rfl, rfl, rfl, fun hb _ => ?_, fun _ h => absurd h (by decide)⟩
    rw [if_neg (by decide), takeBox_empty (by exact hb)]
    exact phaseLoad_valley _ _

theorem timerLoad_regs (s : State) (n : Nat) (peak : Bool) : (timerLoad s n peak).1.regs = s.regs := rfl

/-- What a load point shows at its end: the timing that the timer loaded, and the setting. -/
theorem loaded_shows (s : State) (n : Nat) (peak : Bool) (hn : n < 48) :
    Timed n (timerLoad s n peak).1 (loadEnd (loadBody s n peak) n (nowTick s)) ∧
      rd (loadEnd (loadBody s n peak) n (nowTick s)) F.axSpecStat_EXACT_ACT n = rd s F.axSpecCtl_EXACT n := by
  have h := timed_loadBody s n peak hn
  obtain ⟨he, hx⟩ := timed_loadEnd (loadBody s n peak) n (nowTick s) hn
  exact ⟨h.trans he, (hx.trans h.exact_).trans (rd_of_regs (timerLoad_regs s n peak) _ _)⟩

/-- Settles O24: what follows the load of the timer leaves the timing of its axis. -/
theorem timerLoads : Obligations.TimerLoads := by
  refine ⟨fun s n peak core => ⟨fun h => ?_, fun ha hd hs hp => ?_⟩, fun s core => ⟨?_, fun n hs hk => ?_, fun n h => ?_⟩⟩
  · refine ends_of_idle core rfl (if_pos ?_)
    rcases h with h | ⟨h, k⟩ | h | h
    · rw [h]; rfl
    · rw [h, k]; simp
    · rw [h]; simp
    · rw [h]; simp
  · have hl : noLoad s n peak = false := by
      have hc : s.pwr.coreLost = false := by
        rw [coreRuns, Bool.and_eq_true, Bool.not_eq_true', Bool.not_eq_true'] at core
        exact core.2
      rw [noLoad, ha, hs, hp, hc]
      cases peak with
      | true => rw [hd rfl]; rfl
      | false => rfl
    obtain ⟨ht, hx⟩ := loaded_shows s n peak n.isLt
    obtain ⟨t, he, q⟩ := done_quiet (loadEnd (loadBody s n peak) n (nowTick s))
    obtain ⟨hat, hv, hj, hh, hr, hf⟩ := timerLoad_pwm s n peak hd
    have hpwm := ht.pwm
    rw [← q.ax] at hpwm
    refine ⟨t, (shadowLoad_loads core hl).trans he, ?_, ?_, ?_, ?_, by rw [hpwm], by rw [hpwm], by rw [hpwm], fun h k => ?_,
      fun h k => ?_, (q.rd_kind (by decide) n.isLt).trans hx⟩
    all_goals rw [hpwm]
    · exact hat
    · exact hv
    · exact hj
    · exact hh
    · exact hr h k
    · exact hf h k
  · obtain ⟨t, he, q⟩ := done_quiet { s with prot := { s.prot with ssc := rd s F.devPwmCfg_SSC 0, sscWait := false } }
    exact ⟨t, exec_of_issue core rfl he, q⟩
  · obtain ⟨t, he, q⟩ := done_quiet (modPwm s n (fun p => { p with lowOn := true }))
    refine ⟨t, exec_of_issue core rfl (by rw [hs, decide_eq_true hk]; exact he), ?_, ?_, fun m hm => ?_⟩
    · rw [q.ax, pwm_modPwm]
    · rw [q.axes]
      exact q
    · rw [q.ax, modPwm, ax_setAx_ne _ _ hm]
  · refine ends_of_idle core rfl (congrArg done (if_neg ?_))
    rcases h with h | h
    · rw [h]; exact Bool.false_ne_true
    · rw [decide_eq_false h]; simp

end Sys2Proof.Machine
end

section
/-!
SUPPORT. The results that wait in the C1 ring (`results`): only the end of a conversion and the read of a slot change them. One lemma for
each operation of a slot's read and of the decision that follows it, up to a trip, which `Trips` covers.
-/

namespace Sys2Proof.Machine
open Sys2Proof Sys2Proof.Machine

/-- The results that wait to be read. -/
def results (s : State) : List (Nat × List C1Ent) := s.c1

@[simp] theorem results_ite (c : Prop) [Decidable c] (s t : State) :
    results (if c then s else t) = if c then results s else results t := by split <;> rfl

@[simp] theorem results_ite_fst {α : Type} (c : Prop) [Decidable c] (s t : State × α) :
    results (if c then s else t).1 = if c then results s.1 else results t.1 := by split <;> rfl

@[simp] theorem results_foldl {α : Type} (f : State → α → State) (l : List α) (s : State) (h : ∀ s a, results (f s a) = results s) :
    results (l.foldl f s) = results s := by
  induction l generalizing s with
  | nil => rfl
  | cons a l ih => rw [List.foldl_cons, ih, h]

theorem Quiet.results_eq {s u : State} (q : Quiet s u) : results u = results s := q.c1

theorem Trips.results_eq {s u : State} (h : Trips s u) : results u = results s := by rw [results, results, h.rest]

@[simp] theorem results_of_mk (s : State) (pe re pw nv ct lo qm ms ax gr au xo en co pr mo pb rd pl le sv fa) :
    results ⟨pe, re, pw, nv, ct, lo, qm, ms, ax, gr, au, xo, en, co, s.c1, pr, mo, pb, rd, pl, le, sv, fa⟩ = results s := by
  rw [results, results]

@[simp] theorem results_raise (s : State) (code axis arg : Nat) : results (raise s code axis arg) = results s :=
  (quiet_raise _ _ _ _).results_eq
@[simp] theorem results_raiseD (s : State) (code arg : Nat) : results (raiseD s code arg) = results s :=
  (quiet_raiseD _ _ _).results_eq
@[simp] theorem results_undoCommit (s : State) (n : Nat) : results (undoCommit s n) = results s := (trips_undoCommit s n).results_eq
@[simp] theorem results_laneTrip (s : State) (n cause : Nat) : results (laneTrip s n cause) = results s :=
  (trips_trip s n cause srcLane).results_eq
@[simp] theorem results_setObj (s : State) (o : ObjId) (i v : Nat) : results (setObj s o i v) = results s := by simp [setObj]
@[simp] theorem results_wr (s : State) (f : Fld) (i x : Nat) : results (wr s f i x) = results s := by simp [wr]
@[simp] theorem results_addSat (s : State) (f : Fld) (i k : Nat) : results (addSat s f i k) = results s := by simp [addSat]
@[simp] theorem results_incSat (s : State) (f : Fld) (i : Nat) : results (incSat s f i) = results s := by simp [incSat]
@[simp] theorem results_addWrap (s : State) (f : Fld) (i k : Nat) : results (addWrap s f i k) = results s := by simp [addWrap]
@[simp] theorem results_stick (s : State) (f : Fld) (i : Nat) : results (stick s f i) = results s := by simp [stick]
@[simp] theorem results_stickMask (s : State) (f : Fld) (i m : Nat) : results (stickMask s f i m) = results s := by simp [stickMask]
@[simp] theorem results_draw (s : State) : results (draw s) = results s := by simp [draw]
@[simp] theorem results_drawBool (s : State) : results (drawBool s).1 = results s := by simp [drawBool]
@[simp] theorem results_trigger (s : State) (target cause : Nat) (src : Option Src) :
    results (trigger s target cause src) = results s := by
  simp [trigger]
@[simp] theorem results_setAx (s : State) (n : Nat) (a : Axis) : results (setAx s n a) = results s := by simp [setAx]
@[simp] theorem results_modExc (s : State) (n : Nat) (f : AxExc → AxExc) : results (modExc s n f) = results s := by simp [modExc]
@[simp] theorem results_modFe (s : State) (n : Nat) (f : AxFe → AxFe) : results (modFe s n f) = results s := by simp [modFe]
@[simp] theorem results_modFlt (s : State) (n : Nat) (f : AxFlt → AxFlt) : results (modFlt s n f) = results s := by simp [modFlt]
@[simp] theorem results_setAux (s : State) (k : Nat) (x : Aux) : results (setAux s k x) = results s := by simp [setAux]
@[simp] theorem results_upRange (s : State) (n : Nat) (cur : Bool) (x : Int) (clamp : Bool) (t : Nat) :
    results (upRange s n cur x clamp t) = results s := by
  simp [upRange]
@[simp] theorem results_downRange (s : State) (n : Nat) (cur low : Bool) (limit t : Nat) :
    results (downRange s n cur low limit t) = results s := by
  simp [downRange]
@[simp] theorem results_modPwm (s : State) (n : Nat) (f : AxPwm → AxPwm) : results (modPwm s n f) = results s := by simp [modPwm]
@[simp] theorem results_modLoop (s : State) (n : Nat) (f : AxLoop → AxLoop) : results (modLoop s n f) = results s := by simp [modLoop]
@[simp] theorem results_modRed (s : State) (f : Red → Red) : results (modRed s f) = results s := by simp [modRed]
@[simp] theorem results_modMem (s : State) (k : Nat) (f : Member → Member) : results (modMem s k f) = results s := by simp [modMem]
@[simp] theorem results_twinPut (s : State) (k : Nat) (r : List Byte) : results (twinPut s k r) = results s := by simp [twinPut]
@[simp] theorem results_twinAll (s : State) (r : List Byte) : results (twinAll s r) = results s := by simp [twinAll]
@[simp] theorem results_twinTell (s : State) (r : List Byte) : results (twinTell s r) = results s := by simp [twinTell]
@[simp] theorem results_noteDue (s : State) (n : Nat) (d : TwinDue) : results (noteDue s n d) = results s := by simp [noteDue]

@[simp] theorem results_auxRead (s : State) (k : Nat) (x : Int) (tag : Nat) (st : Strobe) :
    results (auxRead s k x tag st) = results s := by
  simp [auxRead]
@[simp] theorem results_setResChain (s : State) (n : Nat) (cos : Bool) (c : Chain) : results (setResChain s n cos c) = results s := by
  simp [setResChain]
@[simp] theorem results_clearRes (s : State) (n : Nat) (cos : Bool) (st : Strobe) : results (clearRes s n cos st) = results s := by
  simp [clearRes]
@[simp] theorem results_meanAt (s : State) (sum cnt : Nat) : results (meanAt s sum cnt).1 = results s := by simp [meanAt]
@[simp] theorem results_midAt (s : State) (a b : Int) : results (midAt s a b).1 = results s := by simp [midAt]
@[simp] theorem results_decideExc (s : State) (n : Nat) (sine : Bool) : results (decideExc s n sine) = results s := by
  simp [decideExc]
@[simp] theorem results_fallBack (s : State) (n : Nat) : results (fallBack s n) = results s := by simp [fallBack]
@[simp] theorem results_squareCheck (s : State) (n : Nat) (pS pC : Int) : results (squareCheck s n pS pC).1 = results s := by
  simp [squareCheck]
@[simp] theorem results_countShort (s : State) (n cfg : Nat) (y : Smp) : results (countShort s n cfg y) = results s := by
  simp [countShort]
@[simp] theorem results_centroids (s : State) (n : Nat) (st : Strobe) : results (centroids s n st).1 = results s := by
  simp [centroids]
@[simp] theorem results_plateauDone (s : State) (n : Nat) (st : Strobe) (pC : Plateau) :
    results (plateauDone s n st pC) = results s := by
  simp [plateauDone]
@[simp] theorem results_corrDone (s : State) (n : Nat) (st : Strobe) (pC : Plateau) : results (corrDone s n st pC) = results s := by
  simp [corrDone]
@[simp] theorem results_resOut (s : State) (n : Nat) (cos : Bool) (st : Strobe) (y : Smp) :
    results (resOut s n cos st y) = results s := by
  simp [resOut]
@[simp] theorem results_closeHalf (s : State) (n : Nat) (st : Strobe) : results (closeHalf s n st) = results s := by simp [closeHalf]
@[simp] theorem results_noteRing (s : State) (n : Nat) (cos : Bool) (st : Strobe) (x : Smp) :
    results (noteRing s n cos st x) = results s := by
  simp [noteRing]
@[simp] theorem results_resRange (s : State) (n : Nat) (cos : Bool) (st : Strobe) (x : Smp) :
    results (resRange s n cos st x) = results s := by
  simp [resRange]
@[simp] theorem results_noteKept (s : State) (n : Nat) (cos : Bool) (st : Strobe) (fed : Option Smp) :
    results (noteKept s n cos st fed) = results s := by
  unfold noteKept; split <;> simp
@[simp] theorem results_emitted (s : State) (n : Nat) (cos : Bool) : results (emitted s n cos) = results s := by simp [emitted]
@[simp] theorem results_flushCut (s : State) (n : Nat) (cos : Bool) (st : Strobe) : results (flushCut s n cos st) = results s := by
  unfold flushCut; dsimp only; repeat' split
  all_goals simp
@[simp] theorem results_feedRes (s : State) (n : Nat) (cos : Bool) (st : Strobe) (smp : Smp) :
    results (feedRes s n cos st smp) = results s := by
  unfold feedRes; dsimp only; split <;> simp
@[simp] theorem results_resRead (s : State) (n : Nat) (cos : Bool) (x : Int) (tag : Nat) (st : Strobe) :
    results (resRead s n cos x tag st) = results s := by
  simp [resRead]
@[simp] theorem results_curRange (s : State) (n : Nat) (isB : Bool) (st : Strobe) (x : Smp) :
    results (curRange s n isB st x) = results s := by
  simp [curRange]
@[simp] theorem results_curRead (s : State) (n : Nat) (isB : Bool) (x : Int) (tag : Nat) (st : Strobe) :
    results (curRead s n isB x tag st) = results s := by
  simp [curRead]
@[simp] theorem results_settlePresets (s : State) (n : Nat) : results (settlePresets s n) = results s := by simp [settlePresets]
@[simp] theorem results_countMiss (s : State) (n cause : Nat) : results (countMiss s n cause) = results s := by simp [countMiss]
@[simp] theorem results_missEval (s : State) (n cause load : Nat) : results (missEval s n cause load) = results s := by
  simp [missEval]
@[simp] theorem results_pairMiss (s : State) (n : Nat) (k : EvKind) : results (pairMiss s n k) = results s := by simp [pairMiss]
@[simp] theorem results_laneMismatch (s : State) (n : Nat) (commit : Bool) (c : Cmp) :
    results (laneMismatch s n commit c) = results s := by
  simp [laneMismatch]
@[simp] theorem results_pHat (s : State) (n load : Nat) : results (pHat s n load).1 = results s := by simp [pHat]
@[simp] theorem results_meets (s : State) (n load : Nat) (c : Int) : results (meets s n load c).1 = results s := by simp [meets]
@[simp] theorem results_commit (s : State) (n : Nat) (e : Eval) (late : Bool) : results (commit s n e late) = results s := by
  simp [commit]
@[simp] theorem results_startSlow (s : State) (n : Nat) (e : Eval) (c : Int) : results (startSlow s n e c) = results s := by
  simp [startSlow]
@[simp] theorem results_countSquash (s : State) (n cause : Nat) : results (countSquash s n cause) = results s := by simp [countSquash]
@[simp] theorem results_decideEval (s : State) (n load t : Nat) (cmp : Cmp) : results (decideEval s n load t cmp) = results s := by
  unfold decideEval; dsimp only; repeat' split
  all_goals simp

end Sys2Proof.Machine
end

section
/-!
PROOFS. The precompute and the read of a filter slot, on to O23.
-/

namespace Sys2Proof.Machine
open Sys2Proof Sys2Proof.Machine

/-! ## The precompute -/

theorem pairMiss_none {s : State} {n : Nat} {k : EvKind} (h : roleOf s n ≠ 1 ∨ k.pairOk = true) : pairMiss s n k = s := by
  rw [pairMiss, if_neg]
  rcases h with h | h
  · simp [h]
  · simp [h]

section
variable {s : State} {n : Fin 48} (core : coreRuns s = true)
include core

theorem precompute_idle (h : mayPrecompute s n = false) : Ends s (.precompute n) s :=
  ends_of_idle core rfl (if_neg (by rw [h]; exact Bool.false_ne_true))

theorem precompute_fills (h : mayPrecompute s n = true) (hp : roleOf s n ≠ 1 ∨ (precomputed s n).kind.pairOk = true) :
    Completes s (.precompute n) (fun t => (ax t n).loop.spec = some (precomputed s n) ∧
      Quiet { draws s 4 with axes := t.axes } t ∧ ∀ m, m ≠ n.val → ax t m = ax s m) := by
  have hu : ∀ r : Spec, roleOf s n ≠ 1 ∨ r.kind.pairOk = true →
      pairMiss (modLoop (draws s 4) n (fun l => { l with spec := some r })) n r.kind =
        modLoop (draws s 4) n (fun l => { l with spec := some r }) := fun r hr => pairMiss_none hr
  obtain ⟨t, ht, q⟩ := done_quiet (modLoop (draws s 4) n (fun l => { l with spec := some (precomputed s n) }))
  refine ⟨t, exec_of_issue core rfl ?_, ?_, ?_, fun m hm => ?_⟩
  · rw [if_pos h]
    exact (congrArg done (hu _ hp)).trans ht
  · rw [q.ax, modLoop, ax_setAx_same]
  · rw [q.axes]
    exact q
  · rw [q.ax, modLoop, ax_setAx_ne _ _ hm]
    rfl

/-! ## The read of a filter slot -/

variable {slot : Fin 200} {cmp : Cmp}

theorem filterSlotRead_none (h : noRead s slot = true) : Ends s (.filterSlotRead slot cmp) s :=
  ends_of_idle core rfl (if_pos h)

omit core in
/-- A result that waits is read. -/
theorem noRead_of_result {slot : Nat} {x : C1Ent} {xs : List C1Ent} (h : mget [] s.c1 slot = x :: xs) : noRead s slot = false := by
  unfold noRead
  split
  · rw [h]
    simp
  · rfl

theorem filterSlotRead_reads (h : noRead s slot = false)
    (hs : 192 ≤ slot.val ∨ slot.val % 4 ≠ 3 ∨ (ax (slotRead s slot).1 (slot.val / 4)).loop.sel = none) :
    Ends s (.filterSlotRead slot cmp) (slotRead s slot).1 := by
  obtain ⟨t, ht, q⟩ := done_quiet (slotRead s slot).1
  refine ⟨t, exec_of_issue core rfl ?_, q⟩
  rw [if_neg (by rw [h]; exact Bool.false_ne_true)]
  split
  next hc =>
    rcases hs with hs | hs | hs
    · omega
    · exact absurd hc.2 hs
    · rw [hs]
      exact ht
  next => exact ht

/-- The read of IB whose strobe a load point selects decides. -/
theorem filterSlotRead_decides {u : State} {load : Nat} (hslot : slot.val < 192 ∧ slot.val % 4 = 3) (h : noRead s slot = false)
    (hu : u = modLoop (slotRead s slot).1 (slot.val / 4) (fun l => { l with selAt := (slotRead s slot).2.at_ }))
    (hsel : (ax u (slot.val / 4)).loop.sel = some load) (he : evaluates u (slot.val / 4) = true) :
    Ends s (.filterSlotRead slot cmp) (decideEval u (slot.val / 4) load (slotRead s slot).2.at_ cmp) := by
  obtain ⟨t, ht, q⟩ := done_quiet (decideEval u (slot.val / 4) load (slotRead s slot).2.at_ cmp)
  have hsel' : (ax (slotRead s slot).1 (slot.val / 4)).loop.sel = some load := by
    rw [hu, modLoop, ax_setAx_same] at hsel
    exact hsel
  refine ⟨t, exec_of_issue core rfl ?_, q⟩
  rw [if_neg (by rw [h]; exact Bool.false_ne_true), if_pos hslot, hsel']
  dsimp only
  rw [← hu, if_pos (by rw [he]; rfl)]
  exact ht

omit core in
theorem results_slotRead (s : State) (slot : Nat) : results (slotRead s slot).1 = results (takeResult s slot).1 := by
  unfold slotRead
  dsimp only
  split <;> simp

omit core in
theorem results_takeResult {slot : Nat} {x : C1Ent} {xs : List C1Ent} (h : mget [] s.c1 slot = x :: xs) :
    results (takeResult s slot).1 = mset [] s.c1 slot xs := by
  unfold takeResult
  rw [h]
  rfl

/-- Whatever a read leads to, its state is that of the read but for what no decision changes. -/
theorem filterSlotRead_keeps (h : noRead s slot = false) : ∃ u, exec (.filterSlotRead slot cmp) s = done u ∧
    results u = results (slotRead s slot).1 ∧ held u = held s := by
  have hx : exec (.filterSlotRead slot cmp) s = _ := exec_of_issue core rfl (if_neg (by rw [h]; exact Bool.false_ne_true))
  rw [hx]
  split
  · split
    · dsimp only
      split
      · exact ⟨_, rfl, by simp, by simp⟩
      · exact ⟨_, rfl, by simp, by simp⟩
    · exact ⟨_, rfl, rfl, by simp⟩
  · exact ⟨_, rfl, rfl, by simp⟩

theorem filterSlotRead_takes {x : C1Ent} {xs : List C1Ent} (h : mget [] s.c1 slot = x :: xs) :
    Completes s (.filterSlotRead slot cmp) (fun t => mget [] t.c1 slot = xs ∧
      (∀ k, k ≠ slot.val → mget [] t.c1 k = mget [] s.c1 k) ∧ t.nv = s.nv ∧ t.pwr = s.pwr) := by
  obtain ⟨u, hu, hr, hh⟩ := filterSlotRead_keeps (cmp := cmp) core (noRead_of_result h)
  obtain ⟨t, ht, q⟩ := done_quiet u
  have hc : t.c1 = mset [] s.c1 slot xs := by
    rw [q.c1]
    exact (hr.trans (results_slotRead s slot)).trans (results_takeResult h)
  have hk : held t = held s := q.held_eq.trans hh
  refine ⟨t, hu.trans ht, ?_, fun k hkn => ?_, nv_of_held hk, pwr_of_held hk⟩
  · rw [hc, mget_mset_same]
  · rw [hc, mget_mset_ne _ _ _ _ _ _ hkn]

end

end Sys2Proof.Machine
end

section
/-!
SUPPORT. What an evaluation that advances the state leaves: the lane's fields (`Lane`), the axes that drive on with their mailboxes
(`Drives`), and the run of mismatches of an axis while frames go to a twin (`Agreed`).
-/

namespace Sys2Proof.Machine
open Sys2Proof Sys2Proof.Machine

/-! ## A change of mode that ends the driving -/

theorem lane_modFlt (s : State) (n : Nat) (f : AxFlt → AxFlt) : Lane s (modFlt s n f) :=
  lane_setAx s n _ ⟨rfl, .inl rfl, .inl rfl, .inl rfl, .inl rfl⟩

theorem lane_safeGates (s : State) (n : Nat) : Lane s (safeGates s n) :=
  lane_setAx s n _ ⟨rfl, .inl rfl, .inl rfl, .inl rfl, .inl rfl⟩

theorem lane_setMode (s : State) (n m cause : Nat) : Lane s (setMode s n m cause) :=
  ((lane_wr s F.axMode_PREV n _ rfl).trans (lane_wr _ F.axMode_MODE n m rfl)).trans (lane_wr _ F.axMode_CAUSE n cause rfl)

theorem lane_obsClear (s : State) (n : Nat) : Lane s (obsClear s n) := by
  unfold obsClear
  dsimp only
  exact Lane.trans (Lane.trans (lane_setObj s .axTrkStat n _ rfl) (lane_modTrk _ n _)) (lane_modFlt _ n _)

theorem lane_obsStop (s : State) (n : Nat) : Lane s (obsStop s n) := by
  unfold obsStop
  exact (lane_setObj s .axTrkStat n _ rfl).trans (lane_modTrk _ n _)

theorem lane_modeTrack (s : State) (n old m : Nat) : Lane s (modeTrack s n old m) :=
  lane_ite (lane_obsClear s n) (lane_ite (lane_obsStop s n) (.refl s))

/-- The gates of a mode that does not drive. -/
theorem lane_modeGates (s : State) (n : Nat) {m : Nat} (was : Bool) (h : isDriving m = false) : Lane s (modeGates s n m was) := by
  unfold modeGates
  rw [if_neg (by rw [h]; exact Bool.false_ne_true)]
  exact lane_ite (.refl s) (lane_ite (lane_safeGates s n) (lane_lowGates s n))

/-- A change to a mode that does not drive, in its steps. -/
theorem takeMode_ends (s : State) (n : Nat) {m : Nat} (cause : Nat) (h : isDriving m = false) :
    takeMode s n m cause = modLoop (wr (wr (modeTrack (modeGates (setMode (dropEvals s n) n m cause) n m (isDriving (axMode s n)))
      n (axMode s n) m) F.axMode_HELD n 0) F.axMode_STOPPING n 0) n (fun l => { l with gearHeld := false, stopCnt := 0 }) := by
  unfold takeMode
  dsimp only
  rw [h]
  rfl

theorem lane_takeMode (s : State) (n : Nat) {m : Nat} (cause : Nat) (h : isDriving m = false) : Lane s (takeMode s n m cause) := by
  rw [takeMode_ends s n cause h]
  refine Lane.trans (Lane.trans (Lane.trans ?_ (lane_wr _ F.axMode_HELD n 0 rfl)) (lane_wr _ F.axMode_STOPPING n 0 rfl))
    (lane_loop _ n _ (by exact fun _ => ⟨rfl, rfl, rfl⟩))
  exact (((lane_dropEvals s n).trans (lane_setMode _ n m cause)).trans (lane_modeGates _ n _ h)).trans (lane_modeTrack _ n _ m)

theorem lane_stopDrv (s : State) : Lane s (stopDrv s) := lane_ite (lane_wantDrv s _) (.refl s)

theorem lane_stopAxis (s : State) (n cause : Nat) : Lane s (stopAxis s n cause) :=
  (lane_takeMode s n cause (by decide)).trans (lane_stopDrv _)

theorem lane_stopPair (s : State) (n cause : Nat) : Lane s (stopPair s n cause) :=
  Lane.foldl (fun t k => lane_ite (lane_stopAxis t k cause) (.refl t)) _ s

/-! ## Axes that drive on -/

/-- Beside the axes of `K`, what drives in `u` drove in `s`, with its mailbox. -/
def DrivesBut (K : Nat → Prop) (s u : State) : Prop :=
  ∀ m < 48, ¬ K m → driving u m = true → driving s m = true ∧ (ax u m).pwm.box = (ax s m).pwm.box

/-- What drives in `u` drove in `s`, with its mailbox. -/
def Drives (s u : State) : Prop := DrivesBut (fun _ => False) s u

section
variable {K : Nat → Prop}

theorem DrivesBut.refl (s : State) : DrivesBut K s s := fun _ _ _ h => ⟨h, rfl⟩

theorem DrivesBut.trans {s t u : State} (h : DrivesBut K s t) (k : DrivesBut K t u) : DrivesBut K s u := fun m hm hk hd => by
  obtain ⟨k1, k2⟩ := k m hm hk hd
  obtain ⟨h1, h2⟩ := h m hm hk k1
  exact ⟨h1, k2.trans h2⟩

theorem Drives.drivesBut {s u : State} (h : Drives s u) : DrivesBut K s u := fun m hm _ hd => h m hm id hd

/-- With the axes of `K` no longer driving, all is kept. -/
theorem DrivesBut.drives {s u : State} (h : DrivesBut K s u) (hk : ∀ m < 48, K m → driving u m = false) : Drives s u := fun m hm _ hd =>
  h m hm (fun k => by rw [hk m hm k] at hd; exact Bool.noConfusion hd) hd

theorem drivesBut_ite {s t u : State} {c : Prop} [Decidable c] (h : DrivesBut K s t) (k : DrivesBut K s u) : DrivesBut K s (if c then t else u) := by
  split
  · exact h
  · exact k

theorem drivesBut_same {s u : State} (hr : u.regs = s.regs) (ha : u.axes = s.axes) : DrivesBut K s u := fun m _ _ hd => by
  have hm : axMode u m = axMode s m := rd_of_regs hr _ _
  rw [driving, hm] at hd
  exact ⟨hd, by rw [ax, ax, ha]⟩

theorem drivesBut_setAx (s : State) (n : Nat) (a : Axis) (h : K n ∨ a.pwm.box = (ax s n).pwm.box) : DrivesBut K s (setAx s n a) :=
  fun m _ hk hd => by
  refine ⟨hd, ?_⟩
  by_cases hm : m = n
  · rw [hm, ax_setAx_same]
    exact h.resolve_left (hm ▸ hk)
  · rw [ax_setAx_ne _ _ hm]

theorem drivesBut_modLoop (s : State) (n : Nat) (f : AxLoop → AxLoop) : DrivesBut K s (modLoop s n f) := drivesBut_setAx s n _ (.inr rfl)

/-- A register write that leaves every mode. -/
theorem drivesBut_mode {s u : State} (ha : u.axes = s.axes) (hm : ∀ m < 48, ¬ K m → axMode u m = axMode s m) : DrivesBut K s u :=
  fun m hl hk hd => by
  rw [driving, hm m hl hk] at hd
  exact ⟨hd, by rw [ax, ax, ha]⟩

/-- An object whose keys are those of no axis's mode, whatever its index. -/
def modeApart (o : ObjId) : Bool :=
  decide (9 ≤ (objRow o).block) ||
    (decide ((objRow o).stride = 64) && decide ((objRow o).sub = 1) && decide ((objRow o).base % 64 ≠ 0))

theorem modeApart_key {o : ObjId} {i m : Nat} (h : modeApart o = true) (hm : m < 48) : objKey .axMode m ≠ objKey o i := by
  rw [objKey_axMode]
  rw [modeApart, Bool.or_eq_true, Bool.and_eq_true, Bool.and_eq_true, decide_eq_true_eq, decide_eq_true_eq, decide_eq_true_eq,
    decide_eq_true_eq] at h
  rcases h with hb | ⟨⟨hs, h1⟩, hr⟩
  · rw [objKey]
    omega
  · rw [objKey_of_row rfl rfl hs h1]
    omega

theorem drivesBut_setObj (s : State) (o : ObjId) (i v : Nat) (h : modeApart o = true) : DrivesBut K s (setObj s o i v) :=
  drivesBut_mode rfl fun _ hm _ => rd_setObj_apart (modeApart_key h hm)

theorem drivesBut_wr (s : State) (f : Fld) (i x : Nat) (h : modeApart f.obj = true) : DrivesBut K s (wr s f i x) := drivesBut_setObj s f.obj i _ h

/-- A write of AX.MODE above MODE. -/
theorem drivesBut_modeField (s : State) (f : Fld) (i x : Nat) (ho : f.obj = .axMode) (h : 3 ≤ f.lo) : DrivesBut K s (wr s f i x) := by
  refine drivesBut_mode rfl fun m _ _ => ?_
  rw [wr, ho]
  exact rd_setObj_keep rfl axMode_inj (bits_setBits_below _ _ _ _ _ _ h)

theorem drivesBut_modeAt (s : State) (n m : Nat) (hn : K n) : DrivesBut K s (wr s F.axMode_MODE n m) :=
  drivesBut_mode rfl fun k _ hk => (axMode_wr_mode s n m k).trans (if_neg (by
    rintro rfl
    exact hk hn))

theorem drivesBut_setMode (s : State) (n m cause : Nat) (hn : K n) : DrivesBut K s (setMode s n m cause) := by
  unfold setMode
  exact ((drivesBut_modeField s F.axMode_PREV n _ rfl (by decide)).trans (drivesBut_modeAt _ n m hn)).trans
    (drivesBut_modeField _ F.axMode_CAUSE n _ rfl (by decide))

theorem Trips.drives {s u : State} (h : Trips s u) : DrivesBut K s u := fun m hm _ hd => by
  rcases h.mode m hm with ht | ⟨ht, hb⟩
  · rw [driving, ht] at hd
    exact absurd hd (by decide)
  · rw [driving, ht] at hd
    exact ⟨hd, hb⟩

theorem drivesBut_dropEvals (s : State) (n : Nat) (hn : K n) : DrivesBut K s (dropEvals s n) := by
  unfold dropEvals
  exact ((trips_undoCommit s n).drives.trans (drivesBut_modLoop _ n _)).trans (drivesBut_setAx _ n _ (.inl hn))

theorem drivesBut_modeGates (s : State) (n m : Nat) (was : Bool) (hn : K n) : DrivesBut K s (modeGates s n m was) := by
  have hl (t : State) : DrivesBut K t (lowGates t n) := drivesBut_setAx t n _ (.inr rfl)
  unfold modeGates
  refine drivesBut_ite (drivesBut_ite (.refl s) (DrivesBut.trans ?_ (hl _))) (drivesBut_ite (.refl s) (drivesBut_ite ?_ (hl s)))
  · exact drivesBut_setAx s n _ (.inl hn)
  · exact drivesBut_setAx s n _ (.inr rfl)

theorem drivesBut_modeTrack (s : State) (n old m : Nat) : DrivesBut K s (modeTrack s n old m) := by
  unfold modeTrack obsClear obsStop
  dsimp only
  exact drivesBut_ite (DrivesBut.trans (DrivesBut.trans (drivesBut_setObj s .axTrkStat n _ rfl) (drivesBut_setAx _ n _ (.inr (by rfl))))
    (drivesBut_setAx _ n _ (.inr (by rfl))))
    (drivesBut_ite ((drivesBut_setObj s .axTrkStat n _ rfl).trans (drivesBut_setAx _ n _ (.inr (by rfl)))) (.refl s))

theorem drivesBut_wantDrv (s : State) (m : Nat) : DrivesBut K s (wantDrv s m) :=
  DrivesBut.trans (t := { s with prot := { s.prot with want := m } }) (drivesBut_same rfl rfl) (trips_updDrv _).drives

end

theorem Drives.foldl {α : Type} {f : State → α → State} (h : ∀ t a, Drives t (f t a)) (l : List α) (s : State) : Drives s (l.foldl f s) := by
  induction l generalizing s with
  | nil => exact DrivesBut.refl s
  | cons a l ih => exact DrivesBut.trans (h s a) (ih _)

theorem axMode_axTrkStat (s : State) (n v k : Nat) (hk : k < 48) : axMode (setObj s .axTrkStat n v) k = axMode s k :=
  rd_setObj_apart (modeApart_key (by decide) hk)

theorem axMode_obsClear (s : State) (n k : Nat) (hk : k < 48) : axMode (obsClear s n) k = axMode s k := by
  rw [← axMode_axTrkStat s n (setBits (setBits (getObj s .axTrkStat n) 0 4 2) 16 16 0) k hk]
  refine rd_of_regs ?_ _ _
  unfold obsClear
  dsimp only
  rw [modFlt_regs, modTrk_regs]

theorem axMode_obsStop (s : State) (n k : Nat) (hk : k < 48) : axMode (obsStop s n) k = axMode s k := by
  rw [← axMode_axTrkStat s n (setBits (getObj s .axTrkStat n) 0 4 0) k hk]
  refine rd_of_regs ?_ _ _
  unfold obsStop
  dsimp only
  rw [modTrk_regs]

theorem axMode_modeTrack (s : State) (n old m k : Nat) (hk : k < 48) : axMode (modeTrack s n old m) k = axMode s k := by
  unfold modeTrack
  split
  · exact axMode_obsClear s n k hk
  · split
    · exact axMode_obsStop s n k hk
    · rfl

theorem modeGates_regs (s : State) (n m : Nat) (was : Bool) : (modeGates s n m was).regs = s.regs := by
  unfold modeGates
  split
  · split <;> rfl
  · split
    · rfl
    · split <;> rfl

theorem axMode_takeMode (s : State) (n : Nat) {m : Nat} (cause : Nat) (h : isDriving m = false) (hn : n < 48) :
    axMode (takeMode s n m cause) n = m % 8 := by
  rw [takeMode_ends s n cause h, axMode, rd_of_regs (modLoop_regs _ _ _),
    rd_wr_field _ F.axMode_STOPPING F.axMode_MODE n _ rfl (by decide), rd_wr_field _ F.axMode_HELD F.axMode_MODE n _ rfl (by decide),
    ← axMode, axMode_modeTrack _ _ _ _ _ hn, axMode, rd_of_regs (modeGates_regs _ _ _ _), ← axMode, axMode_setMode]

theorem drives_takeMode (s : State) (n : Nat) {m : Nat} (cause : Nat) (h : isDriving m = false) (h8 : m < 8) :
    Drives s (takeMode s n m cause) := by
  refine DrivesBut.drives (K := Eq n) ?_ fun k hk e => ?_
  · rw [takeMode_ends s n cause h]
    refine DrivesBut.trans (DrivesBut.trans (DrivesBut.trans ?_ (drivesBut_modeField _ F.axMode_HELD n 0 rfl (by decide)))
      (drivesBut_modeField _ F.axMode_STOPPING n 0 rfl (by decide))) (drivesBut_modLoop _ n _)
    exact (((drivesBut_dropEvals s n rfl).trans (drivesBut_setMode _ n m cause rfl)).trans (drivesBut_modeGates _ n m _ rfl)).trans
      (drivesBut_modeTrack _ n _ m)
  · subst e
    rw [driving, axMode_takeMode s n cause h hk, Nat.mod_eq_of_lt h8, h]

theorem drives_stopAxis (s : State) (n cause : Nat) : Drives s (stopAxis s n cause) :=
  DrivesBut.trans (drives_takeMode s n cause (by decide) (by decide)) (drivesBut_ite (drivesBut_wantDrv _ _) (.refl _))

theorem drives_stopPair (s : State) (n cause : Nat) : Drives s (stopPair s n cause) :=
  Drives.foldl (fun t k => drivesBut_ite (drives_stopAxis t k cause) (DrivesBut.refl t)) _ s

/-! ## The state advances -/

/-- The fields of the lane in AX.SPEC_STAT lie beside the count of a pair's misses. -/
theorem laneFlds_pairRun : ∀ f ∈ laneFlds, f.obj = .axSpecStat →
    f.lo + f.w ≤ F.axSpecStat_PAIR_RUN.lo ∨ F.axSpecStat_PAIR_RUN.lo + F.axSpecStat_PAIR_RUN.w ≤ f.lo := by decide

theorem objKey_ne_axSpecStat {o : ObjId} {m n : Nat} (ho : o ∈ laneObjs) (h : o ≠ .axSpecStat ∨ m ≠ n) :
    objKey o m ≠ objKey .axSpecStat n := by
  rw [objKey_axSpecStat]
  simp only [laneObjs, List.mem_cons, List.not_mem_nil, or_false] at ho
  rcases ho with rfl | rfl | rfl
  · rw [objKey_axSpecCtl]
    omega
  · rw [objKey_axSpecStat]
    rcases h with h | h
    · exact absurd rfl h
    · omega
  · rw [objKey_axSpecCnt]
    omega

/-- A write of that count leaves the lane's fields. -/
theorem lane_pairRun (s : State) (n x : Nat) : Lane s (wr s F.axSpecStat_PAIR_RUN n x) := by
  refine ⟨fun f hf m _ => ?_, fun m => by rw [ax, ax, wr_axes]; exact .refl _⟩
  by_cases h : f.obj = .axSpecStat ∧ m = n
  · rw [h.2]
    exact rd_wr_field s F.axSpecStat_PAIR_RUN f n x h.1 (laneFlds_pairRun f hf h.1)
  · exact rd_wr_obj s F.axSpecStat_PAIR_RUN f n m x (objKey_ne_axSpecStat (laneFlds_obj f hf) (Decidable.not_and_iff_or_not.mp h))

theorem lane_loopFlags (s : State) (n : Nat) (k : EvKind) (o : EvOut) : Lane s (loopFlags s n k o) := by
  unfold loopFlags
  dsimp only
  have h := ((lane_wrB s F.axLoopStat_U_SAT n o.uSat rfl).trans (lane_wrB _ F.axLoopStat_V_SAT n
    (k.outer && decide (o.st.vel.sat ≠ 0)) rfl)).trans (lane_wrB _ F.axLoopStat_P_SAT n (k.posMode && decide (o.st.pos.sat ≠ 0)) rfl)
  exact lane_ite (h.trans (lane_wrB _ F.axLoopStat_LIM_ACT n _ rfl)) h

theorem drives_loopFlags (s : State) (n : Nat) (k : EvKind) (o : EvOut) : Drives s (loopFlags s n k o) := by
  unfold loopFlags
  dsimp only
  have hw (t : State) (f : Fld) (b : Bool) (hf : modeApart f.obj = true) : Drives t (wrB t f n b) := drivesBut_wr t f n _ hf
  have h := ((hw s F.axLoopStat_U_SAT o.uSat rfl).trans (hw _ F.axLoopStat_V_SAT
    (k.outer && decide (o.st.vel.sat ≠ 0)) rfl)).trans (hw _ F.axLoopStat_P_SAT (k.posMode && decide (o.st.pos.sat ≠ 0)) rfl)
  exact drivesBut_ite (h.trans (hw _ F.axLoopStat_LIM_ACT _ rfl)) h

/-- `u` is `s` with the lane's fields, the axes that drive on and their mailboxes kept. -/
structure Advances (s u : State) : Prop where
  lane : Lane s u
  drives : Drives s u

theorem Advances.refl (s : State) : Advances s s := ⟨.refl s, DrivesBut.refl s⟩
theorem Advances.trans {s t u : State} (h : Advances s t) (k : Advances t u) : Advances s u :=
  ⟨h.lane.trans k.lane, DrivesBut.trans h.drives k.drives⟩

theorem advances_ite {s t u : State} {c : Prop} [Decidable c] (h : Advances s t) (k : Advances s u) :
    Advances s (if c then t else u) := ⟨lane_ite h.lane k.lane, drivesBut_ite h.drives k.drives⟩

theorem Trips.advances {s u : State} (h : Trips s u) : Advances s u := ⟨h.lane, h.drives⟩

theorem advances_wr (s : State) (f : Fld) (i x : Nat) (h : laneApart f.obj = true) (k : modeApart f.obj = true) :
    Advances s (wr s f i x) := ⟨lane_wr s f i x h, drivesBut_wr s f i x k⟩

theorem advances_loop (s : State) (n : Nat) (f : AxLoop → AxLoop) (h : ∀ l : AxLoop, (f l).slow = l.slow ∧ (f l).compl = l.compl ∧
    (f l).retry = l.retry) : Advances s (modLoop s n f) := ⟨lane_loop s n f h, drivesBut_modLoop s n f⟩

theorem advances_same {s u : State} (hr : u.regs = s.regs) (ha : u.axes = s.axes) : Advances s u :=
  ⟨lane_same hr ha, drivesBut_same hr ha⟩

theorem advances_noteDue (s : State) (n : Nat) (d : TwinDue) : Advances s (noteDue s n d) :=
  advances_ite (advances_same rfl rfl) (.refl s)

theorem advances_pairShare (s : State) (n : Nat) (e : Eval) (o : EvOut) : Advances s (pairShare s n e o) := by
  unfold pairShare
  split
  · exact .refl s
  · exact advances_ite (.refl s) (advances_loop s _ _ fun _ => ⟨rfl, rfl, rfl⟩)

theorem advances_raise (s : State) (c a g : Nat) : Advances s (raise s c a g) := (trips_quiet (quiet_raise s c a g)).advances

theorem advances_trigger (s : State) (m c : Nat) (src : Option Src) : Advances s (trigger s m c src) := advances_same rfl rfl

/-- A measurement that is not plausible, as it is noted. -/
def plausNoted (s : State) (n : Nat) (r : Int) : State :=
  raise (stick (incSat s F.axLoopStat_PLAUS_CNT n) F.axLoopStat_PLAUS n) 0x43 n (tc 32 r)

theorem advances_plausNoted (s : State) (n : Nat) (r : Int) : Advances s (plausNoted s n r) := by
  unfold plausNoted
  refine Advances.trans ?_ (advances_raise _ _ _ _)
  rw [stick, incSat, addSat]
  exact (advances_wr s F.axLoopStat_PLAUS_CNT n _ rfl rfl).trans (advances_wr _ F.axLoopStat_PLAUS n 1 rfl rfl)

theorem plausReact_eq (s : State) (n : Nat) (r : Int) : plausReact s n r = match rd s F.axLoopCfg_PL_REACT n with
    | 1 => trigger (plausNoted s n r) mHold 10 none
    | 2 => trigger (plausNoted s n r) mSafestop 10 none
    | _ => plausNoted s n r := by
  rw [plausReact]; rfl

theorem advances_plausReact (s : State) (n : Nat) (r : Int) : Advances s (plausReact s n r) := by
  have h := advances_plausNoted s n r
  rw [plausReact_eq]
  generalize plausNoted s n r = u at h ⊢
  split
  · exact h.trans (advances_trigger u _ _ _)
  · exact h.trans (advances_trigger u _ _ _)
  · exact h

theorem advances_pairReact (s : State) (n : Nat) (p : LoopPar) (o : EvOut) : Advances s (pairReact s n p o) := by
  unfold pairReact
  extract_lets s1
  have h1 : Advances s s1 := ⟨lane_pairRun s n 0, drivesBut_wr s _ n 0 rfl⟩
  clear_value s1
  refine advances_ite (advances_ite (h1.trans ?_) h1) (.refl s)
  exact ((advances_wr s1 F.axLoopStat_SKEW n 1 rfl rfl).trans (trips_quiet (quiet_raise _ _ _ _)).advances).trans
    (trips_trip _ n 7 srcLane).advances

theorem advances_stopPair (s : State) (n cause : Nat) : Advances s (stopPair s n cause) :=
  ⟨lane_stopPair s n cause, drives_stopPair s n cause⟩

theorem advances_stopReact (s : State) (n : Nat) (p : LoopPar) (k : EvKind) (m : EvIn) (o : EvOut) :
    Advances s (stopReact s n p k m o) := by
  unfold stopReact
  dsimp only
  refine advances_ite (.refl s) (advances_ite (advances_ite (advances_stopPair s n 8) (.refl s)) (advances_ite ?_ (.refl s)))
  generalize (if o.st.limV = 0 ∧ (absN (loopV p m) : Int) ≤ p.l 14 then (ax s n).loop.stopCnt + 1 else 0) = c
  have h : Advances s (modLoop s n fun l => { l with stopCnt := c }) := advances_loop s n _ fun _ => ⟨rfl, rfl, rfl⟩
  exact advances_ite (h.trans (advances_stopPair _ n 8)) h

theorem advances_settlePresets (s : State) (n : Nat) : Advances s (settlePresets s n) := by
  refine ⟨lane_settlePresets s n, ?_⟩
  unfold settlePresets
  dsimp only
  refine drivesBut_ite (DrivesBut.refl s) (DrivesBut.trans (drivesBut_modLoop s n _) (Drives.foldl (fun t p => ?_) _ _))
  exact drivesBut_modLoop t n _

/-- An evaluation that advances the state leaves the lane's fields and every mailbox of an axis that drives on. -/
theorem advances_advance (s : State) (n : Nat) (e : Eval) (o : EvOut) : Advances s (advance s n e o) := by
  unfold advance
  extract_lets pl s1 late sp d s2 s3
  have h1 : Advances s s1 := advances_loop s n _ fun _ => ⟨rfl, rfl, rfl⟩
  have h2 : Advances s1 s2 := (Advances.trans ⟨lane_loopFlags s1 n _ o, drives_loopFlags s1 n _ o⟩
    (advances_pairShare _ n e o)).trans (advances_noteDue _ n d)
  have h3 : Advances s2 s3 := advances_ite (advances_plausReact s2 n _) (.refl s2)
  clear_value s1 s2 s3
  exact (((h1.trans h2).trans h3).trans (advances_pairReact s3 n _ o)).trans
    ((advances_stopReact _ n _ _ _ o).trans (advances_settlePresets _ n))

end Sys2Proof.Machine
end

section
/-!
SUPPORT. The run of mismatches of an axis (MM_RUN of AX.CK_STAT) while frames go to a twin and checkpoints are compared.
-/

namespace Sys2Proof.Machine
open Sys2Proof Sys2Proof.Machine

/-- `u` shows the run of mismatches of axis `n` as `s` does. -/
def Agreed (n : Nat) (s u : State) : Prop := rd u F.axCkStat_MM_RUN n = rd s F.axCkStat_MM_RUN n

section
variable {n : Nat}

theorem Agreed.refl (s : State) : Agreed n s s := rfl

theorem Agreed.trans {s t u : State} (h : Agreed n s t) (k : Agreed n t u) : Agreed n s u := Eq.trans k h

theorem agreed_ite {s t u : State} {c : Prop} [Decidable c] (h : Agreed n s t) (k : Agreed n s u) : Agreed n s (if c then t else u) := by
  split
  · exact h
  · exact k

theorem Agreed.foldl {α : Type} {f : State → α → State} {l : List α} (h : ∀ t, ∀ a ∈ l, Agreed n t (f t a)) (s : State) :
    Agreed n s (l.foldl f s) := by
  induction l generalizing s with
  | nil => exact .refl s
  | cons a l ih => exact (h s a List.mem_cons_self).trans (ih (fun t b hb => h t b (List.mem_cons_of_mem a hb)) _)

theorem agreed_regs {s u : State} (h : u.regs = s.regs) : Agreed n s u := rd_of_regs h _ _

theorem agreed_modRed (s : State) (f : Red → Red) : Agreed n s (modRed s f) := agreed_regs rfl

theorem agreed_modMem (s : State) (k : Nat) (f : Member → Member) : Agreed n s (modMem s k f) := agreed_modRed s _

theorem agreed_twinPut (s : State) (k : Nat) (r : List Byte) : Agreed n s (twinPut s k r) := agreed_ite (agreed_modMem s k _) (.refl s)

theorem agreed_twinAll (s : State) (r : List Byte) : Agreed n s (twinAll s r) := Agreed.foldl (fun t k _ => agreed_twinPut t k r) s

theorem agreed_twinTell (s : State) (r : List Byte) : Agreed n s (twinTell s r) := agreed_ite (agreed_twinAll s r) (.refl s)

theorem agreed_tellObj (s : State) (m j : Nat) (o : ObjId) (i : Nat) : Agreed n s (tellObj s m j o i) :=
  Agreed.foldl (fun t _ _ => agreed_twinTell t _) s

theorem agreed_raiseD (s : State) (c g : Nat) : Agreed n s (raiseD s c g) := agreed_regs rfl

theorem agreed_lowGates (s : State) (m : Nat) : Agreed n s (lowGates s m) := agreed_regs (modPwm_regs s m _)

theorem agreed_redStop (s : State) : Agreed n s (redStop s) := agreed_regs rfl

theorem agreed_noMajority (s : State) : Agreed n s (noMajority s) := agreed_regs rfl

theorem agreed_sendSnap (s : State) (k : Nat) : Agreed n s (sendSnap s k) :=
  Agreed.foldl (fun t _ _ => (Agreed.foldl (fun u _ _ => agreed_twinPut u k _) t).trans (agreed_twinPut _ k _)) s

theorem agreed_otherOdd (s : State) (k : Nat) : Agreed n s (otherOdd s k) := by
  unfold otherOdd
  extract_lets wasDriver agreeing first s1 s2
  have h1 : Agreed n s s1 := agreed_ite (agreed_twinPut s k _) (.refl s)
  have h2 : Agreed n s1 s2 := agreed_ite (agreed_regs rfl) (.refl s1)
  clear_value s1 s2
  exact (h1.trans h2).trans (agreed_ite (agreed_sendSnap s2 k) (.refl s2))

variable (hn : n < 48)
include hn

/-- A write of another object. -/
theorem agreed_wr (s : State) (f : Fld) (i x : Nat) (ho : f.obj ≠ .axCkStat) (hi : i < objCount f.obj) : Agreed n s (wr s f i x) :=
  rd_wr_obj s f F.axCkStat_MM_RUN i n x (objKey_ne_obj ho.symm hn hi)

/-- A write of AX.CK_STAT above the run of mismatches. -/
theorem agreed_field (s : State) (f : Fld) (i x : Nat) (ho : f.obj = .axCkStat) (hi : i < 48) (hf : 2 ≤ f.lo) : Agreed n s (wr s f i x) := by
  by_cases h : n = i
  · subst h
    exact rd_wr_field s f F.axCkStat_MM_RUN n x ho.symm (.inl hf)
  · refine rd_wr_obj s f F.axCkStat_MM_RUN i n x ?_
    rw [ho]
    exact fun e => h (objIndex_inj (o := .axCkStat) hn hi (Nat.add_left_cancel e))

theorem agreed_agreeRun (s : State) (m : Nat) (hm : m < 48) : Agreed n s (agreeRun s m) := by
  rw [agreeRun, incSat, addSat]
  exact agreed_field hn s F.axCkStat_AGREE_RUN m _ rfl hm (by decide)

theorem agreed_disagree (s : State) (m : Nat) (hm : m < 48) : Agreed n s (disagree s m) :=
  (agreed_field hn s F.axCkStat_AGREE_RUN m 0 rfl hm (by decide)).trans
    (agreed_field hn _ F.axCkStat_CLASS m 4 rfl hm (by decide))

theorem agreed_incRed (s : State) (f : Fld) (ho : f.obj = .devRedCnt) : Agreed n s (incSat s f 0) := by
  rw [incSat, addSat]
  exact agreed_wr hn s f 0 _ (by rw [ho]; decide) (by rw [ho]; decide)

theorem agreed_redStat (s : State) (f : Fld) (x : Nat) (ho : f.obj = .devRedStat) : Agreed n s (wr s f 0 x) :=
  agreed_wr hn s f 0 _ (by rw [ho]; decide) (by rw [ho]; decide)

theorem agreed_twinMismatch (s : State) (m : Nat) : Agreed n s (twinMismatch s m) := by
  unfold twinMismatch
  dsimp only
  refine (((Agreed.trans (agreed_modRed s _) (agreed_twinAll _ _)).trans (agreed_incRed hn _ F.devRedCnt_DEV_MM rfl)).trans
    (agreed_raiseD _ _ _)).trans (agreed_redStop _)

theorem agreed_resyncDone (s : State) : Agreed n s (resyncDone s) := by
  unfold resyncDone
  dsimp only
  refine agreed_ite ?_ (.refl s)
  exact ((((agreed_redStat hn s F.devRedStat_ODD 0 rfl).trans (agreed_redStat hn _ F.devRedStat_RESYNC 0 rfl)).trans
    (agreed_modRed _ _)).trans (agreed_incRed hn _ F.devRedCnt_RESYNCS rfl)).trans (agreed_raiseD _ _ _)

theorem agreed_enterTripped (s : State) (m c : Nat) (hm : m < 48) : Agreed n s (enterTripped s m c) := by
  refine (regsBut_enterTripped s m c).rd ?_
  rw [trippedKeys, List.mem_append, not_or]
  refine ⟨?_, key_of_kind (by decide) hn⟩
  simp only [List.mem_cons, List.not_mem_nil, or_false, not_or]
  exact ⟨objKey_ne_obj (by decide) hn hm, objKey_ne_obj (by decide) hn hm, objKey_ne_obj (by decide) hn hm⟩

theorem agreed_wantDrv (s : State) (m : Nat) : Agreed n s (wantDrv s m) := by
  refine Agreed.trans (t := { s with prot := { s.prot with want := m } }) (agreed_regs rfl) ?_
  rw [wantDrv, updDrv]
  exact (agreed_wr hn _ F.devDrvStat_DIS 0 _ (by decide) (by decide)).trans (agreed_wr hn _ F.devDrvStat_EN 0 _ (by decide) (by decide))

theorem agreed_setRole (s : State) (r : Nat) : Agreed n s (setRole s r) := by
  unfold setRole
  dsimp only
  have h := Agreed.trans (agreed_redStat hn s F.devRedStat_EROLE r rfl)
    (agreed_modRed (wr s F.devRedStat_EROLE 0 r) (fun x => { x with drives := decide (r = roleDriver) }))
  exact agreed_ite (h.trans (agreed_redStat hn _ F.devRedStat_DRIVER _ rfl)) h

theorem agreed_releaseSelf (s : State) : Agreed n s (releaseSelf s) := by
  unfold releaseSelf
  extract_lets s1
  have h1 : Agreed n s s1 := Agreed.foldl (fun t m hm => agreed_ite (.refl t)
    ((agreed_enterTripped hn t m 5 (List.mem_range.mp hm)).trans (agreed_lowGates _ m))) s
  clear_value s1
  exact agreed_ite (((h1.trans (agreed_wantDrv hn s1 0)).trans (agreed_setRole hn _ _)).trans
    (agreed_redStat hn _ F.devRedStat_RELEASED 1 rfl)) (.refl s)

theorem agreed_selfOdd (s : State) : Agreed n s (selfOdd s) := by
  unfold selfOdd
  extract_lets s1 s2 s3 s4
  have h1 : Agreed n s s1 := (agreed_redStat hn s F.devRedStat_ODD 1 rfl).trans (agreed_raiseD _ _ _)
  have h2 : Agreed n s1 s2 := Agreed.foldl (fun t m hm =>
    agreed_field hn t F.axCkStat_AGREE_RUN m 0 rfl (List.mem_range.mp hm) (by decide)) s1
  have h3 : Agreed n s2 s3 := agreed_ite (agreed_raiseD s2 _ _) (.refl s2)
  have h4 : Agreed n s3 s4 := (agreed_redStat hn s3 F.devRedStat_RESYNC 1 rfl).trans (agreed_modRed _ _)
  clear_value s1 s2 s3 s4
  exact (((h1.trans h2).trans h3).trans h4).trans (agreed_ite (agreed_releaseSelf hn s4) (.refl s4))

theorem agreed_setOdd (s : State) (k : Nat) : Agreed n s (setOdd s k) := by
  unfold setOdd
  extract_lets s1
  have h1 : Agreed n s s1 := (agreed_incRed hn s F.devRedCnt_DEV_MM rfl).trans (agreed_modRed _ _)
  clear_value s1
  exact agreed_ite (agreed_regs rfl) (agreed_ite (h1.trans (agreed_selfOdd hn s1)) (h1.trans (agreed_otherOdd s1 k)))

theorem agreed_vote (s : State) (m : Nat) (votes : List (Nat × Nat)) (hm : m < 48) : Agreed n s (vote s m votes) := by
  have hd (k : Nat) : Agreed n s (setOdd (disagree s m) k) := (agreed_disagree hn s m hm).trans (agreed_setOdd hn _ k)
  have hj : Agreed n s (noMajority (disagree s m)) := (agreed_disagree hn s m hm).trans (agreed_noMajority _)
  have ha := agreed_agreeRun hn s m hm
  unfold vote
  dsimp only
  split
  · exact agreed_ite ha (agreed_ite (hd _) (agreed_ite (hd _) (agreed_ite (hd _) hj)))
  · exact agreed_ite (agreed_ite (agreed_ite (ha.trans (agreed_resyncDone hn _)) (agreed_disagree hn s m hm)) ha)
      (agreed_ite (.refl s) hj)
  · exact .refl s

theorem agreed_showRed (s : State) : Agreed n s (showRed s) := by
  unfold showRed
  extract_lets s1 s2 s3
  have h1 : Agreed n s s1 := agreed_redStat hn s F.devRedStat_OK_OUT _ rfl
  have h2 : Agreed n s1 s2 := by
    unfold s2
    split
    · exact agreed_redStat hn s1 F.devRedStat_OK_IN _ rfl
    · exact .refl s1
  have h3 : Agreed n s2 s3 := agreed_redStat hn s2 F.devRedStat_LINK_A _ rfl
  clear_value s1 s2 s3
  exact agreed_ite (.refl s) (((h1.trans h2).trans h3).trans (agreed_redStat hn s3 F.devRedStat_LINK_B _ rfl))

theorem agreed_compared (s : State) (m : Nat) (hm : m < 48) (same : Prop) [Decidable same] (votes : List (Nat × Nat)) : Agreed n s
    (showRed (if redKind s = 1 then (if same then agreeRun s m else twinMismatch (disagree s m) m) else vote s m votes)) := by
  refine Agreed.trans ?_ (agreed_showRed hn _)
  exact agreed_ite (agreed_ite (agreed_agreeRun hn s m hm) ((agreed_disagree hn s m hm).trans (agreed_twinMismatch hn _ m)))
    (agreed_vote hn s m votes hm)

theorem agreed_compareCk (s : State) (m j : Nat) (hm : m < 48) : Agreed n s (compareCk s m j) := by
  unfold compareCk
  dsimp only
  split
  · exact .refl s
  · split
    · exact .refl s
    · refine Agreed.trans ?_ (agreed_compared hn _ m hm _ _)
      exact Agreed.trans (agreed_modRed s _) (Agreed.foldl (fun t k _ => agreed_modMem t k _) _)

theorem agreed_formCkpt (s : State) (m j : Nat) (hm : m < 48) : Agreed n s (formCkpt s m j) := by
  unfold formCkpt
  refine agreed_ite (.refl s) ?_
  exact (Agreed.trans (agreed_modRed s _) (agreed_twinAll _ _)).trans (agreed_compareCk hn _ m _ hm)

theorem agreed_twinSend (s : State) (m : Nat) (d : TwinDue) (hm : m < 48) : Agreed n s (twinSend s m d) := by
  unfold twinSend
  extract_lets v s1 s2 s3
  have h1 : Agreed n s s1 := agreed_ite (.refl s) ((agreed_tellObj s m _ _ m).trans (agreed_modRed _ _))
  have h2 : Agreed n s1 s2 := by
    unfold s2
    split
    · exact agreed_twinTell s1 _
    · exact .refl s1
  have h3 : Agreed n s2 s3 := (agreed_modRed s2 _).trans (agreed_twinTell _ _)
  clear_value s1 s2 s3
  exact ((h1.trans h2).trans h3).trans (agreed_formCkpt hn s3 m _ hm)

theorem agreed_twinLate (s : State) (m : Nat) (hm : m < 48) : Agreed n s (twinLate s m) := by
  unfold twinLate
  split
  · exact agreed_ite (agreed_twinSend hn s m _ hm) (.refl s)
  · exact .refl s

theorem agreed_pushTel (s : State) (m j ns : Nat) : Agreed n s (pushTel s m j ns) :=
  (quiet_qPushBytes _ _ _ _).rd_kind (by decide) hn

theorem agreed_telFlush (s : State) (m : Nat) : Agreed n s (telFlush s m) := by
  unfold telFlush
  split
  · exact Agreed.trans (agreed_regs (modLoop_regs s m _)) (agreed_pushTel hn _ m _ _)
  · exact .refl s

end

end Sys2Proof.Machine
end

section
/-!
PROOFS. The commit unit, the slow path, the completion and the late flag of the run-ahead lane (O23).
-/

namespace Sys2Proof.Machine
open Sys2Proof Sys2Proof.Machine

/-! ## A commit -/

/-- The mailbox entry of an evaluation. -/
def entry (e : Eval) : Commit := ⟨e.du, e.dv, e.dw, e.load, e.take⟩

theorem mem_putBox (c : Commit) (l : List Commit) : c ∈ putBox c l := by
  induction l with
  | nil => exact List.mem_singleton_self c
  | cons x l ih =>
    rw [putBox]
    split
    · exact List.mem_cons_self
    · exact List.mem_cons_of_mem _ ih

/-- An entry for another load point stays. -/
theorem mem_putBox_of_ne {c d : Commit} {l : List Commit} (h : d ∈ l) (hd : d.load ≠ c.load) : d ∈ putBox c l := by
  induction l with
  | nil => exact absurd h List.not_mem_nil
  | cons x l ih =>
    rw [putBox]
    split
    next hx =>
      rcases List.mem_cons.mp h with rfl | h
      · exact absurd hx hd
      · exact List.mem_cons_of_mem _ h
    next =>
      rcases List.mem_cons.mp h with rfl | h
      · exact List.mem_cons_self
      · exact List.mem_cons_of_mem _ (ih h)

/-- The axis after a commit. -/
def committed (s : State) (n : Nat) (e : Eval) (late : Bool) : State :=
  modLoop (modPwm s n (fun p => { p with box := putBox (entry e) p.box })) n (fun l =>
    { l with
      spec := none, slow := none, decided := e.load, wasLate := late,
      back := some ⟨l.st, l.du, l.dv, l.dw, l.wasLate, l.last, getObj s .axLoopStat n % 16⟩ })

theorem commit_eq (s : State) (n : Nat) (e : Eval) (late : Bool) :
    commit s n e late = wr (wr (committed s n e late) F.axSpecStat_MISS_RUN n 0) F.axSpecStat_LAST_MISS n 0 := rfl

theorem commit_axes (s : State) (n : Nat) (e : Eval) (late : Bool) : (commit s n e late).axes = (committed s n e late).axes := by
  rw [commit_eq, wr_axes, wr_axes]

theorem commit_ax (s : State) (n : Nat) (e : Eval) (late : Bool) (m : Nat) : ax (commit s n e late) m = ax (committed s n e late) m := by
  rw [ax, ax, commit_axes]

theorem commit_box (s : State) (n : Nat) (e : Eval) (late : Bool) :
    (ax (commit s n e late) n).pwm.box = putBox (entry e) (ax s n).pwm.box := by
  rw [commit_ax, committed, modLoop, ax_setAx_same, pwm_modPwm]

theorem commit_slow (s : State) (n : Nat) (e : Eval) (late : Bool) : (ax (commit s n e late) n).loop.slow = none := by
  rw [commit_ax, committed, modLoop, ax_setAx_same]

theorem commit_missRun (s : State) (n : Nat) (e : Eval) (late : Bool) : rd (commit s n e late) F.axSpecStat_MISS_RUN n = 0 := by
  rw [commit_eq, rd_wr_field _ F.axSpecStat_LAST_MISS F.axSpecStat_MISS_RUN _ _ rfl (by decide), rd_wr_same]
  rfl

theorem commit_lastMiss (s : State) (n : Nat) (e : Eval) (late : Bool) : rd (commit s n e late) F.axSpecStat_LAST_MISS n = 0 := by
  rw [commit_eq, rd_wr_same]
  rfl

theorem commit_other (s : State) (n : Nat) (e : Eval) (late : Bool) {m : Nat} (h : m ≠ n) : ax (commit s n e late) m = ax s m := by
  rw [commit_ax, committed, modLoop, ax_setAx_ne _ _ h, modPwm, ax_setAx_ne _ _ h]

theorem wr_frame (s : State) (f : Fld) (i x : Nat) : wr s f i x = { s with regs := (wr s f i x).regs } := rfl

theorem committed_frame (s : State) (n : Nat) (e : Eval) (late : Bool) :
    committed s n e late = { s with axes := (committed s n e late).axes } := rfl

theorem commit_only (s : State) (n : Nat) (e : Eval) (late : Bool) :
    Only [objKey .axSpecStat n] { s with axes := (commit s n e late).axes } (commit s n e late) := by
  have hk : objKey .axSpecStat n ∈ [objKey .axSpecStat n] := List.mem_singleton_self _
  rw [commit_axes, ← committed_frame, commit_eq]
  generalize committed s n e late = u
  refine RegsBut.only (ks := [objKey .axSpecStat n]) (u := wr (wr u F.axSpecStat_MISS_RUN n 0) F.axSpecStat_LAST_MISS n 0) ?_ ?_ (.refl _)
  · exact (regsBut_wr u F.axSpecStat_MISS_RUN n 0 hk).trans (regsBut_wr _ F.axSpecStat_LAST_MISS n 0 hk)
  · rw [wr_frame (wr u F.axSpecStat_MISS_RUN n 0)]
    generalize (wr (wr u F.axSpecStat_MISS_RUN n 0) F.axSpecStat_LAST_MISS n 0).regs = r
    rw [wr_frame u]

/-! ## The slow path -/

theorem meets_frame (s : State) (n load : Nat) (c : Int) : (meets s n load c).1 = draw s := rfl

/-- The evaluation that a slow path commits. -/
def slowEval (e : Eval) : Eval := { e with du := (evalOf e).du, dv := (evalOf e).dv, dw := (evalOf e).dw }

/-- A slow path that ends in time counts as late where it is one of the lane's own. -/
def lateCounted (s : State) (n : Nat) (e : Eval) : State :=
  if e.count then incSat (meets s n e.load (nowCyc s)).1 F.axSpecCnt_LATE n else (meets s n e.load (nowCyc s)).1

/-- The state after a slow path that ends in time. -/
def slowDone (s : State) (n : Nat) (e : Eval) : State :=
  laneAgree (advance (commit (lateCounted s n e) n (slowEval e) true) n (slowEval e) (evalOf e)) n

theorem lateCounted_axes (s : State) (n : Nat) (e : Eval) : (lateCounted s n e).axes = s.axes := by
  rw [lateCounted]
  split
  · rw [incSat, addSat, wr_axes, meets_frame]
    rfl
  · rfl

theorem lateCounted_late (s : State) (n : Nat) {e : Eval} (h : e.count = true) :
    rd (lateCounted s n e) F.axSpecCnt_LATE n = min (rd s F.axSpecCnt_LATE n + 1) (2 ^ F.axSpecCnt_LATE.w - 1) := by
  rw [lateCounted, if_pos h, rd_incSat, meets_frame]
  rfl

/-- What a slow path that ends in time shows. -/
theorem slowDone_shows (s : State) (n : Nat) (e : Eval) (hn : n < 48) :
    let t := slowDone s n e
    (ax t n).loop.slow = none ∧ rd t F.axSpecStat_MISS_RUN n = 0 ∧ rd t F.axCkStat_MM_RUN n = 0 ∧
      rd t F.axSpecCnt_LATE n = rd (lateCounted s n e) F.axSpecCnt_LATE n ∧
      (driving t n = true → entry (slowEval e) ∈ (ax t n).pwm.box) := by
  intro t
  have hslow := commit_slow (lateCounted s n e) n (slowEval e) true
  have hrun := commit_missRun (lateCounted s n e) n (slowEval e) true
  have hbox := commit_box (lateCounted s n e) n (slowEval e) true
  have hlate : rd (commit (lateCounted s n e) n (slowEval e) true) F.axSpecCnt_LATE n = rd (lateCounted s n e) F.axSpecCnt_LATE n := by
    have hk := objKey_ne_obj (o := .axSpecCnt) (p := .axSpecStat) (by decide) hn hn
    rw [commit_eq, rd_wr_obj _ F.axSpecStat_LAST_MISS F.axSpecCnt_LATE n n 0 hk, rd_wr_obj _ F.axSpecStat_MISS_RUN F.axSpecCnt_LATE n n 0 hk]
    exact rd_of_regs rfl _ _
  have hadv := advances_advance (commit (lateCounted s n e) n (slowEval e) true) n (slowEval e) (evalOf e)
  have ht : t = laneAgree (advance (commit (lateCounted s n e) n (slowEval e) true) n (slowEval e) (evalOf e)) n := rfl
  generalize commit (lateCounted s n e) n (slowEval e) true = c at hslow hrun hbox hlate hadv ht
  generalize advance c n (slowEval e) (evalOf e) = u at hadv ht
  have hall : Advances c t := hadv.trans (ht ▸ advances_wr u F.axCkStat_MM_RUN n 0 rfl rfl)
  refine ⟨?_, ?_, ?_, ?_, fun hd => ?_⟩
  · rcases (hall.lane.axes n).slow with h | h
    · rw [h, hslow]
    · exact h
  · rw [hall.lane.flds F.axSpecStat_MISS_RUN (by decide) n hn, hrun]
  · rw [ht, laneAgree, rd_wr_same]
    rfl
  · rw [hall.lane.flds F.axSpecCnt_LATE (by decide) n hn, hlate]
  · rw [(hall.drives n hn id hd).2, hbox]
    exact mem_putBox _ _

section
variable {s : State} {n : Fin 48} (core : coreRuns s = true) {e : Eval}
include core

theorem slowPathDone_commits (hs : (ax s n).loop.slow = some e) (hc : (ax s n).loop.compl = none) (hr : (ax s n).loop.retry = none)
    (hm : (meets s n e.load (nowCyc s)).2 = true) : Ends s (.slowPathDone n .agree) (slowDone s n e) := by
  obtain ⟨t, ht, q⟩ := done_quiet (slowDone s n e)
  refine ⟨t, exec_of_issue core rfl ?_, q⟩
  dsimp only
  rw [hs]
  dsimp only
  rw [hc, hr, if_neg (by decide), if_neg (by decide), if_pos hm]
  exact ht

theorem slowPathDone_misses (hs : (ax s n).loop.slow = some e) (hc : (ax s n).loop.compl = none) (hr : (ax s n).loop.retry = none)
    (hm : (meets s n e.load (nowCyc s)).2 = false) :
    Ends s (.slowPathDone n .agree) (missEval (meets s n e.load (nowCyc s)).1 n 1 e.load) := by
  obtain ⟨t, ht, q⟩ := done_quiet (missEval (meets s n e.load (nowCyc s)).1 n 1 e.load)
  refine ⟨t, exec_of_issue core rfl ?_, q⟩
  dsimp only
  rw [hs]
  dsimp only
  rw [hc, hr, if_neg (by decide), if_neg (by decide), if_neg (by rw [hm]; decide)]
  exact ht

end

/-! ## The completion -/

/-- The full evaluation differs from what was committed. -/
def differs (e : Eval) : Bool :=
  decide (1 < absN ((e.du : Int) - (evalOf e).du)) || decide (1 < absN ((e.dv : Int) - (evalOf e).dv)) ||
    decide (1 < absN ((e.dw : Int) - (evalOf e).dw))

/-- The state after a completion, the evaluation no longer waiting. -/
def finished (s : State) (n : Nat) (e : Eval) : State :=
  twinLate (telFlush (laneAgree (advance (checkEquiv s n e (evalOf e)) n e (evalOf e)) n) n) n

theorem checkEquiv_eq (s : State) (n : Nat) (e : Eval) : checkEquiv s n e (evalOf e) =
    if differs e then raise (incSat (stick s F.axSpecStat_EQV n) F.axSpecCnt_EQV_ERR n) 0x45 n 0 else s := rfl

/-- What the check of a completion shows. -/
theorem checkEquiv_shows (s : State) (n : Nat) (e : Eval) (hn : n < 48) : let t := checkEquiv s n e (evalOf e)
    t.axes = s.axes ∧ rd t F.axSpecCnt_MISSES n = rd s F.axSpecCnt_MISSES n ∧
      rd t F.axSpecCnt_EQV_ERR n = rd s F.axSpecCnt_EQV_ERR n +
        b2n (decide (rd s F.axSpecCnt_EQV_ERR n < 2 ^ F.axSpecCnt_EQV_ERR.w - 1) && differs e) := by
  intro t
  have ht : t = _ := checkEquiv_eq s n e
  have hk := objKey_ne_obj (o := .axSpecCnt) (p := .axSpecStat) (by decide) hn hn
  have hst (f : Fld) (hf : f.obj = .axSpecCnt) : rd (stick s F.axSpecStat_EQV n) f n = rd s f n :=
    rd_wr_obj s F.axSpecStat_EQV f n n 1 (by rw [hf]; exact hk)
  have hsa : (stick s F.axSpecStat_EQV n).axes = s.axes := wr_axes _ _ _ _
  by_cases hd : differs e = true
  · rw [if_pos hd] at ht
    generalize stick s F.axSpecStat_EQV n = u at hst hsa ht
    have hlt := rd_lt s F.axSpecCnt_EQV_ERR n
    refine ⟨?_, ?_, ?_⟩
    · rw [ht, raise_axes, incSat, addSat, wr_axes, hsa]
    · rw [ht, rd_of_regs (raise_regs _ _ _ _), incSat, addSat,
        rd_wr_field u F.axSpecCnt_EQV_ERR F.axSpecCnt_MISSES n _ rfl (by decide), hst F.axSpecCnt_MISSES rfl]
    · rw [ht, rd_of_regs (raise_regs _ _ _ _), rd_incSat, hst F.axSpecCnt_EQV_ERR rfl, hd, Bool.and_true]
      generalize rd s F.axSpecCnt_EQV_ERR n = x at hlt ⊢
      generalize 2 ^ F.axSpecCnt_EQV_ERR.w = top at hlt ⊢
      by_cases hx : x < top - 1
      · rw [decide_eq_true hx, b2n]
        simp only [if_true]
        omega
      · rw [decide_eq_false hx, b2n]
        simp only [Bool.false_eq_true, if_false]
        omega
  · rw [if_neg hd] at ht
    rw [ht, eq_false_of_ne_true hd, Bool.and_false]
    exact ⟨rfl, rfl, rfl⟩

/-- What a completion shows. -/
theorem finished_shows (s : State) (n : Nat) (e : Eval) (hn : n < 48) : let t := finished s n e
    AxisLane (ax s n) (ax t n) ∧ rd t F.axCkStat_MM_RUN n = 0 ∧ rd t F.axSpecCnt_MISSES n = rd s F.axSpecCnt_MISSES n ∧
      rd t F.axSpecCnt_EQV_ERR n = rd s F.axSpecCnt_EQV_ERR n +
        b2n (decide (rd s F.axSpecCnt_EQV_ERR n < 2 ^ F.axSpecCnt_EQV_ERR.w - 1) && differs e) := by
  intro t
  obtain ⟨ha, hm, he⟩ := checkEquiv_shows s n e hn
  have hadv := (advances_advance (checkEquiv s n e (evalOf e)) n e (evalOf e)).lane
  have ht : t = twinLate (telFlush (laneAgree (advance (checkEquiv s n e (evalOf e)) n e (evalOf e)) n) n) n := rfl
  generalize checkEquiv s n e (evalOf e) = c at ha hm he hadv ht
  generalize advance c n e (evalOf e) = u at hadv ht
  have hlane : Lane c t := by
    rw [ht]
    exact ((hadv.trans (lane_wr u F.axCkStat_MM_RUN n 0 rfl)).trans (lane_telFlush _ n)).trans (lane_twinLate _ n)
  have hrun : rd (laneAgree u n) F.axCkStat_MM_RUN n = 0 := by
    rw [laneAgree, rd_wr_same]
    rfl
  have hagree : Agreed n (laneAgree u n) t := by
    rw [ht]
    exact (agreed_telFlush hn _ n).trans (agreed_twinLate hn _ n hn)
  refine ⟨?_, Eq.trans hagree hrun, ?_, ?_⟩
  · have h := hlane.axes n
    rw [ax, ha] at h
    exact h
  · rw [hlane.flds F.axSpecCnt_MISSES (by decide) n hn, hm]
  · rw [hlane.flds F.axSpecCnt_EQV_ERR (by decide) n hn, he]

theorem loop_modLoop (s : State) (n : Nat) (f : AxLoop → AxLoop) : (ax (modLoop s n f) n).loop = f (ax s n).loop := by
  rw [modLoop, ax_setAx_same]

section
variable {s : State} {n : Fin 48} (core : coreRuns s = true) {e : Eval}
include core

theorem completion_ends (hc : (ax s n).loop.compl = some e) :
    Ends s (.completion n .agree) (finished (modLoop s n (fun l => { l with compl := none })) n e) := by
  obtain ⟨t, ht, q⟩ := done_quiet (finished (modLoop s n (fun l => { l with compl := none })) n e)
  refine ⟨t, exec_of_issue core rfl ?_, q⟩
  rw [hc]
  dsimp only
  rw [if_neg (by decide)]
  exact ht

theorem laneRetry_ends (hr : (ax s n).loop.retry = some e) :
    Ends s (.laneRetry n .agree) (finished (modLoop s n (fun l => { l with retry := none })) n e) := by
  obtain ⟨t, ht, q⟩ := done_quiet (finished (modLoop s n (fun l => { l with retry := none })) n e)
  refine ⟨t, exec_of_issue core rfl ?_, q⟩
  rw [hr]
  dsimp only
  rw [if_neg (by decide)]
  exact ht

theorem completion_agrees (hc : (ax s n).loop.compl = some e) : Completes s (.completion n .agree) (fun t =>
    (ax t n).loop.compl = none ∧ rd t F.axCkStat_MM_RUN n = 0 ∧ rd t F.axSpecCnt_MISSES n = rd s F.axSpecCnt_MISSES n ∧
      rd t F.axSpecCnt_EQV_ERR n = rd s F.axSpecCnt_EQV_ERR n +
        b2n (decide (rd s F.axSpecCnt_EQV_ERR n < 2 ^ F.axSpecCnt_EQV_ERR.w - 1) && differs e)) := by
  obtain ⟨t, ht, q⟩ := completion_ends core hc
  have hl := loop_modLoop s n (fun l => { l with compl := none })
  have hr := modLoop_regs s n (fun l => { l with compl := none })
  generalize modLoop s n (fun l => { l with compl := none }) = u at q hl hr
  obtain ⟨ha, hm, hx, he⟩ := finished_shows u n e n.isLt
  refine ⟨t, ht, ?_, (q.rd_kind (by decide) n.isLt).trans hm, ?_, ?_⟩
  · rw [q.ax]
    rcases ha.compl with h | h
    · rw [h, hl]
    · exact h
  · rw [q.rd_kind (f := F.axSpecCnt_MISSES) (by decide) n.isLt, hx, rd_of_regs hr]
  · rw [q.rd_kind (f := F.axSpecCnt_EQV_ERR) (by decide) n.isLt, he, rd_of_regs hr]

theorem laneRetry_agrees (hc : (ax s n).loop.retry = some e) : Completes s (.laneRetry n .agree) (fun t =>
    (ax t n).loop.retry = none ∧ rd t F.axCkStat_MM_RUN n = 0 ∧ rd t F.axSpecCnt_MISSES n = rd s F.axSpecCnt_MISSES n) := by
  obtain ⟨t, ht, q⟩ := laneRetry_ends core hc
  have hl := loop_modLoop s n (fun l => { l with retry := none })
  have hr := modLoop_regs s n (fun l => { l with retry := none })
  generalize modLoop s n (fun l => { l with retry := none }) = u at q hl hr
  obtain ⟨ha, hm, hx, -⟩ := finished_shows u n e n.isLt
  refine ⟨t, ht, ?_, (q.rd_kind (by decide) n.isLt).trans hm, ?_⟩
  · rw [q.ax]
    rcases ha.retry with h | h
    · rw [h, hl]
    · exact h
  · rw [q.rd_kind (f := F.axSpecCnt_MISSES) (by decide) n.isLt, hx, rd_of_regs hr]

end

/-! ## A mismatch of the copies -/

/-- The fault of a copy asks for SAFESTOP. -/
def copyFault (s : State) (n : Nat) (cmp : Cmp) : State :=
  if cmp = .fault then trigger (raiseD s 0x80 (laneOf s n)) mSafestop 10 none else s

/-- A mismatch of the copies in class `k`, as it is counted. -/
def mismatched (s : State) (n k : Nat) : State :=
  let s2 := if k = 3 then incSat s F.axCkStat_DRP_CNT n else incSat s F.axCkStat_MM_CNT n
  wr (incSat s2 F.axCkStat_MM_RUN n) F.axCkStat_CLASS n k

theorem laneMismatch_eq (s : State) (n : Nat) (c : Bool) (cmp : Cmp) :
    laneMismatch s n c cmp =
      let s3 := raise (mismatched (copyFault s n cmp) n (mismatchClass c cmp)) 0x81 n (mismatchClass c cmp)
      if 3 ≤ rd s3 F.axCkStat_MM_RUN n then laneTrip s3 n 5 else s3 := rfl

theorem copyFault_frame (s : State) (n : Nat) (cmp : Cmp) : (copyFault s n cmp).regs = s.regs ∧ (copyFault s n cmp).axes = s.axes := by
  rw [copyFault]
  split <;> exact ⟨rfl, rfl⟩

theorem mismatched_axes (s : State) (n k : Nat) : (mismatched s n k).axes = s.axes := by
  rw [mismatched]
  rw [wr_axes, incSat, addSat, wr_axes]
  split <;> rw [incSat, addSat, wr_axes]

theorem mismatched_run (s : State) (n k : Nat) :
    rd (mismatched s n k) F.axCkStat_MM_RUN n = min (rd s F.axCkStat_MM_RUN n + 1) 3 := by
  have h (f : Fld) (ho : f.obj = .axCkStat) (hf : 2 ≤ f.lo) : rd (incSat s f n) F.axCkStat_MM_RUN n = rd s F.axCkStat_MM_RUN n := by
    rw [incSat, addSat]
    exact rd_wr_field s f F.axCkStat_MM_RUN n _ ho.symm (.inl hf)
  rw [mismatched]
  rw [rd_wr_field _ F.axCkStat_CLASS F.axCkStat_MM_RUN n _ rfl (by decide), rd_incSat]
  split
  · rw [h F.axCkStat_DRP_CNT rfl (by decide)]
    rfl
  · rw [h F.axCkStat_MM_CNT rfl (by decide)]
    rfl

theorem mismatched_mode (s : State) (n k : Nat) (hn : n < 48) : axMode (mismatched s n k) n = axMode s n := by
  have hk := objKey_ne_obj (o := .axMode) (p := .axCkStat) (by decide) hn hn
  have h (t : State) (f : Fld) (x : Nat) (ho : f.obj = .axCkStat) : axMode (wr t f n x) n = axMode t n :=
    rd_wr_obj t f F.axMode_MODE n n x (by rw [ho]; exact hk)
  rw [mismatched]
  rw [h _ F.axCkStat_CLASS _ rfl, incSat, addSat, h _ F.axCkStat_MM_RUN _ rfl]
  split
  · rw [incSat, addSat, h _ F.axCkStat_DRP_CNT _ rfl]
  · rw [incSat, addSat, h _ F.axCkStat_MM_CNT _ rfl]

/-- The first and the second mismatch of a run are only counted. -/
theorem laneMismatch_few (s : State) (n : Nat) (c : Bool) (cmp : Cmp) (hn : n < 48) (h : rd s F.axCkStat_MM_RUN n < 2) :
    (laneMismatch s n c cmp).axes = s.axes ∧ axMode (laneMismatch s n c cmp) n = axMode s n ∧
      rd (laneMismatch s n c cmp) F.axCkStat_MM_RUN n = rd s F.axCkStat_MM_RUN n + 1 := by
  obtain ⟨hr, ha⟩ := copyFault_frame s n cmp
  have hrun := mismatched_run (copyFault s n cmp) n (mismatchClass c cmp)
  have haxes := mismatched_axes (copyFault s n cmp) n (mismatchClass c cmp)
  have hmode := mismatched_mode (copyFault s n cmp) n (mismatchClass c cmp) hn
  rw [rd_of_regs hr] at hrun
  rw [axMode, axMode, rd_of_regs hr] at hmode
  rw [ha] at haxes
  rw [laneMismatch_eq]
  generalize mismatched (copyFault s n cmp) n (mismatchClass c cmp) = u at hrun haxes hmode
  have hrun' : rd (raise u 0x81 n (mismatchClass c cmp)) F.axCkStat_MM_RUN n = rd s F.axCkStat_MM_RUN n + 1 := by
    rw [rd_of_regs (raise_regs _ _ _ _), hrun]
    omega
  dsimp only
  rw [if_neg (by rw [hrun']; omega)]
  refine ⟨by rw [raise_axes, haxes], ?_, hrun'⟩
  rw [axMode, rd_of_regs (raise_regs _ _ _ _), hmode]
  rfl

theorem completion_mismatches {s : State} {n : Fin 48} (core : coreRuns s = true) {e : Eval} {cmp : Cmp}
    (hc : (ax s n).loop.compl = some e) (hcmp : cmp ≠ .agree) (hrun : rd s F.axCkStat_MM_RUN n < 2) (hd : driving s n = true) :
    Completes s (.completion n cmp) (fun t => (ax t n).loop.compl = none ∧ (ax t n).loop.retry = some e ∧
      (ax t n).loop.st = (ax s n).loop.st ∧ rd t F.axCkStat_MM_RUN n = rd s F.axCkStat_MM_RUN n + 1) := by
  have hl := loop_modLoop s n (fun l => { l with compl := none })
  have hr := modLoop_regs s n (fun l => { l with compl := none })
  have hx : exec (.completion n cmp) s = done
      (if driving (laneMismatch (modLoop s n (fun l => { l with compl := none })) n false cmp) n then
        modLoop (laneMismatch (modLoop s n (fun l => { l with compl := none })) n false cmp) n (fun l => { l with retry := some e })
      else laneMismatch (modLoop s n (fun l => { l with compl := none })) n false cmp) :=
    exec_of_issue core rfl (by
      rw [hc]
      exact if_pos hcmp)
  generalize modLoop s n (fun l => { l with compl := none }) = u at hl hr hx
  obtain ⟨ha, hm, hk⟩ := laneMismatch_few u n false cmp n.isLt (by rw [rd_of_regs hr]; exact hrun)
  generalize laneMismatch u n false cmp = v at ha hm hk hx
  have hdv : driving v n = true := by
    rw [driving, hm, axMode, rd_of_regs hr]
    exact hd
  rw [if_pos hdv] at hx
  obtain ⟨t, ht, q⟩ := done_quiet (modLoop v n (fun l => { l with retry := some e }))
  have hv : (ax v n).loop = { (ax s n).loop with compl := none } := by
    rw [ax, ha]
    exact hl
  refine ⟨t, hx.trans ht, ?_, ?_, ?_, ?_⟩
  · rw [q.ax, loop_modLoop, hv]
  · rw [q.ax, loop_modLoop]
  · rw [q.ax, loop_modLoop, hv]
  · rw [q.rd_kind (f := F.axCkStat_MM_RUN) (by decide) n.isLt, rd_of_regs (modLoop_regs _ _ _), hk, rd_of_regs hr]

/-! ## The late flag -/

/-- The state that a late flag goes back to: the entry is gone, and the commit with it. -/
def takenBack (s : State) (n load : Nat) (cs : List Commit) : State :=
  modLoop (undoCommit (modPwm s n (fun p => { p with box := cs })) n) n (fun l =>
    { l with
      compl := l.compl.filter (fun e => e.load ≠ load), retry := l.retry.filter (fun e => e.load ≠ load)
      tel := none })

theorem lateFlag_ends {s : State} {n : Fin 48} (core : coreRuns s = true) {c : Commit} {cs : List Commit}
    (hb : (ax s n).pwm.box = c :: cs) : Ends s (.lateFlag n) (missEval (takenBack s n c.load cs) n 3 c.load) := by
  obtain ⟨t, ht, q⟩ := done_quiet (missEval (takenBack s n c.load cs) n 3 c.load)
  refine ⟨t, exec_of_issue core rfl ?_, q⟩
  rw [hb]
  exact ht

theorem axis_undoCommit (s : State) (n : Nat) : AxisTrips (ax s n) (ax (undoCommit s n) n) := (trips_undoCommit s n).axes n

theorem loop_undoCommit {s : State} {n : Nat} {b : Undo} (h : (ax s n).loop.back = some b) :
    (ax (undoCommit s n) n).loop.st = b.st ∧ (ax (undoCommit s n) n).loop.back = none ∧
      (ax (undoCommit s n) n).loop.presets = (ax s n).loop.presets := by
  rw [undoCommit, h]
  dsimp only
  have hx (t : State) (v : Nat) : ax (setObj t .axLoopStat n v) n = ax t n := rfl
  rw [hx, modLoop, ax_setAx_same]
  exact ⟨rfl, rfl, rfl⟩

/-- What the state a late flag goes back to holds. -/
theorem takenBack_box (s : State) (n load : Nat) (cs : List Commit) : (ax (takenBack s n load cs) n).pwm.box = cs ∨
    (ax (takenBack s n load cs) n).pwm.box = [] := by
  have h := (axis_undoCommit (modPwm s n (fun p => { p with box := cs })) n).box
  rw [pwm_modPwm] at h
  rw [takenBack, modLoop, ax_setAx_same]
  exact h

theorem takenBack_loop {s : State} {n load : Nat} {cs : List Commit} {b : Undo} (h : (ax s n).loop.back = some b) :
    (ax (takenBack s n load cs) n).loop.st = b.st ∧ (ax (takenBack s n load cs) n).loop.back = none ∧
      (ax (takenBack s n load cs) n).loop.presets = (ax s n).loop.presets := by
  have hl : (ax (modPwm s n (fun p => { p with box := cs })) n).loop = (ax s n).loop := by rw [modPwm, ax_setAx_same]
  obtain ⟨h1, h2, h3⟩ := loop_undoCommit (hl ▸ h)
  rw [hl] at h3
  rw [takenBack, loop_modLoop]
  exact ⟨h1, h2, h3⟩

theorem takenBack_misses (s : State) (n load : Nat) (cs : List Commit) (hn : n < 48) :
    rd (takenBack s n load cs) F.axSpecCnt_MISSES n = rd s F.axSpecCnt_MISSES n := by
  rw [takenBack, rd_of_regs (modLoop_regs _ _ _), (lane_undoCommit _ n).flds F.axSpecCnt_MISSES (by decide) n hn,
    rd_of_regs (modPwm_regs _ _ _)]

/-! ## A miss -/

theorem countMiss_axes (s : State) (n c : Nat) : (countMiss s n c).axes = s.axes := by
  rw [countMiss]
  rw [raise_axes, wr_axes, addWrap, wr_axes, incSat, addSat, wr_axes]

/-- A miss drops the precompute and the slow path, and is what decides. -/
theorem missed_loop (s : State) (n c load : Nat) : ax (missed s n c load) n = { ax s n with
    loop := { (ax s n).loop with spec := none, slow := none, decided := load, wasLate := false } } := by
  have h : (missed s n c load).axes =
      (modLoop s n (fun l => { l with spec := none, slow := none, decided := load, wasLate := false })).axes := by
    rw [missed, wr_axes, incSat, addSat, wr_axes, countMiss_axes]
  rw [ax, h, ← ax, modLoop, ax_setAx_same]

/-- A count of a miss. -/
theorem countMiss_shows (s : State) (n c : Nat) (hn : n < 48) :
    rd (countMiss s n c) F.axSpecCnt_MISSES n = min (rd s F.axSpecCnt_MISSES n + 1) (2 ^ F.axSpecCnt_MISSES.w - 1) ∧
      rd (countMiss s n c) F.axSpecStat_MS_CAUSE n = c % 8 := by
  have hcnt := objKey_ne_obj (o := .axSpecCnt) (p := .axSpecStat) (by decide) hn hn
  have htot := objKey_ne_obj (o := .axSpecCnt) (p := .devSpecTot) (j := 0) (by decide) hn (by decide)
  rw [countMiss]
  dsimp only
  rw [rd_of_regs (raise_regs _ _ _ _), rd_of_regs (raise_regs _ _ _ _), rd_wr_same]
  refine ⟨?_, rfl⟩
  rw [rd_wr_obj _ F.axSpecStat_MS_CAUSE F.axSpecCnt_MISSES n n c hcnt, addWrap,
    rd_wr_obj _ F.devSpecTot_MISS_TOT F.axSpecCnt_MISSES 0 n _ htot, rd_incSat]

/-- What a miss shows. -/
theorem missed_shows (s : State) (n c load : Nat) (hn : n < 48) :
    rd (missed s n c load) F.axSpecCnt_MISSES n = min (rd s F.axSpecCnt_MISSES n + 1) (2 ^ F.axSpecCnt_MISSES.w - 1) ∧
      rd (missed s n c load) F.axSpecStat_MS_CAUSE n = c % 8 ∧ rd (missed s n c load) F.axSpecStat_LAST_MISS n = 1 := by
  have hcnt := objKey_ne_obj (o := .axSpecCnt) (p := .axSpecStat) (by decide) hn hn
  obtain ⟨hm, hc⟩ := countMiss_shows
    (modLoop s n (fun l => { l with spec := none, slow := none, decided := load, wasLate := false })) n c hn
  rw [rd_of_regs (modLoop_regs _ _ _)] at hm
  rw [missed]
  generalize countMiss (modLoop s n _) n c = u at hm hc
  rw [incSat, addSat]
  refine ⟨?_, ?_, ?_⟩
  · rw [rd_wr_obj _ F.axSpecStat_LAST_MISS F.axSpecCnt_MISSES n n 1 hcnt, rd_wr_obj _ F.axSpecStat_MISS_RUN F.axSpecCnt_MISSES n n _ hcnt, hm]
  · rw [rd_wr_field _ F.axSpecStat_LAST_MISS F.axSpecStat_MS_CAUSE n _ rfl (by decide),
      rd_wr_field _ F.axSpecStat_MISS_RUN F.axSpecStat_MS_CAUSE n _ rfl (by decide), hc]
  · rw [rd_wr_same]
    rfl

theorem noteDue_axes (s : State) (n : Nat) (d : TwinDue) : (noteDue s n d).axes = s.axes := by
  rw [noteDue]
  split <;> rfl

/-- With nothing that waits to be preset, a settling leaves the state. -/
theorem settlePresets_none {s : State} {n : Nat} (h : (ax s n).loop.presets = []) :
    (ax (settlePresets s n) n).loop = (ax s n).loop := by
  rw [settlePresets]
  dsimp only
  split
  · rfl
  · rw [h, List.foldl_nil, loop_modLoop]
    generalize (ax s n).loop = l at h
    cases l
    simp_all

/-- A miss leaves the state of the loop, where nothing waits and no commit can be undone. -/
theorem missEval_st {s : State} {n c load : Nat} (hb : (ax s n).loop.back = none) (hp : (ax s n).loop.presets = []) :
    (ax (missEval s n c load) n).loop.st = (ax s n).loop.st := by
  have hloop : (ax (missed s n c load) n).loop = _ := congrArg (·.loop) (missed_loop s n c load)
  have hu : missEval s n c load = let u := settlePresets (noteDue (missed s n c load) n ⟨0, c + 1, 0, 0, 0, none, false⟩) n
      if rd u F.axSpecCtl_MISS_LIMIT n ≤ rd u F.axSpecStat_MISS_RUN n then laneTrip u n 4 else u := rfl
  have hset := settlePresets_none (s := noteDue (missed s n c load) n ⟨0, c + 1, 0, 0, 0, none, false⟩) (n := n)
    (by rw [ax, noteDue_axes, ← ax, hloop]; exact hp)
  rw [ax, ax, noteDue_axes, ← ax, ← ax, hloop] at hset
  rw [hu]
  generalize settlePresets (noteDue (missed s n c load) n ⟨0, c + 1, 0, 0, 0, none, false⟩) n = u at hset
  dsimp only
  split
  · have h := ((trips_trip u n 4 srcLane).axes n).back (by rw [hset]; exact hb)
    exact h.2.trans (by rw [hset])
  · rw [hset]

/-- What a late flag shows. -/
theorem lateFlag_shows {s : State} {n : Fin 48} (core : coreRuns s = true) {c : Commit} {cs : List Commit}
    (hb : (ax s n).pwm.box = c :: cs) : Completes s (.lateFlag n) (fun t =>
      rd t F.axSpecCnt_MISSES n = min (rd s F.axSpecCnt_MISSES n + 1) (2 ^ F.axSpecCnt_MISSES.w - 1) ∧
      rd t F.axSpecStat_MS_CAUSE n = 3 ∧ rd t F.axSpecStat_LAST_MISS n = 1 ∧ (∀ d ∈ (ax t n).pwm.box, d ∈ cs) ∧
      (∀ b, (ax s n).loop.back = some b → (ax s n).loop.presets = [] → (ax t n).loop.st = b.st)) := by
  obtain ⟨t, ht, q⟩ := lateFlag_ends core hb
  have hbox := takenBack_box s n c.load cs
  have hback := fun b h => takenBack_loop (s := s) (n := n) (load := c.load) (cs := cs) (b := b) h
  have hmiss := takenBack_misses s n c.load cs n.isLt
  generalize takenBack s n c.load cs = u at q hbox hback hmiss
  obtain ⟨h1, h2, h3⟩ := missed_shows u n 3 c.load n.isLt
  have hl := lane_missEval u n 3 c.load
  refine ⟨t, ht, ?_, ?_, ?_, fun d hd => ?_, fun b h hp => ?_⟩
  · rw [q.rd_kind (f := F.axSpecCnt_MISSES) (by decide) n.isLt, hl.flds F.axSpecCnt_MISSES (by decide) n n.isLt, h1, hmiss]
  · rw [q.rd_kind (f := F.axSpecStat_MS_CAUSE) (by decide) n.isLt, hl.flds F.axSpecStat_MS_CAUSE (by decide) n n.isLt, h2]
  · rw [q.rd_kind (f := F.axSpecStat_LAST_MISS) (by decide) n.isLt, hl.flds F.axSpecStat_LAST_MISS (by decide) n n.isLt, h3]
  · have hm : (ax (missed u n 3 c.load) n).pwm.box = (ax u n).pwm.box := congrArg (·.pwm.box) (missed_loop u n 3 c.load)
    rw [q.ax] at hd
    rcases (hl.axes n).box with hx | hx
    · rw [hx, hm] at hd
      rcases hbox with hy | hy
      · rwa [hy] at hd
      · rw [hy] at hd
        exact absurd hd List.not_mem_nil
    · rw [hx] at hd
      exact absurd hd List.not_mem_nil
  · obtain ⟨hst, hbk, hps⟩ := hback b h
    rw [q.ax, missEval_st hbk (hps.trans hp), hst]

/-! ## The statement -/

/-- Settles O23: an evaluation that advances the state leaves the lane's fields and the mailboxes of the axes that drive on. -/
theorem runAheadCommit : Obligations.RunAheadCommit := by
  refine ⟨fun s n core => ?_, fun s n e late => ?_⟩
  · refine ⟨precompute_idle core, precompute_fills core, ⟨rfl, rfl, rfl, rfl, rfl⟩, fun slot cmp x xs h => filterSlotRead_takes core h,
      fun slot cmp h => filterSlotRead_none core h, fun slot cmp h hs => filterSlotRead_reads core h hs,
      fun cmp load => ?_, fun e hs hc hr hm => ?_, fun e hs hc hr hm => slowPathDone_commits core hs hc hr hm,
      fun e hs hc hr hm => slowPathDone_misses core hs hc hr hm, fun e h => completion_agrees core h,
      fun e h => completion_ends core h, fun e cmp h hcmp hrun hd => completion_mismatches core h hcmp hrun hd,
      fun e h => laneRetry_agrees core h, fun e h => laneRetry_ends core h, fun c cs h => lateFlag_shows core h,
      fun c cs h => lateFlag_ends core h⟩
    · intro slot u hr hsel he
      have hn : slot.val / 4 = n.val := by
        show (4 * n.val + 3) / 4 = n.val
        omega
      have hs : slot.val < 192 ∧ slot.val % 4 = 3 := by
        show 4 * n.val + 3 < 192 ∧ (4 * n.val + 3) % 4 = 3
        omega
      have h := filterSlotRead_decides (slot := slot) (cmp := cmp) (u := u) (load := load) core hs hr (by rw [hn])
      rw [hn] at h
      exact h hsel he
    · obtain ⟨t, ht, q⟩ := slowPathDone_commits core hs hc hr hm
      obtain ⟨h1, h2, h3, h4, h5⟩ := slowDone_shows s n e n.isLt
      refine ⟨t, ht, by rw [q.ax, h1], (q.rd_kind (by decide) n.isLt).trans h2, (q.rd_kind (by decide) n.isLt).trans h3,
        fun hcount => ?_, fun hd => ?_⟩
      · rw [q.rd_kind (f := F.axSpecCnt_LATE) (by decide) n.isLt, h4, lateCounted_late s n hcount]
      · rw [q.ax]
        refine h5 ?_
        rwa [driving, axMode, q.rd_kind (f := F.axMode_MODE) (by decide) n.isLt] at hd
  · refine ⟨?_, fun c hc hne => ?_, commit_missRun s n e late, commit_lastMiss s n e late, commit_only s n e late,
      fun m hm => commit_other s n e late hm⟩
    · rw [commit_box]
      exact mem_putBox _ _
    · rw [commit_box]
      exact mem_putBox_of_ne hc hne

end Sys2Proof.Machine
end
